-- ==== Sys2Proof/Word.lean ====
section
/-! DEFINITION. Words, bytes and sparse tables: the plain data types every other file is written in. -/

namespace Sys2Proof

/-- A register or instruction word (R6, R7). -/
abbrev Word := BitVec 32

/-- A pair, a binary64 pattern or a seconds count. -/
abbrev DWord := BitVec 64

/-- One byte of memory. -/
abbrev Byte := BitVec 8

/-- 16 bits: a handle, a status word, a journal code or source. -/
abbrev Half := BitVec 16

/-- A cycle number (R49). -/
abbrev Cycle := BitVec 48

/-- A sparse table from numbers to values: keys strictly rising, and no entry equal to what an unlisted key reads as. -/
abbrev Tab (α : Type) := List (Nat × α)

/-- Increment of a counter that saturates at 0xFFFF_FFFE, the form every counting register has. -/
def satInc (w : Word) : Word := if w.toNat ≥ 0xFFFFFFFE then 0xFFFFFFFE#32 else w + 1#32

/-- `satInc` repeated: adding `n` events to a saturating counter. -/
def satAdd (w : Word) (n : Nat) : Word := if w.toNat + n ≥ 0xFFFFFFFE then 0xFFFFFFFE#32 else w + BitVec.ofNat 32 n

/-- Bit `i` of a word as a Bool. -/
def bit {w : Nat} (v : BitVec w) (i : Nat) : Bool := v.getLsbD i

/-- A Bool as a bit field of any width. -/
def ofBool (w : Nat) (b : Bool) : BitVec w := if b then BitVec.ofNat w 1 else BitVec.ofNat w 0

/-- The field [lo+n-1:lo] of a word as a number. -/
def fieldNat {w : Nat} (v : BitVec w) (lo n : Nat) : Nat := (v.toNat >>> lo) % 2 ^ n

/-- The word with the field [lo+n-1:lo] replaced. -/
def setField {w : Nat} (v : BitVec w) (lo n : Nat) (x : Nat) : BitVec w :=
  let m : BitVec w := BitVec.ofNat w ((2 ^ n - 1) * 2 ^ lo)
  (v &&& ~~~m) ||| (BitVec.ofNat w (x * 2 ^ lo) &&& m)

/-- Privilege levels (R94): P0 firmware, P1 runtime, P2 user program. -/
inductive Priv where
  | p0 | p1 | p2
  deriving DecidableEq, Repr

/-- The two-bit code of a privilege level (R91, R210). -/
def Priv.code : Priv → BitVec 2
  | .p0 => 0#2
  | .p1 => 1#2
  | .p2 => 2#2

/-- A time of the 96-bit time base: TAI seconds and nanoseconds (R351). -/
structure Time where
  sec : Nat := 0
  ns : Nat := 0
  deriving DecidableEq, Repr

/-- A time as one count of nanoseconds. -/
def Time.toNs (t : Time) : Nat := t.sec * 1000000000 + t.ns

/-- A time from a count of nanoseconds. -/
def Time.ofNs (n : Nat) : Time := { sec := n / 1000000000, ns := n % 1000000000 }

end Sys2Proof
end

