-- ==== Sys2Proof/Types.lean ====
section
/-! DEFINITION. The plain data that State holds and that commands carry, chapter by chapter. -/

namespace Sys2Proof.Machine

/-! ### Things sent -/

/-- What the module sends or drives to the outside. -/
inductive Out where
  | attend | resign | caps | proofBegin | proofData | proofJournal | proofCtrl | proofEnd | stopMark | proofAck | proofNak
  | xferOpen | xferData | xferAck | xferClose | xferStaged | xferArm | xferConfirm | xferCancel | resyncReq
  | stationOutput | joinAck | joinNak | stationLeave
  | ptpForward | hsrForward
  | ptpSync | ptpFollowUp | ptpAnnounce | ptpDelayReq | ptpDelayResp | ptpPdelayReq | ptpPdelayResp | ptpPdelayRespFollowUp
  | supervision | goose | sampledValue | frameLaunched
  | hello | roll | addrReq | addrGrant | lsa | gv | bulk
  | canFrame | hartRequest | pst | ppsOut | fileData
  deriving DecidableEq, Repr

/-- One thing sent, with the numbers that tell it apart. -/
structure Sent where
  what : Out
  args : List Nat
  deriving DecidableEq, Repr

/-! ### Time base (chapter 11) -/

/-- States of the time base (R354). -/
inductive TbSt where
  | unset | freerun | acquiring | locked | holdover
  deriving DecidableEq, Repr

/-- Time sources (R382). -/
inductive TbSrc where
  | none | ptp | pps
  deriving DecidableEq, Repr

/-- The time base (R351 to R359). -/
structure TimeBase where
  time : Time := {}
  st : TbSt := .unset
  src : TbSrc := .none
  /-- TAI − UTC in use, seconds (R357). -/
  utc : Int := 37
  /-- TAI second that is an inserted second 60 (R358). -/
  leapAt : Option Nat := none
  /-- A leap second is announced; it is a negative one. -/
  leapPend : Bool := false
  leapNeg : Bool := false
  /-- UTC_OFFSET has been written since start-up; the Announce carried currentUtcOffsetValid (R357). -/
  utcWritten : Bool := false
  utcFromPtp : Bool := false
  stepBlocked : Bool := false
  /-- The seconds have been set once (R356). -/
  everSet : Bool := false
  /-- Offsets in a row that keep LOCK_THRESH, and that exceed 4 × LOCK_THRESH (R354). -/
  good : Nat := 0
  bad : Nat := 0
  /-- The source whose holdover expired (R361). -/
  past : TbSrc := .none
  holdSince : Nat := 0
  /-- Seconds latched by a read of TIME_NS. -/
  latch : Nat := 0
  /-- New time of the last step, in ns (R373). -/
  stepAt : Nat := 0
  /-- The frequency correction learned by the servo, in 0.001 ppb, without what it adds to remove an offset (R353, R354). -/
  learned : Int := 0
  deriving DecidableEq, Repr

/-! ### Clusters as code sees them (chapter 3) -/

/-- A partition of the imposition table (R51). -/
inductive Part where
  | start | error | main | stop
  deriving DecidableEq, Repr

/-- What a cluster is doing. -/
inductive CoreStatus where
  /-- Between completion and the next core start, or before the first one. -/
  | idle
  | running
  /-- Arrived at a barrier that has not released (R54). -/
  | atBarrier
  /-- CYEND executed (R113). -/
  | completed
  /-- Stopped under R96. -/
  | stopped
  /-- Parked under R124. -/
  | parked
  deriving DecidableEq, Repr

/-- A program post staged by JPOST (R108): code, source and parameters. -/
structure Post where
  code : Half
  source : Half
  p0 : Word
  p1 : Word
  p2 : Word
  deriving DecidableEq, Repr

/-- A CAN frame staged by a SYSC 16 to 19 service for the forme flip (R442). -/
structure CanStage where
  chan : Nat
  ident : Word
  ctrl : Word
  data : List (BitVec 8)
  tag : Nat
  deriving DecidableEq, Repr

/-- The registers and cycle bookkeeping of one cluster (R90, R91, R93, R54, R108, R110). -/
structure Core where
  g : Tab Word := []
  f : Tab DWord := []
  ip : Word := 0
  ib : Word := 0
  lb : Word := 0
  sp : Word := 0
  fl : Word := 0
  ct : DWord := 0
  ctHi : Word := 0
  /-- ps [7:0]: [1:0] privilege, [3:2] and [5:4] saved privileges, [6] EXL1, [7] EXL0. -/
  ps : BitVec 8 := 0
  ev1 : Word := 0
  ev0 : Word := 0
  epc1 : Word := 0
  epc0 : Word := 0
  ecause1 : Word := 0
  ecause0 : Word := 0
  eaddr1 : Word := 0
  eaddr0 : Word := 0
  stklim : Word := 0
  cyvec : Word := 0
  scr1 : Word := 0
  scr0 : Word := 0
  /-- Current time latched by TRD 3 (R112). -/
  trd : Time := {}
  status : CoreStatus := .idle
  /-- Partitions still to run in this cycle, the current one first. -/
  parts : List Part := []
  /-- Barriers at which the cluster has arrived in this cycle, and which have released it. -/
  arrived : BitVec 8 := 0
  released : BitVec 8 := 0
  /-- Posts staged in this cycle and posts shed beyond 32. -/
  posts : List Post := []
  shed : List (Half × Nat) := []
  /-- LEPUT values held until the forme flip: slot and value in program order. -/
  puts : List (Nat × Word) := []
  /-- CAN frames staged in this cycle (R442) and results waiting for SYSC 20. -/
  canStage : List CanStage := []
  /-- Results of this cluster's frames, by channel, oldest first. -/
  canResults : Tab (List Word) := []
  /-- Stopped before a BKPT, which is a no-operation on resume (R114). -/
  atBkpt : Bool := false
  deriving DecidableEq, Repr

/-! ### Image, forme, bell (chapter 2) -/

/-- One hidden slot: value, status word, and the cycle from which it is visible (`none`: since reset, age 0xFFFE). -/
structure Slot where
  value : Word := 0
  status : Half := 0x8100#16
  since : Option Nat := none
  deriving DecidableEq, Repr

/-- An image entry: two slots and the bit that names the newer one (R46). The tag is the newer slot's `since`. -/
structure ImgEntry where
  a : Slot := {}
  b : Slot := {}
  newerB : Bool := false
  deriving DecidableEq, Repr

/-- An output write of this cycle, for the 16 CCLK of R107. -/
structure ImgWrite where
  handle : Nat
  cluster : Nat
  ct : Nat
  value : Word
  status : Half
  /-- TCLK time of the issue. -/
  time : Nat
  deriving DecidableEq, Repr

/-- A force applied now: value, quality and the cycle since when it shows unchanged (R73). -/
structure Applied where
  value : Word
  qual : BitVec 2
  since : Nat
  deriving DecidableEq, Repr

/-- An entry of the force table (R72). `attr` is FORCE_ATTR [3:0]. -/
structure ForceEntry where
  handle : Nat := 0
  value : Word := 0
  attr : BitVec 4 := 0
  ident : Word := 0
  deriving DecidableEq, Repr

/-- Actions of the safe-value table (R66). -/
inductive SafeAct where
  | hold | subst (value : Word) | off
  deriving DecidableEq, Repr

/-- Modes of the bell controller (R64). -/
inductive Mode where
  | stop | run | hold
  deriving DecidableEq, Repr

/-- The bell controller (R52 to R71). -/
structure Bell where
  mode : Mode := .stop
  stopTask : Bool := false
  /-- RUN accepted: the next Stop-schedule bell is the first Run bell (R65). -/
  runReq : Bool := false
  /-- The current cycle is the first of Run, the final cycle of R65, the first after a takeover. -/
  firstRun : Bool := false
  finalCycle : Bool := false
  /-- The next bell is the first as active after a takeover (R227). -/
  afterTakeover : Bool := false
  /-- A bell has rung and the cycle neither flipped nor was abandoned. -/
  cycleOpen : Bool := false
  /-- Cores have started in this cycle (R93). -/
  coresStarted : Bool := false
  cycle : Nat := 0
  bellTime : Time := {}
  /-- TCLK counts of the last bell, the last flip and the proof end. -/
  bellAt : Nat := 0
  flipAt : Nat := 0
  /-- Cycle whose forme stands. -/
  formeCyc : Nat := 0
  proofEndAt : Nat := 0
  doneAt : Nat := 0
  flipTime : Time := {}
  proofEndSent : Bool := false
  ackRcvd : Bool := false
  /-- The acknowledgement of this cycle is waited for (R57). -/
  waitAck : Bool := false
  stretched : Bool := false
  /-- The forme must be rebuilt whole at the next flip (R58). -/
  rebuild : Bool := true
  /-- Region clock gates open (R27), bit g'. -/
  gates : BitVec 8 := 0
  /-- MIN_CYCLE, WDG_TIME, ERR_BUDGET, ACK_TMO and OLC_GAP_MAX in force since the last bell (R85). -/
  timing : List Word := [0#32, 0x2710#32, 0x3E8#32, 0x3C#32, 0x2710#32]
  /-- CAN channels that were neither DISABLED nor bus-off at the bell (R442). -/
  canOk : BitVec 4 := 0
  /-- The Stop in force took Hold as Off (R230). -/
  offSafe : Bool := false
  /-- Time counters held while in Hold: TCLK at the entry to Hold (R69). -/
  heldAt : Nat := 0
  /-- The force table as it stood at the last bell (R74). -/
  forces : Tab ForceEntry := []
  deriving DecidableEq, Repr

/-- The imposition table, the safe-value table and the runtime setting of the project (R51, R66, R124). -/
structure Project where
  /-- The imposition table's rows of output handles with the clusters each names, and of barriers with their masks, as listed (R51). -/
  rows : List (Nat × List Nat) := []
  bars : List (Nat × Half) := []
  /-- First and last byte of each code area and of each instance area (R76, R181). -/
  code : List (Nat × Nat) := []
  inst : List (Nat × Nat) := []
  /-- Entry addresses of Start, Error, Main and Stop of each cluster, `none` for an empty partition. -/
  entries : Tab (List (Option Word)) := []
  barMask : Tab Half := []
  /-- Writing cluster of each output handle, plus one; 0 for none. -/
  owner : Tab Nat := []
  safe : Tab (Option SafeAct) := []
  /-- Image handle of an onboard channel, 0 to 3 AIO0 to AIO3, 16 to 31 DIO0 to DIO15: the forme handle of a forme-owned output (R38), the input handle of an input. -/
  chHandle : Tab (Option Nat) := []
  /-- The DIVZ setting of R124: true is the default handling. -/
  divzDefault : Bool := true
  deriving DecidableEq, Repr, Inhabited

/-- Online-change states (R77). -/
inductive OlcStat where
  | idle | staging | staged | armed | migrating | applied | forcedConflict | digestFail | noConfirm | gapExceeded | cancelled
  deriving DecidableEq, Repr

/-- A project: its bytes, the tables of the bell controller, code and initial instance data by address (R51, R271). -/
structure ProjImg where
  bytes : List (BitVec 8) := []
  proj : Project := {}
  mem : List (Nat × BitVec 8) := []
  deriving DecidableEq, Repr, Inhabited

/-- One entry of a migration map (R76): `len` bytes of the old layout from `src` are converted by conversion `conv` into the new area from `dst`. -/
structure MigStep where
  src : Nat
  len : Nat
  conv : Nat
  dst : Nat
  deriving DecidableEq, Repr

/-- An online-change package as the module holds it (R75, R76). -/
structure OlcPkg where
  /-- Identities the change deletes, retypes or re-addresses. -/
  idents : List Word
  /-- New code and tables staged in spare SRAM. -/
  code : List (Nat × BitVec 8)
  /-- The instance migration map. -/
  map : List MigStep
  /-- The project as the change leaves it, with the new imposition table. -/
  project : ProjImg
  /-- Rule words for the shadow banks: bank word key and value. -/
  rules : List (Nat × Word)
  /-- The bytes of the configuration as the change leaves it, with the rule set of the new program (R205). -/
  cfgBytes : List (BitVec 8)
  /-- The package as it is transferred. -/
  bytes : List (BitVec 8)
  deriving DecidableEq, Repr, Inhabited

/-- Online change (R75 to R81). -/
structure Olc where
  stat : OlcStat := .idle
  pkg : Option OlcPkg := none
  ks : Nat := 0
  confirmed : Bool := false
  /-- Migration has finished on this module. -/
  migrated : Bool := false
  /-- The digest check of the package that is being staged has failed (R77). -/
  bad : Bool := false
  deriving DecidableEq, Repr

/-! ### Units and clusters (chapter 4) -/

/-- States of a unit (R155). -/
inductive UnitSt where
  | inVote | testing | ready | heldOut | retired | notEnabled
  deriving DecidableEq, Repr

/-- States of a cluster (R21). -/
inductive ClSt where
  | triple | dual | single | failed
  deriving DecidableEq, Repr

/-- One core unit (R133 to R155). -/
structure CUnit where
  st : UnitSt := .notEnabled
  /-- READY since before the last bell: resynchronises until core start (R140). -/
  joining : Bool := false
  /-- Counted events inside the window: TCLK count and time base stamp, oldest first. -/
  events : List (Nat × Time) := []
  lasting : Bool := false
  failGroups : BitVec 8 := 0
  injStat : Word := 0
  mismTotal : Word := 0
  /-- Cause, groups, cycle and time of the event whose self-test runs. -/
  cause : Nat := 0
  groups : BitVec 8 := 0
  evCycle : Nat := 0
  evTime : Time := {}
  seq : Nat := 0
  card : List Word := List.replicate 8 0#32
  deriving DecidableEq, Repr

/-! ### Memory beside its bytes (chapter 5) -/

/-- A correction-log entry (R173). -/
structure CorrEntry where
  word : Nat
  time : Nat
  count : Nat
  deriving DecidableEq, Repr

/-- The correction state of one memory: log, lasting words, remapped lines (one entry for each spare), a remap copy in progress (R173 to R176). -/
structure MemCorr where
  log : List CorrEntry := []
  lasting : List Nat := []
  remapped : List Nat := []
  /-- Line being copied and words copied so far. -/
  copying : List (Nat × Nat) := []
  deriving DecidableEq, Repr

/-- Blocks of the NAND (R165, R166): those marked bad, and for each that has one the block of the reserve that holds its pages. -/
structure Nand where
  bad : List Nat := []
  moved : List (Nat × Nat) := []
  /-- A block of which a page just read by the scrubber could not be corrected, and is to be read again. -/
  retry : Option Nat := none
  deriving DecidableEq, Repr

/-- Dirty-line tracking (R177 to R181): marked lines and lines taken in this cycle, by line address. -/
structure Dirty where
  on : Bool := false
  marked : Tab Bool := []
  taken : Tab Bool := []
  /-- TRKn_BASE and TRKn_LIMIT in force, eight words for each region. -/
  ranges : Tab Word := []
  /-- Lines that only the sweep of R274 has marked, and lines swept so far. -/
  swept : Tab Bool := []
  sweepPos : Nat := 0
  deriving DecidableEq, Repr

/-- Outcome of the last descriptor of a DMA engine (R194, R197). -/
inductive DmaStat where
  | none | done | failed | targetAbort
  deriving DecidableEq, Repr

/-- A DMA engine: outcome and bytes moved. -/
structure Dma where
  stat : DmaStat := .none
  moved : Nat := 0
  deriving DecidableEq, Repr

/-- Rule banks and the swap (R199 to R205). -/
structure Prot where
  openMode : Bool := true
  /-- Rule words: key (page × 2 + bank) × 256 + word. -/
  rules : Tab Word := []
  /-- Bank each master issues under, by master ID. -/
  bank : Tab Bool := []
  /-- Masters that have not yet switched. -/
  pend : List Nat := []
  swapAt : Nat := 0
  complete : Bool := false
  deriving DecidableEq, Repr

/-! ### Pair and link (chapters 7 and 8) -/

/-- Roles (R212). -/
inductive Role where
  | starting | active | standbySync | standbyUnsync | maintenance | failed
  deriving DecidableEq, Repr

/-- What a capability frame tells (R256). -/
structure Caps where
  uid : DWord := 0
  sideB : Bool := false
  issue : BitVec 8 := 0
  /-- Firmware major, minor, patch. -/
  fw : BitVec 24 := 0
  gotPeer : Bool := false
  epoch : Word := 0
  /-- OWN_MIN and OWN_MAX of interfaces 0 to 4. -/
  ifs : List (Nat × Nat) := []
  deriving DecidableEq, Repr

/-- What an attendance frame tells (R255). -/
structure Attend where
  epoch : Word
  role : Role
  sync : Bool
  partnerLost : Bool
  suspended : Bool
  resyncBusy : Bool
  negFail : Bool
  stop : Bool
  cyc : Nat
  ackCyc : Nat
  deriving DecidableEq, Repr

/-- Pair commands (R245). -/
inductive PairCmd where
  | switchover | suspend | resume | maintEnter | maintLeave | resync | raise
  deriving DecidableEq, Repr

/-- The pair logic (R212 to R247). -/
structure Pair where
  role : Role := .starting
  resyncBusy : Bool := false
  negFail : Bool := false
  suspended : Bool := false
  /-- SUSPEND accepted: the proof stops at the next bell (R236). -/
  suspendReq : Bool := false
  syncPair : Bool := false
  peerPresent : Bool := false
  sideB : Bool := false
  own1 : Bool := false
  own2 : Bool := false
  peer1 : Bool := false
  peer2 : Bool := false
  driveEn : Bool := false
  lineFault : Bool := false
  conflict : Bool := false
  claimWin : Bool := false
  /-- A cold-start claim stands that can still lose the tie of R220: the role is still STARTING (R213). -/
  cold : Bool := false
  /-- The pass epoch in use, the one in the keepsake, the highest one heard from the partner (R217). -/
  epoch : Word := 0
  stored : Word := 0
  known : Word := 0
  detectAt : Nat := 0
  /-- A takeover is under way and its gap and freeze are still to be recorded (R241). -/
  gapOpen : Bool := false
  freezeOpen : Bool := false
  /-- A valid attendance frame has been received, when, and the loss has been declared (R221). -/
  attSeen : Bool := false
  attAt : Nat := 0
  attLost : Bool := false
  /-- The partner is to be told that it was declared lost (R225). -/
  partnerLost : Bool := false
  /-- Planned switch-over: the first cycle after whose flip the pass is released (R231). -/
  swoAt : Option Nat := none
  degradeReq : Bool := false
  /-- Reason of the last resign notice: 1 failure, 2 planned, 3 maintenance; 0 none (R253). -/
  resign : Nat := 0
  /-- The module took the pass because it saw the peer pass lost, and the old holder's notice may still arrive (R231, R246). -/
  notice : Bool := false
  peer : Option Caps := none
  /-- Role in the partner's last attendance (R552). -/
  peerRole : Role := .starting
  /-- The negotiation of R238 found common versions. -/
  agreedOk : Bool := false
  agreed : List Nat := [0, 0, 0, 0, 0]
  inUse : List Nat := [0, 0, 0, 0, 0]
  /-- Cycle at whose bell the versions rise to the agreed ones (R239). -/
  raiseAt : Option Nat := none
  failCause : Nat := 0
  /-- The module has released the pass by a planned switch-over and commits the new holder's first flip next, at which every published GOOSE control block is sent with stNum + 1 (R381). -/
  goFirst : Bool := false
  deriving DecidableEq, Repr

/-- States of the partner link (R249). -/
inductive LinkSt where
  | down | training | aligned | up
  deriving DecidableEq, Repr

/-- Why a received frame is discarded (R252, R276). -/
inductive LinkErr where
  | crc | csum | len | ver
  deriving DecidableEq, Repr

/-- What a received link frame carries beside its decoded fields and its CRC (R251): VER and CSUM as received, and whether its LEN, its length on the link or its TYPE has already failed R252. -/
structure Seal where
  ver : Nat
  csum : BitVec 16
  /-- Bits received set where the body's layout reserves them. -/
  resv : List (BitVec 8) := []
  bad : Option LinkErr := none
  deriving DecidableEq, Repr

/-- The same with the CRC as received. -/
structure Trailer extends Seal where
  crc : Word
  deriving DecidableEq, Repr

/-- The body of PROOF_ACK: CYC, LINES and FRAMES (R267). -/
structure AckBody where
  cyc : Nat
  lines : Nat
  frames : Nat
  deriving DecidableEq, Repr

/-- Kinds of a transfer (R271). -/
inductive XferKind where
  | none | config | package | project
  deriving DecidableEq, Repr

/-- What every XFER_CTRL frame names: the transfer, its kind and its total length (R271). -/
structure XferHead where
  ident : Word
  kind : XferKind
  len : Nat
  deriving DecidableEq, Repr

/-- The same with the 48-bit value (R271). -/
structure XferValue extends XferHead where
  value : Nat
  deriving DecidableEq, Repr

/-- An XFER_CTRL frame with no value of its own: what it names, and its trailer (R271). -/
structure XferBare extends XferHead where
  tr : Trailer
  deriving DecidableEq, Repr

/-- What an attendance period finds: the liveness strobe has toggled within the last 1 µs, and the readings of the peer lines (R221, R222). -/
structure AttendTx where
  strobe : Bool
  peer : BitVec 2
  deriving DecidableEq, Repr

/-- A page of a NAND block that could not be corrected, and how often it was read again (R166). -/
structure NandRead where
  block : BitVec 15
  retries : Fin 4
  deriving DecidableEq, Repr

/-- What a tool presents at a handshake: the key of its certificate, and the highest version of the tool protocol that it offers (R237, R553). -/
structure TlsHello where
  key : Nat
  tool : Nat
  /-- Fabric address of the module through which the tool reaches this one (R554). -/
  via : Option Half := none
  deriving DecidableEq, Repr

/-- A line of proof data: target, line offset and its 64 bytes, byte i in bits [8i+7:8i] (R259). -/
structure ProofLine where
  target : Nat
  line : Nat
  data : BitVec 512
  deriving DecidableEq, Repr

/-- A control record of the proof (R261). -/
inductive CtrlRec where
  | force (n : Nat) (e : ForceEntry)
  | raise (vers : List Nat)
  | olcSwitch (ks : Nat)
  deriving DecidableEq, Repr

/-- What one proof frame carries: lines, posts or control records. -/
inductive ProofBody where
  | lines (l : List ProofLine)
  | posts (l : List Post)
  | ctrls (l : List CtrlRec)
  deriving DecidableEq, Repr

/-- A proof frame by sequence number, with the CRC field it carries (R262, R263, R265). -/
structure ProofFrame where
  seq : Word
  body : ProofBody
  crc : Word
  deriving DecidableEq, Repr

/-- PROOF_BEGIN (R258). -/
structure ProofBegin where
  cyc : Nat
  /-- MODE [1:0], STOP_TASK, START, WAIT. -/
  mode : Nat
  stopTask : Bool
  start : Bool
  wait : Bool
  bellTime : Time
  errCause : Word
  /-- Forme flip time of cycle k − 1. -/
  flipTime : Time
  firstSeq : Word
  deriving DecidableEq, Repr

/-- PROOF_END (R262). -/
structure ProofEnd where
  cyc : Nat
  lines : Nat
  frames : Nat
  posts : Nat
  ctrls : Nat
  digest : Word
  overRun : Bool
  sweep : Bool
  recCyc : Nat
  deriving DecidableEq, Repr

/-- States of the sending side of the proof, PROOF_STAT[2:0] (R277). -/
inductive TxSt where
  | idle | streaming | endSent | acked | stopped
  deriving DecidableEq, Repr

/-- How far the active is with a full resynchronisation (R274): configuration transfer, project transfer, waiting for the bell of the sweep, sweeping, waiting for acknowledgements. -/
inductive ResyncSt where
  | none | config | project | armed | sweep | wait
  deriving DecidableEq, Repr

/-- A cycle whose proof end was sent and whose acknowledgement has not arrived. -/
structure TxCycle where
  cyc : Nat
  lines : Nat
  bytes : Nat
  wait : Bool
  endAt : Nat
  deriving DecidableEq, Repr

/-- The sending side of the proof (R257 to R263, R274). -/
structure ProofTx where
  st : TxSt := .idle
  /-- The proof of cycle `cyc` is being sent. -/
  began : Bool := false
  cyc : Nat := 0
  /-- The cycle has completed; its posts in the order of R61 are frozen (R180, R257). -/
  done : Bool := false
  posts : List Post := []
  seq : Word := 0
  /-- Lines taken and not yet in a frame. -/
  pending : List ProofLine := []
  /-- Control records for the next proof, and those of this one that are still to be sent. -/
  nextCtrls : List CtrlRec := []
  ctrls : List CtrlRec := []
  /-- Counts and CRC fields of this cycle's frames. -/
  lines : Nat := 0
  bytes : Nat := 0
  ctrlCnt : Nat := 0
  crcs : List Word := []
  overRun : Bool := false
  sweepIn : Bool := false
  wait : Bool := false
  /-- Loop snapshot lines frozen at completion (R260), and when it was. -/
  snap : List ProofLine := []
  doneAt : Nat := 0
  /-- Frames kept for repair, with their cycle (R263). -/
  replay : List (Nat × ProofFrame) := []
  unacked : List TxCycle := []
  resync : ResyncSt := .none
  /-- First sweep cycle; cycle in which the sweep marked its last line; last cycle acknowledged in the resynchronisation. -/
  sweepFirst : Nat := 0
  sweepLast : Option Nat := none
  /-- PROOF_BUDGET and SWEEP_LINES in force since the last bell (R277). -/
  budget : Nat := 0x800000
  sweepLines : Nat := 0x4000
  deriving DecidableEq, Repr

/-- A cycle in the receive store (R264 to R269). -/
structure RxCycle where
  head : ProofBegin
  frames : List ProofFrame := []
  tail : Option ProofEnd := none
  /-- NAKs sent, by sequence number (R265). -/
  naks : Tab Nat := []
  /-- Packed calendar time of the commit (R268). -/
  cal : DWord := 0
  deriving DecidableEq, Repr

/-- The receiving side of the proof. -/
structure ProofRx where
  /-- Cycles received and not committed, oldest first. -/
  cycles : List RxCycle := []
  /-- Sequence number expected next. -/
  nextSeq : Option Word := none
  /-- Cycle that a full resynchronisation is to commit next (R275). -/
  expect : Option Nat := none
  /-- Committed cycles still to be applied (R268), and the time of the last commit. -/
  apply : List RxCycle := []
  commitAt : Nat := 0
  /-- Bell time, reported flip time and REC_CYC of the last proof taken. -/
  bellTime : Time := {}
  flipTime : Time := {}
  recCyc : Nat := 0
  deriving DecidableEq, Repr

/-- A transfer over the partner link (R271 to R273). -/
structure Xfer where
  ident : Word := 0
  kind : XferKind := .none
  /-- Version under which it started and that its frames keep (R264). -/
  ver : Nat := 0
  sending : Bool := false
  busy : Bool := false
  failed : Bool := false
  /-- Last operation of R271, sent or received. -/
  lastOp : Nat := 0
  length : Nat := 0
  digest : BitVec 256 := 0
  /-- Bytes acknowledged by the receiver, bytes acknowledged to the sender. -/
  acked : Nat := 0
  /-- Content to send, or received so far without a gap. -/
  content : List (BitVec 8) := []
  deriving DecidableEq, Repr

/-- The partner link (R248 to R256, R271 to R275). -/
structure Link where
  st : LinkSt := .down
  lanes : BitVec 4 := 0
  /-- A valid CAPS was received; a CAPS with GOT_PEER = 1 was received (R256, R264). -/
  gotPeer : Bool := false
  capsDone : Bool := false
  xfer : Xfer := {}
  /-- Digests in the partner's last STAGED replies for a configuration and a project (R552). -/
  stagedCfg : BitVec 256 := 0
  stagedProj : BitVec 256 := 0
  /-- A resynchronisation failed with AUTO_RESYNC = 1: RESYNC_REQ is repeated after 1 s (R275). -/
  retry : Bool := false
  deriving DecidableEq, Repr

/-! ### Journal and recorder (chapter 17) -/

/-- A journal record before it takes its sequence number (R516); `cal` is its packed calendar time (R519). -/
structure JRec where
  code : Half
  source : Half
  cal : DWord
  p0 : Word
  p1 : Word
  p2 : Word
  deriving DecidableEq, Repr

/-- A staged block of program posts, with the LOSS records of kind 2 that follow it (R526, R529). -/
structure JBlock where
  recs : List JRec
  loss : List JRec
  deriving DecidableEq, Repr

/-- Journal commands (R528). -/
inductive JCmd where
  | clear | archive | archiveClear
  deriving DecidableEq, Repr

/-- An archive file of the journal (R528). -/
structure Archive where
  number : Nat
  firstSeq : Word
  lastSeq : Word
  content : List (BitVec 8)
  deriving DecidableEq, Repr

/-- The event journal (R516 to R530). -/
structure Journal where
  full : Bool := false
  clearing : Bool := false
  archiving : Bool := false
  closed : Bool := false
  archFull : Bool := false
  /-- SEQ of the next record (keepsake). -/
  seq : Word := 0
  /-- Staging queues: 0 to 19 register groups, 32 + n cluster n. -/
  queues : Tab (List JRec) := []
  /-- Records lost at a full queue: queue, source, count, in order of first loss. -/
  lost : List (Nat × Nat × Nat) := []
  /-- Records of classes 0x02 and 0x03 in the current TAI second, and suppressed ones, by source. -/
  rateSec : Nat := 0
  rate : Tab Nat := []
  supp : Tab Nat := []
  /-- Queue served last. -/
  turn : Nat := 0
  /-- The block being written, and the block stage. -/
  cur : List JRec := []
  blocks : List JBlock := []
  /-- Records of blocks shed whole, and the LOSS records of kind 2 of those blocks. -/
  blockShed : Nat := 0
  shedLoss : List JRec := []
  /-- A command that waits to start, and the one that runs. -/
  waiting : Option JCmd := none
  running : Option JCmd := none
  /-- The file being archived. -/
  file : List (BitVec 8) := []
  fileFirst : Word := 0
  fileLast : Word := 0
  archives : List Archive := []
  nextFile : Nat := 1
  /-- Offers refused since the close request. -/
  afterClose : Nat := 0
  deriving DecidableEq, Repr

/-- States of the recorder (R537). -/
inductive RecSt where
  | idle | filling | armed | capturing | waitHoldoff | stoppedOvf | stoppedFull
  deriving DecidableEq, Repr

/-- States of a segment (R541). -/
inductive SegSt where
  | free | inUse | closed | exporting
  deriving DecidableEq, Repr

/-- A segment of the recorder ring (R534, R541). -/
structure Seg where
  st : SegSt := .free
  ovf : Bool := false
  code : Nat := 0
  used : Nat := 0
  /-- Records of the pre-trigger ring that are valid, its write position, and records of the post part. -/
  pre : Nat := 0
  prePos : Nat := 0
  post : Nat := 0
  /-- Place in the order of closing. -/
  order : Nat := 0
  /-- The state of the time base at the trigger, for tmq_code (R539). -/
  tb : TbSt := .unset
  deriving DecidableEq, Repr

/-- States of the export (R541). -/
inductive ExpSt where
  | idle | busy | done | failed
  deriving DecidableEq, Repr

/-- What an export writes (R539): tmq_code, leapsec, and rows of µs since the first row with the value of every channel. -/
structure Export where
  seg : Nat
  trigger : Nat
  tmq : Nat
  leapsec : Bool
  rows : List (Nat × List Word)
  deriving DecidableEq, Repr

/-- The signal recorder (R531 to R539). -/
structure Recorder where
  st : RecSt := .idle
  ovf : Bool := false
  cur : Nat := 0
  segs : Tab Seg := []
  closes : Nat := 0
  holdOn : Bool := false
  holdLeft : Nat := 0
  /-- Selected SIG values and the last value recorded of each (R532). -/
  sel : Tab Bool := []
  last : Tab (Option Word) := []
  /-- Records offered in the current TAI second (R541). -/
  offered : Nat := 0
  rateSec : Nat := 0
  /-- TRG outputs driven high, and TRG inputs after their filters (R536). -/
  trgOut : BitVec 4 := 0
  expSt : ExpSt := .idle
  expSeg : Nat := 0
  expFiles : Nat := 0
  /-- SIG values of the export list (R539). -/
  expList : List Nat := []
  exports : List Export := []
  /-- Value of the forme entry of PROG_HANDLE at the last flip (R536). -/
  progLast : Word := 0
  deriving DecidableEq, Repr

end Sys2Proof.Machine
end

