-- ==== Sys2Proof/Machine/Calendar.lean ====
section
/-! DEFINITION. Calendar time: UTC from the time base, packed as the journal and the recorder carry it (R357, R358, R519). -/

namespace Sys2Proof.Machine

/-- Year, month and day of a day count from 1970-01-01, proleptic Gregorian calendar. -/
def civil (days : Nat) : Nat × Nat × Nat :=
  let z := days + 719468
  let era := z / 146097
  let doe := z % 146097
  let yoe := (doe - doe / 1460 + doe / 36524 - doe / 146096) / 365
  let doy := doe - (365 * yoe + yoe / 4 - yoe / 100)
  let mp := (5 * doy + 2) / 153
  let d := doy - (153 * mp + 2) / 5 + 1
  let m := if mp < 10 then mp + 3 else mp - 9
  (yoe + era * 400 + (if m ≤ 2 then 1 else 0), m, d)

/-- Day count from 1970-01-01 of a date. -/
def daysOf (y m d : Nat) : Nat :=
  let y := if m ≤ 2 then y - 1 else y
  let era := y / 400
  let yoe := y % 400
  let doy := (153 * (if m > 2 then m - 3 else m + 9) + 2) / 5 + d - 1
  era * 146097 + (yoe * 365 + yoe / 4 - yoe / 100 + doy) - 719468

/-- Calendar fields packed into 64 bits (R519). `sec60` shows second 60. -/
def packCal (utcSec ns : Nat) (sec60 : Bool) : DWord :=
  let (y, m, d) := civil (utcSec / 86400)
  let t := utcSec % 86400
  BitVec.ofNat 64 (y % 2 ^ 14 * 2 ^ 50 + m * 2 ^ 46 + d * 2 ^ 41 + t / 3600 * 2 ^ 36 + t / 60 % 60 * 2 ^ 30
    + (if sec60 then 60 else t % 60) * 2 ^ 24 + ns * 2 ^ 24 / 1000000000)

/-- TAI − UTC at a TAI second: the offset grows by 1 with the inserted second, which shows as second 60 (R358). -/
def TimeBase.offAt (b : TimeBase) (sec : Nat) : Int :=
  match b.leapAt with
  | some l => if sec < l then b.utc - 1 else b.utc
  | none => b.utc

/-- UTC seconds of a TAI time; times before 1970 show its first second. -/
def TimeBase.utcSec (b : TimeBase) (t : Time) : Nat := ((t.sec : Int) - b.offAt t.sec).toNat

/-- Packed calendar time of a TAI time (R519). -/
def TimeBase.pack (b : TimeBase) (t : Time) : DWord := packCal (b.utcSec t) t.ns (b.leapAt == some t.sec)

/-- Packed calendar time now. -/
def TimeBase.calendar (b : TimeBase) : DWord := b.pack b.time

/-- The packed calendar time as a count of 2⁻²⁴ s, for differences (R539). -/
def calTicks (c : DWord) : Nat :=
  let days := daysOf (fieldNat c 50 14) (fieldNat c 46 4) (fieldNat c 41 5)
  ((days * 24 + fieldNat c 36 5) * 60 + fieldNat c 30 6) * 60 * 2 ^ 24 + fieldNat c 24 6 * 2 ^ 24 + fieldNat c 0 24

end Sys2Proof.Machine
end

