-- ==== Sys2Proof/Machine/Codes.lean ====
section
/-! DEFINITION. The code on 128 bits, CRC-32C, and bytes as numbers (R6, R164, R167 to R169, R516). -/

namespace Sys2Proof.Machine

/-! ### GF(16) and the decoder (R167 to R169) -/

/-- Multiplication by x in GF(16) with x⁴ + x + 1 (R167). -/
def gfX (a : BitVec 4) : BitVec 4 := if bit a 3 then (a <<< 1) ^^^ 0x3#4 else a <<< 1

/-- Multiplication in GF(16). -/
def gfMul (a b : BitVec 4) : BitVec 4 :=
  (if bit b 0 then a else 0#4) ^^^ (if bit b 1 then gfX a else 0#4) ^^^ (if bit b 2 then gfX (gfX a) else 0#4)
    ^^^ (if bit b 3 then gfX (gfX (gfX a)) else 0#4)

/-- The inverse in GF(16): a¹⁴. -/
def gfInv (a : BitVec 4) : BitVec 4 :=
  let a2 := gfMul a a
  let a4 := gfMul a2 a2
  let a8 := gfMul a4 a4
  gfMul (gfMul a8 a4) a2

/-- The pair (a, b) of symbol position j, 0 to 35 (R168). -/
def symPair (j : Nat) : BitVec 4 × BitVec 4 :=
  if j < 16 then (BitVec.ofNat 4 j, 0x2#4)
  else if j < 32 then (BitVec.ofNat 4 (j - 16), 0x3#4)
  else (BitVec.ofNat 4 ((j - 32) % 2), BitVec.ofNat 4 ((j - 32) / 2))

/-- Q = a² + a·b + λ·b² with λ = 0x8 (R168). -/
def symQ (a b : BitVec 4) : BitVec 4 := gfMul a a ^^^ gfMul a b ^^^ gfMul 0x8#4 (gfMul b b)

/-- The symbol position with pair (a, b), if R168 lists it. -/
def symOf (a b : BitVec 4) : Option Nat :=
  if b = 0x2#4 then some a.toNat
  else if b = 0x3#4 then some (a.toNat + 16)
  else if a.toNat < 2 ∧ b.toNat < 2 then some (32 + a.toNat + 2 * b.toNat)
  else none

/-- Symbol j of a codeword: data symbols in [127:0], check symbols in [143:128]. -/
def symbol (e : BitVec 144) (j : Nat) : BitVec 4 := BitVec.ofNat 4 (e.toNat >>> (4 * j))

/-- The syndrome of the symbols from j down to 0 (R168). -/
def syndrome (e : BitVec 144) : Nat → BitVec 4 × BitVec 4 × BitVec 4 × BitVec 4
  | 0 => (0, 0, 0, 0)
  | j + 1 =>
    let (s0, s1, s2, s3) := syndrome e j
    let v := symbol e j
    let (a, b) := symPair j
    (s0 ^^^ v, s1 ^^^ gfMul v a, s2 ^^^ gfMul v b, s3 ^^^ gfMul v (symQ a b))

/-- What the decoder makes of a stored word with an error pattern (R169). -/
inductive EccRes where
  /-- Syndrome 0: used as stored. -/
  | asStored
  /-- One symbol corrected, by the value added. -/
  | corrected (sym : Nat) (v : BitVec 4)
  | uncorrectable
  deriving DecidableEq, Repr

/-- The decoder (R169). -/
def eccDecode (e : BitVec 144) : EccRes :=
  let (s0, s1, s2, s3) := syndrome e 36
  if s0 = 0 ∧ s1 = 0 ∧ s2 = 0 ∧ s3 = 0 then .asStored
  else if s0 = 0 then .uncorrectable
  else
    let i := gfInv s0
    let a := gfMul s1 i
    let b := gfMul s2 i
    match symOf a b with
    | some j => if gfMul s3 i = symQ a b then .corrected j s0 else .uncorrectable
    | none => .uncorrectable

/-- The check field of a 128-bit data word: the four check symbols that make the syndrome 0 (R168). -/
def eccCheck (d : BitVec 128) : BitVec 16 :=
  let (s0, s1, s2, s3) := syndrome (d.zeroExtend 144) 32
  -- the columns of the check symbols: (1,0,0,0), (1,1,0,1), (1,0,1,λ), (1,1,1,1+1+λ)
  -- with c1 + c3 = s1, c2 + c3 = s2, c1·1 + c2·λ + c3·λ = s3, c0 + c1 + c2 + c3 = s0
  let c1 := s3 ^^^ gfMul 0x8#4 s2
  let c3 := c1 ^^^ s1
  let c2 := c3 ^^^ s2
  let c0 := s0 ^^^ c1 ^^^ c2 ^^^ c3
  c0.zeroExtend 16 ||| (c1.zeroExtend 16 <<< 4) ||| (c2.zeroExtend 16 <<< 8) ||| (c3.zeroExtend 16 <<< 12)

/-! ### CRC-32C (R164, R516) -/

/-- One bit of the reflected CRC-32C. -/
def crcBit (c : Word) : Word := if bit c 0 then (c >>> 1) ^^^ 0x82F63B78#32 else c >>> 1

/-- `n` bits of the CRC. -/
def crcBits : Nat → Word → Word
  | 0, c => c
  | n + 1, c => crcBits n (crcBit c)

/-- CRC-32C of a list of bytes. -/
def crc32c (l : List Byte) : Word := ~~~(l.foldl (fun c b => crcBits 8 (c ^^^ b.zeroExtend 32)) 0xFFFFFFFF#32)

/-- Pieces of a list, `n` at a time. -/
def chunks {α : Type} (n : Nat) : Nat → List α → List (List α)
  | 0, _ => []
  | _, [] => []
  | f + 1, l => l.take n :: chunks n f (l.drop n)

/-- Bytes as received: bits that are set where the layout reserves them stand in the second list. -/
def withResv : List Byte → List Byte → List Byte
  | b :: bs, r :: rs => (b ||| r) :: withResv bs rs
  | bs, _ => bs

/-- One bit of the reflected CRC-32 of IEEE 802.3, and `n` bits. -/
def fcsBit (c : Word) : Word := if bit c 0 then (c >>> 1) ^^^ 0xEDB88320#32 else c >>> 1
def fcsBits : Nat → Word → Word
  | 0, c => c
  | n + 1, c => fcsBits n (fcsBit c)

/-- The frame check sequence of Ethernet over a list of bytes (R390, after IEEE 802.3). -/
def ethFcs (l : List Byte) : Word := ~~~(l.foldl (fun c b => fcsBits 8 (c ^^^ b.zeroExtend 32)) 0xFFFFFFFF#32)

/-- The low `n` bytes of a number, least significant first. -/
def bytesLE : Nat → Nat → List Byte
  | 0, _ => []
  | n + 1, v => BitVec.ofNat 8 v :: bytesLE n (v / 256)

/-- The low `n` bytes of a number, most significant first (R6). -/
def bytesBE (n v : Nat) : List Byte := (bytesLE n v).reverse

/-- The number that bytes spell, most significant first (R6). -/
def natBE (l : List Byte) : Nat := l.foldl (fun n b => n * 256 + b.toNat) 0

/-- The number that little-endian bytes spell. -/
def natLE : List Byte → Nat
  | [] => 0
  | b :: bs => b.toNat + 256 * natLE bs

end Sys2Proof.Machine
end

