-- ==== Sys2Proof/TypesField.lean ====
section
/-! DEFINITION. Plain data of the field channels, the reflex table and the safety functions (chapters 15 and 16). -/

namespace Sys2Proof.Machine

/-! ### DIO (R462 to R467) -/

/-- Level of a DIO driver (R462). -/
inductive Level where
  | off | low | high
  deriving DecidableEq, Repr

/-- One DIO channel. -/
structure DioCh where
  /-- Filter output, the previous sample's state, samples in a row opposite to the output, samples since input mode began, first write done (R463, R464). -/
  filt : Bool := false
  prev : Bool := false
  run : Nat := 0
  count : Nat := 0
  written : Bool := false
  /-- A raw sample read OFF during the running test pulse of the channel's source (R492). -/
  rawOff : Bool := false
  /-- Readback: 0 LOW, 1 HIGH, 2 UNDEFINED; its handle has been written (R465). -/
  rb : Nat := 0
  rbWritten : Bool := false
  /-- The driver is held in its off state until a retry (R466). -/
  held : Bool := false
  /-- A test pulse runs; SHORT_LP was found at the end of one (R467). -/
  pulse : Bool := false
  tpShort : Bool := false
  deriving DecidableEq, Repr

/-- A DIO group: measurements of L+ in a row below 18.0 V and above 18.5 V, FS_LOW, GROUP_OFF. -/
structure DioGroup where
  low : Nat := 0
  high : Nat := 0
  fsLow : Bool := false
  off : Bool := false
  deriving DecidableEq, Repr

/-! ### AIO and HART (R469 to R474) -/

/-- A HART device of the poll list: exchanges missed in a row, has answered, lost. -/
structure HartDev where
  miss : Nat := 0
  answered : Bool := false
  lost : Bool := false
  deriving DecidableEq, Repr

/-- One AIO channel: value in µA last written to its handle; poll list and request of HART. -/
structure AioCh where
  last : Option Nat := none
  devs : Tab HartDev := []
  /-- Poll entry whose exchange runs, and whether the request buffer waits or runs. -/
  turn : Nat := 0
  reqWait : Bool := false
  reqRun : Bool := false
  deriving DecidableEq, Repr

/-- What a HART response carries (R474). -/
inductive HartMsg where
  /-- Command 3 of a poll entry: loop current and four variables, malfunction, variable out of limits. -/
  | poll (entry : Nat) (vals : List Word) (malfunction outOfLimits : Bool)
  /-- The answer to the request buffer. -/
  | reply (frame : List Byte)
  deriving DecidableEq, Repr

/-! ### Reflex (R477 to R481) -/

/-- A threshold comparator: decision and samples in a row towards the other one. -/
structure Cmp where
  out : Bool := false
  run : Nat := 0
  deriving DecidableEq, Repr

/-! ### Safety (R490 to R501) -/

/-- States of a safety input (R491). -/
inductive SiSt where
  | closed | discrepant | open_ | fault
  deriving DecidableEq, Repr

/-- A safety input: state and fault cause. -/
structure SafeIn where
  st : SiSt := .open_
  cause : Nat := 0
  deriving DecidableEq, Repr

/-- States of a safety output (R495). -/
inductive SoSt where
  | disabled | ready | tripped | lockout
  deriving DecidableEq, Repr

/-- A safety output. -/
structure SafeOut where
  st : SoSt := .disabled
  lockCause : Nat := 0
  tripCause : Nat := 0
  deriving DecidableEq, Repr

/-- The safety block beside its inputs and outputs. -/
structure SafeBlock where
  swdExp : Bool := false
  winOpen : Bool := false
  /-- SRST: previous sample, samples in a row opposite to the filter, filter output, filtered high time in ms, stuck (R500). -/
  raw : Bool := false
  run : Nat := 0
  high : Bool := false
  highMs : Nat := 0
  stuck : Bool := false
  /-- The forme value of ACK_HANDLE at the last flip. -/
  ackLast : Word := 0
  /-- LOCKOUT bits in the keepsake (R499). -/
  kept : BitVec 8 := 0
  deriving DecidableEq, Repr

/-! ### Pernos Safe Transport (R503 to R510) -/

/-- A consuming connection (R506). -/
structure PstCfg where
  connId : Half
  srcA : List Nat
  srcB : List Nat
  group : BitVec 48
  len : Nat
  key : Word
  tolerant : Bool
  tmo : Nat
  handle : Nat
  deriving DecidableEq, Repr

/-- A producing connection (R505). -/
structure PstProd where
  connId : Half
  handles : List Nat
  len : Nat
  div : Nat
  key : Word
  consumers : List Nat
  group : BitVec 48
  deriving DecidableEq, Repr

/-- States of a connection (R509). -/
inductive PstSt where
  | unused | waiting | running | degraded | tripped
  deriving DecidableEq, Repr

/-- A copy that waits for its partner: its network (false A) and its 52 bytes. -/
structure PstCopy where
  netB : Bool
  bytes : List Byte
  deriving DecidableEq, Repr

/-- The running state of a connection. -/
structure PstRt where
  st : PstSt := .unused
  /-- Highest accepted epoch with its last accepted CYC. -/
  last : Option (Nat × Nat) := none
  copies : List PstCopy := []
  failA : Bool := false
  failB : Bool := false
  /-- Frames accepted on both copies in a row while a network is failed. -/
  both : Nat := 0
  cause : Nat := 0
  since : Bool := false
  permit : Bool := false
  deriving DecidableEq, Repr

end Sys2Proof.Machine
end

