-- ==== Sys2Proof/TypesIo.lean ====
section
/-! DEFINITION. Plain data of the station link, the fabric and the CAN channels (chapters 12 to 14). -/

namespace Sys2Proof.Machine

/-! ### Station link (R387 to R412) -/

/-- A station link frame as received (R390); `etherType` is that of the outer header. -/
structure StnFrame where
  fcsOk : Bool
  da : BitVec 48
  sa : BitVec 48
  etherType : Half
  ver : Byte
  type : Byte
  addr : Byte
  flags : Byte
  epoch : Word
  cyc : Cycle
  seq : Half
  len : Half
  payload : List Byte
  deriving DecidableEq, Repr

/-- The configuration of a station (R393, R394): identity, period K, phases in ns, watchdog in µs, lengths, required capabilities, record. -/
structure StnCfg where
  uid : DWord
  k : Nat
  outPhase : Nat
  inPhase : Nat
  wdg : Nat
  inLen : Nat
  outLen : Nat
  caps : Half
  cfg : List Byte
  deriving DecidableEq, Repr

/-- An entry of the mapping: the four words of R398. -/
structure StnMap where
  w0 : Word
  w1 : Word
  w2 : Word
  w3 : Word
  deriving DecidableEq, Repr

/-- States of a station (R396). -/
inductive StnSt where
  | notConfigured | absent | joining | running | failed | inhibited
  deriving DecidableEq, Repr

/-- What the module keeps of a station. -/
structure StnRt where
  st : StnSt := .notConfigured
  ver : Nat := 0
  nak : Nat := 0
  missed : Nat := 0
  mac : BitVec 48 := 0
  /-- Period from which deadlines count, and periods of accepted INPUT frames, latest first. -/
  from_ : Nat := 0
  seen : List Nat := []
  /-- An OUTPUT has left since the module took the pass (R391). -/
  told : Bool := false
  deriving DecidableEq, Repr

/-- States of a serial lane or fabric port: DOWN, TRAINING, UP (R409, R433). -/
inductive LaneSt where
  | down | training | up
  deriving DecidableEq, Repr

/-- A change of a lane or fabric port: its new state, and the result of the training of one that comes UP, eye height and width as TRAIN holds them (R409, R433). -/
structure LaneEvt where
  st : LaneSt
  train : Half
  deriving DecidableEq, Repr

/-! ### Fabric (R413 to R434) -/

/-- The header and the trailer of a fabric frame as received (R415): `ends` is how many bytes lie between them, `resv` the bits set in header and payload where the layout reserves them. -/
structure FabHdr where
  dst : Half
  src : Half
  type : Byte
  ver : Byte
  tc : BitVec 2
  hops : BitVec 6
  seq : Word
  len : Half
  ends : Nat
  csum : Half
  crc : Word
  resv : List Byte := []
  deriving DecidableEq, Repr

/-- A frame in the queue of a port (R419): its bytes, and whether it is this module's own. -/
structure FabTx where
  what : Out
  bytes : List Byte
  own : Bool
  deriving DecidableEq, Repr

/-- A fabric port comes UP, with the result of its training (R413, R433). -/
structure FabUp where
  port : Fin 4
  train : Half
  deriving DecidableEq, Repr

/-- What an ADDR_REQ asks for: the preferred address, and the proxy port of a forwarded one (R418). -/
structure FabAsk where
  pref : Half
  proxy : Nat
  deriving DecidableEq, Repr

/-- What carries a copy of a PST unit (R503): a fabric frame on a port, or an Ethernet frame with its source and the outcome of its checks. -/
inductive PstCarrier where
  | fabric (port : Fin 4) (h : FabHdr)
  | ethernet (src : Nat) (ok : Bool)
  deriving DecidableEq, Repr

/-- A HELLO (R418). -/
structure FabHello where
  uid : DWord
  addr : Half
  cost : Nat
  keeper : DWord
  roll : Word
  ownMin : Nat
  ownMax : Nat
  deriving DecidableEq, Repr

/-- A neighbour held by a port. -/
structure FabNbr where
  uid : DWord
  addr : Half
  cost : Nat
  deriving DecidableEq, Repr

/-- A link-state advertisement (R424): neighbours by address and cost. -/
structure FabLsa where
  uid : DWord
  addr : Half
  seq : Word
  nbrs : List (Half × Nat)
  deriving DecidableEq, Repr

/-- A route (R425, R434). -/
structure FabRoute where
  port : Nat
  next : Nat
  hops : Nat
  cost : Nat
  deriving DecidableEq, Repr

/-- A published block (R429). -/
structure GvPub where
  gvId : Half
  handles : List Nat
  dst : Half
  div : Nat
  deriving DecidableEq, Repr

/-- A subscription (R430): handles with their substitute values. -/
structure GvSub where
  gvId : Half
  srcs : List Half
  handles : List (Nat × Word)
  tmo : Nat
  subst : Bool
  deriving DecidableEq, Repr

/-- A GV frame (R428). -/
structure GvMsg where
  gvId : Half
  count : Half
  epoch : Word
  cyc : Cycle
  entries : List (Word × Half)
  deriving DecidableEq, Repr

/-- The running state of a subscription: highest epoch with its last cycle, timeout running. -/
structure GvRt where
  last : Option (Nat × Nat) := none
  armed : Bool := false
  deriving DecidableEq, Repr

/-- The fabric node (R416 to R434). -/
structure Fabric where
  addr : Half := 0
  isKeeper : Bool := false
  keeper : DWord := 0
  roll : Word := 0
  /-- Fabric version in use, 0 before any; the old one while both are accepted (R427). -/
  ver : Nat := 0
  oldVer : Option Nat := none
  negFail : Bool := false
  /-- UID and address (R422). -/
  book : List (DWord × Half) := []
  /-- Version ranges learnt from HELLO and ADDR_REQ, by UID. -/
  ranges : List (DWord × Nat × Nat) := []
  /-- Requests proxied: UID and port. -/
  proxies : List (DWord × Nat) := []
  nbrs : Tab (Option FabNbr) := []
  ports : Tab LaneSt := []
  lsas : List FabLsa := []
  lsaSeq : Word := 0
  seq : Word := 0
  /-- Last sequence forwarded from a source (R416). -/
  flood : Tab (Option Word) := []
  routes : Tab (Option FabRoute) := []
  /-- Other modules that the last route computation reached (R421, R425), and their count with this one, 0 before the first. -/
  reach : List DWord := []
  nodes : Nat := 0
  /-- Frames waiting by port × 4 + traffic class, and the TCLK until which a port sends a frame (R419). -/
  queues : Tab (List FabTx) := []
  busy : Tab Nat := []
  /-- Book entries of the ROLL frames that belong together, and the sequence number of the frame that would continue them (R418, R422). -/
  part : List (DWord × Half) := []
  partSeq : Option Word := none
  /-- The address was lost to another UID, and no new one has come (R423). -/
  lost : Bool := false
  /-- Session bytes received last, by source (R418, R554). -/
  bulk : Tab (List Byte) := []
  pubs : Tab (Option GvPub) := []
  subs : Tab (Option GvSub) := []
  gvs : Tab GvRt := []
  deriving DecidableEq, Repr

/-! ### CAN (R435 to R460) -/

/-- An entry of the galley; `owner` names the cluster of a program frame (R440, R442). -/
structure CanEntry where
  ident : Word
  ctrl : Word
  data : List Word
  owner : Option Nat
  deriving DecidableEq, Repr

/-- The part of a frame a bit lies in, as R445 tells them apart: up to the end of the arbitration field; the control, data and CRC fields; from the
CRC delimiter on. -/
inductive CanPart where
  | arbitration | content | tail
  deriving DecidableEq, Repr

/-- What a transmitting channel meets at the bit that may end its attempt (R443, R445): the frame acknowledged; arbitration lost; an error that is no
bit error; a bit read otherwise than sent, `recessive` telling that it was sent recessive; in the same way a bit whose line level is the other one
from `a` to before `b` KCLK after the edge that sent it, which is an error only if the sample point lies there (R439). The pass gate ends an attempt by
itself (R437). -/
inductive CanEnd where
  | done | lost | error
  | bitError (recessive : Bool) (part : CanPart)
  | bitLevel (recessive : Bool) (part : CanPart) (a b : Nat)
  deriving DecidableEq, Repr

/-- What a channel meets on the bus beside the end of an attempt (R435, R453): an error for which ISO 11898-1 raises REC by 1, or by 8; an error for
which it raises TEC by 8 (a bit error in an error or overload flag it sends as a transmitter, each further run of 8 dominant bits after one); a recessive
res bit in a frame it receives. -/
inductive CanFault where
  | rec1 | rec8 | tec8 | res
  deriving DecidableEq, Repr

/-- A frame received without error (R447, R449). -/
structure CanFrame where
  ident : BitVec 29
  xtd : Bool
  rtr : Bool
  dlc : BitVec 4
  fdf : Bool
  brs : Bool
  esi : Bool
  data : List Byte
  deriving DecidableEq, Repr

/-- One channel. -/
structure CanCh where
  /-- 11 recessive bits were seen since the gate became true (R437). -/
  normal : Bool := false
  busOff : Bool := false
  /-- RECOVER has been given in bus-off (R453). -/
  recover : Bool := false
  lasting : Bool := false
  clash : Bool := false
  tdcValid : Bool := false
  tec : Nat := 0
  rec_ : Nat := 0
  /-- Galley, head first, and whether the head's attempt runs. -/
  galley : List CanEntry := []
  busy : Bool := false
  /-- Results, oldest first, with the cluster of a program frame. -/
  results : List (Word × Option Nat) := []
  /-- NOT_QUEUED results of program frames, with their cluster, until the next bell (R442). -/
  notQueued : List (Nat × Word) := []
  /-- TCLK of bus-off events inside the window (R454). -/
  events : List Nat := []
  bufs : Tab (List Word) := []
  /-- Dedicated buffers that have had a frame since the configuration load (R452). -/
  had : List Nat := []
  fifo0 : List (List Word) := []
  fifo1 : List (List Word) := []
  rxCount : Word := 0
  deriving DecidableEq, Repr

end Sys2Proof.Machine
end

