-- ==== Sys2Proof/TypesNet.lean ====
section
/-! DEFINITION. Plain data of PTP, launch queues, redundancy, sampled values and GOOSE (chapter 11). -/

namespace Sys2Proof.Machine

/-! ### PTP (R360 to R364) -/

/-- What carries a PTP frame (R360). -/
inductive PtpCarrier where
  | ethernet | ipv4 | ipv6
  deriving DecidableEq, Repr

/-- What a PTP frame is beside its message type: one of the profiles' messages, or of a kind that R360 excludes. -/
inductive PtpKind where
  | plain | unicast | management | authTlv | altTimescale
  deriving DecidableEq, Repr

/-- What every PTP message carries that a check reads (R360): domain, majorSdoId, carrier, kind, sequence, sender. -/
structure PtpHdr where
  domain : BitVec 8
  /-- majorSdoId: 1 is the gPTP profile. -/
  sdo : BitVec 4
  carrier : PtpCarrier
  kind : PtpKind
  seq : Half
  sender : DWord
  /-- Time in ns from arrival to departure on the other ring port, where the module forwards the frame (R364). -/
  resid : Int
  deriving DecidableEq, Repr

/-- Departure of a Pdelay_Resp: its time in ns, and whether the one-step insertion fails (R363). -/
structure PtpEgress where
  t : Int
  fail : Bool
  deriving DecidableEq, Repr

/-- The data set an Announce carries. -/
structure PtpData where
  gm : DWord := 0
  prio1 : Nat := 0
  cls : Nat := 0
  acc : Nat := 0
  var : Nat := 0
  prio2 : Nat := 0
  steps : Nat := 0
  sender : DWord := 0
  deriving DecidableEq, Repr

/-- An Announce: data set, currentUtcOffset and its flags (R357). -/
structure PtpAnnounce where
  data : PtpData
  utc : Int
  utcValid : Bool
  leap61 : Bool
  leap59 : Bool
  deriving DecidableEq, Repr

/-- Messages the module sends at an interval. -/
inductive PtpSend where
  | sync | announce | delayReq
  deriving DecidableEq, Repr

/-- One PTP port: the foreign master, pending measurements. -/
structure PtpPort where
  foreign : Option PtpAnnounce := none
  /-- Sender and TCLK of the last Announce, for qualification. -/
  seen : Option (DWord × Nat) := none
  /-- announceReceiptTimeout has expired since the last Announce. -/
  quiet : Bool := false
  /-- A two-step Sync waiting for its Follow_Up: sequence, corrected receipt time, correction. -/
  sync : Option (Half × Int × Int) := none
  /-- Receipt minus origin of the last Sync, for the path delay. -/
  ms : Option Int := none
  /-- Departure of the Delay_Req or Pdelay_Req in progress: sequence and time. -/
  req : Option (Half × Int) := none
  seqNo : Half := 0
  /-- The next Sync goes two-step (R363). -/
  twoNext : Bool := false
  /-- Four Sync intervals have passed without a Sync (R354). -/
  silent : Bool := false
  deriving DecidableEq, Repr

/-! ### Launch queues, PRP and HSR (R365 to R367) -/

/-- A queued frame: launch time in ns and what it is. -/
structure QFrame where
  launch : Nat
  what : Out
  args : List Nat
  deriving DecidableEq, Repr

/-- A frame without a launch time that waits until it ends before the next launch time (R365): its bytes on the wire, preamble and interframe gap included, and what it is. `fail`: its one-step insertion fails (R363). -/
structure FreeFrame where
  len : Nat
  what : Out
  args : List Nat
  fail : Bool := false
  deriving DecidableEq, Repr

/-- An entry of the duplicate discard table: source, sequence, TCLK of the first copy, and the ports by which copies have arrived, bit 0 the first port of the pair. -/
structure RedEnt where
  src : Nat
  seq : Nat
  at_ : Nat
  ports : Nat
  deriving DecidableEq, Repr

/-- A PRP or HSR pair: node table (source, TCLK of the last frame), duplicate discard table, sequence number of the frames sent. -/
structure RedPair where
  nodes : Tab Nat := []
  dups : List RedEnt := []
  seq : Half := 0
  deriving DecidableEq, Repr

/-- The redundancy tag of a received frame: source address, sequence, and whether its LAN identifier is wrong for the port. -/
structure RedTag where
  src : BitVec 48
  seq : Half
  wrongLan : Bool
  deriving DecidableEq, Repr

/-! ### Quality of IEC 61850 (R375) -/

/-- validity. -/
inductive Validity where
  | good | questionable | invalid | reserved
  deriving DecidableEq, Repr

/-- The quality of a received value. -/
structure Quality where
  validity : Validity := .good
  overflow : Bool := false
  outOfRange : Bool := false
  badReference : Bool := false
  oscillatory : Bool := false
  failure : Bool := false
  oldData : Bool := false
  inconsistent : Bool := false
  inaccurate : Bool := false
  substituted : Bool := false
  test : Bool := false
  operatorBlocked : Bool := false
  derived : Bool := false
  deriving DecidableEq, Repr

/-! ### Sampled values (R368 to R377) -/

/-- PROFILE of R368. -/
inductive SvProfile where
  | le4000 | le4800 | p4800 | p14400
  deriving DecidableEq, Repr

/-- The configuration of a subscribed stream (R368). -/
structure SvCfg where
  profile : SvProfile
  dstMac : BitVec 48
  appid : Half
  /-- 0 accepts any VLAN, tagged or untagged. -/
  vlan : Nat
  svid : List Byte
  confRev : Word
  noAsdu : Nat
  nval : Nat
  scale : List Word
  group : Nat
  reqSync : Nat
  lossN : Nat
  recoverN : Nat
  simAccept : Bool
  deriving DecidableEq, Repr

/-- An ASDU: identity, count, synchronisation, length of seqData in bytes, samples with their quality. -/
structure SvAsdu where
  svid : List Byte
  confRev : Word
  smpCnt : Nat
  smpSynch : Nat
  bytes : Nat
  vals : List (Word × Quality)
  deriving DecidableEq, Repr

/-- A received sampled-value frame. `lenOk`: the checks of order 2 of R370 hold. -/
structure SvFrame where
  etherType : Half
  dstMac : BitVec 48
  vlan : Option Nat
  appid : Half
  lenOk : Bool
  sim : Bool
  noAsdu : Nat
  asdus : List SvAsdu
  deriving DecidableEq, Repr

/-- An accepted sample: its instant in ns and its values. -/
structure SvSample where
  instant : Nat
  vals : List (Word × Quality)
  deriving DecidableEq, Repr

/-- The running state of a stream (R370 to R374). -/
structure SvRt where
  samples : List SvSample := []
  loss : Bool := false
  unstable : Bool := false
  /-- Instants missed and samples accepted in a row. -/
  miss : Nat := 0
  good : Nat := 0
  /-- TCLK of the losses inside the window. -/
  losses : List Nat := []
  deriving DecidableEq, Repr

/-- A published stream (R376, R377). -/
structure SvPubCfg where
  profile : SvProfile
  binds : List Word
  scale : List Word
  noAsdu : Nat
  /-- PUB_DELAY in ns. -/
  pubDelay : Nat := 20000
  port : Nat
  queue : Nat
  deriving DecidableEq, Repr

/-- A published sample: INT32 and quality (R377). -/
structure SvPubVal where
  value : Word
  quality : Quality
  deriving DecidableEq, Repr

/-- One published ASDU: smpCnt, smpSynch, gmIdentity where carried, values. -/
structure SvPubAsdu where
  smpCnt : Nat
  smpSynch : Nat
  gm : Option DWord
  vals : List SvPubVal
  deriving DecidableEq, Repr

/-- A publisher: the ASDUs of the frame in formation, and by value what was taken last of its source (R377). -/
structure SvPubRt where
  asdus : List SvPubAsdu := []
  last : Tab (Option (Word × Half)) := []
  deriving DecidableEq, Repr

/-! ### GOOSE (R378 to R381) -/

/-- Member types of R378. -/
inductive GoType where
  | boolean | int8 | int16 | int32 | int8u | int16u | int32u | float32 | dbpos | quality | timestamp
  deriving DecidableEq, Repr

/-- A member of a subscribed dataset: type, first handle, and for a Quality member the member whose status it sets. -/
structure GoMember where
  ty : GoType
  handle : Nat
  ofMember : Nat
  subst : Word
  deriving DecidableEq, Repr

/-- A subscription. `talSubst`: TAL_ACT takes the substitute values. -/
structure GoSub where
  dstMac : BitVec 48
  appid : Half
  vlan : Nat
  gocbRef : List Byte
  datSet : List Byte
  confRev : Word
  simAccept : Bool
  members : List GoMember
  talSubst : Bool
  deriving DecidableEq, Repr

/-- A member value as received: a number (two words for a Timestamp), or a quality. -/
inductive GoVal where
  | num (v : Word)
  | time (sec ns : Word)
  | qual (q : Quality)
  deriving DecidableEq, Repr

/-- A received GOOSE message. -/
structure GoMsg where
  dstMac : BitVec 48
  vlan : Option Nat
  appid : Half
  lenOk : Bool
  sim : Bool
  gocbRef : List Byte
  datSet : List Byte
  confRev : Word
  entries : Nat
  ndsCom : Bool
  stNum : Word
  sqNum : Word
  tal : Nat
  vals : List GoVal
  deriving DecidableEq, Repr

/-- The running state of a subscription: last stNum and sqNum, whether supervision runs, and until when (TCLK). -/
structure GoRt where
  last : Option (Word × Word) := none
  armed : Bool := false
  until_ : Nat := 0
  deriving DecidableEq, Repr

/-- A member of a published dataset: type, first forme handle, and for a Quality member the member whose status it shows. -/
structure GoPubMember where
  ty : GoType
  handle : Nat
  ofMember : Nat
  deriving DecidableEq, Repr

/-- A published control block: members, T_MIN and T_MAX in ms, port and queue. -/
structure GoPub where
  members : List GoPubMember
  tMin : Nat := 2
  tMax : Nat := 1000
  port : Nat
  queue : Nat
  deriving DecidableEq, Repr

/-- The running state of a control block: numbers, interval in ms, time of the last message in ns, values at the last flip. -/
structure GoPubRt where
  stNum : Word := 0
  sqNum : Word := 0
  interval : Nat := 0
  vals : List GoVal := []
  started : Bool := false
  deriving DecidableEq, Repr

/-- What the configuration of chapter 11 holds. -/
structure NetCfg where
  streams : Tab (Option SvCfg) := []
  pubs : Tab (Option SvPubCfg) := []
  goSubs : Tab (Option GoSub) := []
  goPubs : Tab (Option GoPub) := []
  deriving DecidableEq, Repr, Inhabited

end Sys2Proof.Machine
end

