-- ==== Sys2Proof/TypesCfg.lean ====
section
/-! DEFINITION. The configuration and the project as the module holds them (R164, R271, R567). -/

namespace Sys2Proof.Machine

/-- A configuration: its bytes, and what they set (R271, R567). -/
structure ModCfg where
  bytes : List Byte := []
  /-- Registers by key, and memory bytes by address: loop descriptors, schedule banks, setpoint buffers. -/
  regs : List (Nat × Word) := []
  mem : List (Nat × Byte) := []
  /-- Rule words by key (R189). -/
  rules : List (Nat × Word) := []
  net : NetCfg := {}
  stnCfg : Tab (Option StnCfg) := []
  stnMap : List StnMap := []
  pubs : Tab (Option GvPub) := []
  subs : Tab (Option GvSub) := []
  pstCfg : Tab (Option PstCfg) := []
  pstProd : Tab (Option PstProd) := []
  /-- Recorded signals and the export list (R532, R539). -/
  sel : Tab Bool := []
  expList : List Nat := []
  /-- Owner anchors: key digest and rights (R553). -/
  anchors : List (Nat × BitVec 4) := []
  /-- The retain map: first address and lines of 64 bytes of each range (R574). -/
  retain : List (Nat × Nat) := []
  /-- Pages whose quoins are locked at step 6 (R590). -/
  quoins : List Nat := []
  /-- Expected ranges of the surroundings by item × 16 + part (R576). -/
  expect : Tab (Option (Nat × Nat)) := []
  deriving DecidableEq, Repr, Inhabited

end Sys2Proof.Machine
end

