-- ==== Sys2Proof/TypesSec.lean ====
section
/-! DEFINITION. Plain data of the security block, of firmware banks and sessions, and of power, start-up and the save sequence (chapters 18 and 19). -/

namespace Sys2Proof.Machine

/-! ### Firmware (R542 to R549, R555) -/

/-- States of a firmware bank (R546). -/
inductive BankSt where
  | empty | loaded | trial | good | bad
  deriving DecidableEq, Repr

/-- What a verified image leaves: version, SVN, key slot, length of its body, digest (R543). -/
structure FwImage where
  version : BitVec 24 := 0
  svn : Nat := 0
  slot : Nat := 0
  len : Nat := 0
  digest : BitVec 512 := 0
  deriving DecidableEq, Repr, Inhabited

/-- A firmware bank: state, generation, images by class, class 0 being the bank directory, and the bytes of the directory (R545, R546). -/
structure FwBank where
  st : BankSt := .empty
  gen : Word := 0
  images : Tab (Option FwImage) := []
  dir : List Byte := []
  deriving DecidableEq, Repr

/-- A tool session: rights READ, OPERATE, ENGINEER, FIRMWARE in bits 0 to 3 (R553). -/
structure Session where
  ident : Nat
  svc : Bool
  rights : BitVec 4
  /-- Version of the tool protocol, interface 4 (R237). -/
  ver : Nat
  /-- Fabric address of the module through which the tool is reached (R554). -/
  via : Option (BitVec 16) := none
  deriving DecidableEq, Repr

/-- States of an attestation (R556). -/
inductive AttSt where
  | idle | busy | done
  deriving DecidableEq, Repr

/-- What the file service names (R554). -/
inductive FileName where
  /-- Archive of the journal, by number. -/
  | archive (n : Nat)
  /-- COMTRADE export of a segment. -/
  | export_ (seg : Nat)
  | certificate
  deriving DecidableEq, Repr

/-- What is written through the file service: an image or a bank directory with its header, a configuration, a project. -/
inductive FileUp where
  | image (bytes : List Byte)
  | config (bytes : List Byte)
  | project (bytes : List Byte)
  deriving DecidableEq, Repr

/-- The security block (R544 to R557). -/
structure Sec where
  /-- Last boot stage completed. -/
  stage : Nat := 0
  ikPresent : Bool := false
  recovery : Bool := false
  /-- Root key slots revoked. -/
  revoked : BitVec 4 := 0
  /-- Fuse counts by class. -/
  fuses : Tab Nat := []
  runB : Bool := false
  bankA : FwBank := {}
  bankB : FwBank := {}
  trialUsed : Nat := 0
  /-- The boot watchdog runs (R548). -/
  wdg : Bool := false
  /-- The session key generated at the last start-up, by the free value it was drawn as (R551). -/
  tk : Option Nat := none
  att : AttSt := .idle
  /-- The report captured and the report shown. -/
  attNext : List Byte := []
  attReport : List Byte := []
  sessions : List Session := []
  deriving DecidableEq, Repr

/-! ### Power, save sequence, start-up (R558 to R583) -/

/-- Where a save sequence stands (R573): a cycle may complete; copying; every domain but AON off. -/
inductive SaveSt where
  | none | grace | copy | off
  deriving DecidableEq, Repr

/-- What the keepsake holds for the registers of R593, and the hold-up history (R569, R573, R580, R582). -/
structure Keep where
  pfail : Word := 0
  resets : Word := 0
  clears : Word := 0
  lastSave : Word := 0
  cycLo : Word := 0
  cycHi : Word := 0
  time : Time := {}
  /-- Results of bank tests: capacitance and ESR, oldest first. -/
  history : List (Nat × Nat) := []
  deriving DecidableEq, Repr

/-- The power sequencer beside its registers. -/
structure Pwr where
  save : SaveSt := .none
  /-- PFAIL_N is asserted; the save was started by a removal; step 3 ended with a flip or without a cycle. -/
  pfail : Bool := false
  removal : Bool := false
  consistent : Bool := false
  saveAt : Nat := 0
  /-- Step 6 of start-up has been reached. -/
  loaded : Bool := false
  /-- RST_CMD was taken (R566). -/
  restart : Bool := false
  /-- TCLK of the last reset and of the last completed bank test. -/
  bootAt : Nat := 0
  testAt : Nat := 0
  /-- The warning of R29 is set: CD0, CD1, IOD. -/
  dieWarn : BitVec 3 := 0
  keep : Keep := {}
  deriving DecidableEq, Repr

/-- What the measurement of surroundings reads (R576): feeds in 10 mV, bank in µF and mΩ, DIO loads, loop resistances in Ω, ETH_CABLE words, trained lanes, slot, side, presence, peer-pass lines. -/
structure Surr where
  feedA : Nat
  feedB : Nat
  cap : Nat
  esr : Nat
  dioLoad : BitVec 16
  loopR : List Word
  cables : List Word
  lanes : List Nat
  slot : BitVec 6
  side : Bool
  peerPres : Bool
  peer : BitVec 2
  deriving DecidableEq, Repr

/-- What the parts of a start-up report (R567): images of a bank found bad (bank B, class, failing check), revoke fuses the firmware burns, a domain that does not report power good, failed injections of units and voters, LBIST signatures, failed lanes, lines that memory BIST found faulty, the surroundings, the own-line test. -/
structure Boot where
  bad : List (Bool × Nat × Nat)
  revoke : BitVec 4
  noPower : Option Nat
  inj : Tab (BitVec 8)
  sigs : Tab (Option (Word × Word))
  voter : Tab (BitVec 8)
  lanes0 : BitVec 16
  lanes1 : BitVec 16
  bist : List (Nat × List Nat)
  surr : Surr
  linesOk : Bool
  deriving DecidableEq, Repr

end Sys2Proof.Machine
end

