-- ==== Sys2Proof/Config.lean ====
section
/-! DEFINITION. What an implementation fixes and the spec does not state: constants without a body, so that nothing can be proved of their values. -/

namespace Sys2Proof.Config

/-- Expected LBIST signature of a sound core; the manual does not list it (R155). -/
opaque lbistExp : Word

/-- Which of the permitted values the unique ID of this module is: R3 permits all but 0 and all-ones. -/
opaque uidDraw : Fin 0xFFFFFFFFFFFFFFFE

/-- The unique ID of this module, never 0 and never all-ones (R3). -/
def uid : DWord := BitVec.ofNat 64 (uidDraw.val + 1)

/-- Major, minor and patch of the firmware that the module was delivered with: each part is 0 to 254 (R4). -/
opaque fwParts : Fin 255 × Fin 255 × Fin 255

/-- The firmware version as registers and frames carry it: major in [23:16] (R4, R596). -/
def fwVersion : BitVec 24 := BitVec.ofNat 24 (fwParts.1.val * 65536 + fwParts.2.1.val * 256 + fwParts.2.2.val)

/-- Which of the permitted hardware issues this module has. -/
opaque hwIssueDraw : Fin 99

/-- Hardware issue, 1 to 99 (R3, R596). -/
def hwIssue : BitVec 8 := BitVec.ofNat 8 (hwIssueDraw.val + 1)

/-- Ordering code and date of manufacture of this module (R596). -/
opaque orderCode : Bool
opaque mfgDate : Word

/-- Which two of the permitted versions bound the range of interface n of the running firmware. -/
opaque ifDraw : Nat → Fin 254 × Fin 254

/-- OWN_MIN and OWN_MAX of interface n: 1 to 254, and a contiguous range (R237). -/
def ifOwn (n : Nat) : Nat × Nat := (min (ifDraw n).1.val (ifDraw n).2.val + 1, max (ifDraw n).1.val (ifDraw n).2.val + 1)

/-- Address at which cluster n starts the exercise routine of the firmware; the manual gives none (R144). -/
opaque exerciseEntry : Nat → Word

/-- Wait of a variable-time access beyond its least count (R103): the n-th draw, in CCLK. -/
opaque accessWait : Nat → Nat

/-- CCLK that the Pernos runtime takes to serve an exception at P2 (R124): the n-th draw. -/
opaque runtimeCclk : Nat → Nat

/-- A word that the spec leaves open: the n-th draw. -/
opaque freeWord : Nat → Word

/-- offsetScaledLogVariance of the module's own clock (R360). -/
opaque ptpVariance : Nat

/-- CRC-32C over the safety configuration: the manual gives no byte order of the parts (R489). -/
opaque safeCrc : List Word → Word

/-- IK public key, 57 bytes (R557). -/
opaque ikPub : Nat → Byte

/-- The signature that the holder of the root key of a slot makes on digest bytes (Ed448, RFC 8032, R543). -/
opaque rootSign : Nat → List Byte → Fin 114 → Byte

/-- Whether Ed448 takes another signature. Arguments: slot, digest bytes, signature. -/
opaque rootOther : Nat → List Byte → List Byte → Bool

/-- Ed448 under the root public key of a slot (R543): the key holder's signature verifies. -/
def rootVerify (slot : Nat) (digest sig : List Byte) : Bool := sig == List.ofFn (rootSign slot digest) || rootOther slot digest sig

/-- SHAKE256 with 512 bits of output (R543). -/
opaque shake512 : List Byte → BitVec 512

/-- A directory that gives every image class the largest area. -/
opaque dirWide : List Byte

/-- Bytes of the area that any other directory gives an image class. -/
opaque dirOther : List Byte → Nat → Nat

/-- Bytes of the area that a bank directory gives an image class; the manual gives the directory no layout (R544, R545). -/
def dirArea (dir : List Byte) (c : Nat) : Nat := if dir = dirWide then 402653184 else dirOther dir c

/-- Images that the module was delivered with, by class (R542). -/
opaque factoryImage : Nat → Machine.FwImage

/-- The manufacturing certificate (R550). -/
opaque mfgCert : List Byte

/-- SHAKE256 with 256 bits of output, a standard the manual cites (R271). -/
opaque shake256 : List Byte → BitVec 256

/-- What the bytes of a configuration, a project or an online-change package spell; the manual gives no format (R271). -/
opaque cfgOf : List Byte → Machine.ModCfg
opaque projOf : List Byte → Machine.ProjImg
opaque pkgOf : List Byte → Machine.OlcPkg

/-- What conversion n of a migration map makes of the bytes of an old layout; the manual gives the map no format (R76). -/
opaque migConv : Nat → List Byte → List Byte

end Sys2Proof.Config
end

