-- ==== Sys2Proof/Machine/RegMap.lean ====
section
/-! DEFINITION. The register pages: names and offsets of the spec's register tables, pages of R594, storage with access codes, legal values and reset values (R7, R8, R584 to R596). -/

namespace Sys2Proof.Machine

namespace Reg

/-- R82 MODE -/
def bell_MODE : Nat := 0x040
/-- R82 MODE_CMD -/
def bell_MODE_CMD : Nat := 0x044
/-- R82 CYCLE_LO -/
def bell_CYCLE_LO : Nat := 0x048
/-- R82 CYCLE_HI -/
def bell_CYCLE_HI : Nat := 0x04C
/-- R82 MIN_CYCLE -/
def bell_MIN_CYCLE : Nat := 0x050
/-- R82 WDG_TIME -/
def bell_WDG_TIME : Nat := 0x054
/-- R82 ERR_BUDGET -/
def bell_ERR_BUDGET : Nat := 0x058
/-- R82 ACK_TMO -/
def bell_ACK_TMO : Nat := 0x05C
/-- R82 HOLD_LIMIT -/
def bell_HOLD_LIMIT : Nat := 0x060
/-- R82 HOLD_EN -/
def bell_HOLD_EN : Nat := 0x064
/-- R82 OLC_GAP_MAX -/
def bell_OLC_GAP_MAX : Nat := 0x068
/-- R82 LAST_EXEC -/
def bell_LAST_EXEC : Nat := 0x06C
/-- R82 MAX_EXEC -/
def bell_MAX_EXEC : Nat := 0x070
/-- R82 LAST_PERIOD -/
def bell_LAST_PERIOD : Nat := 0x074
/-- R82 ERR_CAUSE -/
def bell_ERR_CAUSE : Nat := 0x078
/-- R82 ERR_PEND -/
def bell_ERR_PEND : Nat := 0x07C
/-- R82 DONE -/
def bell_DONE : Nat := 0x080
/-- R82 BAR_STAT -/
def bell_BAR_STAT : Nat := 0x084
/-- R82 STRETCH_CNT -/
def bell_STRETCH_CNT : Nat := 0x088
/-- R82 BKPT_IGN -/
def bell_BKPT_IGN : Nat := 0x08C
/-- R82 BELL_NS -/
def bell_BELL_NS : Nat := 0x090
/-- R82 BELL_SEC_LO -/
def bell_BELL_SEC_LO : Nat := 0x094
/-- R82 BELL_SEC_HI -/
def bell_BELL_SEC_HI : Nat := 0x098
/-- R82 FORCE_SEL -/
def bell_FORCE_SEL : Nat := 0x0A0
/-- R82 FORCE_HANDLE -/
def bell_FORCE_HANDLE : Nat := 0x0A4
/-- R82 FORCE_VALUE -/
def bell_FORCE_VALUE : Nat := 0x0A8
/-- R82 FORCE_ATTR -/
def bell_FORCE_ATTR : Nat := 0x0AC
/-- R82 FORCE_IDENT -/
def bell_FORCE_IDENT : Nat := 0x0B0
/-- R82 FORCE_CMD -/
def bell_FORCE_CMD : Nat := 0x0B4
/-- R82 FORCE_COUNT -/
def bell_FORCE_COUNT : Nat := 0x0B8
/-- R82 OLC_STAT -/
def bell_OLC_STAT : Nat := 0x0C0
/-- R82 OLC_TARGET_LO -/
def bell_OLC_TARGET_LO : Nat := 0x0C4
/-- R82 OLC_TARGET_HI -/
def bell_OLC_TARGET_HI : Nat := 0x0C8
/-- R82 OLC_CMD -/
def bell_OLC_CMD : Nat := 0x0CC
/-- R147 CL_STATE -/
def cl_CL_STATE : Nat := 0x040
/-- R147 CL_CFG -/
def cl_CL_CFG : Nat := 0x044
/-- R147 MISM_WINDOW -/
def cl_MISM_WINDOW : Nat := 0x048
/-- R147 UNIT_CMD -/
def cl_UNIT_CMD : Nat := 0x04C
/-- R147 VOTER_STAT -/
def cl_VOTER_STAT : Nat := 0x050
/-- R147 MISM_TOTAL -/
def cl_MISM_TOTAL : Nat := 0x054
/-- R147 OUTVOTE_TOTAL -/
def cl_OUTVOTE_TOTAL : Nat := 0x058
/-- R147 READMIT_TOTAL -/
def cl_READMIT_TOTAL : Nat := 0x05C
/-- R147 RETIRE_TOTAL -/
def cl_RETIRE_TOTAL : Nat := 0x060
/-- R147 LAST_EVT -/
def cl_LAST_EVT : Nat := 0x064
/-- R147 LAST_EVT_CYC_LO -/
def cl_LAST_EVT_CYC_LO : Nat := 0x068
/-- R147 LAST_EVT_CYC_HI -/
def cl_LAST_EVT_CYC_HI : Nat := 0x06C
/-- R155 UNIT_SEL -/
def unit_UNIT_SEL : Nat := 0x040
/-- R155 U_STATE -/
def unit_U_STATE : Nat := 0x044
/-- R155 MISM_CNT -/
def unit_MISM_CNT : Nat := 0x048
/-- R155 OLDEST_SEC -/
def unit_OLDEST_SEC : Nat := 0x04C
/-- R155 OLDEST_NS -/
def unit_OLDEST_NS : Nat := 0x050
/-- R155 FAIL_GROUPS -/
def unit_FAIL_GROUPS : Nat := 0x054
/-- R155 INJ_STAT -/
def unit_INJ_STAT : Nat := 0x058
/-- R155 U_MISM_TOTAL -/
def unit_U_MISM_TOTAL : Nat := 0x05C
/-- R155 LBIST_EXP -/
def unit_LBIST_EXP : Nat := 0x060
/-- R155 CARD0–CARD7 -/
def unit_CARD (i : Nat) : Nat := 0x080 + i * 4
/-- R182 SCRUB_PERIOD -/
def rg_SCRUB_PERIOD : Nat := 0x040
/-- R182 SCRUB_POS -/
def rg_SCRUB_POS : Nat := 0x044
/-- R182 SCRUB_PASSES -/
def rg_SCRUB_PASSES : Nat := 0x048
/-- R182 CORR_CNT -/
def rg_CORR_CNT : Nat := 0x04C
/-- R182 UNCORR_CNT -/
def rg_UNCORR_CNT : Nat := 0x050
/-- R182 LAST_CORR_ADDR -/
def rg_LAST_CORR_ADDR : Nat := 0x054
/-- R182 LAST_CORR_INFO -/
def rg_LAST_CORR_INFO : Nat := 0x058
/-- R182 CORR_WINDOW -/
def rg_CORR_WINDOW : Nat := 0x05C
/-- R182 CORR_LIMIT -/
def rg_CORR_LIMIT : Nat := 0x060
/-- R182 LOG_USED -/
def rg_LOG_USED : Nat := 0x064
/-- R182 LOG_OVF -/
def rg_LOG_OVF : Nat := 0x068
/-- R182 REMAP_STAT -/
def rg_REMAP_STAT : Nat := 0x06C
/-- R182 LASTING_CNT -/
def rg_LASTING_CNT : Nat := 0x070
/-- R182 TRK0_BASE – TRK3_BASE -/
def rg_TRK_BASE (i : Nat) : Nat := 0x080 + i * 8
/-- R182 TRK0_LIMIT – TRK3_LIMIT -/
def rg_TRK_LIMIT (i : Nat) : Nat := 0x084 + i * 8
/-- R182 DIRTY_COUNT -/
def rg_DIRTY_COUNT : Nat := 0x0A0
/-- R182 DIRTY_PEAK -/
def rg_DIRTY_PEAK : Nat := 0x0A4
/-- R182 RESENT_CNT -/
def rg_RESENT_CNT : Nat := 0x0A8
/-- R206 RULE_EPOCH -/
def pc_RULE_EPOCH : Nat := 0x040
/-- R206 SWAP_CMD -/
def pc_SWAP_CMD : Nat := 0x044
/-- R206 SWAP_STAT -/
def pc_SWAP_STAT : Nat := 0x048
/-- R206 DRAIN_PEND -/
def pc_DRAIN_PEND : Nat := 0x04C
/-- R206 SWAP_COUNT -/
def pc_SWAP_COUNT : Nat := 0x050
/-- R206 LAST_SWAP_TIME -/
def pc_LAST_SWAP_TIME : Nat := 0x054
/-- R206 DISAGREE_TOTAL -/
def pc_DISAGREE_TOTAL : Nat := 0x058
/-- R206 STALE_TOTAL -/
def pc_STALE_TOTAL : Nat := 0x05C
/-- R208 MS_STAT -/
def ms_MS_STAT : Nat := 0x040
/-- R208 FAULT_CNT -/
def ms_FAULT_CNT : Nat := 0x044
/-- R208 FAULT_ADDR_LO -/
def ms_FAULT_ADDR_LO : Nat := 0x048
/-- R208 FAULT_ADDR_HI -/
def ms_FAULT_ADDR_HI : Nat := 0x04C
/-- R208 FAULT_INFO -/
def ms_FAULT_INFO : Nat := 0x050
/-- R208 FAULT_LEN -/
def ms_FAULT_LEN : Nat := 0x054
/-- R208 DENY_ADDR_LO -/
def ms_DENY_ADDR_LO : Nat := 0x058
/-- R208 DENY_ADDR_HI -/
def ms_DENY_ADDR_HI : Nat := 0x05C
/-- R208 SHADOW_BANK -/
def ms_SHADOW_BANK (i : Nat) : Nat := 0x400 + i * 4
/-- R208 ACTIVE_BANK -/
def ms_ACTIVE_BANK (i : Nat) : Nat := 0x800 + i * 4
/-- R211 TC_STAT -/
def tc_TC_STAT : Nat := 0x040
/-- R211 TFAULT_CNT -/
def tc_TFAULT_CNT : Nat := 0x044
/-- R211 TFAULT_ADDR_LO -/
def tc_TFAULT_ADDR_LO : Nat := 0x048
/-- R211 TFAULT_ADDR_HI -/
def tc_TFAULT_ADDR_HI : Nat := 0x04C
/-- R211 TFAULT_INFO -/
def tc_TFAULT_INFO : Nat := 0x050
/-- R211 DISAGREE_CNT -/
def tc_DISAGREE_CNT : Nat := 0x054
/-- R211 STALE_CNT -/
def tc_STALE_CNT : Nat := 0x058
/-- R211 SHADOW_BANK -/
def tc_SHADOW_BANK (i : Nat) : Nat := 0x400 + i * 4
/-- R211 ACTIVE_BANK -/
def tc_ACTIVE_BANK (i : Nat) : Nat := 0x800 + i * 4
/-- R241 ROLE -/
def pair_ROLE : Nat := 0x040
/-- R241 PASS_STAT -/
def pair_PASS_STAT : Nat := 0x044
/-- R241 PASS_EPOCH -/
def pair_PASS_EPOCH : Nat := 0x048
/-- R241 PAIR_CFG -/
def pair_PAIR_CFG : Nat := 0x04C
/-- R241 PAIR_CMD -/
def pair_PAIR_CMD : Nat := 0x050
/-- R241 ATT_MISS -/
def pair_ATT_MISS : Nat := 0x054
/-- R241 ATT_LOSS_TOTAL -/
def pair_ATT_LOSS_TOTAL : Nat := 0x058
/-- R241 ACK_CYC_LO -/
def pair_ACK_CYC_LO : Nat := 0x05C
/-- R241 ACK_CYC_HI -/
def pair_ACK_CYC_HI : Nat := 0x060
/-- R241 SWO_COUNT -/
def pair_SWO_COUNT : Nat := 0x064
/-- R241 LAST_SWO -/
def pair_LAST_SWO : Nat := 0x068
/-- R241 LAST_SWO_CYC_LO -/
def pair_LAST_SWO_CYC_LO : Nat := 0x06C
/-- R241 LAST_SWO_CYC_HI -/
def pair_LAST_SWO_CYC_HI : Nat := 0x070
/-- R241 LAST_SWO_GAP -/
def pair_LAST_SWO_GAP : Nat := 0x074
/-- R241 LAST_SWO_FREEZE -/
def pair_LAST_SWO_FREEZE : Nat := 0x078
/-- R241 PEER_UID_LO -/
def pair_PEER_UID_LO : Nat := 0x07C
/-- R241 PEER_UID_HI -/
def pair_PEER_UID_HI : Nat := 0x080
/-- R241 PEER_FW -/
def pair_PEER_FW : Nat := 0x084
/-- R241 PEER_ISSUE -/
def pair_PEER_ISSUE : Nat := 0x088
/-- R241 IFn_OWN -/
def pair_IF_OWN (i : Nat) : Nat := 0x0A0 + i * 8
/-- R241 IFn_PAIR -/
def pair_IF_PAIR (i : Nat) : Nat := 0x0A4 + i * 8
/-- R276 LINK_STAT -/
def link_LINK_STAT : Nat := 0x040
/-- R276 LINK_CFG -/
def link_LINK_CFG : Nat := 0x044
/-- R276 LANE_Q0–LANE_Q3 -/
def link_LANE_Q (i : Nat) : Nat := 0x048 + i * 4
/-- R276 DESKEW -/
def link_DESKEW : Nat := 0x058
/-- R276 CRC_ERR -/
def link_CRC_ERR : Nat := 0x05C
/-- R276 CSUM_ERR -/
def link_CSUM_ERR : Nat := 0x060
/-- R276 LEN_ERR -/
def link_LEN_ERR : Nat := 0x064
/-- R276 VER_ERR -/
def link_VER_ERR : Nat := 0x068
/-- R276 NAK_TX -/
def link_NAK_TX : Nat := 0x06C
/-- R276 NAK_RX -/
def link_NAK_RX : Nat := 0x070
/-- R276 RESENT -/
def link_RESENT : Nat := 0x074
/-- R276 LINK_DOWN_CNT -/
def link_LINK_DOWN_CNT : Nat := 0x078
/-- R276 XFER_STAT -/
def link_XFER_STAT : Nat := 0x07C
/-- R276 XFER_ID -/
def link_XFER_ID : Nat := 0x080
/-- R276 XFER_DONE -/
def link_XFER_DONE : Nat := 0x084
/-- R277 PROOF_BUDGET -/
def proof_PROOF_BUDGET : Nat := 0x040
/-- R277 PROOF_STAT -/
def proof_PROOF_STAT : Nat := 0x044
/-- R277 LAST_LINES -/
def proof_LAST_LINES : Nat := 0x048
/-- R277 LAST_BYTES -/
def proof_LAST_BYTES : Nat := 0x04C
/-- R277 PEAK_BYTES -/
def proof_PEAK_BYTES : Nat := 0x050
/-- R277 OVERRUN_CNT -/
def proof_OVERRUN_CNT : Nat := 0x054
/-- R277 LAST_ACK_LAT -/
def proof_LAST_ACK_LAT : Nat := 0x058
/-- R277 MAX_ACK_LAT -/
def proof_MAX_ACK_LAT : Nat := 0x05C
/-- R277 LAST_TAIL -/
def proof_LAST_TAIL : Nat := 0x060
/-- R277 SWEEP_LINES -/
def proof_SWEEP_LINES : Nat := 0x064
/-- R277 SWEEP_POS -/
def proof_SWEEP_POS : Nat := 0x068
/-- R277 SNAP_LINES -/
def proof_SNAP_LINES : Nat := 0x06C
/-- R277 RX_STORE_USED -/
def proof_RX_STORE_USED : Nat := 0x070
/-- R277 APPLY_LAG -/
def proof_APPLY_LAG : Nat := 0x074
/-- R277 DISCARD_CNT -/
def proof_DISCARD_CNT : Nat := 0x078
/-- R314 LE_STATE -/
def le_LE_STATE : Nat := 0x040
/-- R314 LE_CFG -/
def le_LE_CFG : Nat := 0x044
/-- R314 LANE_WINDOW -/
def le_LANE_WINDOW : Nat := 0x048
/-- R314 MF_TCLK -/
def le_MF_TCLK : Nat := 0x04C
/-- R314 SHADOW_LEN -/
def le_SHADOW_LEN : Nat := 0x050
/-- R314 ACTIVE_LEN -/
def le_ACTIVE_LEN : Nat := 0x054
/-- R314 SCHED_CMD -/
def le_SCHED_CMD : Nat := 0x058
/-- R314 SCHED_STAT -/
def le_SCHED_STAT : Nat := 0x05C
/-- R314 SW_CYC_LO -/
def le_SW_CYC_LO : Nat := 0x060
/-- R314 SW_CYC_HI -/
def le_SW_CYC_HI : Nat := 0x064
/-- R314 LOAD -/
def le_LOAD : Nat := 0x068
/-- R314 LOOPS -/
def le_LOOPS : Nat := 0x06C
/-- R314 LANE_CNT_LO -/
def le_LANE_CNT_LO : Nat := 0x070
/-- R314 LANE_CNT_HI -/
def le_LANE_CNT_HI : Nat := 0x074
/-- R314 LANE_LASTING -/
def le_LANE_LASTING : Nat := 0x078
/-- R314 LANE_MISM_TOTAL -/
def le_LANE_MISM_TOTAL : Nat := 0x07C
/-- R314 LAST_LANE_EVT -/
def le_LAST_LANE_EVT : Nat := 0x080
/-- R314 NONFINITE_CNT -/
def le_NONFINITE_CNT : Nat := 0x084
/-- R314 BADMEAS_CNT -/
def le_BADMEAS_CNT : Nat := 0x088
/-- R314 SATFAULT_CNT -/
def le_SATFAULT_CNT : Nat := 0x08C
/-- R314 SLOT_LATE_CNT -/
def le_SLOT_LATE_CNT : Nat := 0x090
/-- R314 MBX_DISCARD -/
def le_MBX_DISCARD : Nat := 0x094
/-- R314 SNAP_LOADED -/
def le_SNAP_LOADED : Nat := 0x098
/-- R314 FRAME_SLIP_CNT -/
def le_FRAME_SLIP_CNT : Nat := 0x09C
/-- R314 DSC_WR_DISCARD -/
def le_DSC_WR_DISCARD : Nat := 0x0A0
/-- R314 FB_COUNT -/
def le_FB_COUNT : Nat := 0x0A4
/-- R314 FB_MAP0–FB_MAP15 -/
def le_FB_MAP (i : Nat) : Nat := 0x0C0 + i * 4
/-- R348 SQ_STAT -/
def sq_SQ_STAT : Nat := 0x040
/-- R348 SQ_CFG -/
def sq_SQ_CFG : Nat := 0x044
/-- R348 MBX_IGNORED -/
def sq_MBX_IGNORED : Nat := 0x048
/-- R348 SPB_WR_DISCARD -/
def sq_SPB_WR_DISCARD : Nat := 0x04C
/-- R348 RCP_REFUSED -/
def sq_RCP_REFUSED : Nat := 0x050
/-- R348 WAIT_TMO_CNT -/
def sq_WAIT_TMO_CNT : Nat := 0x054
/-- R348 REC_OFFERED -/
def sq_REC_OFFERED : Nat := 0x058
/-- R348 PR_CFG -/
def sq_PR_CFG (i : Nat) : Nat := 0x100 + i * 32
/-- R348 PR_THRESH -/
def sq_PR_THRESH (i : Nat) : Nat := 0x104 + i * 32
/-- R348 PR_DECIM -/
def sq_PR_DECIM (i : Nat) : Nat := 0x108 + i * 32
/-- R348 PR_PRE -/
def sq_PR_PRE (i : Nat) : Nat := 0x10C + i * 32
/-- R348 PR_CMD -/
def sq_PR_CMD (i : Nat) : Nat := 0x110 + i * 32
/-- R348 PR_STAT -/
def sq_PR_STAT (i : Nat) : Nat := 0x114 + i * 32
/-- R348 PR_TRIG_SAMPLE -/
def sq_PR_TRIG_SAMPLE (i : Nat) : Nat := 0x118 + i * 32
/-- R348 PR_TRIG_INDEX -/
def sq_PR_TRIG_INDEX (i : Nat) : Nat := 0x11C + i * 32
/-- R382 TB_STAT -/
def tb_TB_STAT : Nat := 0x040
/-- R382 TB_CFG -/
def tb_TB_CFG : Nat := 0x044
/-- R382 TIME_NS -/
def tb_TIME_NS : Nat := 0x048
/-- R382 TIME_SEC_LO -/
def tb_TIME_SEC_LO : Nat := 0x04C
/-- R382 TIME_SEC_HI -/
def tb_TIME_SEC_HI : Nat := 0x050
/-- R382 SET_NS -/
def tb_SET_NS : Nat := 0x054
/-- R382 SET_SEC_LO -/
def tb_SET_SEC_LO : Nat := 0x058
/-- R382 SET_SEC_HI -/
def tb_SET_SEC_HI : Nat := 0x05C
/-- R382 TB_CMD -/
def tb_TB_CMD : Nat := 0x060
/-- R382 UTC_OFFSET -/
def tb_UTC_OFFSET : Nat := 0x064
/-- R382 FREQ_ADJ -/
def tb_FREQ_ADJ : Nat := 0x068
/-- R382 OFFSET -/
def tb_OFFSET : Nat := 0x06C
/-- R382 PATH_DELAY -/
def tb_PATH_DELAY : Nat := 0x070
/-- R382 STEP_THRESH -/
def tb_STEP_THRESH : Nat := 0x074
/-- R382 SLEW_MAX -/
def tb_SLEW_MAX : Nat := 0x078
/-- R382 LOCK_THRESH -/
def tb_LOCK_THRESH : Nat := 0x07C
/-- R382 HOLDOVER_MAX -/
def tb_HOLDOVER_MAX : Nat := 0x080
/-- R382 HOLDOVER_TIME -/
def tb_HOLDOVER_TIME : Nat := 0x084
/-- R382 STEP_CNT -/
def tb_STEP_CNT : Nat := 0x088
/-- R382 PPS_ERR -/
def tb_PPS_ERR : Nat := 0x08C
/-- R383 PTP_CFG -/
def ptp_PTP_CFG : Nat := 0x040
/-- R383 PTP_PRIO -/
def ptp_PTP_PRIO : Nat := 0x044
/-- R383 PTP_INTV -/
def ptp_PTP_INTV : Nat := 0x048
/-- R383 PTP_PORTS -/
def ptp_PTP_PORTS : Nat := 0x04C
/-- R383 GM_ID_LO -/
def ptp_GM_ID_LO : Nat := 0x050
/-- R383 GM_ID_HI -/
def ptp_GM_ID_HI : Nat := 0x054
/-- R383 GM_QUAL -/
def ptp_GM_QUAL : Nat := 0x058
/-- R383 SLAVE_PORT -/
def ptp_SLAVE_PORT : Nat := 0x05C
/-- R383 PSTATE -/
def ptp_PSTATE (i : Nat) : Nat := 0x060 + i * 16
/-- R383 PDELAY -/
def ptp_PDELAY (i : Nat) : Nat := 0x064 + i * 16
/-- R383 ASYM -/
def ptp_ASYM (i : Nat) : Nat := 0x068 + i * 16
/-- R383 PTP_DISCARD -/
def ptp_PTP_DISCARD (i : Nat) : Nat := 0x06C + i * 16
/-- R384 PORT_STAT -/
def port_PORT_STAT : Nat := 0x040
/-- R384 INGRESS_LAT -/
def port_INGRESS_LAT : Nat := 0x044
/-- R384 EGRESS_LAT -/
def port_EGRESS_LAT : Nat := 0x048
/-- R384 LAUNCH_LATE -/
def port_LAUNCH_LATE : Nat := 0x04C
/-- R384 LAUNCH_DISCARD -/
def port_LAUNCH_DISCARD : Nat := 0x050
/-- R384 LEN_DISCARD -/
def port_LEN_DISCARD : Nat := 0x054
/-- R384 LATE_MAX -/
def port_LATE_MAX (i : Nat) : Nat := 0x060 + i * 4
/-- R385 RED_MODE -/
def red_RED_MODE : Nat := 0x040
/-- R385 LIFE_CHECK -/
def red_LIFE_CHECK : Nat := 0x044
/-- R385 DUP_DISCARD -/
def red_DUP_DISCARD : Nat := 0x048
/-- R385 WRONG_LAN_A -/
def red_WRONG_LAN_A : Nat := 0x04C
/-- R385 WRONG_LAN_B -/
def red_WRONG_LAN_B : Nat := 0x050
/-- R385 NODES -/
def red_NODES : Nat := 0x054
/-- R385 NODE_FULL -/
def red_NODE_FULL : Nat := 0x058
/-- R386 SV_CFG -/
def sv_SV_CFG : Nat := 0x040
/-- R386 SV_LOSS_WINDOW -/
def sv_SV_LOSS_WINDOW : Nat := 0x044
/-- R386 SV_LOSS_LIMIT -/
def sv_SV_LOSS_LIMIT : Nat := 0x048
/-- R386 SV_NOMATCH -/
def sv_SV_NOMATCH : Nat := 0x04C
/-- R386 SV_LEN_ERR -/
def sv_SV_LEN_ERR : Nat := 0x050
/-- R386 SV_SIM -/
def sv_SV_SIM : Nat := 0x054
/-- R386 SV_CFG_ERR -/
def sv_SV_CFG_ERR : Nat := 0x058
/-- R386 SV_SMP_ERR -/
def sv_SV_SMP_ERR : Nat := 0x05C
/-- R386 SV_DUP -/
def sv_SV_DUP : Nat := 0x060
/-- R386 SV_LATE -/
def sv_SV_LATE : Nat := 0x064
/-- R386 SV_LOSS_TOTAL -/
def sv_SV_LOSS_TOTAL : Nat := 0x068
/-- R386 GO_ORDER -/
def sv_GO_ORDER : Nat := 0x06C
/-- R386 GO_TAL_EXP -/
def sv_GO_TAL_EXP : Nat := 0x070
/-- R386 ALIGN_DELAY -/
def sv_ALIGN_DELAY (i : Nat) : Nat := 0x080 + i * 4
/-- R386 SV_SSTAT -/
def sv_SV_SSTAT (i : Nat) : Nat := 0x400 + i * 4
/-- R409 LANE_STAT -/
def lane_LANE_STAT : Nat := 0x040
/-- R409 LANE_CFG -/
def lane_LANE_CFG : Nat := 0x044
/-- R409 ETHERTYPE -/
def lane_ETHERTYPE : Nat := 0x048
/-- R409 GROUP_MAC_LO -/
def lane_GROUP_MAC_LO : Nat := 0x04C
/-- R409 GROUP_MAC_HI -/
def lane_GROUP_MAC_HI : Nat := 0x050
/-- R409 TRAIN -/
def lane_TRAIN : Nat := 0x054
/-- R409 TX_FRAMES -/
def lane_TX_FRAMES : Nat := 0x058
/-- R409 RX_FRAMES -/
def lane_RX_FRAMES : Nat := 0x05C
/-- R409 FCS_ERR -/
def lane_FCS_ERR : Nat := 0x060
/-- R409 NOMATCH -/
def lane_NOMATCH : Nat := 0x064
/-- R409 FRAME_ERR -/
def lane_FRAME_ERR : Nat := 0x068
/-- R409 LEN_DISCARD -/
def lane_LEN_DISCARD : Nat := 0x06C
/-- R409 VER_DISCARD -/
def lane_VER_DISCARD : Nat := 0x070
/-- R409 STATE_DISCARD -/
def lane_STATE_DISCARD : Nat := 0x074
/-- R409 LATE_CNT -/
def lane_LATE_CNT : Nat := 0x078
/-- R409 DUP_CNT -/
def lane_DUP_CNT : Nat := 0x07C
/-- R409 GATED -/
def lane_GATED : Nat := 0x080
/-- R409 TX_LOAD -/
def lane_TX_LOAD : Nat := 0x084
/-- R409 LAUNCH_LATE -/
def lane_LAUNCH_LATE : Nat := 0x088
/-- R409 LAUNCH_DISCARD -/
def lane_LAUNCH_DISCARD : Nat := 0x08C
/-- R409 LATE_MAX -/
def lane_LATE_MAX (i : Nat) : Nat := 0x0A0 + i * 4
/-- R410 STN_CMD -/
def stn_STN_CMD : Nat := 0x040
/-- R410 DROP_TOTAL -/
def stn_DROP_TOTAL : Nat := 0x044
/-- R410 JOIN_TOTAL -/
def stn_JOIN_TOTAL : Nat := 0x048
/-- R410 NAK_TOTAL -/
def stn_NAK_TOTAL : Nat := 0x04C
/-- R410 LAST_DROP -/
def stn_LAST_DROP : Nat := 0x050
/-- R410 LAST_NAK -/
def stn_LAST_NAK : Nat := 0x054
/-- R410 STN_STAT -/
def stn_STN_STAT (i : Nat) : Nat := 0x400 + i * 4
/-- R433 PORT_STAT -/
def fport_PORT_STAT : Nat := 0x040
/-- R433 PORT_CFG -/
def fport_PORT_CFG : Nat := 0x044
/-- R433 NBR_UID_LO -/
def fport_NBR_UID_LO : Nat := 0x048
/-- R433 NBR_UID_HI -/
def fport_NBR_UID_HI : Nat := 0x04C
/-- R433 TRAIN -/
def fport_TRAIN : Nat := 0x050
/-- R433 TX_FRAMES -/
def fport_TX_FRAMES : Nat := 0x054
/-- R433 RX_FRAMES -/
def fport_RX_FRAMES : Nat := 0x058
/-- R433 CRC_ERR -/
def fport_CRC_ERR : Nat := 0x05C
/-- R433 LEN_DISCARD -/
def fport_LEN_DISCARD : Nat := 0x060
/-- R433 QDROP0–QDROP3 -/
def fport_QDROP (i : Nat) : Nat := 0x064 + i * 4
/-- R434 FAB_STAT -/
def fab_FAB_STAT : Nat := 0x040
/-- R434 FAB_CFG -/
def fab_FAB_CFG : Nat := 0x044
/-- R434 FAB_CMD -/
def fab_FAB_CMD : Nat := 0x048
/-- R434 ROLL_NO -/
def fab_ROLL_NO : Nat := 0x04C
/-- R434 KEEPER_UID_LO -/
def fab_KEEPER_UID_LO : Nat := 0x050
/-- R434 KEEPER_UID_HI -/
def fab_KEEPER_UID_HI : Nat := 0x054
/-- R434 NODES -/
def fab_NODES : Nat := 0x058
/-- R434 BOOK_KEEP -/
def fab_BOOK_KEEP : Nat := 0x05C
/-- R434 LAST_SPF -/
def fab_LAST_SPF : Nat := 0x060
/-- R434 ROUTE_CHG -/
def fab_ROUTE_CHG : Nat := 0x064
/-- R434 NOROUTE -/
def fab_NOROUTE : Nat := 0x068
/-- R434 HOP_DISCARD -/
def fab_HOP_DISCARD : Nat := 0x06C
/-- R434 VER_DISCARD -/
def fab_VER_DISCARD : Nat := 0x070
/-- R434 GV_STALE -/
def fab_GV_STALE : Nat := 0x074
/-- R434 GV_TMO -/
def fab_GV_TMO : Nat := 0x078
/-- R434 ROUTE_SEL -/
def fab_ROUTE_SEL : Nat := 0x07C
/-- R434 ROUTE -/
def fab_ROUTE (i : Nat) : Nat := 0x400 + i * 4
/-- R456 CAN_STAT -/
def can_CAN_STAT : Nat := 0x040
/-- R456 CAN_CFG -/
def can_CAN_CFG : Nat := 0x044
/-- R456 NBT -/
def can_NBT : Nat := 0x048
/-- R456 DBT -/
def can_DBT : Nat := 0x04C
/-- R456 TDC_CFG -/
def can_TDC_CFG : Nat := 0x050
/-- R456 TDCV -/
def can_TDCV : Nat := 0x054
/-- R456 ECR -/
def can_ECR : Nat := 0x058
/-- R456 BO_WINDOW -/
def can_BO_WINDOW : Nat := 0x05C
/-- R456 CAN_CMD -/
def can_CAN_CMD : Nat := 0x060
/-- R456 TX_ID -/
def can_TX_ID : Nat := 0x064
/-- R456 TX_CTRL -/
def can_TX_CTRL : Nat := 0x068
/-- R456 TX_PUSH -/
def can_TX_PUSH : Nat := 0x06C
/-- R456 TX_RESULT -/
def can_TX_RESULT : Nat := 0x070
/-- R456 TX_POP -/
def can_TX_POP : Nat := 0x074
/-- R456 TX_DONE -/
def can_TX_DONE : Nat := 0x078
/-- R456 TX_LOST -/
def can_TX_LOST : Nat := 0x07C
/-- R456 TX_ERR -/
def can_TX_ERR : Nat := 0x080
/-- R456 TX_REFUSED -/
def can_TX_REFUSED : Nat := 0x084
/-- R456 RX_FRAMES -/
def can_RX_FRAMES : Nat := 0x088
/-- R456 BUS_OFF_CNT -/
def can_BUS_OFF_CNT : Nat := 0x08C
/-- R456 CLASH_CNT -/
def can_CLASH_CNT : Nat := 0x090
/-- R456 TX_DATA0–15 -/
def can_TX_DATA (i : Nat) : Nat := 0x100 + i * 4
/-- R456 RXB_BIND -/
def can_RXB_BIND (i : Nat) : Nat := 0x400 + i * 4
/-- R460 RX_BANK -/
def canrx_RX_BANK : Nat := 0x040
/-- R460 FIFO_POP -/
def canrx_FIFO_POP : Nat := 0x044
/-- R460 FIFO_STAT -/
def canrx_FIFO_STAT : Nat := 0x048
/-- R460 ND0–ND3 -/
def canrx_ND (i : Nat) : Nat := 0x050 + i * 4
/-- R460 FIFO0_OVF -/
def canrx_FIFO0_OVF : Nat := 0x060
/-- R460 FIFO1_OVF -/
def canrx_FIFO1_OVF : Nat := 0x064
/-- R460 BUF_OVERWRITE -/
def canrx_BUF_OVERWRITE : Nat := 0x068
/-- R460 RXB_WIN -/
def canrx_RXB_WIN (i : Nat) : Nat := 0x400 + i * 4
/-- R460 FIFO0_HEAD -/
def canrx_FIFO0_HEAD (i : Nat) : Nat := 0xE00 + i * 4
/-- R460 FIFO1_HEAD -/
def canrx_FIFO1_HEAD (i : Nat) : Nat := 0xE80 + i * 4
/-- R482 FS_STAT -/
def dio_FS_STAT : Nat := 0x040
/-- R482 GROUP_STAT -/
def dio_GROUP_STAT : Nat := 0x044
/-- R482 RETRY_MS -/
def dio_RETRY_MS : Nat := 0x048
/-- R482 TP_PERIOD -/
def dio_TP_PERIOD : Nat := 0x04C
/-- R482 CAUSE_EN -/
def dio_CAUSE_EN : Nat := 0x050
/-- R482 DIO_IN -/
def dio_DIO_IN : Nat := 0x054
/-- R482 DIO_RB -/
def dio_DIO_RB : Nat := 0x058
/-- R482 RETRY_CMD -/
def dio_RETRY_CMD : Nat := 0x05C
/-- R482 FS_STAT1 -/
def dio_FS_STAT1 : Nat := 0x060
/-- R482 DIO_CFG -/
def dio_DIO_CFG (i : Nat) : Nat := 0x080 + i * 4
/-- R482 DIO_DIAG -/
def dio_DIO_DIAG (i : Nat) : Nat := 0x0C0 + i * 4
/-- R482 DIO_CUR -/
def dio_DIO_CUR (i : Nat) : Nat := 0x100 + i * 4
/-- R484 AIO_CFG -/
def aio_AIO_CFG : Nat := 0x040
/-- R484 ALARM_LO -/
def aio_ALARM_LO : Nat := 0x044
/-- R484 ALARM_HI -/
def aio_ALARM_HI : Nat := 0x048
/-- R484 AIO_CMD -/
def aio_AIO_CMD : Nat := 0x04C
/-- R484 AIO_MEAS -/
def aio_AIO_MEAS : Nat := 0x050
/-- R484 TERM_V -/
def aio_TERM_V : Nat := 0x054
/-- R484 HEADROOM -/
def aio_HEADROOM : Nat := 0x058
/-- R484 LOOP_R -/
def aio_LOOP_R : Nat := 0x05C
/-- R484 AIO_DIAG -/
def aio_AIO_DIAG : Nat := 0x060
/-- R484 HART_STAT -/
def aio_HART_STAT : Nat := 0x080
/-- R484 HART_CMD -/
def aio_HART_CMD : Nat := 0x084
/-- R484 HART_POLL_LEN -/
def aio_HART_POLL_LEN : Nat := 0x088
/-- R484 HART_ERR -/
def aio_HART_ERR : Nat := 0x08C
/-- R484 HART_POLL -/
def aio_HART_POLL (i : Nat) : Nat := 0x0C0 + i * 4
/-- R484 HART_REQ -/
def aio_HART_REQ (i : Nat) : Nat := 0x100 + i * 4
/-- R484 HART_RSP -/
def aio_HART_RSP (i : Nat) : Nat := 0x200 + i * 4
/-- R485 RFX_CFG -/
def rfx_RFX_CFG : Nat := 0x040
/-- R485 RFX_BAD -/
def rfx_RFX_BAD : Nat := 0x044
/-- R485 RFX_ACT_LO -/
def rfx_RFX_ACT_LO : Nat := 0x048
/-- R485 RFX_ACT_HI -/
def rfx_RFX_ACT_HI : Nat := 0x04C
/-- R485 RFX_CLR_LO -/
def rfx_RFX_CLR_LO : Nat := 0x050
/-- R485 RFX_CLR_HI -/
def rfx_RFX_CLR_HI : Nat := 0x054
/-- R485 RFX_ARM -/
def rfx_RFX_ARM : Nat := 0x058
/-- R485 RFX_IN_LO -/
def rfx_RFX_IN_LO : Nat := 0x05C
/-- R485 RFX_IN_HI -/
def rfx_RFX_IN_HI : Nat := 0x060
/-- R485 RFX_FIRED -/
def rfx_RFX_FIRED : Nat := 0x064
/-- R485 CMP -/
def rfx_CMP (i : Nat) : Nat := 0x080 + i * 16
/-- R485 RULE -/
def rfx_RULE (i : Nat) : Nat := 0x800 + i * 32
/-- R514 SAFE_STAT -/
def safe_SAFE_STAT : Nat := 0x040
/-- R514 SAFE_CFG -/
def safe_SAFE_CFG : Nat := 0x044
/-- R514 SWD_TIME -/
def safe_SWD_TIME : Nat := 0x048
/-- R514 RST_WIN -/
def safe_RST_WIN : Nat := 0x04C
/-- R514 ACK_HANDLE -/
def safe_ACK_HANDLE : Nat := 0x050
/-- R514 SAFE_CMD -/
def safe_SAFE_CMD : Nat := 0x054
/-- R514 SAFE_CRC -/
def safe_SAFE_CRC : Nat := 0x058
/-- R514 RST_OK -/
def safe_RST_OK : Nat := 0x05C
/-- R514 RST_REFUSED -/
def safe_RST_REFUSED : Nat := 0x060
/-- R514 RST_IGNORED -/
def safe_RST_IGNORED : Nat := 0x064
/-- R514 LOCKOUT_CNT -/
def safe_LOCKOUT_CNT : Nat := 0x068
/-- R514 SI_CFG -/
def safe_SI_CFG (i : Nat) : Nat := 0x080 + i * 4
/-- R514 SI_STAT -/
def safe_SI_STAT (i : Nat) : Nat := 0x0A0 + i * 4
/-- R514 SO_CFG -/
def safe_SO_CFG (i : Nat) : Nat := 0x0C0 + i * 4
/-- R514 SO_STAT -/
def safe_SO_STAT (i : Nat) : Nat := 0x0E0 + i * 4
/-- R514 SO_PST_LO -/
def safe_SO_PST_LO (i : Nat) : Nat := 0x100 + i * 8
/-- R514 SO_PST_HI -/
def safe_SO_PST_HI (i : Nat) : Nat := 0x104 + i * 8
/-- R515 PST_CFG -/
def pst_PST_CFG : Nat := 0x040
/-- R515 PST_ETYPE -/
def pst_PST_ETYPE : Nat := 0x044
/-- R515 PAIR_WIN -/
def pst_PAIR_WIN : Nat := 0x048
/-- R515 DEG_MAX -/
def pst_DEG_MAX : Nat := 0x04C
/-- R515 MISMATCH_CNT -/
def pst_MISMATCH_CNT : Nat := 0x050
/-- R515 PAIR_MISS -/
def pst_PAIR_MISS : Nat := 0x054
/-- R515 SCRC_ERR -/
def pst_SCRC_ERR : Nat := 0x058
/-- R515 STALE_CNT -/
def pst_STALE_CNT : Nat := 0x05C
/-- R515 SRC_ERR -/
def pst_SRC_ERR : Nat := 0x060
/-- R515 LEN_DISCARD -/
def pst_LEN_DISCARD : Nat := 0x064
/-- R515 TRIP_CNT -/
def pst_TRIP_CNT : Nat := 0x068
/-- R515 CONN_STAT -/
def pst_CONN_STAT (i : Nat) : Nat := 0x400 + i * 4
/-- R540 JRN_STAT -/
def jrn_JRN_STAT : Nat := 0x040
/-- R540 JRN_CFG -/
def jrn_JRN_CFG : Nat := 0x044
/-- R540 JRN_CMD -/
def jrn_JRN_CMD : Nat := 0x048
/-- R540 JRN_HEAD -/
def jrn_JRN_HEAD : Nat := 0x04C
/-- R540 JRN_SEQ -/
def jrn_JRN_SEQ : Nat := 0x050
/-- R540 JRN_LOST -/
def jrn_JRN_LOST : Nat := 0x054
/-- R540 JRN_SUPP -/
def jrn_JRN_SUPP : Nat := 0x058
/-- R540 JRN_DROP_FULL -/
def jrn_JRN_DROP_FULL : Nat := 0x05C
/-- R540 CLEAR_CNT -/
def jrn_CLEAR_CNT : Nat := 0x060
/-- R540 BAD_REC -/
def jrn_BAD_REC : Nat := 0x064
/-- R541 REC_STAT -/
def rec_REC_STAT : Nat := 0x040
/-- R541 REC_CFG -/
def rec_REC_CFG : Nat := 0x044
/-- R541 REC_CMD -/
def rec_REC_CMD : Nat := 0x048
/-- R541 PRE_RECS -/
def rec_PRE_RECS : Nat := 0x04C
/-- R541 POST_TMAX -/
def rec_POST_TMAX : Nat := 0x050
/-- R541 HOLDOFF -/
def rec_HOLDOFF : Nat := 0x054
/-- R541 REFRESH_T -/
def rec_REFRESH_T : Nat := 0x058
/-- R541 TRIG_DIO -/
def rec_TRIG_DIO : Nat := 0x05C
/-- R541 TRIG_CMP -/
def rec_TRIG_CMP : Nat := 0x060
/-- R541 TRIG_OTHER -/
def rec_TRIG_OTHER : Nat := 0x064
/-- R541 PROG_HANDLE -/
def rec_PROG_HANDLE : Nat := 0x068
/-- R541 RATE -/
def rec_RATE : Nat := 0x06C
/-- R541 PEAK_RATE -/
def rec_PEAK_RATE : Nat := 0x070
/-- R541 SHED -/
def rec_SHED : Nat := 0x074
/-- R541 TRIG_IGN -/
def rec_TRIG_IGN : Nat := 0x078
/-- R541 CAPTURES -/
def rec_CAPTURES : Nat := 0x07C
/-- R541 REC_CYC_LO -/
def rec_REC_CYC_LO : Nat := 0x080
/-- R541 REC_CYC_HI -/
def rec_REC_CYC_HI : Nat := 0x084
/-- R541 LAST_TRIG_SRC -/
def rec_LAST_TRIG_SRC : Nat := 0x088
/-- R541 LAST_TRIG_NS -/
def rec_LAST_TRIG_NS : Nat := 0x08C
/-- R541 LAST_TRIG_SEC_LO -/
def rec_LAST_TRIG_SEC_LO : Nat := 0x090
/-- R541 LAST_TRIG_SEC_HI -/
def rec_LAST_TRIG_SEC_HI : Nat := 0x094
/-- R541 EXP_CMD -/
def rec_EXP_CMD : Nat := 0x0A0
/-- R541 EXP_STAT -/
def rec_EXP_STAT : Nat := 0x0A4
/-- R541 SEG_STAT -/
def rec_SEG_STAT (i : Nat) : Nat := 0x100 + i * 8
/-- R541 SEG_RECS_USED -/
def rec_SEG_RECS_USED (i : Nat) : Nat := 0x104 + i * 8
/-- R556 SEC_STAT -/
def sec_SEC_STAT : Nat := 0x040
/-- R556 LAST_FAIL -/
def sec_LAST_FAIL : Nat := 0x044
/-- R556 FUSE_CNT1–FUSE_CNT4 -/
def sec_FUSE_CNT (i : Nat) : Nat := 0x048 + i * 4
/-- R556 SVN_CMD -/
def sec_SVN_CMD : Nat := 0x058
/-- R556 ATT_CMD -/
def sec_ATT_CMD : Nat := 0x05C
/-- R556 ATT_STAT -/
def sec_ATT_STAT : Nat := 0x060
/-- R556 NONCE0–NONCE7 -/
def sec_NONCE (i : Nat) : Nat := 0x064 + i * 4
/-- R556 VERIFY_FAIL -/
def sec_VERIFY_FAIL : Nat := 0x084
/-- R556 TLS_FAIL -/
def sec_TLS_FAIL : Nat := 0x088
/-- R556 SESSIONS -/
def sec_SESSIONS : Nat := 0x08C
/-- R556 ATT_REPORT -/
def sec_ATT_REPORT (i : Nat) : Nat := 0x400 + i * 4
/-- R556 IK_PUB -/
def sec_IK_PUB (i : Nat) : Nat := 0x800 + i * 4
/-- R557 BANK_STAT -/
def fw_BANK_STAT : Nat := 0x040
/-- R557 FW_CMD -/
def fw_FW_CMD : Nat := 0x044
/-- R557 GEN_A -/
def fw_GEN_A : Nat := 0x048
/-- R557 GEN_B -/
def fw_GEN_B : Nat := 0x04C
/-- R557 BOOT_WDG -/
def fw_BOOT_WDG : Nat := 0x050
/-- R557 LOAD_BYTES -/
def fw_LOAD_BYTES : Nat := 0x054
/-- R557 FB_CNT -/
def fw_FB_CNT : Nat := 0x058
/-- R580 PWR_STAT -/
def pwr_PWR_STAT : Nat := 0x040
/-- R580 FEED_A -/
def pwr_FEED_A : Nat := 0x044
/-- R580 FEED_B -/
def pwr_FEED_B : Nat := 0x048
/-- R580 DOM_STAT -/
def pwr_DOM_STAT : Nat := 0x04C
/-- R580 PWR_IN -/
def pwr_PWR_IN : Nat := 0x050
/-- R580 PFAIL_CNT -/
def pwr_PFAIL_CNT : Nat := 0x054
/-- R580 SAG_CNT -/
def pwr_SAG_CNT : Nat := 0x058
/-- R580 SAVE_GRACE -/
def pwr_SAVE_GRACE : Nat := 0x05C
/-- R580 RETAIN_CFG -/
def pwr_RETAIN_CFG : Nat := 0x060
/-- R580 LAST_SAVE -/
def pwr_LAST_SAVE : Nat := 0x064
/-- R580 LAST_SAVE_CYC_LO -/
def pwr_LAST_SAVE_CYC_LO : Nat := 0x068
/-- R580 LAST_SAVE_CYC_HI -/
def pwr_LAST_SAVE_CYC_HI : Nat := 0x06C
/-- R581 HU_STAT -/
def hu_HU_STAT : Nat := 0x040
/-- R581 HU_VOLT -/
def hu_HU_VOLT : Nat := 0x044
/-- R581 HU_CAP -/
def hu_HU_CAP : Nat := 0x048
/-- R581 HU_ESR -/
def hu_HU_ESR : Nat := 0x04C
/-- R581 HU_TEST_PERIOD -/
def hu_HU_TEST_PERIOD : Nat := 0x050
/-- R581 HU_TEST_AGE -/
def hu_HU_TEST_AGE : Nat := 0x054
/-- R581 HU_CMD -/
def hu_HU_CMD : Nat := 0x058
/-- R581 HU_TEST_CNT -/
def hu_HU_TEST_CNT : Nat := 0x05C
/-- R582 CLK_STAT -/
def clk_CLK_STAT : Nat := 0x040
/-- R582 RESET_CAUSE -/
def clk_RESET_CAUSE : Nat := 0x044
/-- R582 RESET_CNT -/
def clk_RESET_CNT : Nat := 0x048
/-- R582 RST_CMD -/
def clk_RST_CMD : Nat := 0x04C
/-- R582 STARTUP_TIME -/
def clk_STARTUP_TIME : Nat := 0x050
/-- R582 STARTUP_STEP -/
def clk_STARTUP_STEP : Nat := 0x054
/-- R583 SURR_STAT -/
def surr_SURR_STAT : Nat := 0x040
/-- R583 SURR_CFG -/
def surr_SURR_CFG : Nat := 0x044
/-- R583 DIO_LOAD -/
def surr_DIO_LOAD : Nat := 0x048
/-- R583 MISMATCH_MAP -/
def surr_MISMATCH_MAP : Nat := 0x04C
/-- R583 ETH_CABLE -/
def surr_ETH_CABLE (i : Nat) : Nat := 0x050 + i * 4
/-- R583 FEED_START -/
def surr_FEED_START : Nat := 0x060
/-- R584 ID -/
def com_ID : Nat := 0x000
/-- R584 CAPS -/
def com_CAPS : Nat := 0x004
/-- R584 CTRL -/
def com_CTRL : Nat := 0x008
/-- R584 STAT -/
def com_STAT : Nat := 0x00C
/-- R584 INT_RAW -/
def com_INT_RAW : Nat := 0x010
/-- R584 INT_EN -/
def com_INT_EN : Nat := 0x014
/-- R584 INT_OUT -/
def com_INT_OUT : Nat := 0x018
/-- R584 INT_SET -/
def com_INT_SET : Nat := 0x01C
/-- R584 QUOIN -/
def com_QUOIN : Nat := 0x020
/-- R584 ERRCNT -/
def com_ERRCNT : Nat := 0x024
/-- R584 SCRATCH -/
def com_SCRATCH : Nat := 0x028
/-- R595 INT_SUM0–INT_SUM9 -/
def sys_INT_SUM (i : Nat) : Nat := 0x040 + i * 4
/-- R595 SYS_CMD -/
def sys_SYS_CMD : Nat := 0x068
/-- R595 ERR_SUM0–ERR_SUM9 -/
def sys_ERR_SUM (i : Nat) : Nat := 0x080 + i * 4
/-- R596 UID_LO -/
def col_UID_LO : Nat := 0x040
/-- R596 UID_HI -/
def col_UID_HI : Nat := 0x044
/-- R596 HW_ISSUE -/
def col_HW_ISSUE : Nat := 0x048
/-- R596 FW_VERSION -/
def col_FW_VERSION : Nat := 0x04C
/-- R596 ORDER_CODE -/
def col_ORDER_CODE : Nat := 0x050
/-- R596 MFG_DATE -/
def col_MFG_DATE : Nat := 0x054
/-- R596 PAGE_COUNT -/
def col_PAGE_COUNT : Nat := 0x058
/-- Further registers of the DRAM and NAND pages (R187). -/
def dr_DRAM_TEMP : Nat := 0x080
/-- R187. -/
def dr_REFRESH_MODE : Nat := 0x084
/-- R187. -/
def dr_REC_RING_SIZE : Nat := 0x088
/-- R187. -/
def nd_BAD_BLOCKS : Nat := 0x080
/-- R187. -/
def nd_RESERVE_FREE : Nat := 0x084
/-- R187. -/
def nd_READ_RETRY : Nat := 0x088

end Reg

/-! ### Pages (R594) -/

/-- The kinds of page of R594. -/
inductive PageTy where
  | sys | colophon | cluster | unit | region | msCl | msDma | target | pctrl | bell | pair | link | proof
  | le | sq | tb | ptp | port | svc | red | sv | lane | stn | fport | fab | can | canFilter | canRx
  | dio | aio | rfx | safe | pst | jrn | recd | sec | fw | pwr | hu | clk | surr
  | dram | mram | nand | iodMem | cdMem
  deriving DecidableEq, Repr

namespace Page

/-- Page index (page address − 0x00_2000_0000) / 0x1000 of each page (R594, R595). -/
def sys : Nat := 0x00
def colophon : Nat := 0x01
def cluster (n : Nat) : Nat := 0x10 + n
def frame (n : Nat) : Nat := 0x20 + n
def region (g : Nat) : Nat := 0x30 + g
def msDma (g : Nat) : Nat := 0x38 + g
def msCl (n : Nat) : Nat := 0x40 + n
def target (t : Nat) : Nat := 0x50 + t
def pctrl : Nat := 0x5F
def bell : Nat := 0x60
def pair : Nat := 0x70
def link : Nat := 0x71
def proof : Nat := 0x72
def le (e : Nat) : Nat := 0x80 + e
def sq (e : Nat) : Nat := 0x82 + e
def tb : Nat := 0x90
def ptp : Nat := 0x91
def port (i : Nat) : Nat := 0xA0 + i
def red (i : Nat) : Nat := 0xA5 + i
def sv : Nat := 0xA7
def lane (i : Nat) : Nat := 0xB0 + i
def stn : Nat := 0xB2
def fport (i : Nat) : Nat := 0xC0 + i
def fab : Nat := 0xC4
def can (i : Nat) : Nat := 0xD0 + 4 * i
def canFilter (i : Nat) : Nat := 0xD1 + 4 * i
def canRx (i : Nat) : Nat := 0xD2 + 4 * i
def dio : Nat := 0xE0
def aio (i : Nat) : Nat := 0xE1 + i
def rfx : Nat := 0xE5
def safe : Nat := 0xF0
def pst : Nat := 0xF1
def jrn : Nat := 0x100
def recd : Nat := 0x101
def sec : Nat := 0x110
def fw : Nat := 0x111
def pwr : Nat := 0x120
def hu : Nat := 0x121
def clk : Nat := 0x122
def surr : Nat := 0x123
def mem (i : Nat) : Nat := 0x130 + i
/-- The page of unit u behind its frame (R153), outside the numbering of R595. -/
def unit (u : Nat) : Nat := 0x400 + u

end Page

/-- The kind of the page with an index, none where R594 holds no page; 0x400 + u names the page of unit u. -/
def pageTy (p : Nat) : Option PageTy :=
  if p = 0 then some .sys
  else if p = 1 then some .colophon
  else if p < 0x10 then none
  else if p < 0x20 then some .cluster
  else if p < 0x30 then some .unit
  else if p < 0x38 then some .region
  else if p < 0x40 then some .msDma
  else if p < 0x50 then some .msCl
  else if p < 0x5F then some .target
  else if p = 0x5F then some .pctrl
  else if p = 0x60 then some .bell
  else if p = 0x70 then some .pair
  else if p = 0x71 then some .link
  else if p = 0x72 then some .proof
  else if p = 0x80 ∨ p = 0x81 then some .le
  else if p = 0x82 ∨ p = 0x83 then some .sq
  else if p = 0x90 then some .tb
  else if p = 0x91 then some .ptp
  else if 0xA0 ≤ p ∧ p ≤ 0xA3 then some .port
  else if p = 0xA4 then some .svc
  else if p = 0xA5 ∨ p = 0xA6 then some .red
  else if p = 0xA7 then some .sv
  else if p = 0xB0 ∨ p = 0xB1 then some .lane
  else if p = 0xB2 then some .stn
  else if 0xC0 ≤ p ∧ p ≤ 0xC3 then some .fport
  else if p = 0xC4 then some .fab
  else if 0xD0 ≤ p ∧ p ≤ 0xDF then
    (if p % 4 = 0 then some .can else if p % 4 = 1 then some .canFilter else if p % 4 = 2 then some .canRx else none)
  else if p = 0xE0 then some .dio
  else if 0xE1 ≤ p ∧ p ≤ 0xE4 then some .aio
  else if p = 0xE5 then some .rfx
  else if p = 0xF0 then some .safe
  else if p = 0xF1 then some .pst
  else if p = 0x100 then some .jrn
  else if p = 0x101 then some .recd
  else if p = 0x110 then some .sec
  else if p = 0x111 then some .fw
  else if p = 0x120 then some .pwr
  else if p = 0x121 then some .hu
  else if p = 0x122 then some .clk
  else if p = 0x123 then some .surr
  else if p = 0x130 then some .dram
  else if p = 0x131 then some .mram
  else if p = 0x132 then some .nand
  else if p = 0x133 then some .iodMem
  else if p = 0x134 ∨ p = 0x135 then some .cdMem
  else if 0x400 ≤ p ∧ p < 0x430 then some .unit
  else none

/-- TYPE of R594. -/
def PageTy.code : PageTy → Nat
  | .sys => 0x01 | .colophon => 0x02 | .cluster => 0x10 | .unit => 0x11 | .region => 0x18 | .msCl => 0x20 | .msDma => 0x21
  | .target => 0x28 | .pctrl => 0x29 | .bell => 0x30 | .pair => 0x38 | .link => 0x39 | .proof => 0x3A | .le => 0x40
  | .sq => 0x41 | .tb => 0x48 | .ptp => 0x49 | .port => 0x50 | .svc => 0x50 | .red => 0x52 | .sv => 0x53 | .lane => 0x58 | .stn => 0x59
  | .fport => 0x60 | .fab => 0x61 | .can => 0x68 | .canFilter => 0x69 | .canRx => 0x6A | .dio => 0x70 | .aio => 0x71
  | .rfx => 0x72 | .safe => 0x78 | .pst => 0x79 | .jrn => 0x80 | .recd => 0x81 | .sec => 0x88 | .fw => 0x89
  | .pwr => 0x90 | .hu => 0x91 | .clk => 0x92 | .surr => 0x93
  | .dram => 0x98 | .mram => 0x98 | .nand => 0x98 | .iodMem => 0x98 | .cdMem => 0x98

/-- The instance that ID [15:8] of a page holds: the number of its block (R14, R15, R585, R594). -/
def pageInst (p : Nat) : Nat :=
  match pageTy p with
  | none => 0
  | some .cluster => p - 0x10
  | some .unit => if p < 0x400 then p - 0x20 else p - 0x400
  | some .region => p - 0x30
  | some .msDma => p - 0x38
  | some .msCl => p - 0x40
  | some .target => p - 0x50
  | some .le => p - 0x80
  | some .sq => p - 0x82
  | some .ptp => 1
  | some .port => p - 0xA0
  | some .svc => p - 0xA0
  | some .red => p - 0xA0
  | some .sv => 7
  | some .lane => p - 0xB0
  | some .stn => 2
  | some .fport => p - 0xC0
  | some .fab => 4
  | some .can => (p - 0xD0) / 4
  | some .canFilter => (p - 0xD0) / 4
  | some .canRx => (p - 0xD0) / 4
  | some .aio => p - 0xE1
  | some .pst => 1
  | some .recd => 1
  | some .fw => 1
  | some .hu => 1
  | some .clk => 2
  | some .surr => 3
  | some .dram => 0
  | some .mram => 1
  | some .nand => 2
  | some .iodMem => 3
  | some .cdMem => p - 0x130
  | some _ => 0

/-- INT_RAW bits that a page implements: CAPS [15:0] (R586), from the chapters' lists. -/
def PageTy.intMask : PageTy → Nat
  | .sys => 0 | .colophon => 0 | .cluster => 0x7F | .unit => 0 | .region => 0x7F | .msCl => 1 | .msDma => 1 | .target => 7
  | .pctrl => 0xF | .bell => 0 | .pair => 0x7F | .link => 0x1F | .proof => 0x3F | .le => 0x7F | .sq => 0x1F | .tb => 0xF
  | .ptp => 3 | .port => 1 | .svc => 1 | .red => 1 | .sv => 7 | .lane => 1 | .stn => 0xF | .fport => 3 | .fab => 0x1F | .can => 0xFF
  | .canFilter => 0 | .canRx => 0 | .dio => 7 | .aio => 3 | .rfx => 3 | .safe => 0x1F | .pst => 7 | .jrn => 0xF
  | .recd => 0x1F | .sec => 7 | .fw => 3 | .pwr => 7 | .hu => 7 | .clk => 0 | .surr => 1
  | .dram => 0x7F | .mram => 0x7F | .nand => 0x7F | .iodMem => 0x7F | .cdMem => 0x7F

/-! ### Fields (R7, R8) -/

/-- Access codes of R7 that a stored field can have. -/
inductive Acc where
  | rw | rwl | w1c
  deriving DecidableEq, Repr

/-- The values that a field's table does not mark reserved (R8). -/
inductive Legal where
  | any
  | range (lo hi : Nat)
  /-- 0, or a value in the range. -/
  | zeroOr (lo hi : Nat)
  | atMost (hi : Nat)
  | noneOf (bad : List Nat)
  /-- A multiple of m in the range. -/
  | multiple (m lo hi : Nat)
  /-- In the range and dividing n. -/
  | divides (lo hi n : Nat)
  /-- A signed field of w bits within the bounds. -/
  | signed (w : Nat) (lo hi : Int)
  /-- A value with bit i set. -/
  | bitSet (i : Nat)
  deriving DecidableEq, Repr

/-- Whether a value is legal. -/
def Legal.ok (l : Legal) (v : Nat) : Bool :=
  match l with
  | .any => true
  | .range lo hi => decide (lo ≤ v ∧ v ≤ hi)
  | .zeroOr lo hi => decide (v = 0 ∨ (lo ≤ v ∧ v ≤ hi))
  | .atMost hi => decide (v ≤ hi)
  | .noneOf bad => !bad.contains v
  | .multiple m lo hi => decide (v % m = 0 ∧ lo ≤ v ∧ v ≤ hi)
  | .divides lo hi n => decide (lo ≤ v ∧ v ≤ hi ∧ n % v = 0)
  | .signed w lo hi =>
    let x : Int := if v ≥ 2 ^ (w - 1) then (v : Int) - 2 ^ w else v
    decide (lo ≤ x ∧ x ≤ hi)
  | .bitSet i => v.testBit i

/-- A field of a register: position, width, access code and legal values. -/
structure Fld where
  lo : Nat
  w : Nat
  acc : Acc
  legal : Legal := .any
  deriving DecidableEq, Repr

/-- A register with storage: offset, stride and count of its instances, reset value and fields that a write can change. A register with no field here is RO. -/
structure RegDesc where
  off : Nat
  stride : Nat := 4
  count : Nat := 1
  reset : Word := 0
  flds : List Fld := []
  /-- The write needs P0 or P1. -/
  p01 : Bool := false
  deriving DecidableEq, Repr

/-- A field of every bit. -/
def Fld.whole (acc : Acc) (legal : Legal := .any) : List Fld := [{ lo := 0, w := 32, acc := acc, legal := legal }]

/-- Registers with storage that a write can change, and RO registers whose reset value is not 0, by page (the register tables of the chapters). -/
def regDescs : PageTy → List RegDesc
  | .cluster => [
    { off := Reg.cl_CL_CFG, reset := 0x323, flds := [⟨0, 4, .rwl, .range 2 8⟩, ⟨4, 3, .rwl, .range 1 3⟩, ⟨8, 1, .rwl, .any⟩, ⟨9, 1, .rwl, .any⟩] },
    { off := Reg.cl_MISM_WINDOW, reset := 0x258, flds := Fld.whole .rwl (.range 1 86400) }]
  | .region => [
    { off := Reg.com_CTRL, reset := 1, flds := [⟨0, 1, .rwl, .any⟩] },
    { off := Reg.rg_SCRUB_PERIOD, reset := 0xA, flds := Fld.whole .rwl (.range 1 86400) },
    { off := Reg.rg_CORR_WINDOW, reset := 0x15180, flds := Fld.whole .rwl (.range 3600 604800) },
    { off := Reg.rg_CORR_LIMIT, reset := 2, flds := [⟨0, 4, .rwl, .range 2 8⟩] },
    { off := Reg.rg_TRK_BASE 0, stride := 8, count := 4, flds := [⟨0, 1, .rwl, .any⟩, ⟨6, 18, .rwl, .atMost 0x2FFFF⟩] },
    { off := Reg.rg_TRK_LIMIT 0, stride := 8, count := 4, flds := [⟨6, 18, .rwl, .any⟩] }]
  | .bell => [
    { off := Reg.com_CTRL, flds := [⟨0, 1, .rwl, .any⟩, ⟨2, 2, .rwl, .atMost 1⟩] },
    { off := Reg.bell_MIN_CYCLE, flds := Fld.whole .rwl (.zeroOr 100 10000000) },
    { off := Reg.bell_WDG_TIME, reset := 0x2710, flds := Fld.whole .rwl (.range 1000 10000000) },
    { off := Reg.bell_ERR_BUDGET, reset := 0x3E8, flds := Fld.whole .rwl (.range 10 100000) },
    { off := Reg.bell_ACK_TMO, reset := 0x3C, flds := Fld.whole .rwl (.range 10 1000) },
    { off := Reg.bell_HOLD_LIMIT, reset := 0x3C, flds := Fld.whole .rw (.range 1 3600) },
    { off := Reg.bell_HOLD_EN, flds := [⟨0, 1, .rw, .any⟩] },
    { off := Reg.bell_OLC_GAP_MAX, reset := 0x2710, flds := Fld.whole .rwl (.range 100 1000000) },
    { off := Reg.bell_FORCE_SEL, flds := [⟨0, 10, .rw, .any⟩] },
    { off := Reg.bell_FORCE_HANDLE, flds := [⟨0, 16, .rw, .any⟩] },
    { off := Reg.bell_FORCE_VALUE, flds := Fld.whole .rw },
    { off := Reg.bell_FORCE_ATTR, flds := [⟨0, 1, .rw, .any⟩, ⟨1, 1, .rw, .any⟩, ⟨2, 2, .rw, .atMost 2⟩] },
    { off := Reg.bell_FORCE_IDENT, flds := Fld.whole .rw },
    { off := Reg.bell_OLC_TARGET_LO, flds := Fld.whole .rw },
    { off := Reg.bell_OLC_TARGET_HI, flds := [⟨0, 16, .rw, .any⟩] }]
  | .pair => [
    { off := Reg.pair_PAIR_CFG, reset := 9, flds := [⟨0, 1, .rwl, .any⟩, ⟨1, 1, .rwl, .any⟩, ⟨3, 1, .rwl, .any⟩] }]
  | .link => [
    { off := Reg.link_LINK_CFG, reset := 1, flds := [⟨0, 1, .rwl, .any⟩] }]
  | .proof => [
    { off := Reg.proof_PROOF_BUDGET, reset := 0x800000, flds := Fld.whole .rwl (.multiple 64 0x10000 0xA00000) },
    { off := Reg.proof_SWEEP_LINES, reset := 0x4000, flds := Fld.whole .rwl (.range 1024 262144) }]
  | .le => [
    { off := Reg.le_LE_CFG, reset := 0x30, flds := [⟨0, 1, .rwl, .any⟩, ⟨4, 4, .rwl, .range 2 8⟩] },
    { off := Reg.le_LANE_WINDOW, reset := 0x258, flds := Fld.whole .rwl (.range 1 86400) },
    { off := Reg.le_MF_TCLK, reset := 0x30D4, flds := Fld.whole .rwl },
    { off := Reg.le_SHADOW_LEN, flds := [⟨0, 14, .rw, .atMost 8192⟩] },
    { off := Reg.le_SW_CYC_LO, flds := Fld.whole .rw },
    { off := Reg.le_SW_CYC_HI, flds := [⟨0, 16, .rw, .any⟩] }]
  | .sq => [
    { off := Reg.sq_SQ_CFG, reset := 3, flds := [⟨0, 1, .rwl, .any⟩, ⟨1, 1, .rwl, .any⟩] },
    { off := Reg.sq_PR_CFG 0, stride := 32, count := 16, flds := [⟨0, 9, .rw, .any⟩, ⟨12, 4, .rw, .atMost 8⟩, ⟨16, 4, .rw, .any⟩, ⟨20, 3, .rw, .atMost 6⟩, ⟨23, 4, .rw, .any⟩, ⟨27, 1, .rw, .any⟩, ⟨28, 1, .rw, .any⟩] },
    { off := Reg.sq_PR_THRESH 0, stride := 32, count := 16, flds := Fld.whole .rw },
    { off := Reg.sq_PR_DECIM 0, stride := 32, count := 16, flds := [⟨0, 12, .rw, .any⟩] },
    { off := Reg.sq_PR_PRE 0, stride := 32, count := 16, flds := [⟨0, 11, .rw, .any⟩] }]
  | .tb => [
    { off := Reg.tb_TB_CFG, reset := 4, flds := [⟨0, 1, .rwl, .any⟩, ⟨1, 1, .rwl, .any⟩, ⟨2, 1, .rwl, .any⟩] },
    { off := Reg.tb_SET_NS, flds := Fld.whole .rw (.atMost 999999999) },
    { off := Reg.tb_SET_SEC_LO, flds := Fld.whole .rw },
    { off := Reg.tb_SET_SEC_HI, flds := Fld.whole .rw },
    { off := Reg.tb_UTC_OFFSET, reset := 0x25, flds := [⟨0, 16, .rw, .any⟩] },
    { off := Reg.tb_STEP_THRESH, reset := 0x2710, flds := Fld.whole .rwl (.range 1000 1000000000) },
    { off := Reg.tb_SLEW_MAX, reset := 0x1F4, flds := Fld.whole .rwl (.range 10 5000) },
    { off := Reg.tb_LOCK_THRESH, reset := 0xFA, flds := Fld.whole .rwl (.range 20 100000) },
    { off := Reg.tb_HOLDOVER_MAX, reset := 0x3C, flds := Fld.whole .rwl (.range 1 86400) }]
  | .ptp => [
    { off := Reg.ptp_PTP_CFG, flds := [⟨0, 2, .rwl, .atMost 2⟩, ⟨2, 1, .rwl, .any⟩, ⟨3, 1, .rwl, .any⟩, ⟨4, 1, .rwl, .any⟩, ⟨8, 8, .rwl, .atMost 127⟩] },
    { off := Reg.ptp_PTP_PRIO, reset := 0x8080, flds := [⟨0, 8, .rwl, .any⟩, ⟨8, 8, .rwl, .any⟩] },
    { off := Reg.ptp_PTP_INTV, reset := 0x3010, flds := [⟨0, 4, .rwl, .signed 4 (-4) 1⟩, ⟨4, 4, .rwl, .signed 4 0 3⟩, ⟨8, 4, .rwl, .signed 4 (-4) 5⟩, ⟨12, 4, .rwl, .range 2 10⟩] },
    { off := Reg.ptp_PTP_PORTS, reset := 1, flds := [⟨0, 4, .rwl, .any⟩] },
    { off := Reg.ptp_PSTATE 0, stride := 16, count := 4, reset := 1 },
    { off := Reg.ptp_ASYM 0, stride := 16, count := 4, flds := Fld.whole .rwl }]
  | .port => [
    { off := Reg.port_INGRESS_LAT, flds := Fld.whole .rwl (.atMost 65534) },
    { off := Reg.port_EGRESS_LAT, flds := Fld.whole .rwl (.atMost 65534) },
    { off := Reg.port_LATE_MAX 0, count := 8, reset := 0xA, flds := Fld.whole .rwl (.atMost 1000) }]
  -- on the SVC page the offsets 0x044 to 0x060 are reserved (R384)
  | .svc => [{ off := Reg.port_LATE_MAX 1, count := 7, reset := 0xA, flds := Fld.whole .rwl (.atMost 1000) }]
  | .red => [
    { off := Reg.red_RED_MODE, flds := [⟨0, 2, .rwl, .atMost 2⟩] },
    { off := Reg.red_LIFE_CHECK, reset := 2, flds := Fld.whole .rwl (.range 1 10) }]
  | .sv => [
    { off := Reg.sv_SV_CFG, flds := [⟨0, 1, .rwl, .any⟩, ⟨16, 16, .rwl, .any⟩] },
    { off := Reg.sv_SV_LOSS_WINDOW, reset := 0x258, flds := Fld.whole .rwl (.range 1 86400) },
    { off := Reg.sv_SV_LOSS_LIMIT, reset := 3, flds := [⟨0, 4, .rwl, .range 2 8⟩] },
    { off := Reg.sv_ALIGN_DELAY 0, count := 16, reset := 0xFA, flds := Fld.whole .rwl (.range 20 2000) }]
  | .lane => [
    { off := Reg.lane_LANE_CFG, reset := 0x301, flds := [⟨0, 1, .rwl, .any⟩, ⟨8, 8, .rwl, .range 1 254⟩] },
    { off := Reg.lane_ETHERTYPE, reset := 0x88B6, flds := [⟨0, 16, .rwl, .range 0x600 0xFFFF⟩] },
    { off := Reg.lane_GROUP_MAC_LO, reset := 0xB480, flds := Fld.whole .rwl },
    { off := Reg.lane_GROUP_MAC_HI, reset := 0x300, flds := [⟨0, 16, .rwl, .bitSet 8⟩] },
    { off := Reg.lane_LATE_MAX 0, count := 8, reset := 0xA, flds := Fld.whole .rwl (.atMost 1000) }]
  | .fport => [
    { off := Reg.fport_PORT_CFG, reset := 0x101, flds := [⟨0, 1, .rwl, .any⟩, ⟨8, 8, .rwl, .range 1 255⟩] }]
  | .fab => [
    { off := Reg.fab_FAB_CFG, reset := 0x2001, flds := [⟨0, 1, .rwl, .any⟩, ⟨8, 6, .rwl, .range 1 63⟩, ⟨16, 16, .rwl, .atMost 0x400⟩] },
    { off := Reg.fab_BOOK_KEEP, reset := 0x2D0, flds := Fld.whole .rwl (.range 1 8760) },
    { off := Reg.fab_ROUTE_SEL, flds := [⟨0, 2, .rw, .any⟩] }]
  | .can => [
    { off := Reg.can_CAN_CFG, reset := 0x304, flds := [⟨0, 1, .rwl, .any⟩, ⟨1, 1, .rwl, .any⟩, ⟨2, 1, .rwl, .any⟩, ⟨3, 1, .rwl, .any⟩, ⟨4, 1, .rwl, .any⟩, ⟨8, 4, .rwl, .range 2 8⟩] },
    { off := Reg.can_NBT, reset := 0x14144F, flds := [⟨0, 8, .rwl, .range 1 255⟩, ⟨8, 7, .rwl, .range 1 127⟩, ⟨16, 7, .rwl, .range 1 127⟩, ⟨24, 5, .rwl, .any⟩] },
    { off := Reg.can_DBT, reset := 0x50513, flds := [⟨0, 5, .rwl, .range 1 31⟩, ⟨8, 4, .rwl, .range 1 15⟩, ⟨16, 4, .rwl, .range 1 15⟩, ⟨24, 5, .rwl, .any⟩] },
    { off := Reg.can_TDC_CFG, reset := 0x1401, flds := [⟨0, 1, .rwl, .any⟩, ⟨8, 7, .rwl, .any⟩] },
    { off := Reg.can_BO_WINDOW, reset := 0x258, flds := Fld.whole .rwl (.range 1 86400) },
    { off := Reg.can_TX_ID, flds := [⟨0, 29, .rw, .any⟩, ⟨29, 1, .rw, .any⟩] },
    { off := Reg.can_TX_CTRL, flds := [⟨0, 4, .rw, .any⟩, ⟨4, 1, .rw, .any⟩, ⟨5, 1, .rw, .any⟩, ⟨8, 8, .rw, .any⟩] },
    { off := Reg.can_TX_DATA 0, count := 16, flds := Fld.whole .rw },
    { off := Reg.can_RXB_BIND 0, count := 128, flds := [⟨0, 16, .rwl, .any⟩, ⟨16, 5, .rwl, .atMost 16⟩, ⟨24, 8, .rwl, .any⟩] }]
  | .canFilter => [
    { off := 0x040, flds := [⟨0, 9, .rwl, .atMost 256⟩] },
    { off := 0x400, count := 768, flds := Fld.whole .rwl }]
  | .canRx => [
    { off := Reg.canrx_RX_BANK, flds := [⟨0, 2, .rw, .any⟩] },
    { off := Reg.canrx_ND 0, count := 4, flds := Fld.whole .w1c }]
  | .dio => [
    { off := Reg.dio_RETRY_MS, reset := 0x3E8, flds := Fld.whole .rwl (.range 100 60000) },
    { off := Reg.dio_TP_PERIOD, reset := 0x3C, flds := Fld.whole .rwl (.range 1 3600) },
    { off := Reg.dio_CAUSE_EN, flds := [⟨0, 16, .rwl, .any⟩] },
    { off := Reg.dio_DIO_CFG 0, count := 16, reset := 0x806420, flds := [⟨0, 2, .rwl, .any⟩, ⟨2, 1, .rwl, .any⟩, ⟨4, 4, .rwl, .any⟩, ⟨8, 10, .rwl, .divides 5 1000 100000⟩, ⟨18, 1, .rwl, .any⟩, ⟨19, 1, .rwl, .any⟩, ⟨20, 8, .rwl, .range 5 50⟩] },
    { off := Reg.dio_DIO_DIAG 0, count := 16, flds := [⟨8, 8, .w1c, .any⟩] }]
  | .aio => [
    { off := Reg.aio_AIO_CFG, flds := [⟨0, 3, .rwl, .atMost 3⟩, ⟨4, 1, .rwl, .any⟩, ⟨5, 1, .rwl, .any⟩, ⟨6, 1, .rwl, .any⟩, ⟨7, 1, .rwl, .any⟩, ⟨8, 1, .rwl, .any⟩] },
    { off := Reg.aio_ALARM_LO, reset := 0xDAC, flds := Fld.whole .rwl (.atMost 3600) },
    { off := Reg.aio_ALARM_HI, reset := 0x53FC, flds := Fld.whole .rwl (.range 21000 24000) },
    { off := Reg.aio_AIO_DIAG, flds := [⟨8, 8, .w1c, .any⟩] },
    { off := Reg.aio_HART_POLL_LEN, flds := [⟨0, 4, .rwl, .any⟩] },
    { off := Reg.aio_HART_POLL 0, count := 15, flds := [⟨0, 6, .rwl, .any⟩, ⟨16, 16, .rwl, .any⟩] },
    { off := Reg.aio_HART_REQ 0, count := 64, flds := Fld.whole .rw }]
  | .rfx => [
    { off := Reg.rfx_RFX_CFG, flds := [⟨0, 1, .rwl, .any⟩] },
    { off := Reg.rfx_RFX_ARM, flds := [⟨0, 8, .rw, .any⟩], p01 := true },
    { off := Reg.rfx_CMP 0, stride := 16, count := 32, flds := [⟨0, 10, .rwl, .any⟩, ⟨12, 1, .rwl, .any⟩, ⟨13, 1, .rwl, .any⟩, ⟨16, 3, .rwl, .any⟩, ⟨31, 1, .rwl, .any⟩] },
    { off := Reg.rfx_CMP 0 + 4, stride := 16, count := 32, flds := Fld.whole .rwl },
    { off := Reg.rfx_CMP 0 + 8, stride := 16, count := 32, flds := Fld.whole .rwl },
    { off := Reg.rfx_RULE 0, stride := 32, count := 64, flds := Fld.whole .rwl },
    { off := Reg.rfx_RULE 0 + 4, stride := 32, count := 64, flds := Fld.whole .rwl },
    { off := Reg.rfx_RULE 0 + 8, stride := 32, count := 64, flds := Fld.whole .rwl },
    { off := Reg.rfx_RULE 0 + 12, stride := 32, count := 64, flds := Fld.whole .rwl },
    { off := Reg.rfx_RULE 0 + 16, stride := 32, count := 64, flds := [⟨0, 16, .rwl, .any⟩, ⟨16, 4, .rwl, .any⟩] },
    { off := Reg.rfx_RULE 0 + 20, stride := 32, count := 64, flds := [⟨0, 2, .rwl, .atMost 2⟩, ⟨2, 2, .rwl, .atMost 2⟩, ⟨8, 1, .rwl, .any⟩, ⟨9, 1, .rwl, .any⟩, ⟨31, 1, .rwl, .any⟩] }]
  | .safe => [
    { off := Reg.safe_SAFE_CFG, flds := [⟨0, 1, .rwl, .any⟩] },
    { off := Reg.safe_SWD_TIME, reset := 0xC350, flds := Fld.whole .rwl (.range 2000 1000000) },
    { off := Reg.safe_RST_WIN, reset := 0xA, flds := Fld.whole .rwl (.range 1 60) },
    { off := Reg.safe_ACK_HANDLE, flds := [⟨0, 16, .rwl, .any⟩, ⟨31, 1, .rwl, .any⟩] },
    { off := Reg.safe_SI_CFG 0, count := 8, reset := 0x640000, flds := [⟨0, 1, .rwl, .any⟩, ⟨1, 1, .rwl, .any⟩, ⟨2, 1, .rwl, .any⟩, ⟨4, 4, .rwl, .any⟩, ⟨8, 4, .rwl, .any⟩, ⟨16, 13, .rwl, .range 10 5000⟩] },
    { off := Reg.safe_SI_STAT 0, count := 8, reset := 2 },
    { off := Reg.safe_SO_CFG 0, count := 8, reset := 0x10000, flds := [⟨0, 4, .rwl, .any⟩, ⟨8, 8, .rwl, .any⟩, ⟨16, 1, .rwl, .any⟩, ⟨31, 1, .rwl, .any⟩] },
    { off := Reg.safe_SO_PST_LO 0, stride := 8, count := 8, flds := Fld.whole .rwl },
    { off := Reg.safe_SO_PST_HI 0, stride := 8, count := 8, flds := Fld.whole .rwl }]
  | .pst => [
    { off := Reg.pst_PST_CFG, flds := [⟨0, 2, .rwl, .any⟩] },
    { off := Reg.pst_PST_ETYPE, reset := 0x88B5, flds := [⟨0, 16, .rwl, .range 0x600 0xFFFF⟩] },
    { off := Reg.pst_PAIR_WIN, reset := 0x7D0, flds := Fld.whole .rwl (.range 500 20000) },
    { off := Reg.pst_DEG_MAX, reset := 0xE10, flds := Fld.whole .rwl (.range 1 86400) }]
  | .jrn => [
    { off := Reg.jrn_JRN_CFG, reset := 0xA, flds := [⟨0, 8, .rwl, .range 1 254⟩] }]
  | .recd => [
    { off := Reg.rec_REC_CFG, reset := 0x702, flds := [⟨0, 1, .rwl, .any⟩, ⟨1, 1, .rwl, .any⟩, ⟨2, 1, .rwl, .any⟩, ⟨3, 1, .rwl, .any⟩, ⟨8, 6, .rwl, .any⟩] },
    { off := Reg.rec_PRE_RECS, reset := 0x1000000, flds := Fld.whole .rwl },
    { off := Reg.rec_POST_TMAX, reset := 0x7D0, flds := Fld.whole .rwl (.range 1 3600000) },
    { off := Reg.rec_HOLDOFF, reset := 0x1388, flds := Fld.whole .rwl (.atMost 3600000) },
    { off := Reg.rec_REFRESH_T, reset := 0x64, flds := Fld.whole .rwl (.range 1 10000) },
    { off := Reg.rec_TRIG_DIO, flds := Fld.whole .rwl },
    { off := Reg.rec_TRIG_CMP, flds := Fld.whole .rwl },
    { off := Reg.rec_TRIG_OTHER, flds := [⟨0, 4, .rwl, .any⟩, ⟨4, 4, .rwl, .any⟩, ⟨8, 1, .rwl, .any⟩, ⟨9, 1, .rwl, .any⟩] },
    { off := Reg.rec_PROG_HANDLE, flds := [⟨0, 16, .rwl, .any⟩, ⟨31, 1, .rwl, .any⟩] }]
  | .sec => [
    { off := Reg.sec_NONCE 0, count := 8, flds := Fld.whole .rw }]
  | .fw => [
    { off := Reg.fw_BOOT_WDG, reset := 0x78, flds := Fld.whole .rwl (.range 10 3600) }]
  | .pwr => [
    { off := Reg.pwr_DOM_STAT, reset := 1 },
    { off := Reg.pwr_SAVE_GRACE, reset := 0x7D0, flds := Fld.whole .rwl (.atMost 5000) },
    { off := Reg.pwr_RETAIN_CFG, flds := [⟨0, 1, .rwl, .any⟩] }]
  | .hu => [
    { off := Reg.hu_HU_TEST_PERIOD, reset := 0x18, flds := Fld.whole .rwl (.range 1 168) }]
  | .clk => [
    { off := Reg.clk_STARTUP_STEP, reset := 1 }]
  | .surr => [
    { off := Reg.surr_SURR_CFG, flds := [⟨0, 1, .rwl, .any⟩] }]
  | .dram => [
    { off := Reg.com_CTRL, reset := 1, flds := [⟨0, 1, .rwl, .any⟩] },
    { off := Reg.rg_SCRUB_PERIOD, reset := 0x15180, flds := Fld.whole .rwl (.range 3600 604800) },
    { off := Reg.rg_CORR_WINDOW, reset := 0x15180, flds := Fld.whole .rwl (.range 3600 604800) },
    { off := Reg.rg_CORR_LIMIT, reset := 2, flds := [⟨0, 4, .rwl, .range 2 8⟩] },
    { off := 0x088, reset := 0x20, flds := [⟨0, 6, .rwl, .range 1 32⟩] }]
  | .mram => [
    { off := Reg.com_CTRL, reset := 1, flds := [⟨0, 1, .rwl, .any⟩] },
    { off := Reg.rg_SCRUB_PERIOD, reset := 0x15180, flds := Fld.whole .rwl (.range 3600 604800) },
    { off := Reg.rg_CORR_WINDOW, reset := 0x15180, flds := Fld.whole .rwl (.range 3600 604800) },
    { off := Reg.rg_CORR_LIMIT, reset := 2, flds := [⟨0, 4, .rwl, .range 2 8⟩] }]
  | .nand => [
    { off := Reg.com_CTRL, reset := 1, flds := [⟨0, 1, .rwl, .any⟩] },
    { off := Reg.rg_SCRUB_PERIOD, reset := 0x278D00, flds := Fld.whole .rwl (.range 86400 31536000) },
    { off := 0x084, reset := 0x1000 }]
  | .iodMem => [
    { off := Reg.com_CTRL, reset := 1, flds := [⟨0, 1, .rwl, .any⟩] },
    { off := Reg.rg_CORR_WINDOW, reset := 0x15180, flds := Fld.whole .rwl (.range 3600 604800) },
    { off := Reg.rg_CORR_LIMIT, reset := 2, flds := [⟨0, 4, .rwl, .range 2 8⟩] }]
  | .cdMem => [
    { off := Reg.com_CTRL, reset := 1, flds := [⟨0, 1, .rwl, .any⟩] },
    { off := Reg.rg_CORR_WINDOW, reset := 0x15180, flds := Fld.whole .rwl (.range 3600 604800) },
    { off := Reg.rg_CORR_LIMIT, reset := 2, flds := [⟨0, 4, .rwl, .range 2 8⟩] }]
  | .unit => []
  | .sys => [] | .colophon => [] | .msCl => [] | .msDma => [] | .target => [] | .pctrl => [] | .stn => []

/-- Whether an offset is an instance of a descriptor. -/
def RegDesc.hits (d : RegDesc) (off : Nat) : Bool :=
  decide (d.off ≤ off ∧ (off - d.off) % d.stride = 0 ∧ (off - d.off) / d.stride < d.count)

/-- The descriptor of an offset of a page, if it holds a register with storage that a write can change. -/
def regDesc (p off : Nat) : Option RegDesc :=
  match pageTy p with
  | none => none
  | some t => (regDescs t).find? (·.hits off)

/-- Whether the page holds RWL fields: CAPS [16] (R586). -/
def PageTy.hasRwl (t : PageTy) : Bool := (regDescs t).any (fun d => d.flds.any (fun f => f.acc == .rwl))

/-- The reset value of the register with key page × 0x1000 + offset (R593). -/
def regReset (k : Nat) : Word :=
  match regDesc (k / 0x1000) (k % 0x1000) with
  | some d => d.reset
  | none => 0#32

end Sys2Proof.Machine
end

