-- ==== Sys2Proof/Syntax.lean ====
section
/-! DEFINITION. The commands of the module: one constructor per row of spec/opcode_table.json, with the operands that the row's rule gives it. -/

namespace Sys2Proof

open Sys2Proof.Machine

/-- A command. The instructions of chapter 3 carry the issuing cluster `n` and the fields of their format (R97). -/
inductive Instr where
  /-- R559. The input bus has been at or above 19.2 V for 100 ms without a break, and the module resets with cause power-on and begins start-up. -/
  | powerOn (boot : Boot)
  /-- R565. The supply returns after a save sequence while AON is still powered, and the module resets with cause 0x2. -/
  | supplyReturn (boot : Boot)
  /-- R561. A domain does not report power good within 20 ms, which is a start-up failure. -/
  | powerGoodTimeout (d : Fin 14)
  /-- R219. After the capability exchange, the module becomes standby, claims the pass or waits for a partner. -/
  | roleDecision (peer : BitVec 2)
  /-- R220. The 2 µs claim window ends, and a side-A claim with peer lines deasserted stands. -/
  | claimWindowExpiry
  /-- R218. Own and peer lines all read asserted, and the later claimant withdraws to STANDBY_UNSYNC. -/
  | passConflict (tie : Bool) (later : Bool)
  /-- R218. A pass conflict lasts 10 µs and CONFLICT is set in both modules. -/
  | conflictTimeout
  /-- R216. Own or peer lines disagree for 10 µs, causing a module failure or setting LINE_FAULT. -/
  | lineDisagreement (own : BitVec 2) (peer : BitVec 2)
  /-- R215. The pass gate has been true for 125 TCLK and the field drivers and safety outputs are enabled. -/
  | driveEnable (own : BitVec 2) (peer : BitVec 2)
  /-- R215. The pass gate becomes false and drivers are disabled within 2 PCLK. -/
  | passGateFalse (own : BitVec 2) (peer : BitVec 2)
  /-- R223. Both peer lines read deasserted, and a synchronised standby claims the pass. -/
  | peerPassLost
  /-- R221. Every 10 µs the module sends an attendance frame when its liveness strobe has toggled. -/
  | attendSend (tx : AttendTx)
  /-- R221. 50 µs pass without a valid attendance frame and the module declares attendance lost. -/
  | attendanceLost
  /-- R222. 40 µs pass without an attendance transmission and the pass keeper deasserts both own lines. -/
  | passKeeperExpiry
  /-- R214. A module failure deasserts both own lines, sends a resign notice and takes the FAILED role. -/
  | moduleFailure (cause : Nat)
  /-- R29. A die temperature reaches 105 °C and a warning is set and journalled. -/
  | dieTempWarning (d : Fin 3)
  /-- R29. A die has been at or above 118 °C for 10 ms, a self-declared module failure. -/
  | dieOvertempFailure (d : Fin 3)
  /-- R29. A die reaches 125 °C and hardware switches off its power domains. -/
  | diePowerCutoff (d : Fin 3)
  /-- R33. The root PLL loses lock and the monitor releases the pass and disables drivers within 1 µs. -/
  | pllLossOfLock
  /-- R563. A divided clock count is off nominal by more than 0.5 % in a 10 µs window, a module failure. -/
  | clockFault (k : Fin 6)
  /-- R52. A cycle starts: error causes are sampled, bell time captured, clock gates open and the input epoch flips. -/
  | bell
  /-- R93. At tick 10 after the bell the cores start at cyvec with reset registers. -/
  | coreStart
  /-- R54. All participants of a barrier have arrived and resume together 24 CCLK after the last arrival. -/
  | barrierRelease (b : Fin 8)
  /-- R179. The proof engine takes a dirty line, clears its bit and sends it in a PROOF_DATA frame. -/
  | proofTake (line : Nat)
  /-- R180. All clusters have completed and no line is dirty, so the proof end of the cycle is sent. -/
  | proofEndDecision
  /-- R57. The cycle commits: outputs become visible in the forme, forces apply and outputs, posts and mailbox puts are released. -/
  | formeFlip
  /-- R59. ACK_TMO passes without an acknowledgement and the active declares the partner lost and flips alone. -/
  | ackTimeout
  /-- R63. A cluster has not completed its Error partition at ERR_BUDGET, an overrun. -/
  | errBudgetOverrun
  /-- R70. The watchdog expires, the cycle is abandoned, the module enters Stop and a stop marker goes to the partner. -/
  | cycleWatchdogExpiry
  /-- R65. Mode command that takes the module from Stop to Run at the next Stop-schedule bell. -/
  | run (priv : Priv)
  /-- R65. Mode command that makes the next cycle the final cycle with the Stop partition, or abandons a held cycle. -/
  | stop (priv : Priv)
  /-- R69. Mode command that restarts all held clusters in the same CCLK and resumes the paused timers. -/
  | resume (priv : Priv)
  /-- R69. HOLD_LIMIT expires, the held cycle is abandoned and the module enters Stop. -/
  | holdLimitExpiry
  /-- R68. A write of HOLD_EN takes effect only while the other Hold conditions hold. -/
  | holdEn (v : Bool)
  /-- R72. Writes the addressed force table entry, refusing a duplicate handle and direction. -/
  | forceWrite
  /-- R74. Releases the addressed force entry from the next bell or forme flip. -/
  | forceRelease
  /-- R74. Releases every force entry. -/
  | forceReleaseAll
  /-- R78. An online-change package is submitted and staged, or refused while another change runs. -/
  | olcSubmit (pkg : OlcPkg) (digestOk : Bool)
  /-- R79. Arms the staged online change for switch cycle k_s and requests the standby's confirmation. -/
  | olcArm
  /-- R78. Cancels an online change in progress. -/
  | olcCancel
  /-- R80. The migration map finishes and bell k_s rings with the new program. -/
  | migrationComplete (partner : Bool)
  /-- R80. Migration has not finished within OLC_GAP_MAX and both modules cancel with GAP_EXCEEDED. -/
  | olcGapExpiry
  /-- R85. Clears MAX_EXEC of the bell controller. -/
  | clrMax
  /-- R100. Adds two registers modulo 2^32, setting VI on signed overflow. -/
  | add (n : Fin 16) (d : BitVec 5) (a : BitVec 5) (b : BitVec 5)
  /-- R100. Subtracts two registers, setting VI on signed overflow. -/
  | sub (n : Fin 16) (d : BitVec 5) (a : BitVec 5) (b : BitVec 5)
  /-- R99. Bitwise and of two registers. -/
  | and (n : Fin 16) (d : BitVec 5) (a : BitVec 5) (b : BitVec 5)
  /-- R99. Bitwise or of two registers. -/
  | or (n : Fin 16) (d : BitVec 5) (a : BitVec 5) (b : BitVec 5)
  /-- R99. Bitwise exclusive or of two registers. -/
  | xor (n : Fin 16) (d : BitVec 5) (a : BitVec 5) (b : BitVec 5)
  /-- R99. Shifts left by gb[4:0]. -/
  | shl (n : Fin 16) (d : BitVec 5) (a : BitVec 5) (b : BitVec 5)
  /-- R99. Logical shift right by gb[4:0]. -/
  | shr (n : Fin 16) (d : BitVec 5) (a : BitVec 5) (b : BitVec 5)
  /-- R99. Arithmetic shift right by gb[4:0]. -/
  | sar (n : Fin 16) (d : BitVec 5) (a : BitVec 5) (b : BitVec 5)
  /-- R99. Sets gd to 1 when ga is below gb signed. -/
  | slt (n : Fin 16) (d : BitVec 5) (a : BitVec 5) (b : BitVec 5)
  /-- R99. Sets gd to 1 when ga is below gb unsigned. -/
  | sltu (n : Fin 16) (d : BitVec 5) (a : BitVec 5) (b : BitVec 5)
  /-- R100. Low 32 bits of the product, setting VI on signed overflow. -/
  | mul (n : Fin 16) (d : BitVec 5) (a : BitVec 5) (b : BitVec 5)
  /-- R99. High 32 bits of the signed product. -/
  | mulh (n : Fin 16) (d : BitVec 5) (a : BitVec 5) (b : BitVec 5)
  /-- R99. High 32 bits of the unsigned product. -/
  | mulhu (n : Fin 16) (d : BitVec 5) (a : BitVec 5) (b : BitVec 5)
  /-- R100. Signed quotient truncated toward zero, raising DIVZ for a zero divisor. -/
  | div (n : Fin 16) (d : BitVec 5) (a : BitVec 5) (b : BitVec 5)
  /-- R100. Unsigned quotient, raising DIVZ for a zero divisor. -/
  | divu (n : Fin 16) (d : BitVec 5) (a : BitVec 5) (b : BitVec 5)
  /-- R100. Signed remainder with the sign of ga, raising DIVZ for a zero divisor. -/
  | mod (n : Fin 16) (d : BitVec 5) (a : BitVec 5) (b : BitVec 5)
  /-- R100. Unsigned remainder, raising DIVZ for a zero divisor. -/
  | modu (n : Fin 16) (d : BitVec 5) (a : BitVec 5) (b : BitVec 5)
  /-- R99. Sign-extends ga[7:0]. -/
  | sexb (n : Fin 16) (d : BitVec 5) (a : BitVec 5) (b : BitVec 5)
  /-- R99. Sign-extends ga[15:0]. -/
  | sexh (n : Fin 16) (d : BitVec 5) (a : BitVec 5) (b : BitVec 5)
  /-- R99. Shifts left by the immediate count. -/
  | shli (n : Fin 16) (d : BitVec 5) (a : BitVec 5) (b : BitVec 5)
  /-- R99. Logical shift right by the immediate count. -/
  | shri (n : Fin 16) (d : BitVec 5) (a : BitVec 5) (b : BitVec 5)
  /-- R99. Arithmetic shift right by the immediate count. -/
  | sari (n : Fin 16) (d : BitVec 5) (a : BitVec 5) (b : BitVec 5)
  /-- R100. Adds the sign-extended immediate, setting VI on signed overflow. -/
  | addi (n : Fin 16) (d : BitVec 5) (a : BitVec 5) (imm : BitVec 16)
  /-- R99. Bitwise and with the zero-extended immediate. -/
  | andi (n : Fin 16) (d : BitVec 5) (a : BitVec 5) (imm : BitVec 16)
  /-- R99. Bitwise or with the zero-extended immediate. -/
  | ori (n : Fin 16) (d : BitVec 5) (a : BitVec 5) (imm : BitVec 16)
  /-- R99. Bitwise exclusive or with the zero-extended immediate. -/
  | xori (n : Fin 16) (d : BitVec 5) (a : BitVec 5) (imm : BitVec 16)
  /-- R99. Signed compare with the sign-extended immediate. -/
  | slti (n : Fin 16) (d : BitVec 5) (a : BitVec 5) (imm : BitVec 16)
  /-- R99. Unsigned compare with the sign-extended immediate. -/
  | sltiu (n : Fin 16) (d : BitVec 5) (a : BitVec 5) (imm : BitVec 16)
  /-- R99. Loads the immediate times 65,536. -/
  | lui (n : Fin 16) (d : BitVec 5) (a : BitVec 5) (imm : BitVec 16)
  /-- R100. 64-bit pair add, setting VI on signed overflow. -/
  | addl (n : Fin 16) (d : BitVec 5) (a : BitVec 5) (b : BitVec 5)
  /-- R100. 64-bit pair subtract, setting VI on signed overflow. -/
  | subl (n : Fin 16) (d : BitVec 5) (a : BitVec 5) (b : BitVec 5)
  /-- R100. Low 64 bits of the pair product. -/
  | mull (n : Fin 16) (d : BitVec 5) (a : BitVec 5) (b : BitVec 5)
  /-- R100. Signed 64-bit quotient, raising DIVZ for a zero divisor. -/
  | divl (n : Fin 16) (d : BitVec 5) (a : BitVec 5) (b : BitVec 5)
  /-- R100. Unsigned 64-bit quotient, raising DIVZ for a zero divisor. -/
  | divlu (n : Fin 16) (d : BitVec 5) (a : BitVec 5) (b : BitVec 5)
  /-- R100. Signed 64-bit remainder, raising DIVZ for a zero divisor. -/
  | modl (n : Fin 16) (d : BitVec 5) (a : BitVec 5) (b : BitVec 5)
  /-- R100. Unsigned 64-bit remainder, raising DIVZ for a zero divisor. -/
  | modlu (n : Fin 16) (d : BitVec 5) (a : BitVec 5) (b : BitVec 5)
  /-- R99. 64-bit shift left by gb[5:0]. -/
  | shll (n : Fin 16) (d : BitVec 5) (a : BitVec 5) (b : BitVec 5)
  /-- R99. 64-bit logical shift right. -/
  | shrl (n : Fin 16) (d : BitVec 5) (a : BitVec 5) (b : BitVec 5)
  /-- R99. 64-bit arithmetic shift right. -/
  | sarl (n : Fin 16) (d : BitVec 5) (a : BitVec 5) (b : BitVec 5)
  /-- R99. 64-bit signed compare into a pair. -/
  | sltl (n : Fin 16) (d : BitVec 5) (a : BitVec 5) (b : BitVec 5)
  /-- R99. 64-bit unsigned compare into a pair. -/
  | sltlu (n : Fin 16) (d : BitVec 5) (a : BitVec 5) (b : BitVec 5)
  /-- R101. binary32 or binary64 addition under IEEE 754. -/
  | fadd (n : Fin 16) (dbl : Bool) (d : BitVec 5) (a : BitVec 5) (b : BitVec 5)
  /-- R101. Floating-point subtraction. -/
  | fsub (n : Fin 16) (dbl : Bool) (d : BitVec 5) (a : BitVec 5) (b : BitVec 5)
  /-- R101. Floating-point multiplication. -/
  | fmul (n : Fin 16) (dbl : Bool) (d : BitVec 5) (a : BitVec 5) (b : BitVec 5)
  /-- R101. Floating-point division. -/
  | fdiv (n : Fin 16) (dbl : Bool) (d : BitVec 5) (a : BitVec 5) (b : BitVec 5)
  /-- R101. Floating-point square root. -/
  | fsqrt (n : Fin 16) (dbl : Bool) (d : BitVec 5) (a : BitVec 5) (b : BitVec 5)
  /-- R101. Fused multiply-add into fd with one rounding. -/
  | fmadd (n : Fin 16) (dbl : Bool) (d : BitVec 5) (a : BitVec 5) (b : BitVec 5)
  /-- R101. Smaller operand, with the NaN and signed-zero rules. -/
  | fmin (n : Fin 16) (dbl : Bool) (d : BitVec 5) (a : BitVec 5) (b : BitVec 5)
  /-- R101. Larger operand, with the NaN and signed-zero rules. -/
  | fmax (n : Fin 16) (dbl : Bool) (d : BitVec 5) (a : BitVec 5) (b : BitVec 5)
  /-- R101. Clears the sign bit. -/
  | fabs (n : Fin 16) (dbl : Bool) (d : BitVec 5) (a : BitVec 5) (b : BitVec 5)
  /-- R101. Inverts the sign bit. -/
  | fneg (n : Fin 16) (dbl : Bool) (d : BitVec 5) (a : BitVec 5) (b : BitVec 5)
  /-- R101. Floating-point equality compare into gd. -/
  | feq (n : Fin 16) (dbl : Bool) (d : BitVec 5) (a : BitVec 5) (b : BitVec 5)
  /-- R101. Floating-point less-than compare into gd. -/
  | flt (n : Fin 16) (dbl : Bool) (d : BitVec 5) (a : BitVec 5) (b : BitVec 5)
  /-- R101. Floating-point less-or-equal compare into gd. -/
  | fle (n : Fin 16) (dbl : Bool) (d : BitVec 5) (a : BitVec 5) (b : BitVec 5)
  /-- R101. Converts binary64 to binary32. -/
  | fcvtSD (n : Fin 16) (d : BitVec 5) (a : BitVec 5) (b : BitVec 5)
  /-- R101. Converts binary32 to binary64. -/
  | fcvtDS (n : Fin 16) (d : BitVec 5) (a : BitVec 5) (b : BitVec 5)
  /-- R101. Converts a signed 32-bit integer to float. -/
  | fcvtFW (n : Fin 16) (dbl : Bool) (d : BitVec 5) (a : BitVec 5) (b : BitVec 5)
  /-- R101. Converts float to signed 32-bit integer, to nearest, with saturation. -/
  | fcvtWF (n : Fin 16) (dbl : Bool) (d : BitVec 5) (a : BitVec 5) (b : BitVec 5)
  /-- R101. Converts float to signed 32-bit integer toward zero, with saturation. -/
  | ftrncWF (n : Fin 16) (dbl : Bool) (d : BitVec 5) (a : BitVec 5) (b : BitVec 5)
  /-- R101. Converts a signed 64-bit pair to float. -/
  | fcvtFL (n : Fin 16) (dbl : Bool) (d : BitVec 5) (a : BitVec 5) (b : BitVec 5)
  /-- R101. Converts float to a signed 64-bit pair, with saturation. -/
  | fcvtLF (n : Fin 16) (dbl : Bool) (d : BitVec 5) (a : BitVec 5) (b : BitVec 5)
  /-- R101. Moves a general register into fd[31:0]. -/
  | fmvFG (n : Fin 16) (d : BitVec 5) (a : BitVec 5) (b : BitVec 5)
  /-- R101. Moves fa[31:0] into a general register. -/
  | fmvGF (n : Fin 16) (d : BitVec 5) (a : BitVec 5) (b : BitVec 5)
  /-- R101. Moves a pair into fd. -/
  | fmvFP (n : Fin 16) (d : BitVec 5) (a : BitVec 5) (b : BitVec 5)
  /-- R101. Moves fa into a pair. -/
  | fmvPF (n : Fin 16) (d : BitVec 5) (a : BitVec 5) (b : BitVec 5)
  /-- R99. Extracts a bit field, zero-extended. -/
  | bext (n : Fin 16) (d : BitVec 5) (a : BitVec 5) (b : BitVec 5) (fn : BitVec 11)
  /-- R99. Inserts a bit field into gd. -/
  | bins (n : Fin 16) (d : BitVec 5) (a : BitVec 5) (b : BitVec 5) (fn : BitVec 11)
  /-- R99. Sets bit k. -/
  | bseti (n : Fin 16) (d : BitVec 5) (a : BitVec 5) (b : BitVec 5)
  /-- R99. Clears bit k. -/
  | bclri (n : Fin 16) (d : BitVec 5) (a : BitVec 5) (b : BitVec 5)
  /-- R99. Counts leading zeros. -/
  | clz (n : Fin 16) (d : BitVec 5) (a : BitVec 5) (b : BitVec 5)
  /-- R99. Counts ones. -/
  | popc (n : Fin 16) (d : BitVec 5) (a : BitVec 5) (b : BitVec 5)
  /-- R99. Rising-edge detection: ga and not gb. -/
  | rise (n : Fin 16) (d : BitVec 5) (a : BitVec 5) (b : BitVec 5)
  /-- R99. Falling-edge detection: not ga and gb. -/
  | fall (n : Fin 16) (d : BitVec 5) (a : BitVec 5) (b : BitVec 5)
  /-- R102. Loads a byte, sign-extended. -/
  | ldb (n : Fin 16) (d : BitVec 5) (a : BitVec 5) (bs : BitVec 2) (off : BitVec 14)
  /-- R102. Loads a byte, zero-extended. -/
  | ldbu (n : Fin 16) (d : BitVec 5) (a : BitVec 5) (bs : BitVec 2) (off : BitVec 14)
  /-- R102. Loads 16 bits, sign-extended. -/
  | ldh (n : Fin 16) (d : BitVec 5) (a : BitVec 5) (bs : BitVec 2) (off : BitVec 14)
  /-- R102. Loads 16 bits, zero-extended. -/
  | ldhu (n : Fin 16) (d : BitVec 5) (a : BitVec 5) (bs : BitVec 2) (off : BitVec 14)
  /-- R102. Loads 32 bits. -/
  | ldw (n : Fin 16) (d : BitVec 5) (a : BitVec 5) (bs : BitVec 2) (off : BitVec 14)
  /-- R102. Loads 64 bits into a pair. -/
  | ldd (n : Fin 16) (d : BitVec 5) (a : BitVec 5) (bs : BitVec 2) (off : BitVec 14)
  /-- R102. Loads binary32 into fd[31:0]. -/
  | flds (n : Fin 16) (d : BitVec 5) (a : BitVec 5) (bs : BitVec 2) (off : BitVec 14)
  /-- R102. Loads binary64 into fd. -/
  | fldd (n : Fin 16) (d : BitVec 5) (a : BitVec 5) (bs : BitVec 2) (off : BitVec 14)
  /-- R102. Stores a byte. -/
  | stb (n : Fin 16) (d : BitVec 5) (a : BitVec 5) (bs : BitVec 2) (off : BitVec 14)
  /-- R102. Stores 16 bits. -/
  | sth (n : Fin 16) (d : BitVec 5) (a : BitVec 5) (bs : BitVec 2) (off : BitVec 14)
  /-- R102. Stores 32 bits. -/
  | stw (n : Fin 16) (d : BitVec 5) (a : BitVec 5) (bs : BitVec 2) (off : BitVec 14)
  /-- R102. Stores a pair. -/
  | std (n : Fin 16) (d : BitVec 5) (a : BitVec 5) (bs : BitVec 2) (off : BitVec 14)
  /-- R102. Stores fd[31:0]. -/
  | fsts (n : Fin 16) (d : BitVec 5) (a : BitVec 5) (bs : BitVec 2) (off : BitVec 14)
  /-- R102. Stores fd. -/
  | fstd (n : Fin 16) (d : BitVec 5) (a : BitVec 5) (bs : BitVec 2) (off : BitVec 14)
  /-- R102. Forms base + ga + off14 × 64 without a memory access. -/
  | leai (n : Fin 16) (d : BitVec 5) (a : BitVec 5) (bs : BitVec 2) (off : BitVec 14)
  /-- R99. Branches if ga equals gb. -/
  | beq (n : Fin 16) (a : BitVec 5) (b : BitVec 5) (disp : BitVec 16)
  /-- R99. Branches if ga differs from gb. -/
  | bne (n : Fin 16) (a : BitVec 5) (b : BitVec 5) (disp : BitVec 16)
  /-- R99. Branches if ga is below gb signed. -/
  | blt (n : Fin 16) (a : BitVec 5) (b : BitVec 5) (disp : BitVec 16)
  /-- R99. Branches if ga is at least gb signed. -/
  | bge (n : Fin 16) (a : BitVec 5) (b : BitVec 5) (disp : BitVec 16)
  /-- R99. Branches if ga is below gb unsigned. -/
  | bltu (n : Fin 16) (a : BitVec 5) (b : BitVec 5) (disp : BitVec 16)
  /-- R99. Branches if ga is at least gb unsigned. -/
  | bgeu (n : Fin 16) (a : BitVec 5) (b : BitVec 5) (disp : BitVec 16)
  /-- R99. Branches if bit k of ga is set. -/
  | bbs (n : Fin 16) (a : BitVec 5) (b : BitVec 5) (disp : BitVec 16)
  /-- R99. Branches if bit k of ga is clear. -/
  | bbc (n : Fin 16) (a : BitVec 5) (b : BitVec 5) (disp : BitVec 16)
  /-- R99. Jumps by a displacement. -/
  | jmp (n : Fin 16) (disp : BitVec 26)
  /-- R99. Jumps to the address in ga. -/
  | jr (n : Fin 16) (d : BitVec 5) (a : BitVec 5) (b : BitVec 5) (fn : BitVec 11)
  /-- R115. Function block call: writes a link record, sets ib to ga and jumps. -/
  | callfb (n : Fin 16) (a : BitVec 5) (disp : BitVec 21)
  /-- R115. Function call with ib unchanged. -/
  | call (n : Fin 16) (disp : BitVec 26)
  /-- R115. Function block call to the address in gb. -/
  | callfbi (n : Fin 16) (d : BitVec 5) (a : BitVec 5) (b : BitVec 5) (fn : BitVec 11)
  /-- R115. Returns by restoring ip, ib and lb from the link record. -/
  | retfb (n : Fin 16) (d : BitVec 5) (a : BitVec 5) (b : BitVec 5) (fn : BitVec 11)
  /-- R117. Lowers sp by n × 16 bytes, raising STACK below stklim. -/
  | enter (n : Fin 16) (d : BitVec 5) (a : BitVec 5) (imm : BitVec 16)
  /-- R105. Reads an entry of the input image. -/
  | imgrdi (n : Fin 16) (d : BitVec 5) (a : BitVec 5) (imm : BitVec 16)
  /-- R105. Reads an entry of the output working image. -/
  | imgrdw (n : Fin 16) (d : BitVec 5) (a : BitVec 5) (imm : BitVec 16)
  /-- R105. Reads an entry of the forme. -/
  | imgrdf (n : Fin 16) (d : BitVec 5) (a : BitVec 5) (imm : BitVec 16)
  /-- R106. Writes a value and status to an output handle owned by the cluster. -/
  | imgwr (n : Fin 16) (d : BitVec 5) (a : BitVec 5) (b : BitVec 5) (fn : BitVec 11)
  /-- R108. Stages a journal post for the forme flip, shedding beyond 32 per cycle. -/
  | jpost (n : Fin 16) (d : BitVec 5) (a : BitVec 5) (imm : BitVec 16)
  /-- R110. Holds a loop mailbox value for delivery at the forme flip. -/
  | leput (n : Fin 16) (d : BitVec 5) (a : BitVec 5) (imm : BitVec 16)
  /-- R110. Returns a loop mailbox slot as captured at the bell. -/
  | leget (n : Fin 16) (d : BitVec 5) (a : BitVec 5) (imm : BitVec 16)
  /-- R94. System call that raises privilege through the SYSC exception. -/
  | sysc (n : Fin 16) (d : BitVec 5) (a : BitVec 5) (imm : BitVec 16)
  /-- R54. Arrives at a barrier and waits for its release. -/
  | bar (n : Fin 16) (d : BitVec 5) (a : BitVec 5) (imm : BitVec 16)
  /-- R111. Writes a word of the cluster's own barrier mailbox. -/
  | bmw (n : Fin 16) (d : BitVec 5) (a : BitVec 5) (b : BitVec 5) (fn : BitVec 11)
  /-- R111. Reads a word of a cluster's mailbox of a released barrier. -/
  | bmr (n : Fin 16) (d : BitVec 5) (a : BitVec 5) (b : BitVec 5) (fn : BitVec 11)
  /-- R112. Reads the bell time or the current time. -/
  | trd (n : Fin 16) (d : BitVec 5) (a : BitVec 5) (imm : BitVec 16)
  /-- R91. Reads a special register. -/
  | mfs (n : Fin 16) (d : BitVec 5) (a : BitVec 5) (b : BitVec 5)
  /-- R91. Writes a special register. -/
  | mts (n : Fin 16) (d : BitVec 5) (a : BitVec 5) (b : BitVec 5)
  /-- R95. Returns from an entry to P1 or P0. -/
  | eret (n : Fin 16) (d : BitVec 5) (a : BitVec 5) (b : BitVec 5)
  /-- R113. Reports the cluster's completion of the cycle. -/
  | cyend (n : Fin 16) (d : BitVec 5) (a : BitVec 5) (b : BitVec 5)
  /-- R114. Breakpoint: stops the clusters when Hold is permitted, otherwise a counted no-operation. -/
  | bkpt (n : Fin 16) (d : BitVec 5) (a : BitVec 5) (b : BitVec 5)
  /-- R127. A unit's comparator finds a difference, blocks its outputs and the unit leaves the vote. -/
  | comparatorMismatch (n : Fin 16) (units : BitVec 3) (g0 : BitVec 8) (g1 : BitVec 8) (g2 : BitVec 8) (disagree : Bool)
  /-- R128. The voter outvotes a unit that differs from the other two, and it leaves the vote. -/
  | outvote (n : Fin 16) (k : Fin 3) (groups : BitVec 8)
  /-- R134. A unit's 2 ms self-test ends, writes its report card and the unit becomes READY, HELD_OUT or RETIRED. -/
  | selfTestEnd (u : Fin 48) (sigLead : Word) (sigCheck : Word)
  /-- R150. Unit command that retires a unit without self-test. -/
  | retire (n : Fin 16) (k : BitVec 2) (priv : Priv)
  /-- R153. Selects which unit page of a frame appears. -/
  | unitSel (n : Fin 16) (k : BitVec 2)
  /-- R170. A scrubber reads and, if needed, corrects the next word of its memory. -/
  | scrubRead (m : Fin 14) (err : BitVec 144)
  /-- R175. The remap engine copies a corrected word of a lasting line to its spare. -/
  | remapCopy (m : Fin 14)
  /-- R166. An uncorrectable page is retried, the block marked bad and the item read from its other copy. -/
  | nandReadRetry (read : NandRead) (bad : Bool)
  /-- R184. Clears DIRTY_PEAK, RESENT_CNT and LOG_OVF of a region. -/
  | clrStats (g : Fin 8)
  /-- R194. A DMA engine checks a descriptor's ranges and moves its bursts, or marks it failed. -/
  | dmaDescriptor (g : Fin 8) (src : BitVec 40) (dst : BitVec 40) (len : Word) (priv : Priv) (migr : Bool)
  /-- R201. Starts a rule bank swap across the module. -/
  | swap
  /-- R201. A master reaches its switching point, drains and moves to the new bank; the last one completes the swap. -/
  | drainAck (mid : BitVec 12)
  /-- R200. Writes a shadow rule bank, refused while a swap is busy. -/
  | shadowBankWrite (page : Nat) (idx : Nat) (v : Word)
  /-- R199. Writing 1 to PCTRL[OPEN] ends open mode. -/
  | openEnd
  /-- R231. Planned switch-over that hands the pass to the synchronised partner after the next flip. -/
  | switchover (priv : Priv)
  /-- R236. Stops the proof at the next bell and suspends redundancy. -/
  | suspend (priv : Priv)
  /-- R236. Pair command RESUME that ends suspension and starts full resynchronisation. -/
  | pairResume (priv : Priv)
  /-- R213. Moves the module to MAINTENANCE. -/
  | maintEnter (priv : Priv)
  /-- R213. Moves the module from MAINTENANCE to STARTING. -/
  | maintLeave (priv : Priv)
  /-- R274. Pair command that starts full resynchronisation of a STANDBY_UNSYNC module. -/
  | resync (priv : Priv)
  /-- R239. Raises interface versions to the agreed versions at the bell of cycle k + 4. -/
  | raise (priv : Priv)
  /-- R249. All four partner link lanes hold block lock and the link becomes ALIGNED. -/
  | linkBlockLock (q : List Word) (skew : BitVec 8)
  /-- R249. 16 alignment markers in a row arrive on every lane and the link becomes UP. -/
  | linkUp
  /-- R250. A lane loses block lock or alignment markers, the link goes DOWN and retrains. -/
  | linkLoss (lanes : BitVec 4)
  /-- R264. Every 100 µs until a CAPS with GOT_PEER is received, the module sends CAPS. -/
  | capsSend
  /-- R256. A capability frame is received from the partner. -/
  | caps (c : Caps) (tr : Trailer)
  /-- R255. An attendance frame is received; from a synchronised standby it may count as an acknowledgement. -/
  | attend (a : Attend) (tr : Trailer)
  /-- R253. A resign notice is received from the active. -/
  | resign (reason : Nat) (tr : Trailer)
  /-- R258. The standby receives the start of a cycle's proof. -/
  | proofBegin (b : ProofBegin) (tr : Trailer)
  /-- R259. The standby receives proof lines and routes them to the image or the receive store. -/
  | proofData (seq : Word) (l : List ProofLine) (crc : Word) (tr : Seal)
  /-- R261. The standby receives a cycle's program posts. -/
  | proofJournal (seq : Word) (l : List Post) (crc : Word) (tr : Seal)
  /-- R261. The standby receives control records: force entries, version raises, online-change switch. -/
  | proofCtrl (seq : Word) (l : List CtrlRec) (crc : Word) (tr : Seal)
  /-- R262. The standby receives the end of a cycle's proof with its counts and digest. -/
  | proofEnd (e : ProofEnd) (tr : Trailer)
  /-- R71. The standby receives a stop marker, discards the cycle, enters Stop and becomes unsynchronised. -/
  | stopMark (cyc : Nat) (tr : Trailer)
  /-- R57. The active receives the acknowledgement of a cycle's proof. -/
  | proofAck (ack : AckBody) (tr : Trailer)
  /-- R265. The active receives a NAK and resends the listed frames from the replay store. -/
  | proofNak (cyc : Nat) (seqs : List Word) (tr : Trailer)
  /-- R267. The standby has all of a cycle, sends PROOF_ACK and commits image, forme and receive store. -/
  | proofCommit
  /-- R268. The standby finishes applying a committed cycle from the receive store. -/
  | applyComplete
  /-- R271. Opens a transfer with kind, length and digest. -/
  | xferOpen (ident : Word) (kind : XferKind) (len : Nat) (digest : BitVec 256) (tr : Trailer)
  /-- R271. A transfer data frame is received at its byte offset. -/
  | xferData (ident : Word) (off : Nat) (bytes : List Byte) (tr : Trailer)
  /-- R271. The sender receives the highest offset held by the receiver. -/
  | xferAck (ident : Word) (off : Nat) (tr : Trailer)
  /-- R271. The sender reports all bytes sent. -/
  | xferClose (head : XferHead) (tr : Trailer)
  /-- R271. The receiver reports the content stored with its own digest. -/
  | xferStaged (head : XferHead) (digest : BitVec 256) (tr : Trailer)
  /-- R272. The active arms an online change for k_s over the link. -/
  | xferArm (ks : XferValue) (tr : Trailer)
  /-- R272. The standby confirms k_s. -/
  | xferConfirm (ks : XferValue) (tr : Trailer)
  /-- R273. A transfer or change is abandoned. -/
  | xferCancel (value : XferValue) (tr : Trailer)
  /-- R271. 100 µs pass without progress and the sender resends from the acknowledged offset. -/
  | xferResend
  /-- R274. The standby requests full resynchronisation and the active sends configuration and project and starts the sweep. -/
  | resyncReq (req : XferBare)
  /-- R275. 1 s after a failed resynchronisation with AUTO_RESYNC, RESYNC_REQ is sent again. -/
  | resyncRetry
  /-- R277. Clears PEAK_BYTES and MAX_ACK_LAT. -/
  | clrPeak
  /-- R282. At a loop's sample instant the engine captures its measurements and loads any snapshot or mode request. -/
  | loopSample (e : Fin 2) (l : BitVec 9) (j : Nat)
  /-- R278. At a schedule entry's slot start the engine evaluates the control law of the loop. -/
  | loopEvaluation (e : Fin 2) (l : BitVec 9)
  /-- R282. At a loop's output instant new outputs reach the output stages and the state record is rewritten. -/
  | loopOutputInstant (e : Fin 2) (l : BitVec 9)
  /-- R302. A lane unit's datapaths disagree, outputs of the slot are held and the mismatch is counted. -/
  | laneMismatch (e : Fin 2) (l : BitVec 9) (lanes : BitVec 16)
  /-- R285. A major frame of the schedule starts, applying an armed bank switch. -/
  | frameStart (e : Fin 2)
  /-- R305. Starts validation of the shadow schedule bank. -/
  | validate (e : Fin 2) (priv : Priv)
  /-- R305. The engine ends validation and sets VALID or ERR. -/
  | validationDone (e : Fin 2)
  /-- R306. Arms the switch to the shadow bank at SW_CYC. -/
  | switch (e : Fin 2) (priv : Priv)
  /-- R317. Disarms a pending bank switch. -/
  | schedCancel (e : Fin 2) (priv : Priv)
  /-- R316. Setting ENABLE lets the engine evaluate; clearing it stops all loops at USAFE. -/
  | leEnable (e : Fin 2) (v : Bool)
  /-- R338. At each 50 µs tick the setpoint schedule unit advances recipe steps and judges WAIT conditions. -/
  | ssuTick (e : Fin 2) (tick : Nat)
  /-- R341. Starts a recipe at step 0. -/
  | recipeStart (e : Fin 2) (l : BitVec 9) (k : BitVec 6) (tick : Nat)
  /-- R341. Holds a running or waiting recipe. -/
  | recipeHold (e : Fin 2) (l : BitVec 9) (k : BitVec 6)
  /-- R341. Continues a held recipe. -/
  | recipeResume (e : Fin 2) (l : BitVec 9) (k : BitVec 6) (tick : Nat)
  /-- R341. Aborts a recipe. -/
  | recipeAbort (e : Fin 2) (l : BitVec 9) (k : BitVec 6)
  /-- R341. Ends a WAIT on a CONTINUE condition. -/
  | recipeContinue (e : Fin 2) (l : BitVec 9) (k : BitVec 6) (tick : Nat)
  /-- R341. Runs a recipe from step s. -/
  | resumeAt (e : Fin 2) (l : BitVec 9) (k : BitVec 6) (step : BitVec 16) (tick : Nat)
  /-- R343. Clearing SSU_EN aborts every active recipe. -/
  | ssuEn (e : Fin 2) (v : Bool)
  /-- R345. Arms a trace probe. -/
  | probeArm (e : Fin 2) (q : BitVec 4)
  /-- R345. Returns a trace probe to IDLE. -/
  | probeDisarm (e : Fin 2) (q : BitVec 4)
  /-- R346. Triggers an ARMED probe. -/
  | probeForce (e : Fin 2) (q : BitVec 4)
  /-- R353. A PTP Sync message is received and the servo measures the offset and slews or steps. -/
  | sync (port : Fin 4) (h : PtpHdr) (twoStep : Bool) (t1 : Int) (corr : Int) (t2 : Int)
  /-- R360. A PTP Follow_Up message is received with the precise origin timestamp. -/
  | followUp (port : Fin 4) (h : PtpHdr) (t1 : Int) (corr : Int)
  /-- R360. A PTP Announce message is received and the BMCA and UTC source are updated. -/
  | announce (port : Fin 4) (h : PtpHdr) (a : PtpAnnounce)
  /-- R360. A PTP Delay_Req message is received on a master port. -/
  | delayReq (port : Fin 4) (h : PtpHdr) (t4 : Int)
  /-- R360. A PTP Delay_Resp message is received and the path delay is computed. -/
  | delayResp (port : Fin 4) (h : PtpHdr) (t4 : Int) (corr : Int)
  /-- R363. A PTP Pdelay_Req is received and Pdelay_Resp is sent. -/
  | pdelayReq (port : Fin 4) (h : PtpHdr) (t2 : Int) (out : PtpEgress)
  /-- R360. A PTP Pdelay_Resp is received and the link delay is measured. -/
  | pdelayResp (port : Fin 4) (h : PtpHdr) (turn : Int) (t4 : Int)
  /-- R360. At its interval the module sends Sync, Announce or a delay request. -/
  | ptpMessageSend (port : Fin 4) (k : PtpSend) (t : Int) (fail : Bool)
  /-- R354. announceReceiptTimeout expires and the PTP source is lost. -/
  | announceReceiptTimeout (port : Fin 4)
  /-- R354. Four Sync intervals pass without a Sync and the PTP source is lost. -/
  | syncLoss (port : Fin 4)
  /-- R356. A rising edge on PPS_IN marks the start of a TAI second. -/
  | ppsIn (sub : BitVec 2)
  /-- R354. No PPS_IN edge arrives within 1.1 s and the source is lost. -/
  | ppsInLoss
  /-- R354. HOLDOVER_MAX expires and the time base goes to FREERUN. -/
  | holdoverExpiry
  /-- R356. PPS_OUT rises at the start of each TAI second. -/
  | ppsOut
  /-- R358. At the end of the UTC day an announced leap second is inserted or omitted. -/
  | leapSecond
  /-- R382. Loads the SET registers into the time base as a step. -/
  | set (priv : Priv)
  /-- R358. Announces a positive leap second. -/
  | leapIns (priv : Priv)
  /-- R358. Announces a negative leap second. -/
  | leapDel (priv : Priv)
  /-- R358. Withdraws a leap second announcement. -/
  | leapCancel (priv : Priv)
  /-- R357. Writes the UTC offset, ignored while the PTP master supplies it. -/
  | utcOffset (v : BitVec 16)
  /-- R365. A queued frame reaches its launch time and leaves, or is discarded if late or gated. -/
  | frameLaunch (port : Fin 6)
  /-- R367. Every LifeCheckInterval a PRP or HSR pair sends supervision frames. -/
  | supervisionFrame (pair : Fin 2)
  /-- R385. Supervision frames miss on one LAN for 3 LifeCheckIntervals. -/
  | peerLanFail (pair : Fin 2)
  /-- R370. A sampled-value frame is received, checked and its ASDUs accepted for alignment. -/
  | svFrame (port : Fin 4) (tag : Option RedTag) (f : SvFrame)
  /-- R372. At instant + ALIGN_DELAY an alignment group publishes its values to the measurement plane. -/
  | groupPublish (g : Fin 16) (sec : Nat) (c : Nat)
  /-- R374. Writing 1 to SV_SSTAT[UNSTABLE] clears it. -/
  | svUnstableClear (st : BitVec 7)
  /-- R377. The publisher forms the sample of each published stream for an instant and queues the frame. -/
  | svPublish (p : Fin 8)
  /-- R379. A subscribed GOOSE message is checked and its values enter the image. -/
  | gooseMessage (port : Fin 4) (tag : Option RedTag) (m : GoMsg)
  /-- R379. GOOSE supervision expires and mapped handles go bad. -/
  | gooseTalExpiry (gi : BitVec 9)
  /-- R380. A GOOSE message is retransmitted at its next interval. -/
  | gooseRetransmit (gi : BitVec 7)
  /-- R394. A station join request is answered with JOIN_ACK or JOIN_NAK by the pass holder. -/
  | joinReq (lane : Fin 2) (f : StnFrame)
  /-- R397. A station INPUT frame is checked and its values written to image and measurement plane. -/
  | input (lane : Fin 2) (f : StnFrame)
  /-- R403. 20 µs before its launch the OUTPUT of a period is built from the forme and queued. -/
  | outputBuild (x : BitVec 8) (j : Nat)
  /-- R400. A station's INPUT deadline passes without an accepted frame. -/
  | inputDeadline (x : BitVec 8) (j : Nat)
  /-- R412. Sends LEAVE to a station, a dropout making it ABSENT. -/
  | leave (x : BitVec 8) (priv : Priv)
  /-- R412. Makes a station INHIBITED, sending LEAVE if joined. -/
  | inhibit (x : BitVec 8) (priv : Priv)
  /-- R412. Returns an INHIBITED station to ABSENT. -/
  | allow (x : BitVec 8) (priv : Priv)
  /-- R413. A fabric port loses block lock for 64 blocks, goes DOWN and retrains. -/
  | fabricPortDown (port : Fin 4)
  /-- R420. Every 1 ms each enabled fabric port sends HELLO. -/
  | helloSend (port : Fin 4)
  /-- R420. A HELLO is received and the neighbour held. -/
  | hello (port : Fin 4) (h : FabHdr) (m : FabHello)
  /-- R420. 4 ms pass without HELLO and the neighbour is dropped. -/
  | neighbourTimeout (port : Fin 4)
  /-- R421. A ROLL frame is received and the keeper and book accepted or the keeper resigns. -/
  | roll (port : Fin 4) (h : FabHdr) (keeper : DWord) (roll : Word) (fver : Nat) (entries : List (DWord × BitVec 16))
  /-- R421. Every 1 s the keeper floods ROLL. -/
  | rollSend
  /-- R423. An address request is proxied to the keeper or granted by it. -/
  | addrReq (port : Fin 4) (h : FabHdr) (uid : DWord) (ask : FabAsk) (vmin : Nat) (vmax : Nat)
  /-- R423. An address grant or refusal is relayed or taken. -/
  | addrGrant (port : Fin 4) (h : FabHdr) (uid : DWord) (addr : BitVec 16) (result : Nat)
  /-- R423. Every 10 ms a module without an address repeats ADDR_REQ. -/
  | addrReqRepeat
  /-- R424. A link-state advertisement is received and re-flooded. -/
  | lsa (port : Fin 4) (h : FabHdr) (m : FabLsa)
  /-- R424. Every 1 s, or on a change, a module floods its LSA. -/
  | lsaSend
  /-- R424. An LSA not refreshed for 4 s is deleted. -/
  | lsaExpiry (uid : DWord)
  /-- R425. The module recomputes shortest paths, switches route tables and may become keeper. -/
  | routeComputation
  /-- R422. An absent module's book entry is removed after BOOK_KEEP. -/
  | bookKeepExpiry (uid : DWord)
  /-- R427. 100 ms after a fabric version raise only the new version is accepted. -/
  | versionGraceEnd
  /-- R427. Fabric command RAISE on the keeper raises the fabric version. -/
  | fabRaise (priv : Priv)
  /-- R434. Releases the fabric address and requests again. -/
  | renew (priv : Priv)
  /-- R430. A global-variable frame is received and written into the subscribed handles. -/
  | gv (port : Fin 4) (h : FabHdr) (m : GvMsg)
  /-- R431. TMO passes without a GV frame and the subscription handles go bad. -/
  | gvTimeout (i : BitVec 9)
  /-- R554. A BULK frame carries file service session bytes. -/
  | bulk (port : Fin 4) (h : FabHdr) (bytes : List Byte)
  /-- R440. Copies TX_ID, TX_CTRL and TX_DATA into the galley tail or refuses. -/
  | txPush (c : Fin 4) (priv : Priv)
  /-- R443. The galley head starts its single attempt at the next allowed start of frame. -/
  | canAttemptStart (c : Fin 4)
  /-- R443. An attempt ends with DONE, LOST, ERROR, CLASH or GATED and its result enters the result FIFO. -/
  | canAttemptEnd (c : Fin 4) (r : CanEnd) (pos : BitVec 8) (tdcv : Option (BitVec 7)) (exempt : Bool)
  /-- R444. Removes the oldest CAN transmit result. -/
  | txPop (c : Fin 4)
  /-- R444. Ends every galley entry not started with FLUSHED. -/
  | galleyFlush (c : Fin 4) (priv : Priv)
  /-- R453. Starts bus-off recovery and clears BO_LASTING. -/
  | recover (c : Fin 4) (priv : Priv)
  /-- R445. Clears the CLASH status. -/
  | clearClash (c : Fin 4) (priv : Priv)
  /-- R447. A frame received without error is filtered into a buffer or FIFO or discarded. -/
  | canFrameReceived (c : Fin 4) (f : CanFrame)
  /-- R453. TEC exceeds 255, galley entries end with BUS_OFF and bound handles are held. -/
  | busOff (c : Fin 4)
  /-- R453. After 128 sequences of 11 recessive bits the channel leaves bus-off. -/
  | busOffRecovery (c : Fin 4)
  /-- R437. 11 recessive bits after the gate becomes true take the channel to NORMAL. -/
  | normalEntry (c : Fin 4)
  /-- R452. No frame for TMO × 10 ms and bound handles go to DETAIL 0x3. -/
  | canBufferTimeout (c : Fin 4) (b : BitVec 7)
  /-- R451. Removes the head record of a receive FIFO. -/
  | fifoPop (c : Fin 4) (f0 : Bool) (f1 : Bool)
  /-- R450. Writing 1 clears a buffer's new-data bit, unless a record is written in the same BCLK. -/
  | ndClear (c : Fin 4) (i : Fin 4) (v : Word)
  /-- R460. Selects which 32 buffers appear in the receive window. -/
  | rxBank (c : Fin 4) (v : BitVec 2)
  /-- R448. Enabling a channel checks bit timing and filters and is refused on a fault. -/
  | canEn (c : Fin 4) (v : Bool)
  /-- R461. Every 10 µs L+0 and L+1 are measured and FS_LOW of each group set or cleared. -/
  | fsMeasure (l0 : Nat) (l1 : Nat)
  /-- R464. An input channel samples, and a filter output change writes its handle and channel. -/
  | dioSample (c : Fin 16) (mv : Int)
  /-- R465. Every 10 µs a DIO output's readback is sampled and diagnostics judged. -/
  | readbackSample (c : Fin 16) (mv : Int) (ma : Int) (limit : Bool) (open_ : Bool) (groupMa : Nat)
  /-- R466. A channel has been in current limit for 100 µs. -/
  | overload (c : Fin 16)
  /-- R466. A channel has been in current limit for 5 ms and takes its off state. -/
  | offOvl (c : Fin 16)
  /-- R466. The open-wire condition has lasted 100 ms. -/
  | openWire (c : Fin 16)
  /-- R466. Group current above 4.0 A for 5 ms switches the group off. -/
  | groupOff (g : Fin 2)
  /-- R466. A driver junction reaches 160 °C and the channel goes off. -/
  | overtemp (c : Fin 16)
  /-- R466. Every RETRY_MS a channel in fault retries its command. -/
  | outputRetry (c : Fin 16) (cool : Bool)
  /-- R482. RETRY_CMD retries the named channels now. -/
  | retry (mask : BitVec 16)
  /-- R467. Every TP_PERIOD a TRUE output is driven FALSE for TP_WIDTH. -/
  | testPulseStart (c : Fin 16)
  /-- R467. At the end of a test pulse the readback is taken and cross-shorts judged. -/
  | testPulseEnd (c : Fin 16) (mv : Int)
  /-- R469. Every 100 µs an analogue measurement is taken and classed under NE 43. -/
  | aiSample (a : Fin 4) (ua : Nat) (mv : Nat)
  /-- R472. Headroom below 1.5 V for 10 ms. -/
  | compWarn (a : Fin 4)
  /-- R472. Current differs from command by more than 0.2 mA for 50 ms. -/
  | compFault (a : Fin 4)
  /-- R472. Every 10 ms the loop resistance is computed and ALARM_UNACH judged. -/
  | loopRCompute (a : Fin 4)
  /-- R474. A HART response is received and written to five handles. -/
  | hartResponse (a : Fin 4) (m : HartMsg) (code : BitVec 8)
  /-- R474. A HART exchange times out, and the third miss makes the device bad. -/
  | hartTimeout (a : Fin 4)
  /-- R474. Sends the request buffer next in turn. -/
  | hartSend (a : Fin 4) (priv : Priv)
  /-- R484. Aborts a HART request. -/
  | hartAbort (a : Fin 4) (priv : Priv)
  /-- R480. A change of the reflex input vector fires or ends rules and changes driver commands in 3 PCLK. -/
  | reflexFire
  /-- R479. Ends latched reflex actions. -/
  | rfxClr (rules : BitVec 64)
  /-- R485. Writes the software bits of the reflex input vector. -/
  | rfxArm (v : BitVec 8) (priv : Priv)
  /-- R481. Enables the reflex table after checking rules. -/
  | rfxEn (v : Bool)
  /-- R491. DISC_TIME expires with channels disagreeing and the input enters FAULT. -/
  | discrepancyExpiry (k : Fin 8)
  /-- R498. SWD_TIME passes without a restart and every safety output locks out. -/
  | safetyWatchdogExpiry
  /-- R500. Every 1 ms SRST is sampled and filtered, and a valid falling edge in the window resets. -/
  | srstSample (mv : Int)
  /-- R500. SRST high for 60 s sets SRST_STUCK. -/
  | srstStuck
  /-- R501. Opens the reset window. -/
  | rstAck (priv : Priv)
  /-- R502. The reset window closes. -/
  | rstWinExpiry
  /-- R489. Enables the safety functions after checking the configuration. -/
  | safeEn (v : Bool)
  /-- R507. A PST copy is received, checked and paired. -/
  | pst (copy : PstCarrier) (bytes : List Byte)
  /-- R508. The pairing window expires with one copy. -/
  | pairWinExpiry (i : BitVec 6)
  /-- R509. TMO passes without an accepted frame and the connection trips. -/
  | pstTimeout (i : BitVec 6)
  /-- R508. A connection DEGRADED for DEG_MAX trips. -/
  | degMaxExpiry (i : BitVec 6)
  /-- R522. The journal engine writes a staged record into slot JRN_HEAD. -/
  | journalWrite
  /-- R526. A record offered to a full staging queue is lost and counted. -/
  | stagingOverflow (r : JRec)
  /-- R527. At a TAI second boundary after suppressions one LOSS record per source is written. -/
  | rateLimitSecond
  /-- R528. Clears the journal from the top slot down and writes CLEARED. -/
  | clear (priv : Priv)
  /-- R528. Copies the journal into a NAND archive file. -/
  | archive (priv : Priv)
  /-- R528. Archives and then clears the journal with writing paused. -/
  | archiveClear (priv : Priv)
  /-- R528. A journal clear ends, JRN_HEAD is 0 and CLEARED is written. -/
  | clearComplete
  /-- R528. The archive file is programmed and ARCHIVED is written. -/
  | archiveComplete
  /-- R530. The power-fail sequencer asks the journal to close, and it writes pending records and CLOSED. -/
  | journalClose
  /-- R532. A changed selected signal is written to the recorder ring, or shed on overflow. -/
  | recorderIntake (sig : BitVec 31) (value : Word) (bufferFull : Bool)
  /-- R533. Every REFRESH_T refresh records of every selected signal are written. -/
  | refresh (capacity : Nat)
  /-- R536. A trigger event is judged and, when ARMED, taken and a capture starts. -/
  | trigger (codes : List (BitVec 7))
  /-- R536. A rising edge on a TRG line after its filter. -/
  | trgInput (n : Fin 4)
  /-- R537. A time hold-off ends and the recorder becomes ARMED. -/
  | holdoffExpiry
  /-- R537. POST_TMAX after the trigger the segment closes. -/
  | postTmaxExpiry
  /-- R537. Recorder command ARM takes a free segment and starts FILLING. -/
  | recArm (priv : Priv)
  /-- R537. Recorder command DISARM closes a capturing segment and goes IDLE. -/
  | recDisarm (priv : Priv)
  /-- R536. Recorder command FORCE raises a trigger. -/
  | recForce (priv : Priv)
  /-- R537. Frees a closed segment. -/
  | segFree (seg : BitVec 6) (priv : Priv)
  /-- R539. Starts the COMTRADE export of a closed segment. -/
  | expStart (seg : BitVec 6) (priv : Priv)
  /-- R541. Aborts the export. -/
  | expAbort (priv : Priv)
  /-- R539. The export files are written or the export fails. -/
  | exportComplete (ok : Bool) (files : BitVec 16)
  /-- R547. Burns the anti-rollback fuses of a class up to the running image's SVN. -/
  | commit (cls : BitVec 4) (priv : Priv) (cut : Option Nat)
  /-- R552. Captures and signs an attestation report with the nonce. -/
  | attest (priv : Priv)
  /-- R552. The signed report is placed in ATT_REPORT. -/
  | attestDone (sig : List Byte)
  /-- R555. Erases the inactive firmware bank. -/
  | erase (priv : Priv)
  /-- R555. Makes a LOADED bank TRIAL for the next restart. -/
  | activate (priv : Priv)
  /-- R548. Confirms a TRIAL bank as GOOD. -/
  | confirm (priv : Priv)
  /-- R548. The boot watchdog expires before confirmation and the module resets. -/
  | bootWdgExpiry (boot : Boot)
  /-- R553. A tool opens a TLS 1.3 session, accepted or refused. -/
  | tlsSession (svc : Bool) (ok : Bool) (key : TlsHello)
  /-- R554. The file service delivers a file to a session with the READ right. -/
  | fileRead (session : BitVec 2) (file : FileName)
  /-- R554. The file service deletes an archive or export. -/
  | fileDelete (session : BitVec 2) (file : FileName)
  /-- R555. Images are written into the inactive bank and verified when complete. -/
  | fileWrite (session : BitVec 2) (file : FileUp) (boot : Boot)
  /-- R558. A feed below 19.2 V for 10 ms sets FEED_LOST. -/
  | feedLost (b : Bool) (v : Nat)
  /-- R558. A feed above 19.6 V for 10 ms clears FEED_LOST. -/
  | feedRestored (b : Bool) (v : Nat)
  /-- R566. RST_CMD releases the pass, closes the journal and restarts the module. -/
  | restart (v : Word) (priv : Priv) (boot : Boot)
  /-- R570. Starts a hold-up bank test, on command or every HU_TEST_PERIOD. -/
  | huTest (cmd : Bool) (priv : Priv)
  /-- R570. The bank test ends and sets capacitance, ESR and HU_STAT. -/
  | huTestDone (cap : Nat) (esr : Nat)
  /-- R572. A sag or SEAT_N loss fires the trigger and the save sequence starts. -/
  | powerFailTrigger (removal : Bool)
  /-- R572. The bus returns above 18.0 V within 500 µs and SAG_CNT increments. -/
  | sagRecovered
  /-- R573. SAVE_GRACE ends a cycle in progress, which is abandoned. -/
  | saveGraceExpiry
  /-- R573. All clusters complete within SAVE_GRACE and the forme flips locally. -/
  | localFormeFlip
  /-- R573. The retain copy ends, the header and keepsake are written and domains switch off. -/
  | retainCopyDone
  /-- R579. SEAT_N asserted for 100 ms after insertion and the module starts with cause 0x3. -/
  | seated (boot : Boot)
  /-- R577. SLOT_ID or SIDE changes after step 7, setting SLOT_CHG. -/
  | slotChg (slot : BitVec 6) (side : Bool)
  /-- R589. Writing the key locks the page's RWL fields until reset. -/
  | quoin (page : Nat) (v : Word)
  /-- R588. Writing 1 clears interrupt bits. -/
  | intRaw (page : Nat) (v : Word)
  /-- R588. Writing 1 sets interrupt bits for test. -/
  | intSet (page : Nat) (v : Word)
  /-- R591. Clears every page's ERRCNT in one BCLK. -/
  | clrErrcnt (priv : Priv)
  /-- R592. A write to a register with no row of its own acts under its access code, or is ignored and counted. -/
  | registerWrite (page : Nat) (off : Nat) (v : DWord) (size : BitVec 2) (priv : Priv)
  /-- R219. The partner presence line PEER_PRES_N is asserted or deasserted. -/
  | peerPresN (v : Bool)
  /-- R384. An Ethernet port P1–P4 or SVC gains or loses its link. -/
  | portLinkChg (port : Fin 5) (up : Bool) (gig : Bool) (full : Bool)
  /-- R409. Station lane S1 or S2 completes training and comes UP, or loses its link and goes DOWN. -/
  | laneLinkChg (lane : Fin 2) (evt : LaneEvt)
  /-- R413. A fabric port finishes link training and becomes UP. -/
  | fabricPortUp (up : FabUp)
  /-- R453. A CAN channel detects an error on the bus while receiving, raising REC and possibly changing its error state. -/
  | canBusError (c : Fin 4) (f : CanFault)
  /-- R573. After a save, the hold-up bank falls below 14.0 V and the AON domain stops. -/
  | bankBelow14v
  /-- R569. The hold-up charger finishes charging the bank, setting READY and clearing CHARGING. -/
  | chargingEnd
  /-- R367. A PRP/HSR node table entry is removed after NodeForgetTime without frames from that node. -/
  | nodeForgetTime (pair : Fin 2) (src : BitVec 48)
  /-- R367. A PRP or HSR supervision frame from another node is received and enters or renews the node table. -/
  | supervisionReceipt (pair : Fin 2) (second : Bool) (tag : RedTag)
  /-- R536. The 1 µs high pulse driven on a TRG line after a taken trigger ends and the output returns to high impedance. -/
  | trgPulseEnd
  /-- R356. PPS_OUT falls 100 ms after the start of the TAI second. -/
  | ppsOutFall
  /-- R553. A tool session closes and SESSIONS decreases. -/
  | sessionEnd (ident : BitVec 2)
  /-- R187. The DRAM device temperature crosses 85 °C and REFRESH_MODE doubles or restores the refresh rate. -/
  | doubledRefresh (temp : BitVec 8)
  deriving DecidableEq, Repr

end Sys2Proof
end

