-- ==== Sys2Proof/TypesLoop.lean ====
section
/-! DEFINITION. Plain data of the loop engines, the setpoint schedule unit and the trace probes (chapters 9 and 10). -/

namespace Sys2Proof.Machine

/-- A measurement-plane channel or an output stage: binary32 value, status word (R44), time in ns (R291). -/
structure MChan where
  value : Word := 0
  status : Half := 0x8100#16
  time : Nat := 0
  deriving DecidableEq, Repr

/-- What the sample instant captured (R278 step 1, R282). -/
structure LoopCap where
  /-- Sample number: TCLK count of the grid point since the TAI epoch, divided by P. -/
  j : Nat
  y : List Word
  good : List Bool
  stale : Bool
  /-- The measurement fault of R293 occurs at this sample. -/
  fault : Bool
  /-- The preset of R323 applies at this sample. -/
  preset : Bool
  /-- The manual values as they stood at the sample instant: a later delivery acts at the following sample (R284). -/
  mv : List Word := []
  /-- Whether a preset and a soft start were still due before this sample, which a lost sample keeps (R294). -/
  pre : Bool := false
  softDue : Bool := false
  /-- Mode, setpoints and x̂⁻ as they stood before this sample, at the latest output instant (R307). -/
  mode0 : Nat := 7
  r0 : List Word := []
  xp0 : List Word := []
  /-- Setpoints in force of inner loops that an outer loop tracks, by actuator, as read at the sample instant (R324, R325). -/
  ot : List (Option Word) := []
  /-- The sample is lost: a lane mismatch in its slot, or a time step gap (R294, R304); true with an engine fault. -/
  lost : Bool := false
  deriving DecidableEq, Repr

/-- What an evaluation computed (R278). -/
structure LoopEval where
  nu : List Word
  xh : List Word
  v : List Word
  u : List Word
  w : List Word
  xp : List Word
  clamped : List Bool
  rated : List Bool
  nonfinite : Bool
  sat : Bool
  deriving DecidableEq, Repr

/-- The running state of one loop (R278 to R313, R320 to R334). -/
structure LoopRt where
  /-- Mode of R290; in a shadow loop, the mode in which it evaluates. -/
  mode : Nat := 7
  shadow : Bool := false
  xp : List Word := []
  w : List Word := []
  u : List Word := []
  r : List Word := []
  rt : List Word := []
  mv : List Word := []
  /-- Manual values stored for the next entry to MANUAL (R334). -/
  mvSt : List (Nat × Word) := []
  /-- Track values: the last good one of each actuator (R325). -/
  tv : List (Option Word) := []
  cap : Option LoopCap := none
  res : Option LoopEval := none
  /-- A preset, a soft start are due at the next automatic sample (R322, R323). -/
  pre : Bool := false
  softDue : Bool := false
  /-- Setpoints whose soft start runs. -/
  soft : List Bool := []
  /-- Mode requests delivered and not yet taken (R326). -/
  reqs : List Nat := []
  deriving DecidableEq, Repr

/-- Flags and counts of one loop (R293 to R298, R308, R313). -/
structure LoopFl where
  satRun : List Nat := []
  badRun : Nat := 0
  nonfinite : Bool := false
  badmeas : Bool := false
  satf : Bool := false
  fbCause : Nat := 0
  lost : Bool := false
  stale : Bool := false
  /-- STOP_ACT 0b01 or 0b10 in force (R298); 0 none. -/
  stopAct : Nat := 0
  /-- The controller Stop has been answered. -/
  stopSeen : Bool := false
  /-- X0 is reloaded and w set to 0 at the next sample (R295). -/
  reload : Bool := false
  sample : Nat := 0
  clamped : List Bool := []
  rated : List Bool := []
  bad : List Bool := []
  /-- SAMPLE of the staging record loaded last (R311). -/
  loaded : Option Nat := none
  /-- A staging record was written since the last sample. -/
  staged : Bool := false
  /-- Recipe that last drove the loop (R342). -/
  lastRcp : Option Nat := none
  /-- Status of the outputs (R297), and the time of the latest output instant in ns. -/
  qual : Half := 0x6060#16
  outAt : Nat := 0
  deriving DecidableEq, Repr

/-- States of a loop engine (R315). -/
inductive LeSt where
  | idle | running | failed
  deriving DecidableEq, Repr

/-- One loop engine (R285 to R319). -/
structure Engine where
  st : LeSt := .idle
  bank : Bool := false
  hasBank : Bool := false
  switchPend : Bool := false
  slip : Bool := false
  /-- Major frame in force. -/
  mf : Nat := 12500
  busy : Bool := false
  done : Bool := false
  valid : Bool := false
  err : Nat := 0
  errEntry : Nat := 0
  /-- TCLK times of counted mismatches by lane, and lanes lasting or not enabled (R302). -/
  events : Tab (List Nat) := []
  lasting : BitVec 16 := 0
  notEnabled : BitVec 16 := 0
  deriving DecidableEq, Repr

/-- States of a recipe (R342). -/
inductive RcpSt where
  | idle | running | held | waiting | done | aborted
  deriving DecidableEq, Repr

/-- The run state of a recipe (R338 to R342). -/
structure Recipe where
  st : RcpSt := .idle
  cause : Nat := 0
  step : Nat := 0
  /-- Tick number of the step start and ticks elapsed in the step. -/
  t0 : Nat := 0
  elapsed : Nat := 0
  /-- Ramp start: values of the targets and ticks elapsed there; TCLK count of the last tick since the TAI epoch. -/
  v0 : List Word := []
  e0 : Nat := 0
  tickAt : Nat := 0
  /-- Was WAITING when it was held. -/
  wasWait : Bool := false
  deriving DecidableEq, Repr

/-- States of a probe (R345). -/
inductive ProbeSt where
  | idle | filling | armed | capturing | done
  deriving DecidableEq, Repr

/-- A trace probe (R344 to R347). -/
structure Probe where
  st : ProbeSt := .idle
  idx : Nat := 0
  wrapped : Bool := false
  /-- Instants to pass before the next record, and records written in this state. -/
  skip : Nat := 0
  count : Nat := 0
  prev : Option Word := none
  /-- A trigger that takes the next recorded sample: FORCE, a loop event, a put, another probe (R346). -/
  pend : Bool := false
  offered : Option Word := none
  trigSample : Nat := 0
  trigIdx : Nat := 0
  deriving DecidableEq, Repr

end Sys2Proof.Machine
end

