-- ==== Sys2Proof/Machine/State.lean ====
section
/-! DEFINITION. The state of the module, the reasons a step stops, and the state after reset. -/

namespace Sys2Proof.Machine

/-- Reasons a step stops with a fault. -/
inductive Fault where
  /-- A command names a part the module does not have (safe: the model stops). Raised by no command of this table: each names parts by types that hold no other. -/
  | noSuchPart
  deriving DecidableEq, Repr

/-- Reasons a step is refused. -/
inductive Refusal where
  /-- Raised by `exec` for a command whose meaning is not written yet (safe: the model stops). -/
  | notModelled (mnemonic : String)
  deriving DecidableEq, Repr

/-- The state of one module. Every register of the register pages is in `regs` under its own offset or is a view of the typed parts that the chapter gives (`Machine/Registers.lean`). -/
structure State where
  /-- Commands waiting, first in, first out. -/
  pending : List Instr := []
  /-- TCLK ticks since reset; the model's own clock. -/
  now : Nat := 0
  /-- Memory bytes by physical address (R156); an unlisted byte reads 0. -/
  mem : Tab (BitVec 8) := []
  /-- Registers with storage, by page × 0x1000 + offset; an unlisted register reads its reset value. -/
  regs : Tab Word := []
  cores : Tab Core := []
  inImg : Tab ImgEntry := []
  outImg : Tab ImgEntry := []
  /-- Output writes of the current cycle, latest first (R107). -/
  imgLog : List ImgWrite := []
  /-- Lines of the output working image written in this cycle, by handle. -/
  outDirty : Tab Bool := []
  forme : Tab Slot := []
  /-- Forme entries that a target refused to the output engines, as they last read them (R197). -/
  outHeld : Tab (Option Slot) := []
  forces : Tab ForceEntry := []
  inForce : Tab (Option Applied) := []
  outForce : Tab (Option Applied) := []
  bell : Bell := {}
  proj : Project := {}
  /-- Configuration and project as loaded (R271). -/
  cfg : ModCfg := {}
  projImg : ProjImg := {}
  /-- Configuration in MRAM and project in the project store, as the next configuration load takes them (R163, R165, R567). -/
  cfgStore : ModCfg := {}
  projStore : ProjImg := {}
  olc : Olc := {}
  /-- Barrier mailboxes: key barrier × 256 + cluster × 16 + word (R55). -/
  bmail : Tab Word := []
  units : Tab CUnit := []
  clusters : Tab ClSt := []
  /-- Errors in stored words: 144-bit pattern by word address (R167). -/
  upsets : Tab (BitVec 144) := []
  memCorr : Tab MemCorr := []
  nand : Nand := {}
  dirty : Dirty := {}
  dma : Tab Dma := []
  prot : Prot := {}
  pair : Pair := {}
  link : Link := {}
  ptx : ProofTx := {}
  prx : ProofRx := {}
  tb : TimeBase := {}
  jrn : Journal := {}
  recd : Recorder := {}
  /-- Measurement-plane channels and output stages, by CLASS × 0x1000 + INDEX (R291). -/
  mp : Tab MChan := []
  lo : Tab MChan := []
  /-- Loops by engine × 512 + loop, recipes by engine × 64 + k, probes by engine × 16 + q. -/
  loops : Tab LoopRt := []
  loopFl : Tab LoopFl := []
  engines : Tab Engine := []
  rcps : Tab Recipe := []
  probes : Tab Probe := []
  /-- Recipe commands delivered and not yet judged: engine, loop, value (R341). -/
  rcpCmds : List (Nat × Nat × Word) := []
  /-- Loops and recipes as captured at the input epoch flip, for LEGET (R110). -/
  bellLoops : Tab LoopRt := []
  bellFl : Tab LoopFl := []
  bellRcps : Tab Recipe := []
  /-- PTP ports P1 to P4, launch queues by port × 8 + queue (ports 4 and 5 are S1 and S2), redundancy pairs A and B. -/
  ptpPorts : Tab PtpPort := []
  launch : Tab (List QFrame) := []
  reds : Tab RedPair := []
  /-- Frames without a launch time held back under R365, by port. -/
  freeTx : Tab (List FreeFrame) := []
  /-- PPS_OUT is high (R356). -/
  ppsOut : Bool := false
  /-- Sampled values and GOOSE (R368 to R381): configuration, streams, published ASDUs waiting for their frame, subscriptions, control blocks. -/
  net : NetCfg := {}
  svs : Tab SvRt := []
  svPubs : Tab SvPubRt := []
  gos : Tab GoRt := []
  goPubs : Tab GoPubRt := []
  /-- Field channels (chapter 15). -/
  dios : Tab DioCh := []
  dioGroups : Tab DioGroup := []
  aios : Tab AioCh := []
  /-- Comparators, and rules whose action is in force (R479). -/
  cmps : Tab Cmp := []
  rfxAct : BitVec 64 := 0
  /-- Safety functions (chapter 16): inputs, outputs, block, connections. -/
  sis : Tab SafeIn := []
  sos : Tab SafeOut := []
  safe : SafeBlock := {}
  pstCfg : Tab (Option PstCfg) := []
  pstProd : Tab (Option PstProd) := []
  psts : Tab PstRt := []
  /-- Station link (chapter 12): configuration, mapping, stations, lane states. -/
  stnCfg : Tab (Option StnCfg) := []
  stnMap : List StnMap := []
  stns : Tab StnRt := []
  lanes : Tab LaneSt := []
  /-- Fabric node (chapter 13) and CAN channels (chapter 14). -/
  fab : Fabric := {}
  cans : Tab CanCh := []
  /-- Security block and power sequencer (chapters 18 and 19). -/
  sec : Sec := {}
  pwr : Pwr := {}
  /-- What the module has sent, latest first. -/
  sent : List Sent := []
  /-- Frames put on the partner link as bytes: header, body and trailer (R251), latest first. -/
  wire : List (List Byte) := []
  /-- Draws of free values so far; the model's own field. -/
  freeCtr : Nat := 0
  deriving DecidableEq, Repr

/-- The firmware bank that the module is delivered with: GOOD, generation 1 (notes/assumptions/38.md). DESIGN CHOICE. -/
def factoryBank : FwBank :=
  { st := .good, gen := 1, images := [(0, some {}), (1, some (Config.factoryImage 1)), (2, some (Config.factoryImage 2)),
                                      (3, some (Config.factoryImage 3)), (4, some (Config.factoryImage 4))] }

/-- The module right after reset: every field at the value the spec gives, or at the value a log entry names. -/
def State.reset : State := { sec := { bankA := factoryBank } }

end Sys2Proof.Machine
end

