-- ==== Sys2Proof/Machine/LinkFrame.lean ====
section
/-! DEFINITION. What the module sends, and the frames of the partner link as bytes (R251 to R254, R264). -/

namespace Sys2Proof.Machine

/-! ### Link frames (R251 to R254) -/

/-- Whether frames can be sent: the link is UP (R249). -/
def State.linkUp (s : State) : Bool := s.link.st == .up

/-- TYPE of a link frame (R253). -/
def linkType : Out → Nat
  | .caps => 0x01 | .attend => 0x02 | .resign => 0x03
  | .proofBegin => 0x10 | .proofData => 0x11 | .proofJournal => 0x12 | .proofCtrl => 0x13 | .proofEnd => 0x14 | .stopMark => 0x15
  | .proofAck => 0x18 | .proofNak => 0x19
  | .xferData => 0x21 | .xferAck => 0x22
  | _ => 0x20

/-- The operation of an XFER_CTRL frame (R271). -/
def xferOp : Out → Nat
  | .xferOpen => 1 | .xferClose => 2 | .xferStaged => 3 | .xferArm => 4 | .xferConfirm => 5 | .xferCancel => 6 | _ => 7

/-- Code of a kind (R271). -/
def XferKind.code : XferKind → Nat
  | .none => 0 | .config => 1 | .package => 2 | .project => 3

/-- Frames that flow before the pairing reaches agreement, always with VER = 0x01 (R264). -/
def linkFirst : Out → Bool
  | .caps => true | .attend => true | .resign => true | _ => false

/-- Frames of transfers. -/
def linkXfer (w : Out) : Bool := linkType w == 0x20 || linkType w == 0x21 || linkType w == 0x22

/-- Whether the pairing on this link has reached agreement (R238, R264). -/
def State.linkAgreed (s : State) : Bool := s.link.gotPeer && s.pair.agreedOk

/-- Whether a frame can be sent now (R249, R264). -/
def State.linkMay (s : State) (w : Out) : Bool := s.linkUp && (linkFirst w || s.linkAgreed)

/-- The version of interface 0 that frames carry (R239, R264): the one in use, and until the pair is synchronised the agreed one. -/
def State.linkVer (s : State) : Nat := if s.pair.syncPair then s.pair.inUse.getD 0 0 else s.pair.agreed.getD 0 0

/-- VER of a frame that is sent now (R264): a transfer keeps the version it started with. -/
def State.frameVer (s : State) (w : Out) : Nat :=
  if linkFirst w then 1 else if linkXfer w && s.link.xfer.busy then s.link.xfer.ver else s.linkVer

/-- An even count of blocks (R251). -/
def evenUp (n : Nat) : Nat := (n + 1) / 2 * 2

/-- Bytes padded with zero blocks to an even count of blocks. -/
def padEven (b : List Byte) : List Byte := b ++ List.replicate (evenUp ((b.length + 7) / 8) * 8 - b.length) 0#8

/-- Number i of the fields of a frame. -/
def argAt (args : List Nat) (i : Nat) : Nat := args.getD i 0

/-- PARAM of a link frame (R253): `ident` is the transfer ID. -/
def linkParam (ident : Word) (w : Out) (args : List Nat) : Nat :=
  match linkType w with
  | 0x01 => 0
  | 0x20 => ident.toNat
  | 0x21 => ident.toNat
  | 0x22 => ident.toNat
  | _ => argAt args 0

/-- Body of a link frame, from the fields that tell it apart (R255, R256, R258, R259, R261, R262, R271). Where the manual gives a body no layout (PROOF_ACK, PROOF_NAK, XFER_ACK, the digest of XFER_CTRL) the layout is the model's: notes/assumptions/54.md. DESIGN CHOICE. -/
def linkBody (w : Out) (args : List Nat) : List Byte :=
  let n := argAt args
  padEven (match w with
    | .caps => bytesBE 8 (n 0) ++ bytesBE 1 (n 1) ++ bytesBE 1 (n 2) ++ bytesBE 3 (n 3) ++ bytesBE 1 (n 4) ++ bytesBE 2 0
        ++ bytesBE 4 (n 5) ++ bytesBE 4 0 ++ (args.drop 6).map (BitVec.ofNat 8) ++ bytesBE 6 0 ++ bytesBE 8 0
    | .attend => bytesBE 1 (n 1) ++ bytesBE 1 (n 2) ++ bytesBE 6 (n 3) ++ bytesBE 6 (n 4) ++ bytesBE 2 0
    | .resign => bytesBE 16 0
    | .proofBegin => bytesBE 6 (n 0) ++ bytesBE 1 (n 1) ++ bytesBE 1 0 ++ bytesBE 8 (n 2) ++ bytesBE 4 (n 3) ++ bytesBE 4 (n 4)
        ++ bytesBE 8 (n 5) ++ bytesBE 4 (n 6) ++ bytesBE 4 (n 7) ++ bytesBE 8 0
    | .proofEnd => bytesBE 6 (n 0) ++ bytesBE 2 0 ++ bytesBE 4 (n 1) ++ bytesBE 4 (n 2) ++ bytesBE 2 (n 3) ++ bytesBE 2 (n 4)
        ++ bytesBE 4 (n 5) ++ bytesBE 1 (n 6) ++ bytesBE 7 0 ++ bytesBE 6 (n 7) ++ bytesBE 2 0 ++ bytesBE 8 0
    | .stopMark => bytesBE 16 0
    | .proofAck => bytesBE 6 (n 0) ++ bytesBE 2 0 ++ bytesBE 4 (n 1) ++ bytesBE 4 (n 2)
    | .proofNak => (args.drop 1).flatMap (bytesBE 4)
    | .xferData => bytesBE 8 (n 1) ++ bytesBE 8 0 ++ (args.drop 2).map (BitVec.ofNat 8)
    | .xferAck => bytesBE 8 (n 1) ++ bytesBE 8 0
    | .xferOpen => bytesBE 1 1 ++ bytesBE 1 (n 1) ++ bytesBE 6 0 ++ bytesBE 8 (n 2) ++ bytesBE 32 (n 3)
    | .xferStaged => bytesBE 1 3 ++ bytesBE 1 (n 2) ++ bytesBE 6 0 ++ bytesBE 8 (n 3) ++ bytesBE 32 (n 1)
    | .xferClose => bytesBE 1 2 ++ bytesBE 1 (n 1) ++ bytesBE 6 0 ++ bytesBE 8 (n 2) ++ bytesBE 32 0
    | .resyncReq => bytesBE 1 7 ++ bytesBE 1 (n 0) ++ bytesBE 6 0 ++ bytesBE 8 (n 1) ++ bytesBE 32 0
    | .xferArm => bytesBE 1 4 ++ bytesBE 1 (n 1) ++ bytesBE 6 (n 0) ++ bytesBE 8 (n 2) ++ bytesBE 32 0
    | .xferConfirm => bytesBE 1 5 ++ bytesBE 1 (n 1) ++ bytesBE 6 (n 0) ++ bytesBE 8 (n 2) ++ bytesBE 32 0
    | .xferCancel => bytesBE 1 6 ++ bytesBE 1 (n 1) ++ bytesBE 6 (n 0) ++ bytesBE 8 (n 2) ++ bytesBE 32 0
    | _ => (args.drop 2).map (BitVec.ofNat 8))

/-- CSUM: the GF(16) sum of the check fields of the 128-bit words of a body (R168, R252). -/
def codeSum : List Byte → BitVec 16
  | a0 :: a1 :: a2 :: a3 :: a4 :: a5 :: a6 :: a7 :: b0 :: b1 :: b2 :: b3 :: b4 :: b5 :: b6 :: b7 :: l =>
    eccCheck (BitVec.ofNat 128 (natBE [a0, a1, a2, a3, a4, a5, a6, a7, b0, b1, b2, b3, b4, b5, b6, b7])) ^^^ codeSum l
  | _ => 0#16

/-- Header of a frame: LEN counts header and body in blocks (R251). -/
def linkHeader (type ver param : Nat) (body : List Byte) : List Byte :=
  [BitVec.ofNat 8 type, BitVec.ofNat 8 ver] ++ bytesBE 2 (1 + body.length / 8) ++ bytesBE 4 param

/-- A frame as it goes on the link: header, body, and the trailer with CSUM and CRC (R251, R252). -/
def linkFrame (type ver param : Nat) (body : List Byte) : List Byte :=
  let h := linkHeader type ver param body
  h ++ body ++ bytesBE 2 (codeSum body).toNat ++ bytesBE 4 (crc32c (h ++ body)).toNat ++ [0#8]

/-- The module sends something. -/
def State.send (s : State) (w : Out) (args : List Nat) : State := { s with sent := { what := w, args := args } :: s.sent }

/-- A frame leaves over the partner link: its fields, and its bytes. -/
def State.linkSend (s : State) (w : Out) (args : List Nat) : State :=
  if s.linkMay w then
    let s := s.send w args
    { s with wire := linkFrame (linkType w) (s.frameVer w) (linkParam s.link.xfer.ident w args) (linkBody w args) :: s.wire }
  else s

/-- An XFER_CTRL frame leaves: its own fields, then kind and total length of the transfer (R271). It is the last operation (R276). -/
def State.ctrlSend (s : State) (w : Out) (args : List Nat) : State :=
  let x := s.link.xfer
  let s := s.linkSend w (args ++ [x.kind.code, x.length])
  if s.linkMay w then { s with link := { s.link with xfer := { x with lastOp := xferOp w } } } else s

end Sys2Proof.Machine
end

