-- ==== Sys2Proof/Machine/Tab.lean ====
section
/-! DEFINITION. Sparse tables in one canonical form: reading, writing, clearing a range, and the form itself. -/

namespace Sys2Proof.Machine

/-- Read a table whose unlisted keys read as `d`. -/
def tget {α : Type} (d : Nat → α) : Tab α → Nat → α
  | [], k => d k
  | (j, v) :: t, k => if k = j then v else tget d t k

/-- List an entry in its place among rising keys. -/
def tput {α : Type} : Tab α → Nat → α → Tab α
  | [], k, v => [(k, v)]
  | (j, w) :: t, k, v => if k < j then (k, v) :: (j, w) :: t else if k = j then (k, v) :: t else (j, w) :: tput t k v

/-- Write a table: keys stay rising, and an entry equal to what an unlisted key reads as is left out. -/
def tset {α : Type} [DecidableEq α] (d : Nat → α) (t : Tab α) (k : Nat) (v : α) : Tab α :=
  if v = d k then t.filter (fun e => e.1 != k) else tput t k v

/-- Every key in [lo, hi) back to what an unlisted key reads as. -/
def tclear {α : Type} (t : Tab α) (lo hi : Nat) : Tab α := t.filter (fun e => !(decide (lo ≤ e.1 ∧ e.1 < hi)))

/-- The keys of a table in [lo, hi), rising. -/
def tkeys {α : Type} (t : Tab α) (lo hi : Nat) : List Nat := (t.map Prod.fst).filter (fun k => decide (lo ≤ k ∧ k < hi))

/-- All keys listed are above `k`, in rising order, and no entry is a default. -/
def twfFrom {α : Type} [DecidableEq α] (d : Nat → α) : Nat → Tab α → Bool
  | _, [] => true
  | lo, (j, v) :: t => decide (lo ≤ j) && decide (v ≠ d j) && twfFrom d (j + 1) t

/-- The canonical form: keys strictly rising, no entry equal to what an unlisted key reads as. -/
def twf {α : Type} [DecidableEq α] (d : Nat → α) (t : Tab α) : Bool := twfFrom d 0 t

/-- A table of Bools used as a set of numbers. -/
def tmem (t : Tab Bool) (k : Nat) : Bool := tget (fun _ => false) t k

/-- Add a number to a set. -/
def tadd (t : Tab Bool) (k : Nat) : Tab Bool := tset (fun _ => false) t k true

/-- Take a number out of a set. -/
def tdel (t : Tab Bool) (k : Nat) : Tab Bool := tset (fun _ => false) t k false

/-- Write consecutive keys from `k`. -/
def tsetAll {α : Type} [DecidableEq α] (d : Nat → α) (t : Tab α) (k : Nat) : List α → Tab α
  | [] => t
  | v :: vs => tsetAll d (tset d t k v) (k + 1) vs

end Sys2Proof.Machine
end

