-- ==== Sys2Proof/Machine/Ops.lean ====
section
/-! DEFINITION. The operations that every chapter uses: memory, registers, interrupts, error counts, journal intake, things sent, module failure. -/

namespace Sys2Proof.Machine

/-! ### Memory (R6, R156) -/

/-- What a byte of memory that nothing has written reads as (notes/assumptions/2.md). DESIGN CHOICE. -/
def memDefault : Nat → Byte := fun _ => 0#8

/-- The byte at a physical address. -/
def State.byte (s : State) (a : Nat) : Byte := tget memDefault s.mem a

/-- Write one byte. -/
def State.setByte (s : State) (a : Nat) (v : Byte) : State := { s with mem := tset memDefault s.mem a v }

/-- `n` bytes from `a`, little-endian, as a number (R6). -/
def State.loadLE (s : State) (a : Nat) : Nat → Nat
  | 0 => 0
  | n + 1 => (s.byte a).toNat + 256 * s.loadLE (a + 1) n

/-- Write the low `n` bytes of a number from `a`, little-endian (R6). -/
def State.storeLE (s : State) (a : Nat) : Nat → Nat → State
  | 0, _ => s
  | n + 1, v => (s.setByte a (BitVec.ofNat 8 v)).storeLE (a + 1) n (v / 256)

/-- `n` bytes from `a` as a list. -/
def State.bytes (s : State) (a : Nat) : Nat → List Byte
  | 0 => []
  | n + 1 => s.byte a :: s.bytes (a + 1) n

/-- Write a list of bytes from `a`. -/
def State.setBytes (s : State) (a : Nat) : List Byte → State
  | [] => s
  | b :: bs => (s.setByte a b).setBytes (a + 1) bs

/-- Write scattered bytes. -/
def State.setCells (s : State) : List (Nat × Byte) → State
  | [] => s
  | (a, b) :: l => (s.setByte a b).setCells l

/-- The form of the memory: addresses strictly rising, no entry equal to what an unlisted byte reads as. -/
def Memory.wf (m : Tab (BitVec 8)) : Bool := twf memDefault m

/-! ### Registers with storage -/

/-- A register with storage. -/
def State.reg (s : State) (p o : Nat) : Word := tget regReset s.regs (p * 0x1000 + o)

/-- Set a register with storage. -/
def State.setReg (s : State) (p o : Nat) (v : Word) : State := { s with regs := tset regReset s.regs (p * 0x1000 + o) v }

/-- One more in a counter that saturates at 0xFFFF_FFFE. -/
def State.count (s : State) (p o : Nat) : State := s.setReg p o (satInc (s.reg p o))

/-- `n` more in a counter that saturates at 0xFFFF_FFFE. -/
def State.countN (s : State) (p o n : Nat) : State := s.setReg p o (satAdd (s.reg p o) n)

/-- A field of a register as a number. -/
def State.fld (s : State) (p o lo n : Nat) : Nat := fieldNat (s.reg p o) lo n

/-- A bit of a register. -/
def State.rbit (s : State) (p o i : Nat) : Bool := bit (s.reg p o) i

/-- Set a field of a register. -/
def State.setFld (s : State) (p o lo n x : Nat) : State := s.setReg p o (setField (s.reg p o) lo n x)

/-- Set or clear a bit of a register. -/
def State.setBit (s : State) (p o i : Nat) (b : Bool) : State := s.setFld p o i 1 (if b then 1 else 0)

/-- The INT_RAW bits a page implements (R586). -/
def intMaskOf (p : Nat) : Nat :=
  match pageTy p with
  | some t => t.intMask
  | none => 0

/-- An event sets an INT_RAW bit of a page (R588). -/
def State.raise (s : State) (p b : Nat) : State :=
  s.setReg p Reg.com_INT_RAW (s.reg p Reg.com_INT_RAW ||| BitVec.ofNat 32 ((2 ^ b) &&& intMaskOf p))

/-- ERRCNT of a page increments (R591). -/
def State.err (s : State) (p : Nat) : State := s.count p Reg.com_ERRCNT

/-- Whether the quoin of a page is locked (R589). -/
def State.locked (s : State) (p : Nat) : Bool := s.rbit p Reg.com_QUOIN 0

/-- A cause is raised for the error task (R62). -/
def State.cause (s : State) (b : Nat) : State :=
  s.setReg Page.bell Reg.bell_ERR_PEND (s.reg Page.bell Reg.bell_ERR_PEND ||| BitVec.ofNat 32 (2 ^ b))

/-- Cycle number [31:0], the P0 of hardware records (R518). -/
def State.cyc32 (s : State) : Word := BitVec.ofNat 32 s.bell.cycle

/-! ### Journal intake (R516 to R527) -/

/-- SOURCE of a hardware record of a page (R517). -/
def pageSource (p : Nat) : Half := BitVec.ofNat 16 (p / 16 * 256 + pageInst p % 256)

/-- SOURCE of the page of unit u: group 0x02, instance u (R517, R518). -/
def unitSource (u : Nat) : Half := BitVec.ofNat 16 (0x200 + u)

/-- The staging queue that carries a source: its register group, or 32 + n for the records of cluster n (R525). -/
def queueOf (src : Half) : Nat := if src.toNat / 256 = 0x90 then 32 + src.toNat % 256 else src.toNat / 256

/-- Add `n` to the count of an entry of a list of losses, kept in the order of first losses. -/
def addLoss (l : List (Nat × Nat × Nat)) (q src n : Nat) : List (Nat × Nat × Nat) :=
  match l with
  | [] => [(q, src, n)]
  | (q', src', m) :: t => if q' = q ∧ src' = src then (q', src', m + n) :: t else (q', src', m) :: addLoss t q src n

/-- Whether a record is under the rate limit of R527: hardware sources, classes 0x02 and 0x03 of R518. -/
def rateLimited (r : JRec) : Bool :=
  decide (r.source.toNat / 256 < 0x14) && (decide (r.code.toNat / 256 = 2) || decide (r.code.toNat / 256 = 3))

/-- A record is offered to the direct intake (R525), and nothing waits on it (R11): discarded while FULL or closed, suppressed beyond RATE_MAX, lost at a full queue (R523, R526, R527, R530). -/
def State.offer (s : State) (r : JRec) : State :=
  let j := s.jrn
  if j.closed then { s with jrn := { j with afterClose := j.afterClose + 1 } }
  else if j.full then s.count Page.jrn Reg.jrn_JRN_DROP_FULL
  else
    let src := r.source.toNat
    -- a new TAI second starts new counts
    let j := if j.rateSec = s.tb.time.sec then j else { j with rateSec := s.tb.time.sec, rate := [] }
    let n := tget (fun _ => 0) j.rate src
    if rateLimited r && decide (s.fld Page.jrn Reg.jrn_JRN_CFG 0 8 ≤ n) then
      ({ s with jrn := { j with supp := tset (fun _ => 0) j.supp src (tget (fun _ => 0) j.supp src + 1) } }).count
        Page.jrn Reg.jrn_JRN_SUPP
    else
      let j := if rateLimited r then { j with rate := tset (fun _ => 0) j.rate src (n + 1) } else j
      let q := queueOf r.source
      let l := tget (fun _ => []) j.queues q
      if l.length ≥ 8 then
        ({ s with jrn := { j with lost := addLoss j.lost q src 1 } }).count Page.jrn Reg.jrn_JRN_LOST
      else { s with jrn := { j with queues := tset (fun _ => []) j.queues q (l ++ [r]) } }

/-- A hardware or firmware record of a page under R518: class and bit, offset of the register that describes the event and its value. -/
def State.journal (s : State) (p code off : Nat) (v : Word) : State :=
  s.offer { code := BitVec.ofNat 16 code, source := pageSource p, cal := s.tb.calendar, p0 := s.cyc32, p1 := BitVec.ofNat 32 off, p2 := v }

/-- As `journal`, describing a register with storage. -/
def State.journalReg (s : State) (p code off : Nat) : State := s.journal p code off (s.reg p off)

/-- A frame or record is discarded under R10: counted, and recorded with class 0x02 (R518). -/
def State.discard (s : State) (p off : Nat) : State := (s.count p off).journalReg p 0x02FF off

/-- A record of cluster n's runtime or of its own stop (R608). -/
def State.journalCluster (s : State) (n code : Nat) (p0 p1 : Word) : State :=
  s.offer { code := BitVec.ofNat 16 code, source := BitVec.ofNat 16 (0x9000 + n), cal := s.tb.calendar, p0 := p0, p1 := p1, p2 := s.cyc32 }

/-! ### Clusters, units and pages read often -/

/-- The registers of cluster n. -/
def State.core (s : State) (n : Nat) : Core := tget (fun _ => {}) s.cores n

/-- Replace the registers of cluster n. -/
def State.setCore (s : State) (n : Nat) (c : Core) : State := { s with cores := tset (fun _ => {}) s.cores n c }

/-- State of cluster n; FAILED until the start state of R132 is taken. -/
def State.cluster (s : State) (n : Nat) : ClSt := tget (fun _ => ClSt.failed) s.clusters n

/-- Set the state of a cluster. -/
def State.setCluster (s : State) (n : Nat) (c : ClSt) : State := { s with clusters := tset (fun _ => ClSt.failed) s.clusters n c }

/-- Unit u. -/
def State.unit (s : State) (u : Nat) : CUnit := tget (fun _ => {}) s.units u

/-- Replace unit u. -/
def State.setUnit (s : State) (u : Nat) (x : CUnit) : State := { s with units := tset (fun _ => {}) s.units u x }

/-! ### The pair page's ROLE (R242) and the role -/

/-- Code of a role (R212). -/
def Role.code : Role → Nat
  | .starting => 0 | .active => 1 | .standbySync => 2 | .standbyUnsync => 3 | .maintenance => 4 | .failed => 5

/-- The word ROLE (R242). -/
def roleWord (p : Pair) : Word :=
  BitVec.ofNat 32 p.role.code ||| (ofBool 32 p.sideB <<< 3) ||| (ofBool 32 p.peerPresent <<< 4) ||| (ofBool 32 p.syncPair <<< 5)
    ||| (ofBool 32 p.suspended <<< 6) ||| (ofBool 32 p.negFail <<< 7) ||| (ofBool 32 p.resyncBusy <<< 8)

/-- The pass gate (R215): both own lines read back asserted, both peer lines deasserted. -/
def Pair.gate (p : Pair) : Bool := p.own1 && p.own2 && !p.peer1 && !p.peer2

/-- The word PASS_STAT (R243). -/
def passWord (p : Pair) : Word :=
  ofBool 32 p.own1 ||| (ofBool 32 p.own2 <<< 1) ||| (ofBool 32 p.peer1 <<< 2) ||| (ofBool 32 p.peer2 <<< 3)
    ||| (ofBool 32 p.gate <<< 4) ||| (ofBool 32 p.driveEn <<< 5) ||| (ofBool 32 p.lineFault <<< 6) ||| (ofBool 32 p.conflict <<< 7)
    ||| (ofBool 32 p.claimWin <<< 8)

/-- Whether the module is ACTIVE. -/
def State.isActive (s : State) : Bool := s.pair.role == .active

/-- Whether the module is ACTIVE with a synchronised partner (R212). -/
def State.synced (s : State) : Bool := s.isActive && s.pair.syncPair

/-- A firmware bank: false A, true B. -/
def State.bank (s : State) (b : Bool) : FwBank := if b then s.sec.bankB else s.sec.bankA

/-- Replace a bank. -/
def State.setBank (s : State) (b : Bool) (x : FwBank) : State :=
  { s with sec := if b then { s.sec with bankB := x } else { s.sec with bankA := x } }

/-- The image of a class in a bank. -/
def FwBank.image (k : FwBank) (cls : Nat) : Option FwImage := tget (fun _ => none) k.images cls

/-- The version of the running firmware (R3, R596). -/
def State.fwVer (s : State) : BitVec 24 := (((s.bank s.sec.runB).image 2).map (·.version)).getD Config.fwVersion

/-- The running bank is confirmed, and the boot watchdog stops (R548). -/
def State.confirmBank (s : State) : State :=
  let s := s.setBank s.sec.runB { s.bank s.sec.runB with st := .good }
  { s with sec := { s.sec with wdg := false } }

/-- The firmware confirms a TRIAL bank by itself (R548). -/
def State.selfConfirm (s : State) : State :=
  match (s.bank s.sec.runB).st with
  | .trial => s.confirmBank
  | _ => s

/-- A save sequence has begun (R573). -/
def State.saving (s : State) : Bool := s.pwr.save != .none

/-- Code of an online-change state (R77). -/
def OlcStat.code : OlcStat → Nat
  | .idle => 0 | .staging => 1 | .staged => 2 | .armed => 3 | .migrating => 4 | .applied => 5
  | .forcedConflict => 8 | .digestFail => 9 | .noConfirm => 10 | .gapExceeded => 11 | .cancelled => 12

/-- Whether a state of R77 is one from which a change may start (R78). -/
def OlcStat.final (o : OlcStat) : Bool := o != .staging && o != .staged && o != .armed && o != .migrating

/-- The change ends in a state, and what was staged is dropped. -/
def State.olcEnd (s : State) (o : OlcStat) : State := { s with olc := { stat := o } }

/-- A transfer in progress ends without its content: what was stored is freed, and with a package the change ends in state `o` (R273, R276). -/
def State.xferDrop (s : State) (o : OlcStat) : State :=
  let x := s.link.xfer
  let s := ({ s with link := { s.link with xfer := { x with busy := false, failed := true, content := [] } } }).raise Page.link 4
  if x.kind = .package ∧ s.olc.stat.final = false then s.olcEnd o else s

/-- A change of role sets ROLE_CHG and writes a record of class 0x04 (R247, R518); a transfer in progress is abandoned with CANCEL (R273). DEDUCED: notes/assumptions/12.md. -/
def State.setRole (s : State) (r : Role) : State :=
  if s.pair.role = r then s
  else
    let s := { s with pair := { s.pair with role := r } }
    let s := match r with | .standbySync => s.selfConfirm | _ => s
    let s := s.raise Page.pair 0
    let s := s.journal Page.pair 0x0400 Reg.pair_ROLE (roleWord s.pair)
    if s.link.xfer.busy then (s.ctrlSend .xferCancel [0xC]).xferDrop .cancelled else s

/-- A change of holder that involves this module: SWO_COUNT, LAST_SWO, LAST_SWO_CYC (R241, R246). -/
def State.holderChange (s : State) (took : Bool) (cause cyc : Nat) : State :=
  let s := s.count Page.pair Reg.pair_SWO_COUNT
  let s := s.setReg Page.pair Reg.pair_LAST_SWO (BitVec.ofNat 32 (cause + if took then 16 else 0))
  let s := s.setReg Page.pair Reg.pair_LAST_SWO_CYC_LO (BitVec.ofNat 32 cyc)
  s.setReg Page.pair Reg.pair_LAST_SWO_CYC_HI (BitVec.ofNat 32 (cyc / 2 ^ 32 % 2 ^ 16))

/-- Both own lines are released; a cold-start claim and a conflict end with them (R218, R243). -/
def State.releaseLines (s : State) : State :=
  { s with pair := { s.pair with own1 := false, own2 := false, claimWin := false, cold := false, conflict := false } }

/-- The last acknowledged cycle, ACK_CYC (R241). -/
def State.ackCyc (s : State) : Nat :=
  (s.reg Page.pair Reg.pair_ACK_CYC_LO).toNat + 2 ^ 32 * ((s.reg Page.pair Reg.pair_ACK_CYC_HI).toNat % 2 ^ 16)

/-- Set ACK_CYC. -/
def State.setAckCyc (s : State) (k : Nat) : State :=
  (s.setReg Page.pair Reg.pair_ACK_CYC_LO (BitVec.ofNat 32 k)).setReg Page.pair Reg.pair_ACK_CYC_HI (BitVec.ofNat 32 (k / 2 ^ 32 % 2 ^ 16))

/-- No cluster executes any more: FAILED runs nothing (R212). -/
def stopCores (s : State) : Nat → State
  | 0 => s
  | n + 1 =>
    let s := stopCores s n
    let c := s.core n
    if c.status = .idle then s else s.setCore n { c with status := .idle }

/-- A module failure (R13, R37, R214): both own lines deasserted, a resign notice while the link is up, role FAILED. `cause` tells the failures apart. -/
def State.moduleFail (s : State) (cause : Nat) : State :=
  if s.pair.role = .failed then s
  else
    let held := s.pair.role == .active
    let s := s.releaseLines
    let s := s.linkSend .resign [1]
    let s := if held && s.pair.syncPair then s.holderChange false 2 (s.ackCyc + 1) else s
    let s := s.setRole .failed
    let s := stopCores s 16
    { s with pair := { s.pair with syncPair := false, resyncBusy := false, failCause := cause },
             bell := { s.bell with cycleOpen := false, coresStarted := false },
             dirty := { s.dirty with on := false } }

/-- The module has no power in, or its failure stops, everything but the service port (R212). -/
def State.alive (s : State) : Bool := s.pair.role != .failed

/-- An input of a module that is not alive has no effect (R214). -/
def State.ifAlive (s : State) (f : State → State) : State := if s.alive then f s else s

/-- The answer of a command that goes on. -/
abbrev Res := Host.Outcome State Fault Refusal

end Sys2Proof.Machine
end

