-- ==== Sys2Proof/Machine/Protect.lean ====
section
/-! DEFINITION. Access protection: rules, the master-side and target-side checks, fixed checks, refusals (R188 to R211). -/

namespace Sys2Proof.Machine

/-- The operation of an access (R210). -/
inductive AccOp where
  | read | write | fetch
  deriving DecidableEq, Repr

/-- Code of an operation (R210). -/
def AccOp.code : AccOp → Nat
  | .read => 0 | .write => 1 | .fetch => 2

/-- Bit of the attribute that grants an operation at a privilege (R189). -/
def attrBit (p : Priv) (o : AccOp) : Nat := (match p with | .p2 => 0 | .p1 => 3 | .p0 => 6) + o.code

/-- A word of rule i in a bank of a check page (R209). -/
def State.ruleWord (s : State) (p : Nat) (bank : Bool) (i j : Nat) : Word :=
  tget (fun _ => 0#32) s.prot.rules ((p * 2 + if bank then 1 else 0) * 256 + i * 8 + j)

/-- The line number (address / 64) that a low and a high word name. -/
def lineOf (lo hi : Word) : Nat := fieldNat lo 6 26 + 2 ^ 26 * fieldNat hi 0 8

/-- Whether rule i of a bank is enabled, covers a line and applies to a master ID (R190, R196). -/
def State.ruleHits (s : State) (p : Nat) (bank tgt : Bool) (mid line i : Nat) : Bool :=
  let lo := s.ruleWord p bank i 0
  let m := s.ruleWord p bank i 5
  bit lo 0 && decide (lineOf lo (s.ruleWord p bank i 1) ≤ line ∧ line ≤ lineOf (s.ruleWord p bank i 2) (s.ruleWord p bank i 3))
    && (!tgt || decide ((mid ^^^ fieldNat m 0 12) &&& fieldNat m 16 12 = 0))

/-- The lowest-numbered rule, among those from i on, that decides a line (R190). -/
def State.decidingRule (s : State) (p : Nat) (bank tgt : Bool) (mid line : Nat) : Nat → Nat → Option Nat
  | _, 0 => none
  | i, n + 1 => if s.ruleHits p bank tgt mid line i then some i else s.decidingRule p bank tgt mid line (i + 1) n

/-- What a check says of one line: permitted, denied by a rule, or covered by none. -/
inductive LineRes where
  | ok | denied (rule : Nat) | noRule
  deriving DecidableEq, Repr

/-- The decision on one line (R190, R199): open mode permits P0 and denies the rest. -/
def State.checkLine (s : State) (p : Nat) (bank tgt : Bool) (rules mid line : Nat) (pr : Priv) (o : AccOp) : LineRes :=
  if s.prot.openMode then (if pr = .p0 then .ok else .noRule)
  else match s.decidingRule p bank tgt mid line 0 rules with
    | none => .noRule
    | some i => if bit (s.ruleWord p bank i 4) (attrBit pr o) then .ok else .denied i

/-- Decision on a whole access: reason and deciding rule of R210 and the first denied line, or none when permitted (R190, R193, R210). -/
def summarise (l : List (Nat × LineRes)) : Option (Nat × Nat × Nat) :=
  match l.find? (fun e => e.2 ≠ LineRes.ok) with
  | none => none
  | some (line, r) =>
    let anyOk := l.any (fun e => e.2 = LineRes.ok)
    let anyNo := l.any (fun e => e.2 = LineRes.noRule)
    let rule := match r with | .denied i => i | _ => 0
    if anyOk then some (3, 0, line) else if anyNo then some (1, 0, line) else some (2, rule, line)

/-- The lines from `line` on, `n` of them, with the decision on each. -/
def State.checkLines (s : State) (p : Nat) (bank tgt : Bool) (rules mid : Nat) (pr : Priv) (o : AccOp) (line : Nat) : Nat → List (Nat × LineRes)
  | 0 => []
  | n + 1 => (line, s.checkLine p bank tgt rules mid line pr o) :: s.checkLines p bank tgt rules mid pr o (line + 1) n

/-- A check of an access of `len` bytes at `a`. -/
def State.checkAccess (s : State) (p : Nat) (bank tgt : Bool) (rules mid : Nat) (pr : Priv) (o : AccOp) (a len : Nat) : Option (Nat × Nat × Nat) :=
  summarise (s.checkLines p bank tgt rules mid pr o (a / 64) ((a + len - 1) / 64 - a / 64 + 1))

/-- FAULT_INFO or TFAULT_INFO of a refusal, VALID set (R210). -/
def faultInfo (mid : Nat) (disagree bank : Bool) (rule reason : Nat) (pr : Priv) (o : AccOp) : Word :=
  BitVec.ofNat 32 (mid * 2 ^ 16 + 2 ^ 15 + (if disagree then 2 ^ 14 else 0) + (if bank then 2 ^ 13 else 0) + rule * 2 ^ 8
    + reason * 16 + pr.code.toNat * 4 + o.code)

/-- A master-side denial (R195): counted, latched while FAULT_INFO[VALID] is clear, reported. -/
def State.masterDenial (s : State) (p : Nat) (bank : Bool) (reason rule line a len : Nat) (pr : Priv) (o : AccOp) : State :=
  let s := s.count p Reg.ms_FAULT_CNT
  let s :=
    if s.rbit p Reg.ms_FAULT_INFO 15 then s
    else
      let s := s.setReg p Reg.ms_FAULT_ADDR_LO (BitVec.ofNat 32 a)
      let s := s.setReg p Reg.ms_FAULT_ADDR_HI (BitVec.ofNat 32 (a / 2 ^ 32))
      let s := s.setReg p Reg.ms_FAULT_INFO (faultInfo 0 false bank rule reason pr o)
      let s := s.setReg p Reg.ms_FAULT_LEN (BitVec.ofNat 32 len)
      let s := s.setReg p Reg.ms_DENY_ADDR_LO (BitVec.ofNat 32 (line * 64))
      s.setReg p Reg.ms_DENY_ADDR_HI (BitVec.ofNat 32 (line * 64 / 2 ^ 32))
  let s := s.raise p 0
  s.journalReg p 0x0100 Reg.ms_FAULT_INFO

/-- The bank a master issues under: its epoch bit (R200). -/
def State.bankOf (s : State) (mid : Nat) : Bool := tget (fun _ => false) s.prot.bank mid

/-- Whether a swap is under way (R206). -/
def State.swapBusy (s : State) : Bool := !s.prot.pend.isEmpty

/-- The target of an address (R196), none where it is unpopulated (R157). -/
def targetOf (a : Nat) : Option Nat :=
  if a < 0x8000000 then (if a % 0x1000000 < 0xC00000 then some (a / 0x1000000) else none)
  else if 0x10000000 ≤ a ∧ a < 0x11000000 then some 9
  else if 0x20000000 ≤ a ∧ a < 0x20140000 then (if (pageTy ((a - 0x20000000) / 0x1000)).isSome then some 10 else none)
  else if 0x30000000 ≤ a ∧ a < 0x30040000 then some 11
  else if 0x40000000 ≤ a ∧ a < 0x40200000 then some 12
  else if 0x41000000 ≤ a ∧ a < 0x41200000 then some 13
  else if 0x80000000 ≤ a ∧ a < 0x80180000 then some 8
  else if 0x400000000 ≤ a ∧ a < 0x7FFF00000 then some 14
  else none

/-- The fixed checks (R191): whether an access keeps them. -/
def fixedOk (standby : Bool) (mid : Nat) (pr : Priv) (o : AccOp) (a : Nat) : Bool :=
  if 0x80000000 ≤ a ∧ a < 0x80080000 then o ≠ .write || mid == 0x028
  else if 0x80080000 ≤ a ∧ a < 0x80100000 then o ≠ .write || (mid == 0x021 && standby)
  else if 0x80100000 ≤ a ∧ a < 0x80180000 then o ≠ .write || mid == 0x029
  else if 0x10000000 ≤ a ∧ a < 0x10400000 then o ≠ .write || mid == 0x038
  else if 0x30000000 ≤ a ∧ a < 0x30040000 then o = .read && mid == 0x040
  else if (0x20040000 ≤ a ∧ a < 0x20060000) ∨ (0x20038000 ≤ a ∧ a < 0x20040000) then o ≠ .write || pr = .p0 || mid == 0x040
  else true

/-- The areas whose other writers the firmware's target rules keep out (R163, R191), and the firmware's own DRAM (R161): whether an access keeps them. `load` says that the configuration is being loaded; the NAND controller loads it again after an uncorrectable word (R172). DEDUCED: notes/assumptions/57.md. -/
def areaOk (load : Bool) (mid : Nat) (pr : Priv) (o : AccOp) (a : Nat) : Bool :=
  if 0x10400000 ≤ a ∧ a < 0x10440000 then o ≠ .write || pr = .p0
  else if 0x10440000 ≤ a ∧ a < 0x10800000 then o ≠ .write || mid == 0x041
  else if 0x10800000 ≤ a ∧ a < 0x11000000 then o ≠ .write || (pr = .p0 && load) || mid == 0x042
  else if 0x400000000 ≤ a ∧ a < 0x480000000 then pr ≠ .p2
  else true

/-- A target refusal (R197, R198): counted, latched, reported, and a disagreement where R198 says so. -/
def State.targetRefusal (s : State) (t mid : Nat) (bank : Bool) (reason rule a : Nat) (pr : Priv) (o : AccOp) : State :=
  let p := Page.target t
  let dis := decide (mid ≤ 0x17) && decide (reason ≠ 5) && decide (reason ≠ 6)
  let s := s.count p Reg.tc_TFAULT_CNT
  let s :=
    if s.rbit p Reg.tc_TFAULT_INFO 15 then s
    else
      let s := s.setReg p Reg.tc_TFAULT_ADDR_LO (BitVec.ofNat 32 a)
      let s := s.setReg p Reg.tc_TFAULT_ADDR_HI (BitVec.ofNat 32 (a / 2 ^ 32))
      s.setReg p Reg.tc_TFAULT_INFO (faultInfo mid dis bank rule reason pr o)
  let s := (s.raise p 0).raise Page.pctrl 1
  let s := s.journalReg p 0x0300 Reg.tc_TFAULT_INFO
  let s := if dis then (((s.count p Reg.tc_DISAGREE_CNT).raise p 1).raise Page.pctrl 2).count Page.pctrl Reg.pc_DISAGREE_TOTAL else s
  if reason = 6 then (((s.count p Reg.tc_STALE_CNT).raise p 2).raise Page.pctrl 3).count Page.pctrl Reg.pc_STALE_TOTAL else s

/-- The masters of R188. -/
def masters : List Nat :=
  List.range 16 ++ (List.range 8).map (· + 0x10) ++ [0x20, 0x21, 0x28, 0x29, 0x2A, 0x38, 0x39, 0x3A, 0x40, 0x41, 0x42]

/-- The epoch bit (R206). -/
def State.epochBit (s : State) : Bool := s.rbit Page.pctrl Reg.pc_RULE_EPOCH 0

/-- What a target says of an access that keeps the fixed checks: the open-mode areas, STALE, then the rules (R190, R196, R199, R204). -/
def State.targetRules (s : State) (t mid : Nat) (pr : Priv) (o : AccOp) (a len : Nat) : State × Bool :=
  let bank := s.bankOf mid
  if !s.prot.openMode && !areaOk (s.fld Page.clk Reg.clk_STARTUP_STEP 0 4 == 6) mid pr o a then (s.targetRefusal t mid bank 1 0 a pr o, false)
  else if !s.swapBusy && bank != s.epochBit then (s.targetRefusal t mid bank 6 0 a pr o, false)
  else match s.checkAccess (Page.target t) bank true 16 mid pr o a len with
    | none => (s, true)
    | some (reason, rule, _) => (s.targetRefusal t mid bank reason rule a pr o, false)

/-- The target-side check of one access or burst, of which no area of R191 is shorter (R191, R196 to R198, R204): the state after it and whether it is permitted. -/
def State.targetCheck (s : State) (mid : Nat) (pr : Priv) (o : AccOp) (a len : Nat) : State × Bool :=
  match targetOf a with
  | none => (s, false)
  | some t =>
    let bank := s.bankOf mid
    let stb := s.pair.role == .standbySync || s.pair.role == .standbyUnsync
    if !masters.contains mid then (s.targetRefusal t mid bank 7 0 a pr o, false)
    else if !fixedOk stb mid pr o a || !fixedOk stb mid pr o (a + (len - 1)) then (s.targetRefusal t mid bank 5 0 a pr o, false)
    else s.targetRules t mid pr o a len

/-- An access of a fixed-function master (R188, R196): it carries P0, and one check decides the whole burst. A refusal is what the target makes of it (R197). -/
def State.fixedMay (s : State) (mid : Nat) (o : AccOp) (a len : Nat) : State × Bool := s.targetCheck mid .p0 o a len

/-- Both checks of a cluster's access (R192, R196): the state after them and whether it is permitted. -/
def State.coreAccess (s : State) (n : Nat) (pr : Priv) (o : AccOp) (a len : Nat) : State × Bool :=
  let p := Page.msCl n
  let bank := s.bankOf n
  match s.checkAccess p bank false 32 n pr o a len with
  | some (reason, rule, line) => (s.masterDenial p bank reason rule line a len pr o, false)
  | none => s.targetCheck n pr o a len

/-- Both checks of an IMG instruction's access to an entry of the image windows, whose fixed check IMGWR is the one to keep (R191, R192, R196): DEDUCED, notes/assumptions/56.md. -/
def State.imgAccess (s : State) (n : Nat) (pr : Priv) (o : AccOp) (a : Nat) : State × Bool :=
  let p := Page.msCl n
  let bank := s.bankOf n
  match s.checkAccess p bank false 32 n pr o a 8 with
  | some (reason, rule, line) => (s.masterDenial p bank reason rule line a 8 pr o, false)
  | none => s.targetRules 8 n pr o a 8

/-- Both checks of an access by the DMA engine of region g at P0 (R194, R196). -/
def State.dmaAccess (s : State) (g : Nat) (o : AccOp) (a len : Nat) : State × Bool :=
  let p := Page.msDma g
  let bank := s.bankOf (0x10 + g)
  match s.checkAccess p bank false 32 (0x10 + g) .p0 o a len with
  | some (reason, rule, line) => (s.masterDenial p bank reason rule line a len .p0 o, false)
  | none => s.targetCheck (0x10 + g) .p0 o a len

/-- Where a core's load or store may go at all (R103): own region, other SRAM, MRAM, register pages, loop engine SRAM. -/
def coreReach (a : Nat) : Bool :=
  match targetOf a with
  | some t => t ≠ 8 && t ≠ 11 && t ≠ 14
  | none => false

/-- Whether an address lies in the lower 12 MiB of the window of cluster n's own region (R16, R103). -/
def ownRegion (n a : Nat) : Bool := decide (a / 0x1000000 = n / 2 ∧ a % 0x1000000 < 0xC00000)

end Sys2Proof.Machine
end

