-- ==== Sys2Proof/Machine/Ecc.lean ====
section
/-! DEFINITION. The code on 128 bits, corrections, uncorrectable words, remapping, dirty-line tracking (R156 to R181). -/

namespace Sys2Proof.Machine

/-! ### The memories (R156, R182, R186) -/

/-- The memory that holds an address: 0 to 7 regions, 8 DRAM, 9 MRAM, 11 image, 12 and 13 loop engine SRAM (10 is NAND). -/
def memOf (a : Nat) : Option Nat :=
  if a < 0x8000000 then (if a % 0x1000000 < 0xC00000 then some (a / 0x1000000) else none)
  else if 0x10000000 ≤ a ∧ a < 0x11000000 then some 9
  else if 0x40000000 ≤ a ∧ a < 0x40200000 then some 12
  else if 0x41000000 ≤ a ∧ a < 0x41200000 then some 13
  else if 0x80000000 ≤ a ∧ a < 0x80180000 then some 11
  else if 0x400000000 ≤ a ∧ a < 0x7FFF00000 then some 8
  else none

/-- The first address of a memory. -/
def memBase (m : Nat) : Nat :=
  if m < 8 then m * 0x1000000
  else if m = 8 then 0x400000000
  else if m = 9 then 0x10000000
  else if m = 11 then 0x80000000
  else if m = 12 then 0x40000000
  else 0x41000000

/-- Words, or NAND pages, of one scrub pass (R170); die memories by their ranges in R156. -/
def memWords (m : Nat) : Nat :=
  if m < 8 then 786432
  else if m = 8 then 1073676288
  else if m = 9 then 1048576
  else if m = 10 then 2097152
  else if m = 11 then 98304
  else 131072

/-- Spare lines of a memory (R176). -/
def memSpares (m : Nat) : Nat :=
  if m < 8 then 32 else if m = 8 then 16384 else if m = 9 then 256 else if m = 10 then 0 else 16

/-- The register page of a memory. -/
def memPage (m : Nat) : Nat := if m < 8 then Page.region m else Page.mem (m - 8)

/-- The correction state of a memory. -/
def State.corr (s : State) (m : Nat) : MemCorr := tget (fun _ => {}) s.memCorr m

/-- Replace the correction state of a memory. -/
def State.setCorr (s : State) (m : Nat) (c : MemCorr) : State := { s with memCorr := tset (fun _ => {}) s.memCorr m c }

/-- The error pattern of the stored word that holds an address. -/
def State.upset (s : State) (a : Nat) : BitVec 144 := tget (fun _ => 0#144) s.upsets (a / 16 * 16)

/-- Set the error pattern of a stored word. -/
def State.setUpset (s : State) (a : Nat) (e : BitVec 144) : State :=
  { s with upsets := tset (fun _ => 0#144) s.upsets (a / 16 * 16) e }

/-- Data bytes changed by what is left of an error after the decoder: used as stored, or miscorrected (R169). -/
def State.foldError (s : State) (w : Nat) (e : BitVec 144) : State :=
  let d := e.toNat % 2 ^ 128
  let s := s.setUpset w 0#144
  if d = 0 then s else s.storeLE w 16 (s.loadLE w 16 ^^^ d)

/-- Errors of the stored words of a range are gone: the words are written whole. -/
def State.cleanWords (s : State) (a n : Nat) : State :=
  { s with upsets := s.upsets.filter (fun e => !decide (a / 16 * 16 ≤ e.1 ∧ e.1 < a + n)) }

/-- Bytes written over whole words. -/
def State.putBytes (s : State) (a : Nat) (l : List Byte) : State := (s.cleanWords a l.length).setBytes a l

/-- Scattered bytes of areas that are written whole. -/
def State.putCells (s : State) (l : List (Nat × Byte)) : State :=
  ({ s with upsets := s.upsets.filter (fun e => !l.any (fun c => c.1 / 16 * 16 == e.1)) }).setCells l

/-- The DMA engine that serves an address: that of its region (R26). -/
def dmaOf (a : Nat) : Nat := if a < 0x8000000 then a / 0x1000000 else 0

/-- Scattered bytes that the region DMA engines write line by line, each where both checks permit it (R26, R194, R196): DEDUCED, notes/assumptions/57.md. -/
def State.dmaPut (s : State) (l : List (Nat × Byte)) : State :=
  (l.map (fun c => c.1 / 64)).eraseDups.foldl (fun s n =>
    match s.dmaAccess (dmaOf (n * 64)) .write (n * 64) 64 with
    | (s, true) => s.putCells (l.filter (fun c => c.1 / 64 == n))
    | (s, false) => s) s

/-- TCLK in n seconds. -/
def secTclk (n : Nat) : Nat := n * 250000000

/-! ### Counting and remapping (R173 to R176) -/

/-- The oldest entry of a correction log. -/
def oldestEntry (l : List CorrEntry) : Option CorrEntry :=
  l.foldl (fun o e => match o with | none => some e | some x => if e.time < x.time then some e else some x) none

/-- REMAP_STAT with `used` spares taken: LOW from three quarters on, OUT when none is left, each with its interrupt as it becomes set (R176, R185). -/
def State.remapUsed (s : State) (m used : Nat) : State :=
  let p := memPage m
  let s := s.setFld p Reg.rg_REMAP_STAT 0 16 used
  let s := if 3 * memSpares m ≤ 4 * used ∧ ¬ s.rbit p Reg.rg_REMAP_STAT 16 then (s.setBit p Reg.rg_REMAP_STAT 16 true).raise p 4 else s
  if memSpares m ≤ used ∧ ¬ s.rbit p Reg.rg_REMAP_STAT 17 then (s.setBit p Reg.rg_REMAP_STAT 17 true).raise p 5 else s

/-- A word becomes lasting: its line is remapped while a spare is left, a line that has a spare too (R175, R176). -/
def State.makeLasting (s : State) (m w : Nat) : State :=
  let p := memPage m
  let s := (s.count p Reg.rg_LASTING_CNT).raise p 2
  let line := w / 64 * 64
  let c := s.corr m
  let c := { c with lasting := c.lasting ++ [w] }
  let s := s.setCorr m c
  let used := s.fld p Reg.rg_REMAP_STAT 0 16
  if (c.copying.map Prod.fst).contains line then s
  else if used + c.copying.length < memSpares m then s.setCorr m { c with copying := c.copying ++ [(line, 0)] }
  else s.journalReg p 0x0105 Reg.rg_REMAP_STAT

/-- A correction counted in the log of its memory (R173): renewed outside CORR_WINDOW, lasting from CORR_LIMIT on. -/
def State.logCorrection (s : State) (m w : Nat) : State :=
  let p := memPage m
  let c := s.corr m
  let limit := s.fld p Reg.rg_CORR_LIMIT 0 4
  let window := secTclk (s.reg p Reg.rg_CORR_WINDOW).toNat
  match c.log.find? (fun e => e.word = w) with
  | some e =>
    let n := if s.now - e.time ≤ window then e.count + 1 else 1
    let log := c.log.map (fun x => if x.word = w then { word := w, time := s.now, count := n } else x)
    let s := s.setCorr m { c with log := log }
    if limit ≤ n ∧ ¬ c.lasting.contains w then s.makeLasting m w else s
  | none =>
    let e : CorrEntry := { word := w, time := s.now, count := 1 }
    if c.log.length < 64 then s.setCorr m { c with log := c.log ++ [e] }
    else
      let log := match oldestEntry c.log with | some o => c.log.erase o | none => c.log
      (s.setCorr m { c with log := log ++ [e] }).count p Reg.rg_LOG_OVF

/-- CORRECTION: a corrected word is counted, shown and logged (R171, R173, R183). LAST_CORR_ADDR holds the low 32 bits of a longer address: DESIGN CHOICE, notes/assumptions/32.md (R186). -/
def State.corrected (s : State) (m w src sym : Nat) (v : BitVec 4) : State :=
  let p := memPage m
  let s := s.count p Reg.rg_CORR_CNT
  let s := s.setReg p Reg.rg_LAST_CORR_ADDR (BitVec.ofNat 32 w)
  let s := s.setReg p Reg.rg_LAST_CORR_INFO (BitVec.ofNat 32 (src * 2 ^ 12 + sym * 16 + v.toNat))
  let s := s.raise p 0
  s.logCorrection m w

/-- The NAND controller writes the line of a word again from NAND (R172), where the target lets it (R188, R196). -/
def State.nandReload (s : State) (w : Nat) : State :=
  match s.fixedMay 0x042 .write (w / 64 * 64) 64 with
  | (s, true) => s.setUpset w 0#144
  | (s, false) => s

/-- UNCORRECTABLE_WORD: counted, reported, and the outcome of its memory (R28, R37, R172, R185). Failure cause 28. -/
def State.uncorrectable (s : State) (m w : Nat) : State :=
  let p := memPage m
  let s := (s.count p Reg.rg_UNCORR_CNT).raise p 1
  let s := s.journalReg p 0x0101 Reg.rg_UNCORR_CNT
  if m < 8 ∨ 11 ≤ m then s.moduleFail 28
  else if m = 8 ∧ w < 0x480000000 then s.moduleFail 28
  -- the project copy and the active configuration are read again from NAND
  else if m = 8 ∧ w < 0x500000000 then s.nandReload w
  else if m = 9 ∧ 0x10800000 ≤ w then s.nandReload w
  -- a record of the recorder ring is lost
  else if m = 8 ∧ w < 0x700000000 then s.count Page.recd Reg.rec_SHED
  else s

/-- A read of the stored word at `w` by a requester (R171, R172): the state after it and whether a word could be returned. Sources as in R183. -/
def State.eccRead (s : State) (w src : Nat) : State × Bool :=
  let w := w / 16 * 16
  let e := s.upset w
  if e = 0#144 then (s, true)
  else match memOf w with
    | none => (s, true)
    | some m =>
      match eccDecode e with
      | .asStored => (s.foldError w e, true)
      | .corrected j v => ((s.foldError w (e ^^^ BitVec.ofNat 144 (v.toNat * 2 ^ (4 * j)))).corrected m w src j v, true)
      | .uncorrectable => (s.uncorrectable m w, false)

/-- The stored words of a range, from a whole word on, are read (R171, R172): the state after it, and whether all could be returned. -/
def State.eccRange (s : State) (lo hi src : Nat) : State × Bool :=
  (tkeys s.upsets lo hi).foldl (fun (r : State × Bool) a =>
    if r.2 then r.1.eccRead a src else r) (s, true)

/-! ### The NAND (R165, R166) -/

/-- The first reserve block; 256 KiB blocks in the order of R165: bank A, bank B, project copies 1 and 2, journal archive from 12,288, reserve from 28,672. DESIGN CHOICE: notes/assumptions/57.md. -/
def nandReserve : Nat := 28672

/-- RESERVE_FREE: blocks of the 4,096 of the reserve that hold no pages (R165, R166, R187). -/
def Nand.reserveFree (n : Nand) : Word := BitVec.ofNat 32 (4096 - n.moved.length)

/-- Bytes of the blocks lo to hi − 1 that bad blocks without a reserve block have not taken away (R165, R166). -/
def Nand.room (n : Nand) (lo hi : Nat) : Nat :=
  0x40000 * (hi - lo - (n.bad.filter (fun b => decide (lo ≤ b ∧ b < hi) && !n.moved.any (fun m => m.1 == b))).length)

/-- Room of the journal archive, of the project store in each of its copies, and of a firmware bank (R165, R166). -/
def Nand.archiveRoom (n : Nand) : Nat := n.room 12288 nandReserve
def Nand.projectRoom (n : Nand) : Nat := min (n.room 4096 8192) (n.room 8192 12288)
def Nand.bankRoom (n : Nand) (b : Bool) : Nat := if b then n.room 2048 4096 else n.room 0 2048

/-! ### Dirty lines (R177, R178) -/

/-- Whether a region line offset lies in a tracked range in force. -/
def trackedIn (ranges : Tab Word) (g off : Nat) : Nat → Bool
  | 0 => false
  | i + 1 =>
    let base := tget (fun _ => 0#32) ranges (g * 8 + 2 * i)
    let limit := tget (fun _ => 0#32) ranges (g * 8 + 2 * i + 1)
    (bit base 0 && decide (fieldNat base 6 18 ≤ off / 64 ∧ off / 64 ≤ fieldNat limit 6 18)) || trackedIn ranges g off i

/-- Whether the line of an address is tracked: the output working image always, region lines by TRK0 to TRK3. -/
def State.tracked (s : State) (a : Nat) : Bool :=
  if 0x80080000 ≤ a ∧ a < 0x80100000 then true
  else if a < 0x8000000 ∧ a % 0x1000000 < 0xC00000 then trackedIn s.dirty.ranges (a / 0x1000000) (a % 0x1000000) 4
  else false

/-- Lines marked now in region g (R182). -/
def State.dirtyCount (s : State) (g : Nat) : Nat := (tkeys s.dirty.marked (g * 0x1000000) ((g + 1) * 0x1000000)).length

/-- DIRTY_PEAK follows DIRTY_COUNT of region g (R182). -/
def State.dirtyPeak (s : State) (g : Nat) : State :=
  let n := s.dirtyCount g
  if (s.reg (Page.region g) Reg.rg_DIRTY_PEAK).toNat < n then s.setReg (Page.region g) Reg.rg_DIRTY_PEAK (BitVec.ofNat 32 n) else s

/-- A completed write marks its line while tracking is on (R177). -/
def State.mark (s : State) (a : Nat) : State :=
  if s.dirty.on && s.tracked a then
    let s := { s with dirty := { s.dirty with marked := tadd s.dirty.marked (a / 64 * 64), swept := tdel s.dirty.swept (a / 64 * 64) } }
    if a < 0x8000000 then s.dirtyPeak (a / 0x1000000) else s
  else s

/-- A store of `n` bytes within a stored word, which no dirty bit follows: a store narrower than a word corrects it first and leaves an uncorrectable word unchanged (R160). The flag says that the store took effect. -/
def State.storeRaw (s : State) (a n v : Nat) : State × Bool :=
  if n = 16 then ((s.setUpset a 0#144).storeLE a 16 v, true)
  else
    let (s, ok) := s.eccRead a 4
    if ok then (s.storeLE a n v, true) else (s, false)

/-- A store of `n` bytes by a master (R160); the line is marked (R177). The flag says that the store took effect. -/
def State.store (s : State) (a n v : Nat) : State × Bool :=
  let (s, ok) := s.storeRaw a n v
  if ok then (s.mark a, true) else (s, false)

/-- A line takes a spare: its words start afresh in the log. DEDUCED: notes/assumptions/32.md. -/
def MemCorr.onSpare (c : MemCorr) (line : Nat) : MemCorr :=
  { c with
    copying := c.copying.filter (fun e => e.1 ≠ line), remapped := c.remapped ++ [line]
    log := c.log.filter (fun e => e.word / 64 * 64 ≠ line), lasting := c.lasting.filter (fun w => w / 64 * 64 ≠ line) }

/-- REMAP_SWITCH: after the fourth copy the line goes to its spare (R175, R176, R185). -/
def State.remapSwitch (s : State) (m line : Nat) : State :=
  let p := memPage m
  let s := s.setCorr m ((s.corr m).onSpare line)
  (s.raise p 3).remapUsed m (s.fld p Reg.rg_REMAP_STAT 0 16 + 1)

end Sys2Proof.Machine
end

