-- ==== Sys2Proof/Machine/Operands.lean ====
section
/-! DEFINITION. What an instruction of chapter 3 reads and writes: registers, pairs, privileges, instruction words, exceptions and the frame that every instruction runs in (R86 to R98, R121 to R124). -/

namespace Sys2Proof.Machine

/-! ### Registers (R90) -/

/-- General register r: g0 reads 0. -/
def Core.greg (c : Core) (r : BitVec 5) : Word := if r = 0#5 then 0#32 else tget (fun _ => 0#32) c.g r.toNat

/-- Write general register r: a write of g0 is discarded. -/
def Core.setG (c : Core) (r : BitVec 5) (v : Word) : Core :=
  if r = 0#5 then c else { c with g := tset (fun _ => 0#32) c.g r.toNat v }

/-- Floating-point register r. -/
def Core.freg (c : Core) (r : BitVec 5) : DWord := tget (fun _ => 0#64) c.f r.toNat

/-- Write floating-point register r. -/
def Core.setF (c : Core) (r : BitVec 5) (v : DWord) : Core := { c with f := tset (fun _ => 0#64) c.f r.toNat v }

/-- Pair gk:gk+1, gk low; pair g0:g1 reads 0. -/
def Core.pair (c : Core) (k : BitVec 5) : DWord :=
  if k = 0#5 then 0#64 else c.greg (k + 1#5) ++ c.greg k

/-- Write a pair; writes of pair g0:g1 are discarded. -/
def Core.setPair (c : Core) (k : BitVec 5) (v : DWord) : Core :=
  if k = 0#5 then c else (c.setG k (v.extractLsb' 0 32)).setG (k + 1#5) (v.extractLsb' 32 32)

/-- Whether a register number names a pair. -/
def evenReg (k : BitVec 5) : Bool := !bit k 0

/-- The privilege of ps [1:0] (R91, R94). -/
def Core.priv (c : Core) : Priv :=
  let v := c.ps &&& 3#8
  if v = 0#8 then .p0 else if v = 1#8 then .p1 else .p2

/-- ps with a privilege in [1:0]. -/
def psPriv (ps : BitVec 8) (p : Nat) : BitVec 8 := setField ps 0 2 p

/-! ### Instruction words (R97) -/

/-- Format R. -/
def wordR (op : Nat) (d a b : BitVec 5) (fn : Nat) : Word :=
  BitVec.ofNat 32 (op * 2 ^ 26 + d.toNat * 2 ^ 21 + a.toNat * 2 ^ 16 + b.toNat * 2 ^ 11 + fn)

/-- Format I. -/
def wordI (op : Nat) (d a : BitVec 5) (imm : Half) : Word :=
  BitVec.ofNat 32 (op * 2 ^ 26 + d.toNat * 2 ^ 21 + a.toNat * 2 ^ 16 + imm.toNat)

/-- Format M. -/
def wordM (op : Nat) (d a : BitVec 5) (bs : BitVec 2) (off : BitVec 14) : Word :=
  BitVec.ofNat 32 (op * 2 ^ 26 + d.toNat * 2 ^ 21 + a.toNat * 2 ^ 16 + bs.toNat * 2 ^ 14 + off.toNat)

/-- Format B. -/
def wordB (op : Nat) (a b : BitVec 5) (disp : Half) : Word :=
  BitVec.ofNat 32 (op * 2 ^ 26 + a.toNat * 2 ^ 21 + b.toNat * 2 ^ 16 + disp.toNat)

/-- Format C. -/
def wordC (op : Nat) (a : BitVec 5) (disp : BitVec 21) : Word :=
  BitVec.ofNat 32 (op * 2 ^ 26 + a.toNat * 2 ^ 21 + disp.toNat)

/-- Format J. -/
def wordJ (op : Nat) (disp : BitVec 26) : Word := BitVec.ofNat 32 (op * 2 ^ 26 + disp.toNat)

/-- The target of a displacement that counts words (R97). -/
def target {w : Nat} (ip : Word) (disp : BitVec w) : Word := ip + (disp.signExtend 32 <<< 2)

/-! ### Exceptions (R94 to R96, R122 to R124) -/

/-- Exception codes of R122. -/
inductive Exc where
  | fetch | illegal | privilege | align | access | stack | divz | imghandle | imgwrite | barrier | mailbox | sysc
  deriving DecidableEq, Repr

/-- The number of an exception code. -/
def Exc.code : Exc → Nat
  | .fetch => 1 | .illegal => 2 | .privilege => 3 | .align => 4 | .access => 5 | .stack => 6 | .divz => 7
  | .imghandle => 8 | .imgwrite => 9 | .barrier => 10 | .mailbox => 11 | .sysc => 12

/-- The entry to P1 or P0 (R95): saved address, cause and detail, saved privilege, EXL, the vector, 8 CCLK. -/
def Core.enter (c : Core) (e : Exc) (eaddr ret : Word) : Core :=
  let cause := BitVec.ofNat 32 e.code
  match c.priv with
  | .p2 =>
    { c with
      epc1 := ret, ecause1 := cause, eaddr1 := eaddr
      ps := psPriv (setField (setField c.ps 2 2 2) 6 1 1) 1
      ip := c.ev1 + BitVec.ofNat 32 (e.code * 64), ct := c.ct + 8#64 }
  | p =>
    { c with
      epc0 := ret, ecause0 := cause, eaddr0 := eaddr
      ps := psPriv (setField (setField c.ps 4 2 p.code.toNat) 7 1 1) 0
      ip := c.ev0 + BitVec.ofNat 32 (e.code * 64), ct := c.ct + 8#64 }

/-- Return from the entry to P1 to the address in epc1 (R95): privilege from ps [3:2], EXL1 cleared. ps [3:2] = 0b00, its reset value, takes P1 code to P0: DESIGN CHOICE, notes/assumptions/59.md (R95 says so, R94 has ERET only lower the level). -/
def Core.return1 (c : Core) : Core :=
  { c with ip := c.epc1, ps := psPriv (setField c.ps 6 1 0) (fieldNat c.ps 2 2) }

/-- Return from the entry to P0 (R95). -/
def Core.return0 (c : Core) : Core :=
  { c with ip := c.epc0, ps := psPriv (setField c.ps 7 1 0) (fieldNat c.ps 4 2) }

/-- The CCLK that the runtime takes; a free value (R124 gives no count). -/
def State.runtimeWait (s : State) (n : Nat) : State :=
  let c := s.core n
  ({ s with freeCtr := s.freeCtr + 1 }).setCore n { c with ct := c.ct + BitVec.ofNat 64 (Config.runtimeCclk s.freeCtr) }

/-- PARK (R124): a park record, then the cluster stops without CYEND. -/
def State.park (s : State) (n : Nat) (e : Exc) : State :=
  let c := s.core n
  let s := s.journalCluster n (0x100 + e.code) c.epc1 c.eaddr1
  s.setCore n { c with status := .parked }

/-- CLUSTER_STOP (R96): a stop record, and the cluster stops at the faulting instruction. -/
def State.clusterStop (s : State) (n : Nat) (e : Exc) (eaddr : Word) : State :=
  let c := s.core n
  let s := s.journalCluster n (0x200 + e.code) c.ip eaddr
  s.setCore n { c with status := .stopped }

/-- What an instruction comes to. -/
inductive IsaRes where
  /-- It retires: registers after it and its count of CCLK. -/
  | ok (s : State) (c : Core) (cclk : Nat)
  /-- It retires and execution goes on at an address. -/
  | jump (s : State) (c : Core) (dest : Word) (cclk : Nat)
  /-- It raises an exception: code, detail, destination to clear in the default handling of DIVZ. -/
  | exc (s : State) (e : Exc) (eaddr : Word)
  /-- It changes the state as given and retires nothing: an uncorrectable word stopped the module. -/
  | halt (s : State)
  deriving DecidableEq, Repr

/-- Registers written back: the next instruction, the count of CCLK (R86). -/
def State.retire (s : State) (n : Nat) (c : Core) (dest : Word) (cclk : Nat) : State :=
  s.setCore n { c with ip := dest, ct := c.ct + BitVec.ofNat 64 cclk }

/-- An exception of the instruction at ip (R94 to R96), with the runtime's action for an entry to P1 (R124): DIVZ writes 0 to the destination and resumes by default; every other code parks. `clear` writes the 0. -/
def State.except (s : State) (n : Nat) (e : Exc) (eaddr : Word) (clear : Core → Core) : State :=
  let c := s.core n
  match c.priv with
  | .p0 =>
    if bit c.ps 7 then s.clusterStop n e eaddr else s.setCore n (c.enter e eaddr c.ip)
  | .p1 => s.setCore n (c.enter e eaddr c.ip)
  | .p2 =>
    let s := s.setCore n (c.enter e eaddr c.ip)
    if e = .divz ∧ s.proj.divzDefault then
      let s := s.journalCluster n 0x0307 c.ip eaddr
      let c := s.core n
      let s := s.setCore n { clear c with epc1 := c.epc1 + 4#32 }
      let s := s.runtimeWait n
      s.setCore n (s.core n).return1
    else s.park n e

/-- Whether cluster n executes: cores started and not waiting, not in Hold, cluster and module not FAILED (R69, R93, R212). -/
def State.executing (s : State) (n : Nat) : Bool :=
  (s.core n).status == .running && s.bell.mode != .hold && s.alive && s.cluster n != .failed

/-- The checks of a fetch (R103, R122, R192): the state after them and whether the fetch is permitted. -/
def State.fetchCheck (s : State) (n : Nat) : State × Bool :=
  let c := s.core n
  let a := c.ip.toNat
  if a % 4 ≠ 0 ∨ ¬ ownRegion n a then (s, false)
  else
    let (s, ok) := s.coreAccess n c.priv .fetch a 4
    (s, ok)

/-- The frame of every instruction: a cluster that does not execute is not changed; the fetch is checked first (R123); the word fetched is corrected, and one that cannot be stops the module (R171, R172); then the instruction itself. -/
def State.isa (s : State) (n : Nat) (clear : Core → Core) (k : State → Core → IsaRes) : Res :=
  if s.executing n then
    match s.fetchCheck n with
    | (s, false) => .next (s.except n .fetch (s.core n).ip id)
    | (s, true) =>
      match s.eccRead (s.core n).ip.toNat 0 with
      | (s, false) => .next s
      | (s, true) =>
        match k s (s.core n) with
        | .ok s c cclk => .next (s.retire n c (c.ip + 4#32) cclk)
        | .jump s c dest cclk => .next (s.retire n c dest cclk)
        | .exc s e eaddr => .next (s.except n e eaddr clear)
        | .halt s => .next s
  else .next s

/-- An instruction that only computes on the registers of its cluster and retires, after a check of its fields (R98). -/
def State.isaReg (s : State) (n : Nat) (legal : Bool) (w : Word) (cclk : Nat) (f : Core → Core) : Res :=
  s.isa n id (fun s c => if legal then .ok s (f c) cclk else .exc s .illegal w)

end Sys2Proof.Machine
end

