-- ==== Sys2Proof/Decode.lean ====
section
/-! DEFINITION. Words that spell commands. The rows of spec/opcode_table.json give no bits; the instruction words of chapter 3 (R97 to R99) are encoded and decoded here. -/

namespace Sys2Proof

/-- The command that a word spells by the bits of spec/opcode_table.json: none, as no row gives bits. -/
def decodeTableWord (_nbits _w : Nat) : Option Instr := none

open Sys2Proof.Machine

/-! ### Instruction words of chapter 3 -/

/-- Fields d, a, b and fn of a word (R97). -/
def fD (w : Word) : BitVec 5 := w.extractLsb' 21 5
def fA (w : Word) : BitVec 5 := w.extractLsb' 16 5
def fB (w : Word) : BitVec 5 := w.extractLsb' 11 5
def fFn (w : Word) : Nat := fieldNat w 0 11

/-- The issuing cluster and the word of an instruction of chapter 3; none for any other command (R97, R99). -/
def isaEncode (i : Instr) : Option (Fin 16 × Word) :=
  match i with
  | .add n d a b => some (n, wordR 0x00 d a b 0)
  | .sub n d a b => some (n, wordR 0x00 d a b 1)
  | .and n d a b => some (n, wordR 0x00 d a b 2)
  | .or n d a b => some (n, wordR 0x00 d a b 3)
  | .xor n d a b => some (n, wordR 0x00 d a b 4)
  | .shl n d a b => some (n, wordR 0x00 d a b 5)
  | .shr n d a b => some (n, wordR 0x00 d a b 6)
  | .sar n d a b => some (n, wordR 0x00 d a b 7)
  | .slt n d a b => some (n, wordR 0x00 d a b 8)
  | .sltu n d a b => some (n, wordR 0x00 d a b 9)
  | .mul n d a b => some (n, wordR 0x00 d a b 10)
  | .mulh n d a b => some (n, wordR 0x00 d a b 11)
  | .mulhu n d a b => some (n, wordR 0x00 d a b 12)
  | .div n d a b => some (n, wordR 0x00 d a b 13)
  | .divu n d a b => some (n, wordR 0x00 d a b 14)
  | .mod n d a b => some (n, wordR 0x00 d a b 15)
  | .modu n d a b => some (n, wordR 0x00 d a b 16)
  | .sexb n d a b => some (n, wordR 0x00 d a b 17)
  | .sexh n d a b => some (n, wordR 0x00 d a b 18)
  | .shli n d a b => some (n, wordR 0x00 d a b 32)
  | .shri n d a b => some (n, wordR 0x00 d a b 33)
  | .sari n d a b => some (n, wordR 0x00 d a b 34)
  | .addi n d a imm => some (n, wordI 0x08 d a imm)
  | .andi n d a imm => some (n, wordI 0x09 d a imm)
  | .ori n d a imm => some (n, wordI 0x0A d a imm)
  | .xori n d a imm => some (n, wordI 0x0B d a imm)
  | .slti n d a imm => some (n, wordI 0x0C d a imm)
  | .sltiu n d a imm => some (n, wordI 0x0D d a imm)
  | .lui n d a imm => some (n, wordI 0x0E d a imm)
  | .addl n d a b => some (n, wordR 0x01 d a b 0)
  | .subl n d a b => some (n, wordR 0x01 d a b 1)
  | .mull n d a b => some (n, wordR 0x01 d a b 2)
  | .divl n d a b => some (n, wordR 0x01 d a b 3)
  | .divlu n d a b => some (n, wordR 0x01 d a b 4)
  | .modl n d a b => some (n, wordR 0x01 d a b 5)
  | .modlu n d a b => some (n, wordR 0x01 d a b 6)
  | .shll n d a b => some (n, wordR 0x01 d a b 7)
  | .shrl n d a b => some (n, wordR 0x01 d a b 8)
  | .sarl n d a b => some (n, wordR 0x01 d a b 9)
  | .sltl n d a b => some (n, wordR 0x01 d a b 10)
  | .sltlu n d a b => some (n, wordR 0x01 d a b 11)
  | .fadd n dbl d a b => some (n, wordR 0x02 d a b (if dbl then 1 else 0))
  | .fsub n dbl d a b => some (n, wordR 0x02 d a b (if dbl then 3 else 2))
  | .fmul n dbl d a b => some (n, wordR 0x02 d a b (if dbl then 5 else 4))
  | .fdiv n dbl d a b => some (n, wordR 0x02 d a b (if dbl then 7 else 6))
  | .fsqrt n dbl d a b => some (n, wordR 0x02 d a b (if dbl then 9 else 8))
  | .fmadd n dbl d a b => some (n, wordR 0x02 d a b (if dbl then 11 else 10))
  | .fmin n dbl d a b => some (n, wordR 0x02 d a b (if dbl then 13 else 12))
  | .fmax n dbl d a b => some (n, wordR 0x02 d a b (if dbl then 15 else 14))
  | .fabs n dbl d a b => some (n, wordR 0x02 d a b (if dbl then 17 else 16))
  | .fneg n dbl d a b => some (n, wordR 0x02 d a b (if dbl then 19 else 18))
  | .feq n dbl d a b => some (n, wordR 0x02 d a b (if dbl then 21 else 20))
  | .flt n dbl d a b => some (n, wordR 0x02 d a b (if dbl then 23 else 22))
  | .fle n dbl d a b => some (n, wordR 0x02 d a b (if dbl then 25 else 24))
  | .fcvtFW n dbl d a b => some (n, wordR 0x02 d a b (if dbl then 67 else 66))
  | .fcvtWF n dbl d a b => some (n, wordR 0x02 d a b (if dbl then 69 else 68))
  | .ftrncWF n dbl d a b => some (n, wordR 0x02 d a b (if dbl then 71 else 70))
  | .fcvtFL n dbl d a b => some (n, wordR 0x02 d a b (if dbl then 73 else 72))
  | .fcvtLF n dbl d a b => some (n, wordR 0x02 d a b (if dbl then 75 else 74))
  | .fcvtSD n d a b => some (n, wordR 0x02 d a b 64)
  | .fcvtDS n d a b => some (n, wordR 0x02 d a b 65)
  | .fmvFG n d a b => some (n, wordR 0x02 d a b 96)
  | .fmvGF n d a b => some (n, wordR 0x02 d a b 97)
  | .fmvFP n d a b => some (n, wordR 0x02 d a b 98)
  | .fmvPF n d a b => some (n, wordR 0x02 d a b 99)
  | .bext n d a b fn => some (n, wordR 0x03 d a b fn.toNat)
  | .bins n d a b fn => some (n, wordR 0x04 d a b fn.toNat)
  | .bseti n d a b => some (n, wordR 0x05 d a b 0)
  | .bclri n d a b => some (n, wordR 0x05 d a b 1)
  | .clz n d a b => some (n, wordR 0x05 d a b 2)
  | .popc n d a b => some (n, wordR 0x05 d a b 3)
  | .rise n d a b => some (n, wordR 0x05 d a b 4)
  | .fall n d a b => some (n, wordR 0x05 d a b 5)
  | .ldb n d a bs off => some (n, wordM 0x10 d a bs off)
  | .ldbu n d a bs off => some (n, wordM 0x11 d a bs off)
  | .ldh n d a bs off => some (n, wordM 0x12 d a bs off)
  | .ldhu n d a bs off => some (n, wordM 0x13 d a bs off)
  | .ldw n d a bs off => some (n, wordM 0x14 d a bs off)
  | .ldd n d a bs off => some (n, wordM 0x15 d a bs off)
  | .flds n d a bs off => some (n, wordM 0x16 d a bs off)
  | .fldd n d a bs off => some (n, wordM 0x17 d a bs off)
  | .stb n d a bs off => some (n, wordM 0x18 d a bs off)
  | .sth n d a bs off => some (n, wordM 0x19 d a bs off)
  | .stw n d a bs off => some (n, wordM 0x1A d a bs off)
  | .std n d a bs off => some (n, wordM 0x1B d a bs off)
  | .fsts n d a bs off => some (n, wordM 0x1C d a bs off)
  | .fstd n d a bs off => some (n, wordM 0x1D d a bs off)
  | .leai n d a bs off => some (n, wordM 0x1E d a bs off)
  | .beq n a b disp => some (n, wordB 0x20 a b disp)
  | .bne n a b disp => some (n, wordB 0x21 a b disp)
  | .blt n a b disp => some (n, wordB 0x22 a b disp)
  | .bge n a b disp => some (n, wordB 0x23 a b disp)
  | .bltu n a b disp => some (n, wordB 0x24 a b disp)
  | .bgeu n a b disp => some (n, wordB 0x25 a b disp)
  | .bbs n a b disp => some (n, wordB 0x26 a b disp)
  | .bbc n a b disp => some (n, wordB 0x27 a b disp)
  | .jmp n disp => some (n, wordJ 0x28 disp)
  | .call n disp => some (n, wordJ 0x2D disp)
  | .jr n d a b fn => some (n, wordR 0x29 d a b fn.toNat)
  | .callfbi n d a b fn => some (n, wordR 0x2E d a b fn.toNat)
  | .retfb n d a b fn => some (n, wordR 0x2F d a b fn.toNat)
  | .imgwr n d a b fn => some (n, wordR 0x37 d a b fn.toNat)
  | .bmw n d a b fn => some (n, wordR 0x3D d a b fn.toNat)
  | .bmr n d a b fn => some (n, wordR 0x3E d a b fn.toNat)
  | .callfb n a disp => some (n, wordC 0x2C a disp)
  | .enter n d a imm => some (n, wordI 0x30 d a imm)
  | .imgrdi n d a imm => some (n, wordI 0x34 d a imm)
  | .imgrdw n d a imm => some (n, wordI 0x35 d a imm)
  | .imgrdf n d a imm => some (n, wordI 0x36 d a imm)
  | .jpost n d a imm => some (n, wordI 0x38 d a imm)
  | .leput n d a imm => some (n, wordI 0x39 d a imm)
  | .leget n d a imm => some (n, wordI 0x3A d a imm)
  | .sysc n d a imm => some (n, wordI 0x3B d a imm)
  | .bar n d a imm => some (n, wordI 0x3C d a imm)
  | .trd n d a imm => some (n, wordI 0x07 d a imm)
  | .mfs n d a b => some (n, wordR 0x06 d a b 0)
  | .mts n d a b => some (n, wordR 0x06 d a b 1)
  | .eret n d a b => some (n, wordR 0x06 d a b 2)
  | .cyend n d a b => some (n, wordR 0x06 d a b 3)
  | .bkpt n d a b => some (n, wordR 0x06 d a b 4)
  | .powerOn _ => none
  | .supplyReturn _ => none
  | .powerGoodTimeout _ => none
  | .roleDecision _ => none
  | .claimWindowExpiry => none
  | .passConflict _ _ => none
  | .conflictTimeout => none
  | .lineDisagreement _ _ => none
  | .driveEnable _ _ => none
  | .passGateFalse _ _ => none
  | .peerPassLost => none
  | .attendSend _ => none
  | .attendanceLost => none
  | .passKeeperExpiry => none
  | .moduleFailure _ => none
  | .dieTempWarning _ => none
  | .dieOvertempFailure _ => none
  | .diePowerCutoff _ => none
  | .pllLossOfLock => none
  | .clockFault _ => none
  | .bell => none
  | .coreStart => none
  | .barrierRelease _ => none
  | .proofTake _ => none
  | .proofEndDecision => none
  | .formeFlip => none
  | .ackTimeout => none
  | .errBudgetOverrun => none
  | .cycleWatchdogExpiry => none
  | .run _ => none
  | .stop _ => none
  | .resume _ => none
  | .holdLimitExpiry => none
  | .holdEn _ => none
  | .forceWrite => none
  | .forceRelease => none
  | .forceReleaseAll => none
  | .olcSubmit _ _ => none
  | .olcArm => none
  | .olcCancel => none
  | .migrationComplete _ => none
  | .olcGapExpiry => none
  | .clrMax => none
  | .comparatorMismatch _ _ _ _ _ _ => none
  | .outvote _ _ _ => none
  | .selfTestEnd _ _ _ => none
  | .retire _ _ _ => none
  | .unitSel _ _ => none
  | .scrubRead _ _ => none
  | .remapCopy _ => none
  | .nandReadRetry _ _ => none
  | .clrStats _ => none
  | .dmaDescriptor _ _ _ _ _ _ => none
  | .swap => none
  | .drainAck _ => none
  | .shadowBankWrite _ _ _ => none
  | .openEnd => none
  | .switchover _ => none
  | .suspend _ => none
  | .pairResume _ => none
  | .maintEnter _ => none
  | .maintLeave _ => none
  | .resync _ => none
  | .raise _ => none
  | .linkBlockLock _ _ => none
  | .linkUp => none
  | .linkLoss _ => none
  | .capsSend => none
  | .caps _ _ => none
  | .attend _ _ => none
  | .resign _ _ => none
  | .proofBegin _ _ => none
  | .proofData _ _ _ _ => none
  | .proofJournal _ _ _ _ => none
  | .proofCtrl _ _ _ _ => none
  | .proofEnd _ _ => none
  | .stopMark _ _ => none
  | .proofAck _ _ => none
  | .proofNak _ _ _ => none
  | .proofCommit => none
  | .applyComplete => none
  | .xferOpen _ _ _ _ _ => none
  | .xferData _ _ _ _ => none
  | .xferAck _ _ _ => none
  | .xferClose _ _ => none
  | .xferStaged _ _ _ => none
  | .xferArm _ _ => none
  | .xferConfirm _ _ => none
  | .xferCancel _ _ => none
  | .xferResend => none
  | .resyncReq _ => none
  | .resyncRetry => none
  | .clrPeak => none
  | .loopSample _ _ _ => none
  | .loopEvaluation _ _ => none
  | .loopOutputInstant _ _ => none
  | .laneMismatch _ _ _ => none
  | .frameStart _ => none
  | .validate _ _ => none
  | .validationDone _ => none
  | .switch _ _ => none
  | .schedCancel _ _ => none
  | .leEnable _ _ => none
  | .ssuTick _ _ => none
  | .recipeStart _ _ _ _ => none
  | .recipeHold _ _ _ => none
  | .recipeResume _ _ _ _ => none
  | .recipeAbort _ _ _ => none
  | .recipeContinue _ _ _ _ => none
  | .resumeAt _ _ _ _ _ => none
  | .ssuEn _ _ => none
  | .probeArm _ _ => none
  | .probeDisarm _ _ => none
  | .probeForce _ _ => none
  | .sync _ _ _ _ _ _ => none
  | .followUp _ _ _ _ => none
  | .announce _ _ _ => none
  | .delayReq _ _ _ => none
  | .delayResp _ _ _ _ => none
  | .pdelayReq _ _ _ _ => none
  | .pdelayResp _ _ _ _ => none
  | .ptpMessageSend _ _ _ _ => none
  | .announceReceiptTimeout _ => none
  | .syncLoss _ => none
  | .ppsIn _ => none
  | .ppsInLoss => none
  | .holdoverExpiry => none
  | .ppsOut => none
  | .leapSecond => none
  | .set _ => none
  | .leapIns _ => none
  | .leapDel _ => none
  | .leapCancel _ => none
  | .utcOffset _ => none
  | .frameLaunch _ => none
  | .supervisionFrame _ => none
  | .peerLanFail _ => none
  | .svFrame _ _ _ => none
  | .groupPublish _ _ _ => none
  | .svUnstableClear _ => none
  | .svPublish _ => none
  | .gooseMessage _ _ _ => none
  | .gooseTalExpiry _ => none
  | .gooseRetransmit _ => none
  | .joinReq _ _ => none
  | .input _ _ => none
  | .outputBuild _ _ => none
  | .inputDeadline _ _ => none
  | .leave _ _ => none
  | .inhibit _ _ => none
  | .allow _ _ => none
  | .fabricPortDown _ => none
  | .helloSend _ => none
  | .hello _ _ _ => none
  | .neighbourTimeout _ => none
  | .roll _ _ _ _ _ _ => none
  | .rollSend => none
  | .addrReq _ _ _ _ _ _ => none
  | .addrGrant _ _ _ _ _ => none
  | .addrReqRepeat => none
  | .lsa _ _ _ => none
  | .lsaSend => none
  | .lsaExpiry _ => none
  | .routeComputation => none
  | .bookKeepExpiry _ => none
  | .versionGraceEnd => none
  | .fabRaise _ => none
  | .renew _ => none
  | .gv _ _ _ => none
  | .gvTimeout _ => none
  | .bulk _ _ _ => none
  | .txPush _ _ => none
  | .canAttemptStart _ => none
  | .canAttemptEnd _ _ _ _ _ => none
  | .txPop _ => none
  | .galleyFlush _ _ => none
  | .recover _ _ => none
  | .clearClash _ _ => none
  | .canFrameReceived _ _ => none
  | .busOff _ => none
  | .busOffRecovery _ => none
  | .normalEntry _ => none
  | .canBufferTimeout _ _ => none
  | .fifoPop _ _ _ => none
  | .ndClear _ _ _ => none
  | .rxBank _ _ => none
  | .canEn _ _ => none
  | .fsMeasure _ _ => none
  | .dioSample _ _ => none
  | .readbackSample _ _ _ _ _ _ => none
  | .overload _ => none
  | .offOvl _ => none
  | .openWire _ => none
  | .groupOff _ => none
  | .overtemp _ => none
  | .outputRetry _ _ => none
  | .retry _ => none
  | .testPulseStart _ => none
  | .testPulseEnd _ _ => none
  | .aiSample _ _ _ => none
  | .compWarn _ => none
  | .compFault _ => none
  | .loopRCompute _ => none
  | .hartResponse _ _ _ => none
  | .hartTimeout _ => none
  | .hartSend _ _ => none
  | .hartAbort _ _ => none
  | .reflexFire => none
  | .rfxClr _ => none
  | .rfxArm _ _ => none
  | .rfxEn _ => none
  | .discrepancyExpiry _ => none
  | .safetyWatchdogExpiry => none
  | .srstSample _ => none
  | .srstStuck => none
  | .rstAck _ => none
  | .rstWinExpiry => none
  | .safeEn _ => none
  | .pst _ _ => none
  | .pairWinExpiry _ => none
  | .pstTimeout _ => none
  | .degMaxExpiry _ => none
  | .journalWrite => none
  | .stagingOverflow _ => none
  | .rateLimitSecond => none
  | .clear _ => none
  | .archive _ => none
  | .archiveClear _ => none
  | .clearComplete => none
  | .archiveComplete => none
  | .journalClose => none
  | .recorderIntake _ _ _ => none
  | .refresh _ => none
  | .trigger _ => none
  | .trgInput _ => none
  | .holdoffExpiry => none
  | .postTmaxExpiry => none
  | .recArm _ => none
  | .recDisarm _ => none
  | .recForce _ => none
  | .segFree _ _ => none
  | .expStart _ _ => none
  | .expAbort _ => none
  | .exportComplete _ _ => none
  | .commit _ _ _ => none
  | .attest _ => none
  | .attestDone _ => none
  | .erase _ => none
  | .activate _ => none
  | .confirm _ => none
  | .bootWdgExpiry _ => none
  | .tlsSession _ _ _ => none
  | .fileRead _ _ => none
  | .fileDelete _ _ => none
  | .fileWrite _ _ _ => none
  | .feedLost _ _ => none
  | .feedRestored _ _ => none
  | .restart _ _ _ => none
  | .huTest _ _ => none
  | .huTestDone _ _ => none
  | .powerFailTrigger _ => none
  | .sagRecovered => none
  | .saveGraceExpiry => none
  | .localFormeFlip => none
  | .retainCopyDone => none
  | .seated _ => none
  | .slotChg _ _ => none
  | .quoin _ _ => none
  | .intRaw _ _ => none
  | .intSet _ _ => none
  | .clrErrcnt _ => none
  | .registerWrite _ _ _ _ _ => none
  | .peerPresN _ => none
  | .portLinkChg _ _ _ _ => none
  | .laneLinkChg _ _ => none
  | .fabricPortUp _ => none
  | .canBusError _ _ => none
  | .bankBelow14v => none
  | .chargingEnd => none
  | .nodeForgetTime _ _ => none
  | .supervisionReceipt _ _ _ => none
  | .trgPulseEnd => none
  | .ppsOutFall => none
  | .sessionEnd _ => none
  | .doubledRefresh _ => none

/-- Primary 0x00, by fn. -/
def decodeInt (n : Fin 16) (w : Word) : Option Instr :=
  match fFn w with
  | 0 => some (.add n (fD w) (fA w) (fB w))
  | 1 => some (.sub n (fD w) (fA w) (fB w))
  | 2 => some (.and n (fD w) (fA w) (fB w))
  | 3 => some (.or n (fD w) (fA w) (fB w))
  | 4 => some (.xor n (fD w) (fA w) (fB w))
  | 5 => some (.shl n (fD w) (fA w) (fB w))
  | 6 => some (.shr n (fD w) (fA w) (fB w))
  | 7 => some (.sar n (fD w) (fA w) (fB w))
  | 8 => some (.slt n (fD w) (fA w) (fB w))
  | 9 => some (.sltu n (fD w) (fA w) (fB w))
  | 10 => some (.mul n (fD w) (fA w) (fB w))
  | 11 => some (.mulh n (fD w) (fA w) (fB w))
  | 12 => some (.mulhu n (fD w) (fA w) (fB w))
  | 13 => some (.div n (fD w) (fA w) (fB w))
  | 14 => some (.divu n (fD w) (fA w) (fB w))
  | 15 => some (.mod n (fD w) (fA w) (fB w))
  | 16 => some (.modu n (fD w) (fA w) (fB w))
  | 17 => some (.sexb n (fD w) (fA w) (fB w))
  | 18 => some (.sexh n (fD w) (fA w) (fB w))
  | 32 => some (.shli n (fD w) (fA w) (fB w))
  | 33 => some (.shri n (fD w) (fA w) (fB w))
  | 34 => some (.sari n (fD w) (fA w) (fB w))
  | _ => none

/-- Primary 0x01, by fn. -/
def decodePair (n : Fin 16) (w : Word) : Option Instr :=
  match fFn w with
  | 0 => some (.addl n (fD w) (fA w) (fB w))
  | 1 => some (.subl n (fD w) (fA w) (fB w))
  | 2 => some (.mull n (fD w) (fA w) (fB w))
  | 3 => some (.divl n (fD w) (fA w) (fB w))
  | 4 => some (.divlu n (fD w) (fA w) (fB w))
  | 5 => some (.modl n (fD w) (fA w) (fB w))
  | 6 => some (.modlu n (fD w) (fA w) (fB w))
  | 7 => some (.shll n (fD w) (fA w) (fB w))
  | 8 => some (.shrl n (fD w) (fA w) (fB w))
  | 9 => some (.sarl n (fD w) (fA w) (fB w))
  | 10 => some (.sltl n (fD w) (fA w) (fB w))
  | 11 => some (.sltlu n (fD w) (fA w) (fB w))
  | _ => none

/-- Primary 0x02, by fn. -/
def decodeFloat (n : Fin 16) (w : Word) : Option Instr :=
  match fFn w with
  | 0 => some (.fadd n false (fD w) (fA w) (fB w))
  | 1 => some (.fadd n true (fD w) (fA w) (fB w))
  | 2 => some (.fsub n false (fD w) (fA w) (fB w))
  | 3 => some (.fsub n true (fD w) (fA w) (fB w))
  | 4 => some (.fmul n false (fD w) (fA w) (fB w))
  | 5 => some (.fmul n true (fD w) (fA w) (fB w))
  | 6 => some (.fdiv n false (fD w) (fA w) (fB w))
  | 7 => some (.fdiv n true (fD w) (fA w) (fB w))
  | 8 => some (.fsqrt n false (fD w) (fA w) (fB w))
  | 9 => some (.fsqrt n true (fD w) (fA w) (fB w))
  | 10 => some (.fmadd n false (fD w) (fA w) (fB w))
  | 11 => some (.fmadd n true (fD w) (fA w) (fB w))
  | 12 => some (.fmin n false (fD w) (fA w) (fB w))
  | 13 => some (.fmin n true (fD w) (fA w) (fB w))
  | 14 => some (.fmax n false (fD w) (fA w) (fB w))
  | 15 => some (.fmax n true (fD w) (fA w) (fB w))
  | 16 => some (.fabs n false (fD w) (fA w) (fB w))
  | 17 => some (.fabs n true (fD w) (fA w) (fB w))
  | 18 => some (.fneg n false (fD w) (fA w) (fB w))
  | 19 => some (.fneg n true (fD w) (fA w) (fB w))
  | 20 => some (.feq n false (fD w) (fA w) (fB w))
  | 21 => some (.feq n true (fD w) (fA w) (fB w))
  | 22 => some (.flt n false (fD w) (fA w) (fB w))
  | 23 => some (.flt n true (fD w) (fA w) (fB w))
  | 24 => some (.fle n false (fD w) (fA w) (fB w))
  | 25 => some (.fle n true (fD w) (fA w) (fB w))
  | 66 => some (.fcvtFW n false (fD w) (fA w) (fB w))
  | 67 => some (.fcvtFW n true (fD w) (fA w) (fB w))
  | 68 => some (.fcvtWF n false (fD w) (fA w) (fB w))
  | 69 => some (.fcvtWF n true (fD w) (fA w) (fB w))
  | 70 => some (.ftrncWF n false (fD w) (fA w) (fB w))
  | 71 => some (.ftrncWF n true (fD w) (fA w) (fB w))
  | 72 => some (.fcvtFL n false (fD w) (fA w) (fB w))
  | 73 => some (.fcvtFL n true (fD w) (fA w) (fB w))
  | 74 => some (.fcvtLF n false (fD w) (fA w) (fB w))
  | 75 => some (.fcvtLF n true (fD w) (fA w) (fB w))
  | 64 => some (.fcvtSD n (fD w) (fA w) (fB w))
  | 65 => some (.fcvtDS n (fD w) (fA w) (fB w))
  | 96 => some (.fmvFG n (fD w) (fA w) (fB w))
  | 97 => some (.fmvGF n (fD w) (fA w) (fB w))
  | 98 => some (.fmvFP n (fD w) (fA w) (fB w))
  | 99 => some (.fmvPF n (fD w) (fA w) (fB w))
  | _ => none

/-- Primary 0x05, by fn. -/
def decodeBit (n : Fin 16) (w : Word) : Option Instr :=
  match fFn w with
  | 0 => some (.bseti n (fD w) (fA w) (fB w))
  | 1 => some (.bclri n (fD w) (fA w) (fB w))
  | 2 => some (.clz n (fD w) (fA w) (fB w))
  | 3 => some (.popc n (fD w) (fA w) (fB w))
  | 4 => some (.rise n (fD w) (fA w) (fB w))
  | 5 => some (.fall n (fD w) (fA w) (fB w))
  | _ => none

/-- Primary 0x06, by fn. -/
def decodeSys (n : Fin 16) (w : Word) : Option Instr :=
  match fFn w with
  | 0 => some (.mfs n (fD w) (fA w) (fB w))
  | 1 => some (.mts n (fD w) (fA w) (fB w))
  | 2 => some (.eret n (fD w) (fA w) (fB w))
  | 3 => some (.cyend n (fD w) (fA w) (fB w))
  | 4 => some (.bkpt n (fD w) (fA w) (fB w))
  | _ => none
/-- The instruction that a word spells for cluster n; none for a primary opcode or fn value that the opcode tables do not list (R98). -/
def isaDecode (n : Fin 16) (w : Word) : Option Instr :=
  match fieldNat w 26 6 with
  | 0x00 => decodeInt n w
  | 0x01 => decodePair n w
  | 0x02 => decodeFloat n w
  | 0x03 => some (.bext n (fD w) (fA w) (fB w) (w.extractLsb' 0 11))
  | 0x04 => some (.bins n (fD w) (fA w) (fB w) (w.extractLsb' 0 11))
  | 0x05 => decodeBit n w
  | 0x06 => decodeSys n w
  | 0x07 => some (.trd n (fD w) (fA w) (w.extractLsb' 0 16))
  | 0x08 => some (.addi n (fD w) (fA w) (w.extractLsb' 0 16))
  | 0x09 => some (.andi n (fD w) (fA w) (w.extractLsb' 0 16))
  | 0x0A => some (.ori n (fD w) (fA w) (w.extractLsb' 0 16))
  | 0x0B => some (.xori n (fD w) (fA w) (w.extractLsb' 0 16))
  | 0x0C => some (.slti n (fD w) (fA w) (w.extractLsb' 0 16))
  | 0x0D => some (.sltiu n (fD w) (fA w) (w.extractLsb' 0 16))
  | 0x0E => some (.lui n (fD w) (fA w) (w.extractLsb' 0 16))
  | 0x10 => some (.ldb n (fD w) (fA w) (w.extractLsb' 14 2) (w.extractLsb' 0 14))
  | 0x11 => some (.ldbu n (fD w) (fA w) (w.extractLsb' 14 2) (w.extractLsb' 0 14))
  | 0x12 => some (.ldh n (fD w) (fA w) (w.extractLsb' 14 2) (w.extractLsb' 0 14))
  | 0x13 => some (.ldhu n (fD w) (fA w) (w.extractLsb' 14 2) (w.extractLsb' 0 14))
  | 0x14 => some (.ldw n (fD w) (fA w) (w.extractLsb' 14 2) (w.extractLsb' 0 14))
  | 0x15 => some (.ldd n (fD w) (fA w) (w.extractLsb' 14 2) (w.extractLsb' 0 14))
  | 0x16 => some (.flds n (fD w) (fA w) (w.extractLsb' 14 2) (w.extractLsb' 0 14))
  | 0x17 => some (.fldd n (fD w) (fA w) (w.extractLsb' 14 2) (w.extractLsb' 0 14))
  | 0x18 => some (.stb n (fD w) (fA w) (w.extractLsb' 14 2) (w.extractLsb' 0 14))
  | 0x19 => some (.sth n (fD w) (fA w) (w.extractLsb' 14 2) (w.extractLsb' 0 14))
  | 0x1A => some (.stw n (fD w) (fA w) (w.extractLsb' 14 2) (w.extractLsb' 0 14))
  | 0x1B => some (.std n (fD w) (fA w) (w.extractLsb' 14 2) (w.extractLsb' 0 14))
  | 0x1C => some (.fsts n (fD w) (fA w) (w.extractLsb' 14 2) (w.extractLsb' 0 14))
  | 0x1D => some (.fstd n (fD w) (fA w) (w.extractLsb' 14 2) (w.extractLsb' 0 14))
  | 0x1E => some (.leai n (fD w) (fA w) (w.extractLsb' 14 2) (w.extractLsb' 0 14))
  | 0x20 => some (.beq n (fD w) (fA w) (w.extractLsb' 0 16))
  | 0x21 => some (.bne n (fD w) (fA w) (w.extractLsb' 0 16))
  | 0x22 => some (.blt n (fD w) (fA w) (w.extractLsb' 0 16))
  | 0x23 => some (.bge n (fD w) (fA w) (w.extractLsb' 0 16))
  | 0x24 => some (.bltu n (fD w) (fA w) (w.extractLsb' 0 16))
  | 0x25 => some (.bgeu n (fD w) (fA w) (w.extractLsb' 0 16))
  | 0x26 => some (.bbs n (fD w) (fA w) (w.extractLsb' 0 16))
  | 0x27 => some (.bbc n (fD w) (fA w) (w.extractLsb' 0 16))
  | 0x28 => some (.jmp n (w.extractLsb' 0 26))
  | 0x29 => some (.jr n (fD w) (fA w) (fB w) (w.extractLsb' 0 11))
  | 0x2C => some (.callfb n (fD w) (w.extractLsb' 0 21))
  | 0x2D => some (.call n (w.extractLsb' 0 26))
  | 0x2E => some (.callfbi n (fD w) (fA w) (fB w) (w.extractLsb' 0 11))
  | 0x2F => some (.retfb n (fD w) (fA w) (fB w) (w.extractLsb' 0 11))
  | 0x30 => some (.enter n (fD w) (fA w) (w.extractLsb' 0 16))
  | 0x34 => some (.imgrdi n (fD w) (fA w) (w.extractLsb' 0 16))
  | 0x35 => some (.imgrdw n (fD w) (fA w) (w.extractLsb' 0 16))
  | 0x36 => some (.imgrdf n (fD w) (fA w) (w.extractLsb' 0 16))
  | 0x37 => some (.imgwr n (fD w) (fA w) (fB w) (w.extractLsb' 0 11))
  | 0x38 => some (.jpost n (fD w) (fA w) (w.extractLsb' 0 16))
  | 0x39 => some (.leput n (fD w) (fA w) (w.extractLsb' 0 16))
  | 0x3A => some (.leget n (fD w) (fA w) (w.extractLsb' 0 16))
  | 0x3B => some (.sysc n (fD w) (fA w) (w.extractLsb' 0 16))
  | 0x3C => some (.bar n (fD w) (fA w) (w.extractLsb' 0 16))
  | 0x3D => some (.bmw n (fD w) (fA w) (fB w) (w.extractLsb' 0 11))
  | 0x3E => some (.bmr n (fD w) (fA w) (fB w) (w.extractLsb' 0 11))
  | _ => none

end Sys2Proof
end

