-- ==== Sys2Proof/Machine/Recorder.lean ====
section
/-! DEFINITION. The signal recorder: ring, triggers, capture machine, export (R531 to R541). -/

namespace Sys2Proof.Machine

/-- A bit of REC_CFG. -/
def State.recCfg (s : State) (i : Nat) : Bool := s.rbit Page.recd Reg.rec_REC_CFG i

/-- CAP_COUNT (R541). -/
def State.capCount (s : State) : Nat := s.fld Page.recd Reg.rec_REC_CFG 8 6 + 1

/-- SEG_RECS: records of one segment (R534). -/
def State.segRecs (s : State) : Nat := (s.reg (Page.mem 0) Reg.dr_REC_RING_SIZE).toNat * 2 ^ 28 / 16 / s.capCount

/-- PRE_RECS. -/
def State.preRecs (s : State) : Nat := (s.reg Page.recd Reg.rec_PRE_RECS).toNat

/-- Segment i. -/
def State.seg (s : State) (i : Nat) : Seg := tget (fun _ => {}) s.recd.segs i

/-- Replace segment i. -/
def State.setSeg (s : State) (i : Nat) (x : Seg) : State := { s with recd := { s.recd with segs := tset (fun _ => {}) s.recd.segs i x } }

/-- Address of record r of segment i (R534). -/
def State.recAddr (s : State) (i r : Nat) : Nat := 0x500000000 + (i * s.segRecs + r) * 16

/-- The 16 bytes of a recorder record (R531). -/
def recorderBytes (sig value : Word) (cal : DWord) : List Byte :=
  bytesLE 4 sig.toNat ++ bytesLE 4 value.toNat ++ bytesLE 8 cal.toNat

/-- Free segments below CAP_COUNT, lowest first; or, with OVERWRITE, the closed segment that closed first (R537). -/
def State.nextSeg (s : State) : Option Nat :=
  let l := List.range s.capCount
  match l.find? (fun i => (s.seg i).st = .free) with
  | some i => some i
  | none =>
    if s.recCfg 1 then
      (l.filter (fun i => (s.seg i).st = .closed)).foldl (fun o i =>
        match o with
        | none => some i
        | some j => if (s.seg i).order < (s.seg j).order then some i else some j) none
    else none

/-- The pre-trigger part is full: ARMED, or WAIT_HOLDOFF while the hold-off runs (R537). -/
def State.recFilled (s : State) : State :=
  { s with recd := { s.recd with st := if s.recd.holdOn then .waitHoldoff else .armed } }

/-- Recording starts in a segment, FILLING; with PRE_RECS = 0 FILLING ends at once (R537). -/
def State.recStart (s : State) : State :=
  match s.nextSeg with
  | none => ({ s with recd := { s.recd with st := .stoppedFull } }).raise Page.recd 3
  | some i =>
    let s := s.setSeg i { st := .inUse }
    let s := { s with recd := { s.recd with st := .filling, cur := i } }
    if s.preRecs = 0 then s.recFilled else s

/-- The current segment closes (R537). -/
def State.recClose (s : State) (ovf : Bool) : State :=
  let i := s.recd.cur
  let s := s.setSeg i { s.seg i with st := .closed, ovf := ovf, order := s.recd.closes }
  let s := { s with recd := { s.recd with closes := s.recd.closes + 1 } }
  (s.count Page.recd Reg.rec_CAPTURES).raise Page.recd 1

/-- Whether records are written: the states that write. -/
def RecSt.writing : RecSt → Bool
  | .filling | .armed | .capturing | .waitHoldoff => true
  | _ => false

/-- A record goes into the ring where DRAM's check permits it, which decides on the whole line that the access moves (R162, R196); a record that is refused counts in SHED. The other words of the line go back corrected; where one cannot be, the access fails, and the record is lost with it (R172). DEDUCED: notes/assumptions/56.md. -/
def State.recStore (s : State) (a : Nat) (l : List Byte) : State :=
  match s.fixedMay 0x039 .write (a / 64 * 64) 64 with
  | (s, false) => s.count Page.recd Reg.rec_SHED
  | (s, true) =>
    match s.eccRange (a / 64 * 64) a 4 with
    | (s, false) => s
    | (s, true) =>
      match s.eccRange (a + 16) (a / 64 * 64 + 64) 4 with
      | (s, false) => s
      | (s, true) => s.putBytes a l

/-- One record into the ring: the pre-trigger ring, or the post part, whose end closes the segment and starts the next (R537). -/
def State.recPut (s : State) (sig value : Word) (cal : DWord) : State :=
  let i := s.recd.cur
  let g := s.seg i
  if s.recd.st = .capturing then
    let s := s.recStore (s.recAddr i (s.preRecs + g.post)) (recorderBytes sig value cal)
    let s := s.setSeg i { g with post := g.post + 1, used := g.used + 1 }
    if g.post + 1 + s.preRecs ≥ s.segRecs then (s.recClose false).recStart else s
  else if s.preRecs = 0 then s
  else
    let s := s.recStore (s.recAddr i g.prePos) (recorderBytes sig value cal)
    let n := min (g.pre + 1) s.preRecs
    let s := s.setSeg i { g with prePos := (g.prePos + 1) % s.preRecs, pre := n, used := n }
    if s.recd.st = .filling ∧ n = s.preRecs then s.recFilled else s

/-- A record offered: counted in RATE by TAI second (R541). -/
def State.recCount (s : State) : State :=
  let r := s.recd
  if r.rateSec = s.tb.time.sec then { s with recd := { r with offered := r.offered + 1 } }
  else
    -- the last full second gives RATE: 0 where a second passed without an offer
    let last : Word := if r.rateSec + 1 = s.tb.time.sec then BitVec.ofNat 32 r.offered else 0
    let s := s.setReg Page.recd Reg.rec_RATE last
    let s := if (s.reg Page.recd Reg.rec_PEAK_RATE).toNat < r.offered then s.setReg Page.recd Reg.rec_PEAK_RATE (BitVec.ofNat 32 r.offered) else s
    { s with recd := { s.recd with offered := 1, rateSec := s.tb.time.sec } }

/-- A record is offered to the intake (R534): written while the recorder writes, shed in STOPPED_OVF (R538); no new record once a save has begun (R573). -/
def State.recOffer (s : State) (sig value : Word) (cal : DWord) : State :=
  if !s.recCfg 0 || s.saving then s
  else
    let s := s.recCount
    if s.recd.st.writing then s.recPut sig value cal
    else if s.recd.st = .stoppedOvf then s.count Page.recd Reg.rec_SHED
    else s

/-- A selected signal whose value differs from the last recorded is offered (R532). -/
def State.recSignal (s : State) (sig : Nat) (value : Word) (t : Time) : State :=
  if tmem s.recd.sel sig && tget (fun _ => none) s.recd.last sig != some value && s.recCfg 0 then
    let s := { s with recd := { s.recd with last := tset (fun _ => none) s.recd.last sig (some value) } }
    s.recOffer (BitVec.ofNat 32 sig) value (s.tb.pack t)
  else s

/-- The intake buffer is full (R538): the overflow mark, the segment closes with OVF, STOPPED_OVF. -/
def State.recOverflow (s : State) : State :=
  let s := s.count Page.recd Reg.rec_SHED
  if s.recd.st.writing then
    let i := s.recd.cur
    let g := s.seg i
    let pos := if s.recd.st = .capturing then s.preRecs + g.post else g.prePos
    let s := s.recStore (s.recAddr i pos) (recorderBytes 0x40002#32 (s.reg Page.recd Reg.rec_SHED) s.tb.calendar)
    let s := if s.recd.st = .capturing then s.setSeg i { g with post := g.post + 1, used := g.used + 1 }
      else
        let n := min (g.pre + 1) s.preRecs
        s.setSeg i { g with prePos := if s.preRecs = 0 then 0 else (g.prePos + 1) % s.preRecs, pre := n, used := n }
    let s := s.recClose true
    ({ s with recd := { s.recd with st := .stoppedOvf, ovf := true } }).raise Page.recd 2
  else s

/-! ### Triggers (R536) -/

/-- Whether a trigger source is enabled (R536, R541). -/
def State.trigEnabled (s : State) (c : Nat) : Bool :=
  if c < 0x20 then s.rbit Page.recd Reg.rec_TRIG_DIO c
  else if c < 0x40 then s.rbit Page.recd Reg.rec_TRIG_CMP (c - 0x20)
  else if c < 0x44 then s.rbit Page.recd Reg.rec_TRIG_OTHER (c - 0x40)
  else if c = 0x44 then s.rbit Page.recd Reg.rec_TRIG_OTHER 8
  else if c = 0x45 then s.rbit Page.recd Reg.rec_TRIG_OTHER 9 && s.rbit Page.recd Reg.rec_PROG_HANDLE 31
  else c == 0x46

/-- The hold-off is over (R537). -/
def State.holdOver (s : State) : State :=
  let s := { s with recd := { s.recd with holdOn := false, holdLeft := 0 } }
  if s.recd.st = .waitHoldoff then { s with recd := { s.recd with st := .armed } } else s

/-- A further trigger is ignored and counted; it counts towards a hold-off by count (R537). -/
def State.trigIgnore (s : State) : State :=
  let s := s.count Page.recd Reg.rec_TRIG_IGN
  if s.recd.holdOn && s.recCfg 2 then
    if s.recd.holdLeft ≤ 1 then s.holdOver else { s with recd := { s.recd with holdLeft := s.recd.holdLeft - 1 } }
  else s

/-- A trigger is taken (R536, R537): the trigger record, CAPTURING, the hold-off, the TRG pulse while the pass gate is true. -/
def State.trigTake (s : State) (c : Nat) : State :=
  let i := s.recd.cur
  -- without a pre-trigger part the trigger record is the first of the post part
  let s := if s.preRecs = 0 then { s with recd := { s.recd with st := .capturing } } else s
  let s := s.recPut 0x40001#32 (BitVec.ofNat 32 c) s.tb.calendar
  let s := s.setSeg i { s.seg i with code := c, tb := s.tb.st }
  let n := (s.reg Page.recd Reg.rec_HOLDOFF).toNat
  let s := { s with recd := { s.recd with
    st := .capturing, holdOn := decide (n ≠ 0), holdLeft := n
    trgOut := if s.pair.gate then BitVec.ofNat 4 (s.fld Page.recd Reg.rec_TRIG_OTHER 4 4) else s.recd.trgOut } }
  let s := s.setReg Page.recd Reg.rec_LAST_TRIG_SRC (BitVec.ofNat 32 c)
  let s := s.setReg Page.recd Reg.rec_LAST_TRIG_NS (BitVec.ofNat 32 s.tb.time.ns)
  let s := s.setReg Page.recd Reg.rec_LAST_TRIG_SEC_LO (BitVec.ofNat 32 s.tb.time.sec)
  let s := s.setReg Page.recd Reg.rec_LAST_TRIG_SEC_HI (BitVec.ofNat 32 (s.tb.time.sec / 2 ^ 32))
  s.raise Page.recd 0

/-- Triggers of one TCLK: the lowest enabled code is the trigger, the others count in TRIG_IGN (R536). -/
def State.trigger (s : State) (codes : List Nat) : State :=
  let en := (List.range 0x47).filter (fun c => codes.contains c && s.trigEnabled c)
  match en with
  | [] => s
  | c :: rest =>
    if !s.recCfg 0 then s
    else match s.recd.st with
      | .idle | .stoppedOvf | .stoppedFull => s
      | .armed => rest.foldl (fun s _ => s.trigIgnore) (s.trigTake c)
      | _ => en.foldl (fun s _ => s.trigIgnore) s

/-! ### Export (R539) -/

/-- A record of the ring: SIG, VALUE, TIME. -/
def State.recAt (s : State) (i r : Nat) : Nat × Word × DWord :=
  let a := s.recAddr i r
  (s.loadLE a 4, BitVec.ofNat 32 (s.loadLE (a + 4) 4), BitVec.ofNat 64 (s.loadLE (a + 8) 8))

/-- Records are read for an export by whole lines: words are corrected; the flag is false where one cannot be (R162, R171, R172, R539), or where DRAM's check refuses the export engine (R196). R183 has no code for this reader: 0. DEDUCED: notes/assumptions/56.md. -/
def State.recRead (s : State) (i : Nat) : List Nat → State × Bool
  | [] => (s, true)
  | r :: l =>
    match s.fixedMay 0x03A .read (s.recAddr i r / 64 * 64) 64 with
    | (s, false) => (s, false)
    | (s, true) =>
      match s.eccRange (s.recAddr i r / 64 * 64) (s.recAddr i r / 64 * 64 + 64) 0 with
      | (s, false) => (s, false)
      | (s, true) => s.recRead i l

/-- Record numbers of a segment, oldest first: the pre-trigger ring, then the post part. -/
def segOrder (pre : Nat) (g : Seg) : List Nat :=
  (List.range g.pre).map (fun k => if g.pre < pre then k else (g.prePos + k) % pre)
    ++ (List.range g.post).map (fun k => pre + k)

/-- Stable insertion by TIME. -/
def insRec (r : Nat × Word × DWord) : List (Nat × Word × DWord) → List (Nat × Word × DWord)
  | [] => [r]
  | x :: xs => if x.2.2.toNat ≤ r.2.2.toNat then x :: insRec r xs else r :: x :: xs

/-- Records sorted by TIME, stably. -/
def sortRecs : List (Nat × Word × DWord) → List (Nat × Word × DWord)
  | [] => []
  | l => l.foldl (fun acc r => insRec r acc) []

/-- Time in µs, rounded to nearest, since a first time. -/
def usSince (t0 t : DWord) : Nat := ((calTicks t - calTicks t0) * 1000000 + 2 ^ 23) / 2 ^ 24

/-- Rows of an export: each time at which an exported channel changes, with sample and hold; rows of one µs merge, the later value winning (R539). `vals` holds the latest values. -/
def expRows (sigs : List Nat) (t0 : DWord) (vals : List Word) : List (Nat × Word × DWord) → List (Nat × List Word)
  | [] => []
  | r :: rs =>
    let sig := r.1 % 2 ^ 31
    let vals' := (sigs.zip vals).map (fun e => if e.1 = sig then r.2.1 else e.2)
    let rest := expRows sigs t0 vals' rs
    let us := usSince t0 r.2.2
    if vals' = vals then rest
    else match rest with
      | (u, _) :: _ => if u = us then rest else (us, vals') :: rest
      | [] => [(us, vals')]

/-- The first value of a channel in a segment, held back to the segment start (R539). -/
def firstVal (sig : Nat) (l : List (Nat × Word × DWord)) : Word :=
  match l.find? (fun r => r.1 % 2 ^ 31 = sig) with
  | some r => r.2.1
  | none => 0

/-- The export of segment i. -/
def State.exportOf (s : State) (i : Nat) : Export :=
  let g := s.seg i
  let l := sortRecs ((segOrder s.preRecs g).map (s.recAt i))
  let t0 := match l with | r :: _ => r.2.2 | [] => 0#64
  let vals := s.recd.expList.map (fun sig => firstVal sig l)
  let rows := if l.isEmpty then [] else (0, vals) :: (expRows s.recd.expList t0 vals l).filter (fun r => r.1 ≠ 0)
  { seg := i, trigger := g.code, tmq := if g.tb = .locked then 0 else if g.tb = .holdover then 0xB else 0xF
    leapsec := l.any (fun r => fieldNat r.2.2 24 6 == 60), rows := rows }

/-! ### Commands -/

/-- RECORDER_INTAKE (R532, R538): a value of a signal at the current time, recorded when selected and changed; with the intake buffer full, an overflow. -/
def execRecorderIntake (sig : BitVec 31) (value : Word) (bufferFull : Bool) (s : State) : Res :=
  .next (s.ifAlive fun s =>
    if bufferFull && s.recd.st.writing && s.recCfg 0 && tmem s.recd.sel sig.toNat
        && tget (fun _ => none) s.recd.last sig.toNat != some value then s.recOverflow
    else s.recSignal sig.toNat value s.tb.time)

/-- The refresh records of the selected signals in order; those beyond the capacity are shed (R533). -/
def State.refresh (s : State) : List Nat → Nat → State
  | [], _ => s
  | k :: ks, n =>
    if s.recd.st.writing then
      match n with
      | 0 => (s.count Page.recd Reg.rec_SHED).refresh ks 0
      | m + 1 =>
        let v := match tget (fun _ => none) s.recd.last k with | some v => v | none => 0#32
        (s.recOffer (BitVec.ofNat 32 (k + 2 ^ 31)) v s.tb.calendar).refresh ks m
    else s

/-- REFRESH (R533): refresh records of every selected signal, as far as the intake has capacity. -/
def execRefresh (capacity : Nat) (s : State) : Res :=
  .next (s.ifAlive fun s => if s.recCfg 0 then s.refresh (s.recd.sel.map Prod.fst) capacity else s)

/-- TRIGGER (R536, R537): the trigger events of one TCLK are judged. -/
def execTrigger (codes : List (BitVec 7)) (s : State) : Res := .next (s.ifAlive fun s => s.trigger (codes.map BitVec.toNat))

/-- TRG_INPUT (R536): a rising edge on TRGn after its filter. -/
def execTrgInput (n : Fin 4) (s : State) : Res := .next (s.ifAlive fun s => s.trigger [0x40 + n.val])

/-- HOLDOFF_EXPIRY (R537, R538): a hold-off by time ends. -/
def execHoldoffExpiry (s : State) : Res := .next (s.ifAlive fun s => if s.recd.holdOn && !s.recCfg 2 then s.holdOver else s)

/-- POST_TMAX_EXPIRY (R537): the capture ends, the segment closes and the next starts FILLING. -/
def execPostTmaxExpiry (s : State) : Res :=
  .next (s.ifAlive fun s => if s.recd.st = .capturing then (s.recClose false).recStart else s)

/-- REC_ARM (R537, R541). -/
def State.recArm (s : State) (priv : Priv) : State :=
  if priv = .p2 ∨ ¬ s.recCfg 0 then s.err Page.recd
  else match s.recd.st with
    | .idle => s.recStart
    | .stoppedOvf => ({ s with recd := { s.recd with ovf := false } }).recStart
    | _ => s.err Page.recd

/-- REC_ARM (R537). -/
def execRecArm (priv : Priv) (s : State) : Res := .next (s.recArm priv)

/-- REC_DISARM (R537): a capturing segment closes, any other current segment is free again, IDLE. -/
def State.recDisarm (s : State) (priv : Priv) : State :=
  if priv = .p2 then s.err Page.recd
  else
    let s := match s.recd.st with
      | .capturing => s.recClose false
      | .filling | .armed | .waitHoldoff => s.setSeg s.recd.cur {}
      | _ => s
    { s with recd := { s.recd with st := .idle, holdOn := false, holdLeft := 0 } }

/-- REC_DISARM (R537). -/
def execRecDisarm (priv : Priv) (s : State) : Res := .next (s.recDisarm priv)

/-- REC_FORCE (R536): the FORCE trigger. -/
def State.recForce (s : State) (priv : Priv) : State := if priv = .p2 then s.err Page.recd else s.trigger [0x46]

/-- REC_FORCE (R536). -/
def execRecForce (priv : Priv) (s : State) : Res := .next (s.recForce priv)

/-- SEG_FREE (R537, R541): a closed segment is free; STOPPED_FULL goes on with it. -/
def State.segFree (s : State) (seg : Nat) (priv : Priv) : State :=
  if priv = .p2 ∨ (s.seg seg).st ≠ .closed ∨ s.capCount ≤ seg then s.err Page.recd
  else
    let s := s.setSeg seg {}
    if s.recd.st = .stoppedFull then s.recStart else s

/-- SEG_FREE (R537, R541). -/
def execSegFree (seg : BitVec 6) (priv : Priv) (s : State) : Res := .next (s.segFree seg.toNat priv)

/-- EXP_START (R539): the export of a closed segment starts; that segment is not reused. -/
def State.expStart (s : State) (seg : Nat) (priv : Priv) : State :=
  if priv = .p2 ∨ s.recd.expSt = .busy ∨ (s.seg seg).st ≠ .closed then s.err Page.recd
  else
    let s := s.setSeg seg { s.seg seg with st := .exporting }
    { s with recd := { s.recd with expSt := .busy, expSeg := seg, expFiles := 0 } }

/-- EXP_START (R539). -/
def execExpStart (seg : BitVec 6) (priv : Priv) (s : State) : Res := .next (s.expStart seg.toNat priv)

/-- The export ends and its segment is closed again; STOPPED_FULL goes on where OVERWRITE permits. -/
def State.expEnd (s : State) (r : ExpSt) : State :=
  let i := s.recd.expSeg
  let s := s.setSeg i { s.seg i with st := .closed }
  let s := { s with recd := { s.recd with expSt := r } }
  let s := s.raise Page.recd 4
  if s.recd.st = .stoppedFull ∧ s.nextSeg.isSome then s.recStart else s

/-- EXP_ABORT (R541). -/
def State.expAbort (s : State) (priv : Priv) : State := if priv = .p2 ∨ s.recd.expSt ≠ .busy then s.err Page.recd else s.expEnd .failed

/-- EXP_ABORT (R541). -/
def execExpAbort (priv : Priv) (s : State) : Res := .next (s.expAbort priv)

/-- EXPORT_COMPLETE (R539, R541): the files are written, or an uncorrectable DRAM word aborts the export (R172); `ok` says that the file service has taken the files. -/
def execExportComplete (ok : Bool) (files : Half) (s : State) : Res :=
  let i := s.recd.expSeg
  .next (
    if s.recd.expSt ≠ .busy then s
    else match s.recRead i (segOrder s.preRecs (s.seg i)), ok with
      | (s, true), true =>
        let x := s.exportOf i
        ({ s with recd := { s.recd with exports := s.recd.exports ++ [x], expFiles := files.toNat } }).expEnd .done
      | (s, _), _ => s.expEnd .failed)

/-- TRG_PULSE_END (R536): after 1 µs the TRG outputs go back to high impedance. -/
def execTrgPulseEnd (s : State) : Res := .next { s with recd := { s.recd with trgOut := 0 } }

end Sys2Proof.Machine
end

