-- ==== Sys2Proof/Machine/Image.lean ====
section
/-! DEFINITION. The signal image: hidden slots, windows, forces, the forme (R41 to R50, R58, R66, R71 to R74). -/

namespace Sys2Proof.Machine

/-! ### Status words (R44) -/

/-- A status word from its fields. -/
def stWord (qual : Nat) (subst held range test srcFail : Bool) (cls detail : Nat) : Half :=
  BitVec.ofNat 16 (qual * 2 ^ 14 + (if subst then 2 ^ 13 else 0) + (if held then 2 ^ 11 else 0) + (if range then 2 ^ 10 else 0)
    + (if test then 2 ^ 9 else 0) + (if srcFail then 2 ^ 8 else 0) + cls * 16 + detail)

/-- QUAL of a status word: 0 good, 1 uncertain, 2 bad. -/
def stQual (st : Half) : Nat := fieldNat st 14 2

/-! ### Hidden slots (R46) -/

/-- The cycle after and the cycle before a cycle: the number is 48 bits wide (R49). -/
def cycNext (c : Nat) : Nat := if c + 1 = 2 ^ 48 then 0 else c + 1
def cycPrev (c : Nat) : Nat := if c = 0 then 2 ^ 48 - 1 else c - 1

/-- Cycles from cycle t to cycle c, across the wrap of R49. -/
def cycSince (c t : Nat) : Nat := if t ≤ c then c - t else c + 2 ^ 48 - t

/-- Whether a tag is cycle c or earlier (R46), across the wrap of R49. -/
def cycLe (t c : Nat) : Bool := if t ≤ c then decide (c - t < 2 ^ 47) else decide (c + 2 ^ 47 < t)

/-- The slot that the newer-slot bit names, and the other. -/
def ImgEntry.newer (e : ImgEntry) : Slot := if e.newerB then e.b else e.a
def ImgEntry.older (e : ImgEntry) : Slot := if e.newerB then e.a else e.b

/-- A write tagged to become visible at cycle t. -/
def ImgEntry.write (e : ImgEntry) (t : Nat) (v : Word) (st : Half) : ImgEntry :=
  let x : Slot := { value := v, status := st, since := some t }
  let toB := if e.newer.since = some t then e.newerB else !e.newerB
  if toB then { e with b := x, newerB := true } else { e with a := x, newerB := false }

/-- What a read in cycle c returns: the newer slot if its tag is c or earlier, else the older one. -/
def ImgEntry.readAt (e : ImgEntry) (c : Nat) : Slot :=
  match e.newer.since with
  | none => e.newer
  | some t => if cycLe t c then e.newer else e.older

/-- The newer slot is dropped: the entry returns to its committed slot (R71, R269). -/
def ImgEntry.back (e : ImgEntry) : ImgEntry := { e with newerB := !e.newerB }

/-- Cycles since cycle t, saturating at 0xFFFE; 0xFFFE for a slot from reset (R45). -/
def ageOf (c : Nat) (t : Option Nat) : Nat :=
  match t with
  | none => 0xFFFE
  | some t => min (cycSince c t) 0xFFFE

/-- The status word of a forced entry (R73). -/
def forcedStatus (q : BitVec 2) (beneath : Half) : Half := (beneath &&& 0x00FF#16) ||| (q.zeroExtend 16 <<< 14) ||| 0x1000#16

/-! ### Input image -/

/-- Entry h of the input image. -/
def State.inEnt (s : State) (h : Nat) : ImgEntry := tget (fun _ => {}) s.inImg h

/-- Entry h takes a write of an input engine: visible from the next bell (R46, R48). -/
def State.inPut (s : State) (h : Nat) (v : Word) (st : Half) : State :=
  { s with inImg := tset (fun _ => {}) s.inImg h ((s.inEnt h).write (cycNext s.bell.cycle) v st) }

/-- Whether entry h takes a write at once: the target lets the input engines write it (R196), and its stored word holds no error to correct first (R160). -/
def State.inMay (s : State) (h : Nat) : Bool :=
  (s.fixedMay 0x028 .write (0x80000000 + h * 8) 8).2 && s.upset ((0x80000000 + h * 8) / 16 * 16) == 0#144

/-- An input engine writes a handle: the target's check (R188, R196), the correction of the rest of the word (R160), then the write. A refused write changes nothing (R197): DEDUCED, notes/assumptions/56.md. -/
def State.inWrite (s : State) (h : Nat) (v : Word) (st : Half) : State :=
  match s.fixedMay 0x028 .write (0x80000000 + h * 8) 8 with
  | (s, false) => s
  | (s, true) =>
    match s.eccRead (0x80000000 + h * 8) 4 with
    | (s, true) => s.inPut h v st
    | (s, false) => s

/-- The latest value an engine wrote to a handle, visible or not. -/
def State.inLast (s : State) (h : Nat) : Slot := (s.inEnt h).newer

/-- The status of a handle is rewritten with its last value. -/
def State.inStatus (s : State) (h : Nat) (f : Half → Half) : State := s.inWrite h (s.inLast h).value (f (s.inLast h).status)

/-- An entry of the input window: value, status, age, with the force applied (R41, R45, R73). -/
def State.inRead (s : State) (h : Nat) : Word × Half × Nat :=
  let x := (s.inEnt h).readAt s.bell.cycle
  match tget (fun _ => none) s.inForce h with
  | none => (x.value, x.status, ageOf s.bell.cycle x.since)
  | some f => (f.value, forcedStatus f.qual x.status, ageOf s.bell.cycle (some f.since))

/-! ### Output working image -/

/-- Entry h of the output working image. -/
def State.outEnt (s : State) (h : Nat) : ImgEntry := tget (fun _ => {}) s.outImg h

/-- Replace an entry of the output working image. -/
def State.setOutEnt (s : State) (h : Nat) (e : ImgEntry) : State := { s with outImg := tset (fun _ => {}) s.outImg h e }

/-- The committed slot of an output: a write of the cycle in progress is not committed. -/
def State.outCom (s : State) (h : Nat) : Slot :=
  let e := s.outEnt h
  if tmem s.outDirty h then e.older else e.newer

/-- A cluster writes an output in this cycle (R46, R106). -/
def State.outPut (s : State) (h : Nat) (v : Word) (st : Half) : State :=
  { s.setOutEnt h ((s.outEnt h).write (cycNext s.bell.cycle) v st) with outDirty := tadd s.outDirty h }

/-- Age of a slot of the output windows: it became visible in the cycle before its tag (R45). -/
def outAge (c : Nat) (x : Slot) : Nat := ageOf (cycNext c) x.since

/-- A slot of the working image as a forme entry: visible since the cycle of its flip (R58). -/
def Slot.toForme (x : Slot) : Slot := { x with since := x.since.map cycPrev }

/-! ### Forme -/

/-- Entry h of the forme; `since` is the cycle of the flip that made it visible. -/
def State.formeSlot (s : State) (h : Nat) : Slot := tget (fun _ => {}) s.forme h

/-- Replace an entry of the forme. -/
def State.setForme (s : State) (h : Nat) (x : Slot) : State := { s with forme := tset (fun _ => {}) s.forme h x }

/-- Address of entry h in the forme window (R41). -/
def formeAddr (h : Nat) : Nat := 0x80100000 + h * 8

/-- The bell controller writes an entry of the forme: the target's check (R188, R196), the correction of the rest of the word (R160), then the write. A refused write changes nothing (R197): DEDUCED, notes/assumptions/56.md. -/
def State.formePut (s : State) (h : Nat) (x : Slot) : State :=
  match s.fixedMay 0x029 .write (formeAddr h) 8 with
  | (s, false) => s
  | (s, true) =>
    match s.eccRead (formeAddr h) 4 with
    | (s, true) => s.setForme h x
    | (s, false) => s

/-- Whether entry h takes a write of the bell controller at once: its target lets it, and the stored word holds no error to correct first. -/
def State.formeMay (s : State) (h : Nat) : Bool :=
  (s.fixedMay 0x029 .write (formeAddr h) 8).2 && s.upset (formeAddr h) == 0#144

/-- Entry h as the output engines last read it: where the target refused the read, the entry before (R197): DEDUCED, notes/assumptions/56.md. -/
def State.engineSlot (s : State) (h : Nat) : Slot := (tget (fun _ => none) s.outHeld h).getD (s.formeSlot h)

/-- The value that the output engines take for an output handle. -/
def State.formeValue (s : State) (h : Nat) : Word := (s.engineSlot h).value

/-- The output engines read entry h after a change of the forme (R52, R188, R196); `old` is what they had before. -/
def State.engineRead (s : State) (h : Nat) (old : Slot) : State :=
  match s.fixedMay 0x02A .read (formeAddr h) 8 with
  | (s, false) => { s with outHeld := tset (fun _ => none) s.outHeld h (some old) }
  | (s, true) => let s := (s.eccRead (formeAddr h) 0).1; { s with outHeld := tset (fun _ => none) s.outHeld h none }

/-- Forces of a direction in the table, by handle: value and quality (R72). -/
def State.forceOf (s : State) (out : Bool) (h : Nat) : Option (Word × BitVec 2) :=
  (s.forces.find? (fun e => bit e.2.attr 0 && bit e.2.attr 1 == out && e.2.handle == h)).map
    (fun e => (e.2.value, BitVec.ofNat 2 (fieldNat e.2.attr 2 2)))

/-- Handles with an enabled force of a direction. -/
def State.forcedHandles (s : State) (out : Bool) : List Nat :=
  (s.forces.filter (fun e => bit e.2.attr 0 && bit e.2.attr 1 == out)).map (fun e => e.2.handle)

/-- The applied forces of a direction renewed from the table in cycle k: the age runs on while value and quality stay (R73, R74). -/
def State.applyForces (s : State) (out : Bool) (old : Tab (Option Applied)) (k : Nat) : Tab (Option Applied) :=
  (s.forcedHandles out).foldl (fun t h =>
    match s.forceOf out h with
    | none => t
    | some (v, q) =>
      let since := match tget (fun _ => none) old h with
        | some a => if a.value = v ∧ a.qual = q then a.since else k
        | none => k
      tset (fun _ => none) t h (some { value := v, qual := q, since := since })) []

/-- The forme entry of a handle as its committed value and an applied output force give it (R58, R73). -/
def State.formeOf (s : State) (h : Nat) : Slot :=
  let x := (s.outCom h).toForme
  match tget (fun _ => none) s.outForce h with
  | none => x
  | some f => { value := f.value, status := forcedStatus f.qual x.status, since := some f.since }

/-- Handles of the output windows with any entry. -/
def State.outHandles (s : State) : List Nat := (s.outImg.map Prod.fst) ++ (s.forme.map Prod.fst)

/-- Output handles of the imposition table (R51). -/
def State.outputs (s : State) : List Nat := (s.proj.owner.filter (fun e => e.2 ≠ 0)).map Prod.fst

/-- The output engines read every output after a change of the forme from `s` to `t`. -/
def State.enginesRead (s t : State) : State := t.outputs.foldl (fun t h => t.engineRead h (s.engineSlot h)) t

/-- The forme flip of the image (R58): this cycle's writes are committed, output forces applied; the first flip after Stop rebuilds every entry. -/
def State.imageFlip (s : State) : State :=
  let written := s.outDirty.map Prod.fst
  let was := s.outForce.map Prod.fst
  let s := { s with outDirty := [], imgLog := [], outForce := s.applyForces true s.outForce s.bell.cycle }
  let l := if s.bell.rebuild then s.outHandles ++ s.forcedHandles true else written ++ was ++ s.forcedHandles true
  let t := l.foldl (fun s h => s.formePut h (s.formeOf h)) s
  s.enginesRead { t with bell := { t.bell with rebuild := false } }

/-- The output writes of an abandoned cycle return to their committed slots (R71). -/
def State.imageAbandon (s : State) : State :=
  let s := (s.outDirty.map Prod.fst).foldl (fun s h => s.setOutEnt h (s.outEnt h).back) s
  { s with outDirty := [], imgLog := [] }

/-- The forme entry of an output in Stop (R66). `off` takes Hold as Off (R230). `k` is the number of the first Stop bell, from which a Substitute or Off entry ages; until that bell, on which R66 is silent, such an entry reads age 0xFFFE: DESIGN CHOICE, notes/assumptions/53.md. -/
def State.safeSlot (s : State) (off : Bool) (k : Nat) (h : Nat) : Slot :=
  match tget (fun _ => none) s.proj.safe h with
  | none | some .hold =>
    if off then { value := 0, status := stWord 2 false false false false false 7 0, since := some k } else s.formeSlot h
  | some (.subst v) => { value := v, status := stWord 1 true false false false false 7 0, since := some k }
  | some .off => { value := 0, status := stWord 2 false false false false false 7 0, since := some k }

/-- The forme of Stop (R66); with `off`, the committed working image follows it (R230). The applied output forces end, so an output force takes age 0 at the first Run flip: DESIGN CHOICE, notes/assumptions/53.md. -/
def State.buildStopForme (s : State) (off : Bool) : State :=
  let k := cycNext s.bell.cycle
  let t := s.outputs.foldl (fun s h =>
    let x := s.safeSlot off k h
    let s := s.formePut h x
    if off then s.setOutEnt h { a := { x with since := some (cycNext k) } } else s) s
  s.enginesRead { t with outForce := [], bell := { t.bell with rebuild := true } }

/-! ### The force table (R72, R74, R82) -/

/-- The entry that the FORCE registers spell. -/
def State.forceRegs (s : State) : ForceEntry :=
  { handle := s.fld Page.bell Reg.bell_FORCE_HANDLE 0 16
    value := s.reg Page.bell Reg.bell_FORCE_VALUE
    attr := BitVec.ofNat 4 (s.fld Page.bell Reg.bell_FORCE_ATTR 0 4)
    ident := s.reg Page.bell Reg.bell_FORCE_IDENT }

/-- Whether an entry forces an output. -/
def ForceEntry.outward (e : ForceEntry) : Bool := bit e.attr 1

/-- The records by which the proof of the current cycle carries a change of entry n to `e`, which stood as `e0` at the bell: where its direction changes, the entry of the bell comes first, so that the inputs of the cycle keep it (R74). -/
def forceRecs (n : Nat) (e0 e : ForceEntry) : List CtrlRec := if e0.outward == e.outward then [.force n e] else [.force n e0, .force n e]

/-- Whether a control record is a change of entry n of the force table. -/
def CtrlRec.isForce (n : Nat) : CtrlRec → Bool
  | .force m _ => m == n | _ => false

/-- Entry n of the force table changes. While tracking is on, a proof carries the change (R74, R257, R261): that of the current cycle where an output force begins, changes or ends, which the flip of this cycle applies, and that of the next cycle for an input force. An output change after PROOF_END goes into the next proof: notes/assumptions/53.md. -/
def State.setForce (s : State) (n : Nat) (e : ForceEntry) : State :=
  let old : ForceEntry := tget (fun _ => {}) s.forces n
  let s := { s with forces := tset (fun _ => {}) s.forces n e }
  if !s.dirty.on then s
  else if s.ptx.began && (e.outward || (old.outward && bit old.attr 0)) then
    { s with ptx := { s.ptx with
        ctrls := s.ptx.ctrls ++ forceRecs n (tget (fun _ => {}) s.bell.forces n) e
        nextCtrls := s.ptx.nextCtrls.filter (fun r => !r.isForce n) } }
  else { s with ptx := { s.ptx with nextCtrls := s.ptx.nextCtrls ++ [.force n e] } }

/-- FORCE_SEL. -/
def State.forceSel (s : State) : Nat := s.fld Page.bell Reg.bell_FORCE_SEL 0 10

/-- Whether another enabled entry names the handle and direction of e (R72). -/
def State.forceClash (s : State) (n : Nat) (e : ForceEntry) : Bool :=
  bit e.attr 0 && s.forces.any (fun x => x.1 != n && bit x.2.attr 0 && x.2.handle == e.handle && bit x.2.attr 1 == bit e.attr 1)

/-- A write of FORCE_CMD[WRITE]. -/
def State.forceWrite (s : State) : State :=
  let e := s.forceRegs
  if s.forceClash s.forceSel e then s.err Page.bell else s.setForce s.forceSel e

/-- RELEASE of entry n: it is disabled. -/
def State.forceRelease (s : State) (n : Nat) : State :=
  let e : ForceEntry := tget (fun _ => {}) s.forces n
  s.setForce n { e with attr := e.attr &&& 0xE#4 }

/-- RELEASE_ALL: every enabled entry is released. -/
def State.forceReleaseAll (s : State) : State :=
  ((s.forces.filter (fun e => bit e.2.attr 0)).map Prod.fst).foldl State.forceRelease s

/-- FORCE_COUNT. -/
def State.forceCount (s : State) : Nat := (s.forces.filter (fun e => bit e.2.attr 0)).length

/-- FORCE_WRITE (R72). -/
def execForceWrite (s : State) : Res := .next s.forceWrite

/-- FORCE_RELEASE (R74). -/
def execForceRelease (s : State) : Res := .next (s.forceRelease s.forceSel)

/-- FORCE_RELEASE_ALL (R74). -/
def execForceReleaseAll (s : State) : Res := .next s.forceReleaseAll

end Sys2Proof.Machine
end

