-- ==== Sys2Proof/Machine/Launch.lean ====
section
/-! DEFINITION. Launch queues, PRP and HSR (R365 to R367, R384, R385). -/

namespace Sys2Proof.Machine

/-! ### Launch queues: ports 0 to 3 are P1 to P4, 4 and 5 are S1 and S2 -/

/-- Frames of a queue, oldest first. -/
def State.queue (s : State) (port q : Nat) : List QFrame := tget (fun _ => []) s.launch (port * 8 + q)

/-- Replace a queue. -/
def State.setQueue (s : State) (port q : Nat) (l : List QFrame) : State :=
  { s with launch := tset (fun _ => []) s.launch (port * 8 + q) l }

/-- Page and offsets of the counters of a port, and LATE_MAX of a queue in ns. -/
def launchPage (port : Nat) : Nat := if port < 4 then Page.port port else Page.lane (port - 4)
def lateOff (port : Nat) : Nat := if port < 4 then Reg.port_LAUNCH_LATE else Reg.lane_LAUNCH_LATE
def discOff (port : Nat) : Nat := if port < 4 then Reg.port_LAUNCH_DISCARD else Reg.lane_LAUNCH_DISCARD
def State.lateMax (s : State) (port q : Nat) : Nat :=
  (s.reg (launchPage port) (if port < 4 then Reg.port_LATE_MAX q else Reg.lane_LATE_MAX q)).toNat * 1000

/-- A frame is queued behind those of its queue; a queue holds 64, and a frame for a full queue is lost (R365). DEDUCED: notes/assumptions/21.md. -/
def State.enqueue (s : State) (port q : Nat) (f : QFrame) : State :=
  let l := s.queue port q
  if l.length < 64 then s.setQueue port q (l ++ [f]) else s.count (launchPage port) (discOff port)

/-- The first due frame of the lowest queue that has one (R365). -/
def dueIn (l : List QFrame) (t : Nat) : Option QFrame := l.find? (fun f => decide (f.launch ≤ t))

/-- Queue and frame that leave next at time t. -/
def State.dueFrame (s : State) (port t : Nat) : Option (Nat × QFrame) :=
  (List.range 8).findSome? (fun q => (dueIn (s.queue port q) t).map (fun f => (q, f)))

/-- Whether the drivers of the field outputs are enabled: the gate is true and the break-before-make has ended (R36, R215). -/
def State.gateOpen (s : State) : Bool := s.pair.driveEn && s.pair.gate

/-- Own address on the lanes and ports (R389): 0x02 and bits [39:0] of the unique ID. -/
def ownMac : BitVec 48 := 0x02#8 ++ Config.uid.extractLsb' 0 40

/-- An OUTPUT has gone to the station that its arguments name first: the next one is not the first since the module took the pass (R391). -/
def State.outputTold (s : State) (args : List Nat) : State :=
  match args with
  | [] => s
  | x :: _ => { s with stns := tset (fun _ => {}) s.stns x { tget (fun _ => {}) s.stns x with told := true } }

/-- Pair i. -/
def State.red (s : State) (i : Nat) : RedPair := tget (fun _ => {}) s.reds i
def State.setRed (s : State) (i : Nat) (x : RedPair) : State := { s with reds := tset (fun _ => {}) s.reds i x }

/-- RED_MODE: 0 independent, 1 PRP, 2 HSR. -/
def State.redMode (s : State) (i : Nat) : Nat := s.fld (Page.red i) Reg.red_RED_MODE 0 2

/-- A frame leaves a port; of a pair in PRP or HSR it leaves both, with the redundancy control trailer or the HSR tag behind its fields: sequence number, and LAN identifier 0xA or 0xB or path 0 or 1 (R367, after IEC 62439-3). PRESUMED: notes/assumptions/21.md. -/
def State.sendRed (s : State) (port : Nat) (w : Out) (args : List Nat) : State :=
  let i := port / 2
  let m := if port < 4 then s.redMode i else 0
  if m = 0 then s.send w (port :: args)
  else
    let r := s.red i
    let lan := if m = 1 then 0xA else 0
    let s := s.setRed i { r with seq := r.seq + 1#16 }
    (s.send w ((2 * i) :: (args ++ [r.seq.toNat, lan]))).send w ((2 * i + 1) :: (args ++ [r.seq.toNat, lan + 1]))

/-! ### Frames without a launch time (R365) -/

/-- Time of a byte on a port in ns: 1,000 or 100 Mbit/s on P1 to P4 (R384), 0.8 ns on the lanes, rounded up (R387). -/
def State.byteNs (s : State) (port : Nat) : Nat :=
  if port < 4 then (if s.fld (Page.port port) Reg.port_PORT_STAT 1 2 = 1 then 80 else 8) else 1

/-- The next launch time on a port. -/
def State.nextLaunch (s : State) (port : Nat) : Option Nat :=
  (((List.range 8).flatMap (fun q => s.queue port q)).map (fun f => f.launch)).min?

/-- Whether a frame of `len` bytes may start now: with its interframe gap it ends before the next launch time (R365). -/
def State.mayStart (s : State) (port len : Nat) : Bool :=
  match s.nextLaunch port with
  | none => true
  | some t => decide (s.tb.time.toNs + len * s.byteNs port < t)

/-- Frames held back on a port. -/
def State.held (s : State) (port : Nat) : List FreeFrame := tget (fun _ => []) s.freeTx port
def State.setHeld (s : State) (port : Nat) (l : List FreeFrame) : State := { s with freeTx := tset (fun _ => []) s.freeTx port l }

/-- A frame without a launch time goes to a port: it leaves at once by `go`, or waits behind those held back (R365). -/
def State.freeSend (s : State) (port : Nat) (f : FreeFrame) (go : State → State) : State :=
  if (s.held port).isEmpty && s.mayStart port f.len then go s else s.setHeld port (s.held port ++ [f])

/-- FRAME_LAUNCH (R365): the frame next in turn leaves, is discarded late, or is gated at its departure; before the drivers of the field outputs are enabled nothing leaves (R36, R377, R406). -/
def State.launchOne (s : State) (port : Nat) : State :=
  let t := s.tb.time.toNs
  match s.dueFrame port t with
  | none => s
  | some (q, f) =>
    let s := s.setQueue port q ((s.queue port q).erase f)
    if t > f.launch + s.lateMax port q then s.count (launchPage port) (discOff port)
    else if !s.gateOpen then (if port < 4 then s else s.count (launchPage port) Reg.lane_GATED)
    else
      let s := s.sendRed port f.what f.args
      let s := if f.what = .stationOutput then s.outputTold f.args else s
      let s := if port < 4 then s else s.count (launchPage port) Reg.lane_TX_FRAMES
      if t > f.launch + 8 then s.count (launchPage port) (lateOff port) else s

/-- After a step every queued frame is judged against the new time (R366). -/
def State.rejudge (s : State) : State :=
  let t := s.tb.time.toNs
  s.launch.foldl (fun s e =>
    let port := e.1 / 8
    let keep := e.2.filter (fun f => decide (t ≤ f.launch + s.lateMax port (e.1 % 8)))
    (s.countN (launchPage port) (discOff port) (e.2.length - keep.length)).setQueue port (e.1 % 8) keep) s

/-! ### PRP and HSR -/

/-- A frame of an HSR ring goes on to the other port of the pair (R367); `port` is where it arrived. -/
def State.hsrForward (s : State) (port : Nat) (g : RedTag) : State :=
  if s.redMode (port / 2) = 2 then s.send .hsrForward [port / 2 * 2 + (1 - port % 2), g.src.toNat, g.seq.toNat] else s

/-- A frame with a redundancy tag arrives on a port: wrong LAN counted, a second copy within EntryForgetTime discarded (R367, R385). In an HSR ring it is forwarded once in each direction, but for the module's own frame, which leaves the ring (after IEC 62439-3): PRESUMED, notes/assumptions/21.md. The flag says that the frame goes on. -/
def State.redAccept (s : State) (port : Nat) (tag : Option RedTag) : State × Bool :=
  if !s.alive then (s, false)
  else match tag with
  | none => (s, true)
  | some g =>
    let i := port / 2
    if s.redMode i = 0 then (s, true)
    else
      let s := if g.wrongLan then s.count (Page.red i) (if port % 2 = 0 then Reg.red_WRONG_LAN_A else Reg.red_WRONG_LAN_B) else s
      let r := s.red i
      let dups := r.dups.filter (fun e => decide (s.now < e.at_ + 100000000))
      let hit := fun (e : RedEnt) => e.src == g.src.toNat && e.seq == g.seq.toNat
      if s.redMode i = 2 ∧ g.src = ownMac then (s.setRed i { r with dups := dups }, false)
      else match dups.find? hit with
        | some e =>
          let seen := e.ports.testBit (port % 2)
          let dups := dups.map (fun e => if hit e then { e with ports := e.ports ||| 2 ^ (port % 2) } else e)
          let s := (s.setRed i { r with dups := dups }).count (Page.red i) Reg.red_DUP_DISCARD
          (if seen then s else s.hsrForward port g, false)
        | none =>
          -- the table holds 1,024 entries; the oldest makes room
          let dups := if dups.length < 1024 then dups else dups.drop 1
          let x : RedEnt := { src := g.src.toNat, seq := g.seq.toNat, at_ := s.now, ports := 2 ^ (port % 2) }
          ((s.setRed i { r with dups := dups ++ [x] }).hsrForward port g, true)

/-- A frame of a node enters or renews its entry of the node table of 512 (R367). -/
def State.nodeSeen (s : State) (i src : Nat) : State :=
  let r := s.red i
  if r.nodes.any (fun e => e.1 = src) ∨ r.nodes.length < 512 then
    let n := tset (fun _ => 0) r.nodes src (s.now + 1)
    (s.setRed i { r with nodes := n }).setReg (Page.red i) Reg.red_NODES (BitVec.ofNat 32 n.length)
  else s.count (Page.red i) Reg.red_NODE_FULL

/-! ### Commands -/

/-- A supervision frame goes to a port: 92 bytes with preamble and interframe gap. -/
def State.sendSuper (s : State) (port : Nat) : State :=
  s.freeSend port { len := 92, what := .supervision, args := [port] } (fun s => s.send .supervision [port])

/-- SUPERVISION_FRAME (R367): a PRP or HSR pair sends it on both ports. -/
def execSupervisionFrame (pair : Fin 2) (s : State) : Res :=
  .next (s.ifAlive (fun s => if s.redMode pair.val = 0 then s else (s.sendSuper (2 * pair.val)).sendSuper (2 * pair.val + 1)))

/-- SUPERVISION_RECEIPT (R367): the node is entered or renewed; the second copy is a duplicate. -/
def execSupervisionReceipt (pair : Fin 2) (second : Bool) (tag : RedTag) (s : State) : Res :=
  .next (s.ifAlive (fun s =>
    if s.redMode pair.val = 0 then s
    else ((s.redAccept (2 * pair.val + if second then 1 else 0) (some tag)).1).nodeSeen pair.val tag.src.toNat))

/-- NODE_FORGET_TIME (R367): an entry not renewed for 60 s leaves the node table. -/
def execNodeForgetTime (pair : Fin 2) (src : BitVec 48) (s : State) : Res :=
  let r := s.red pair.val
  let n := tset (fun _ => 0) r.nodes src.toNat 0
  .next ((s.setRed pair.val { r with nodes := n }).setReg (Page.red pair.val) Reg.red_NODES (BitVec.ofNat 32 n.length))

/-- PEER_LAN_FAIL (R385). -/
def execPeerLanFail (pair : Fin 2) (s : State) : Res :=
  .next (if s.redMode pair.val = 0 then s else s.raise (Page.red pair.val) 0)

/-- PORT_LINK_CHG (R384): the link, speed and duplex of P1 to P4 and SVC. -/
def execPortLinkChg (port : Fin 5) (up gig full : Bool) (s : State) : Res :=
  let v := if up then 1 + (if gig then 4 else 2) + (if full then 8 else 0) else 0
  let was := s.rbit (Page.port port.val) Reg.port_PORT_STAT 0
  let s := s.setReg (Page.port port.val) Reg.port_PORT_STAT (BitVec.ofNat 32 v)
  .next (if was = up then s else s.raise (Page.port port.val) 0)

end Sys2Proof.Machine
end

