-- ==== Sys2Proof/Machine/Can.lean ====
section
/-! DEFINITION. The CAN FD channels: modes, galley, results, filters, buffers, FIFOs, error confinement (R435 to R460). -/

namespace Sys2Proof.Machine

/-- Channel c. -/
def State.canCh (s : State) (c : Nat) : CanCh := tget (fun _ => {}) s.cans c
def State.setCan (s : State) (c : Nat) (x : CanCh) : State := { s with cans := tset (fun _ => {}) s.cans c x }

/-- A field of CAN_CFG; CAN_EN, FD_EN. -/
def State.canCfg (s : State) (c lo n : Nat) : Nat := s.fld (Page.can c) Reg.can_CAN_CFG lo n
def State.canEn (s : State) (c : Nat) : Bool := s.canCfg c 0 1 == 1
def State.canFd (s : State) (c : Nat) : Bool := s.canCfg c 1 1 == 1

/-- OPMODE: 0 DISABLED, 1 NORMAL, 2 MONITOR (R437). -/
def State.canMode (s : State) (c : Nat) : Nat :=
  if !s.canEn c then 0 else if (s.canCh c).normal && s.pair.gate then 1 else 2

/-- Error state: 0 active, 1 passive, 2 bus-off (R453). -/
def CanCh.err (x : CanCh) : Nat := if x.busOff then 2 else if x.tec ≤ 127 ∧ x.rec_ ≤ 127 then 0 else 1

/-- Whether the channel is bus-off or TEC exceeds 255. -/
def CanCh.off (x : CanCh) : Bool := x.busOff || decide (255 < x.tec)

/-- CAN_STAT, ECR and TX_RESULT (R456, R457). -/
def State.canStat (s : State) (c : Nat) : Word :=
  let x := s.canCh c
  BitVec.ofNat 32 (s.canMode c + x.err * 4 + (if x.lasting then 16 else 0) + (if x.clash then 32 else 0) + (if x.tdcValid then 64 else 0)
    + x.galley.length % 64 * 2 ^ 8 + min x.results.length 32 * 2 ^ 16)
def State.canEcr (s : State) (c : Nat) : Word := BitVec.ofNat 32 (min (s.canCh c).tec 511 + min (s.canCh c).rec_ 255 * 2 ^ 16)
def State.canResult (s : State) (c : Nat) : Word := match (s.canCh c).results with | [] => 0#32 | r :: _ => r.1

/-- A result word (R457). -/
def canWord (tag outcome pos : Nat) : Word := BitVec.ofNat 32 (2 ^ 31 + min pos 255 * 2 ^ 16 + outcome * 2 ^ 8 + tag % 256)

/-- TAG of an entry. -/
def CanEntry.tag (e : CanEntry) : Nat := fieldNat e.ctrl 8 8

/-- The error state is compared with the one before: ERR_STATE (R458). -/
def State.canErrState (s : State) (c was : Nat) : State := if (s.canCh c).err = was then s else s.raise (Page.can c) 4

/-! ### The galley (R440 to R444) -/

/-- An entry ends: its result enters the result FIFO. -/
def State.canEndEntry (s : State) (c : Nat) (e : CanEntry) (outcome pos : Nat) : State :=
  let x := s.canCh c
  (s.setCan c { x with results := x.results ++ [(canWord e.tag outcome pos, e.owner)] }).raise (Page.can c) 0

/-- Places of the result FIFO. -/
def CanCh.room (x : CanCh) : Bool := decide (x.results.length < 32)

/-- The gate cuts the running attempt of entry e off: GATED, whatever room the result FIFO has; the bit at which it ended is free (R437, R457). -/
def State.canCut (s : State) (c : Nat) (e : CanEntry) : State :=
  ({ s with freeCtr := s.freeCtr + 1 }).canEndEntry c e 4 ((Config.freeWord s.freeCtr).toNat % 256)

/-- While the gate is false a running attempt ends, and every entry that reaches the head ends at once with GATED, as far as the result FIFO has room
(R437, R443, R444). -/
def State.canDrainN (s : State) (c : Nat) : Nat → State
  | 0 => s
  | n + 1 =>
    let x := s.canCh c
    match x.galley with
    | [] => s
    | e :: l =>
      let s' := s.setCan c { x with galley := l, busy := false }
      if s.pair.gate || !s.canEn c then s
      else if x.busy then (s'.canCut c e).canDrainN c n
      else if !x.room then s
      else (s'.canEndEntry c e 4 0).canDrainN c n
def State.canDrain (s : State) (c : Nat) : State := s.canDrainN c 32

/-- Whether a frame's fields suit the channel (R440). -/
def State.canFieldsOk (s : State) (c : Nat) (ident ctrl : Word) : Bool :=
  !(bit ctrl 4 && !s.canFd c) && !(bit ctrl 5 && !bit ctrl 4) && !(!bit ident 29 && fieldNat ident 11 18 != 0)

/-- Whether a frame may enter the galley as far as its fields and the channel go (R440). -/
def State.canMayPush (s : State) (c : Nat) (ident ctrl : Word) : Bool :=
  s.canEn c && !(s.canCh c).off && s.canFieldsOk c ident ctrl

/-- A frame enters the tail of the galley. -/
def State.canPush (s : State) (c : Nat) (e : CanEntry) : State :=
  let x := s.canCh c
  (s.setCan c { x with galley := x.galley ++ [e] }).canDrain c

/-- TX_PUSH (R440). -/
def State.txPush (s : State) (c : Nat) (p : Priv) : State :=
  let q := Page.can c
  let ident := s.reg q Reg.can_TX_ID
  let ctrl := s.reg q Reg.can_TX_CTRL
  if p = .p2 then s.err q
  else if (s.canCh c).galley.length < 32 ∧ s.canMayPush c ident ctrl = true then
    s.canPush c { ident := ident, ctrl := ctrl, data := (List.range 16).map (fun i => s.reg q (Reg.can_TX_DATA i)), owner := none }
  else s.count q Reg.can_TX_REFUSED

/-- TX_POP (R444). -/
def State.txPop (s : State) (c : Nat) : State :=
  let x := s.canCh c
  (s.setCan c { x with results := x.results.drop 1 }).canDrain c

/-- GALLEY_FLUSH (R444): every entry that has not started ends with FLUSHED. -/
def State.galleyFlush (s : State) (c : Nat) : State :=
  let x := s.canCh c
  let keep := if x.busy then x.galley.take 1 else []
  let drop := if x.busy then x.galley.drop 1 else x.galley
  drop.foldl (fun s e => s.canEndEntry c e 6 0) (s.setCan c { x with galley := keep })

/-- Program frames staged in the cycle enter the galleys at the forme flip, in cluster order; those that find no place are NOT_QUEUED (R441, R442). -/
def State.canFlip (s : State) : State :=
  (List.range 16).foldl (fun s n =>
    let k := s.core n
    if k.canStage.isEmpty then s
    else
      let l := k.canStage
      let s := s.setCore n { k with canStage := [] }
      l.foldl (fun s (f : CanStage) =>
        let x := s.canCh f.chan
        if x.galley.length < 32 ∧ x.off = false ∧ s.canEn f.chan = true then
          s.canPush f.chan { ident := f.ident, ctrl := f.ctrl, owner := some n
                             data := (List.range 16).map (fun i => BitVec.ofNat 32 (natLE ((f.data.drop (4 * i)).take 4))) }
        else s.setCan f.chan { x with notQueued := x.notQueued ++ [(n, canWord f.tag 8 0)] }) s) s

/-- A result enters the list of a cluster; from a full list the oldest entry is dropped, with a record (R442). DEDUCED: notes/assumptions/29.md. -/
def State.canGive (s : State) (c n : Nat) (w : Word) : State :=
  let k := s.core n
  let l := tget (fun _ => []) k.canResults c
  if l.length < 32 then s.setCore n { k with canResults := tset (fun _ => []) k.canResults c (l ++ [w]) }
  else
    let s := s.setCore n { k with canResults := tset (fun _ => []) k.canResults c (l.drop 1 ++ [w]) }
    s.journal (Page.can c) 0x02FF Reg.can_TX_RESULT (l.headD 0#32)

/-- At a bell the runtime moves the results of program frames to their clusters and notes which channels take frames (R442). -/
def State.canBell (s : State) : State :=
  let s := (List.range 4).foldl (fun s c =>
    let x := s.canCh c
    let mine := x.results.filterMap (fun r => r.2.map (fun n => (n, r.1)))
    let s := (mine ++ x.notQueued).foldl (fun s e => s.canGive c e.1 e.2)
      (s.setCan c { x with results := x.results.filter (fun r => r.2.isNone), notQueued := [] })
    s.canDrain c) s
  let ok := (List.range 4).foldl (fun b c => if s.canEn c && !(s.canCh c).off then b + 2 ^ c else b) 0
  { s with bell := { s.bell with canOk := BitVec.ofNat 4 ok } }

/-- The gate becomes false: no channel is NORMAL, attempts end with GATED and the galleys drain (R437, R443). -/
def State.canGateLost (s : State) : State :=
  (List.range 4).foldl (fun s c => (s.setCan c { s.canCh c with normal := false }).canDrain c) s

/-! ### Filters (R446 to R448) -/

/-- Word w of element i. -/
def State.filt (s : State) (c i w : Nat) : Word := s.reg (Page.canFilter c) (0x400 + i * 12 + 4 * w)

/-- FILT_LEN. -/
def State.filtLen (s : State) (c : Nat) : Nat := s.fld (Page.canFilter c) 0x040 0 9

/-- Whether an element is faulty (R448). -/
def State.filtBad (s : State) (c i : Nat) : Bool :=
  let w0 := s.filt c i 0
  let w1 := s.filt c i 1
  let w2 := s.filt c i 2
  let kind := fieldNat w0 30 2
  let id1 := fieldNat w0 0 29
  let id2 := fieldNat w1 0 29
  bit w2 31 && ((!bit w0 29 && (id1 / 2048 != 0 || id2 / 2048 != 0)) || (kind == 0 && decide (id2 < id1))
    || (kind == 3 && fieldNat w2 8 2 < 2) || fieldNat w1 29 3 != 0 || bit w2 7 || fieldNat w2 10 6 != 0 || fieldNat w2 17 14 != 0)

/-- Whether an element matches a frame (R446, R447). -/
def State.filtHit (s : State) (c i : Nat) (f : CanFrame) : Bool :=
  let w0 := s.filt c i 0
  let id := f.ident.toNat
  let id1 := fieldNat w0 0 29
  let id2 := fieldNat (s.filt c i 1) 0 29
  let w2 := s.filt c i 2
  bit w2 31 && (match fieldNat w0 30 2 with
    | 3 => true
    | k =>
      bit w0 29 == f.xtd && (!f.rtr || bit w2 16)
        && (if k = 0 then decide (id1 ≤ id ∧ id ≤ id2) else if k = 1 then id == id1 || id == id2 else (id &&& id2) == (id1 &&& id2)))

/-- Bit timing rules (R438). -/
def State.canTimingOk (s : State) (c : Nat) : Bool :=
  let p := Page.can c
  let n := fun lo w => s.fld p Reg.can_NBT lo w
  let d := fun lo w => s.fld p Reg.can_DBT lo w
  decide (50 ≤ (1 + n 0 8 + n 8 7) * (n 24 5 + 1)) && (!s.canFd c || decide (7 ≤ (1 + d 0 5 + d 8 4) * (d 24 5 + 1)))
    && decide (n 16 7 ≤ n 8 7) && decide (d 16 4 ≤ d 8 4)

/-- A write of CAN_EN (R438, R448). -/
def State.canEnWrite (s : State) (c : Nat) (v : Bool) : State :=
  let p := Page.can c
  if s.locked p then (if s.canEn c = v then s else s.err p)
  else if !v then
    let s := s.setBit p Reg.can_CAN_CFG 0 false
    s.setCan c { s.canCh c with normal := false, busy := false }
  else if s.canEn c then s
  else
    match (List.range (s.filtLen c)).find? (s.filtBad c) with
    | some i => (s.setReg (Page.canFilter c) 0x044 (BitVec.ofNat 32 (i + 256))).err p
    | none =>
      if s.canTimingOk c then
        let s := s.setBit p Reg.can_CAN_CFG 0 true
        (s.setCan c { s.canCh c with normal := false }).canDrain c
      else s.err p

/-! ### Receiving (R447, R449 to R452) -/

/-- Data bytes of a DLC (R435). -/
def canBytes (fdf rtr : Bool) (dlc : Nat) : Nat :=
  if rtr then 0 else if dlc ≤ 8 then dlc else if !fdf then 8
  else [12, 16, 20, 24, 32, 48, 64].getD (dlc - 9) 64

/-- A record of 20 words (R449). -/
def canRecord (f : CanFrame) (elem : Nat) (count : Word) : List Word :=
  let n := canBytes f.fdf f.rtr f.dlc.toNat
  let d := f.data.take n
  [BitVec.ofNat 32 (f.ident.toNat + (if f.xtd then 2 ^ 29 else 0) + (if f.rtr then 2 ^ 30 else 0)),
   BitVec.ofNat 32 (f.dlc.toNat + (if f.fdf then 16 else 0) + (if f.brs then 32 else 0) + (if f.esi then 64 else 0)
     + elem % 256 * 2 ^ 8 + n * 2 ^ 16), count, 0#32]
    ++ (List.range 16).map (fun i => BitVec.ofNat 32 (natLE ((d.drop (4 * i)).take 4)))

/-- Binding of buffer b: first handle, count, TMO (R456). -/
def State.bindF (s : State) (c b lo n : Nat) : Nat := s.fld (Page.can c) (Reg.can_RXB_BIND b) lo n

/-- The bound handles of buffer b take a value and a status. -/
def State.canBound (s : State) (c b : Nat) (v : Nat → Nat → Word) (st : Half) : State :=
  (List.range (s.bindF c b 16 5)).foldl (fun s i =>
    let h := s.bindF c b 0 16 + i
    s.inWrite h (v i h) st) s

/-- The bound handles of buffer b go to their last value with a DETAIL code. -/
def State.canHeld (s : State) (c b detail : Nat) (srcFail : Bool) : State :=
  (List.range (s.bindF c b 16 5)).foldl (fun s i =>
    let h := s.bindF c b 0 16 + i
    s.inWrite h (s.inLast h).value (stWord 2 false true false false srcFail 4 detail)) s

/-- The CAN configuration takes effect: no buffer has had a frame, and bound handles show DETAIL 0x1 (R452). -/
def State.canLoad (s : State) : State :=
  (List.range 4).foldl (fun s c => (List.range 128).foldl (fun s b =>
    s.canBound c b (fun _ _ => 0#32) (stWord 2 false false false false true 4 1)) (s.setCan c { s.canCh c with had := [] })) s

/-- A record enters dedicated buffer b (R450, R452). -/
def State.canStore (s : State) (c b : Nat) (r : List Word) : State :=
  let q := Page.canRx c
  let nd := Reg.canrx_ND (b / 32)
  let s := if s.rbit q nd (b % 32) then (s.count q Reg.canrx_BUF_OVERWRITE).raise (Page.can c) 7 else s
  let s := (s.setBit q nd (b % 32) true).raise (Page.can c) 1
  let x := s.canCh c
  let s := s.setCan c { x with bufs := tset (fun _ => []) x.bufs b r, had := b :: x.had.filter (fun i => i != b) }
  s.canBound c b (fun i _ => elt32 r (4 + i)) (stWord 0 false false false false false 4 0)
where
  /-- Word i of a record. -/
  elt32 (l : List Word) (i : Nat) : Word := l.getD i 0#32

/-- A record is routed to FIFO k (R451). -/
def State.canFifo (s : State) (c k : Nat) (r : List Word) : State :=
  let x := s.canCh c
  let l := if k = 0 then x.fifo0 else x.fifo1
  if l.length < 64 then
    (s.setCan c (if k = 0 then { x with fifo0 := l ++ [r] } else { x with fifo1 := l ++ [r] })).raise (Page.can c) (2 + k)
  else (s.count (Page.canRx c) (if k = 0 then Reg.canrx_FIFO0_OVF else Reg.canrx_FIFO1_OVF)).raise (Page.can c) 7

/-- REC after a frame received without error; above 127 the standard leaves a value from 119 to 127, which is free (R453). -/
def State.canRecDown (s : State) (c : Nat) : State :=
  let x := s.canCh c
  if s.canMode c ≠ 1 ∨ x.rec_ = 0 then s
  else if x.rec_ ≤ 127 then s.setCan c { x with rec_ := x.rec_ - 1 }
  else
    let v := 119 + (Config.freeWord s.freeCtr).toNat % 9
    ({ s with freeCtr := s.freeCtr + 1 }).setCan c { x with rec_ := v }

/-- A frame received without error (R447, R449). -/
def State.canReceive (s : State) (c : Nat) (f : CanFrame) : State :=
  if !s.alive || !s.canEn c || (s.canCh c).off then s
  else
    let was := (s.canCh c).err
    let s := (s.canRecDown c).canErrState c was
    let s := s.count (Page.can c) Reg.can_RX_FRAMES
    let x := s.canCh c
    let s := s.setCan c { x with rxCount := x.rxCount + 1#32 }
    match (List.range (s.filtLen c)).find? (fun i => s.filtHit c i f) with
    | none => s.count (Page.canFilter c) 0x048
    | some i =>
      let r := canRecord f i (x.rxCount + 1#32)
      let w2 := s.filt c i 2
      match fieldNat w2 8 2 with
      | 0 => s
      | 1 => s.canStore c (fieldNat w2 0 7) r
      | k => s.canFifo c (k - 2) r

/-- FIFO_POP (R451, R460). -/
def State.canPop (s : State) (c : Nat) (f0 f1 : Bool) : State :=
  let x := s.canCh c
  let bad := (f0 && x.fifo0.isEmpty) || (f1 && x.fifo1.isEmpty)
  let s := s.setCan c { x with fifo0 := if f0 then x.fifo0.drop 1 else x.fifo0, fifo1 := if f1 then x.fifo1.drop 1 else x.fifo1 }
  if bad then s.err (Page.canRx c) else s

/-! ### Attempts and errors (R443, R445, R453, R454) -/

/-- FDF and BRS of an entry. -/
def CanEntry.fdf (e : CanEntry) : Bool := bit e.ctrl 4
def CanEntry.brs (e : CanEntry) : Bool := bit e.ctrl 5

/-- Outcome of a bit read otherwise than sent: CLASH where it was sent recessive after the arbitration field and before the CRC delimiter (R445). In
the arbitration field such a bit is no loss of arbitration but a stuff bit. -/
def canJudge (recessive : Bool) (part : CanPart) : Nat := if recessive && part == .content then 7 else 3

/-- Whether a channel measures its loop delay in a frame: TDC_EN and a FDF-to-res edge (R439). -/
def State.canTdc (s : State) (c : Nat) (e : CanEntry) : Bool := s.rbit (Page.can c) Reg.can_TDC_CFG 0 && e.fdf

/-- The measured loop delay enters TDCV (R439). -/
def State.canMeasure (s : State) (c : Nat) (e : CanEntry) (tdcv : Option (BitVec 7)) : State :=
  match tdcv with
  | some v =>
    if s.canTdc c e then
      (s.setReg (Page.can c) Reg.can_TDCV (v.zeroExtend 32)).setCan c { s.canCh c with tdcValid := true }
    else s
  | none => s

/-- KCLK from the edge that sends a bit to its sample point: in the data phase TDCV + TDCO with TDC_EN and else the end of DTSEG1; outside it the end of
NTSEG1 (R438, R439). The data phase is the part of a BRS frame that R445 calls content. -/
def State.canSample (s : State) (c : Nat) (e : CanEntry) (part : CanPart) : Nat :=
  let p := Page.can c
  if e.brs && part == .content then
    if s.canTdc c e then s.fld p Reg.can_TDCV 0 7 + s.fld p Reg.can_TDC_CFG 8 7
    else (1 + s.fld p Reg.can_DBT 0 5) * (s.fld p Reg.can_DBT 24 5 + 1)
  else (1 + s.fld p Reg.can_NBT 0 8) * (s.fld p Reg.can_NBT 24 5 + 1)

/-- Outcome of what the channel met, none where the attempt goes on (R443, R445): a level that differs for a time is an error only where the sample
point falls into it. -/
def State.canOutcome (s : State) (c : Nat) (e : CanEntry) : CanEnd → Option Nat
  | .done => some 1
  | .lost => some 2
  | .error => some 3
  | .bitError r part => some (canJudge r part)
  | .bitLevel r part a b => if a ≤ s.canSample c e part ∧ s.canSample c e part < b then some (canJudge r part) else none

/-- TEC after an outcome; `exempt`: ISO 11898-1 lets it stand at this error (R453). -/
def canTec (tec outcome : Nat) (exempt : Bool) : Nat :=
  if outcome = 1 then tec - 1 else if outcome = 2 || exempt then tec else tec + 8

/-- Counters and events of an outcome (R445, R456, R458). -/
def State.canCounted (s : State) (c : Nat) (e : CanEntry) (outcome : Nat) : State :=
  let p := Page.can c
  if outcome = 1 then (s.count p Reg.can_TX_DONE).send .canFrame ([c, e.ident.toNat, e.ctrl.toNat] ++ e.data.map BitVec.toNat)
  else if outcome = 2 then s.count p Reg.can_TX_LOST
  else if outcome = 3 then s.count p Reg.can_TX_ERR
  else ((s.count p Reg.can_TX_ERR).count p Reg.can_CLASH_CNT).raise p 6

/-- The running attempt of the head entry e ends with an outcome (R443). -/
def State.canEnds (s : State) (c : Nat) (e : CanEntry) (l : List CanEntry) (outcome pos : Nat) (exempt : Bool) : State :=
  let x := s.canCh c
  let s := s.setCan c { x with galley := l, busy := false, tec := canTec x.tec outcome exempt, clash := x.clash || outcome == 7 }
  (((s.canCounted c e outcome).canErrState c x.err).canEndEntry c e outcome (if outcome = 1 then 0 else pos)).canDrain c

/-- An attempt meets what ends it, in NORMAL only (R437, R443, R445). TDCV shows the delay measured in the frame. -/
def State.canAttemptEnd (s : State) (c : Nat) (r : CanEnd) (pos : Nat) (tdcv : Option (BitVec 7)) (exempt : Bool) : State :=
  match (s.canCh c).galley with
  | [] => s
  | e :: l =>
    if !(s.canCh c).busy || s.canMode c != 1 then s
    else
      let s := s.canMeasure c e tdcv
      match s.canOutcome c e r with
      | none => s
      | some o => s.canEnds c e l o pos exempt

/-- Entry to bus-off (R453, R454). -/
def State.canBusOff (s : State) (c : Nat) : State :=
  let x := s.canCh c
  let p := Page.can c
  if x.busOff ∨ x.tec ≤ 255 then s
  else
    let win := (s.reg p Reg.can_BO_WINDOW).toNat * 250000000
    let ev := (x.events.filter (fun t => decide (s.now ≤ t + win))) ++ [s.now]
    let s := s.setCan c { x with busOff := true, recover := false, busy := false, galley := [], events := ev
                                 lasting := x.lasting || decide (s.canCfg c 8 4 ≤ ev.length) }
    let s := x.galley.foldl (fun s e => s.canEndEntry c e 5 0) s
    let s := ((s.count p Reg.can_BUS_OFF_CNT).raise p 5).raise p 4
    let s := (List.range 128).foldl (fun s b => s.canHeld c b 2 true) s
    s.journalReg p 0x0105 Reg.can_BUS_OFF_CNT

/-- The channel leaves bus-off after its recovery sequence (R453). -/
def State.canRecovered (s : State) (c : Nat) : State :=
  let x := s.canCh c
  if x.busOff && (x.recover || (s.canCfg c 2 1 == 1 && !x.lasting)) then
    (s.setCan c { x with busOff := false, recover := false, tec := 0, rec_ := 0 }).raise (Page.can c) 4
  else s

/-- CAN_CMD (R453, R454, R456): 0 RECOVER, 1 GALLEY_FLUSH, 2 CLEAR_CLASH. -/
def State.canCmd (s : State) (c k : Nat) (p : Priv) : State :=
  let x := s.canCh c
  if p = .p2 then s.err (Page.can c)
  else if k = 0 then s.setCan c { x with lasting := false, events := [], recover := x.recover || x.busOff }
  else if k = 1 then s.galleyFlush c
  else s.setCan c { x with clash := false }

/-! ### Commands -/

/-- TX_PUSH (R440). -/
def execTxPush (c : Fin 4) (priv : Priv) (s : State) : Res := .next (s.txPush c.val priv)

/-- CAN_ATTEMPT_START (R443, R444). -/
def execCanAttemptStart (c : Fin 4) (s : State) : Res :=
  let x := s.canCh c.val
  .next (
    if s.canMode c.val = 1 ∧ x.off = false ∧ x.busy = false ∧ x.galley.isEmpty = false ∧ x.room = true then
      s.setCan c.val { x with busy := true }
    else s)

/-- CAN_ATTEMPT_END (R439, R443, R445). -/
def execCanAttemptEnd (c : Fin 4) (r : CanEnd) (pos : BitVec 8) (tdcv : Option (BitVec 7)) (exempt : Bool) (s : State) : Res :=
  .next (s.canAttemptEnd c.val r pos.toNat tdcv exempt)

/-- TX_POP (R444). -/
def execTxPop (c : Fin 4) (s : State) : Res := .next (s.txPop c.val)

/-- GALLEY_FLUSH (R444). -/
def execGalleyFlush (c : Fin 4) (priv : Priv) (s : State) : Res := .next (s.canCmd c.val 1 priv)

/-- RECOVER (R453, R454). -/
def execRecover (c : Fin 4) (priv : Priv) (s : State) : Res := .next (s.canCmd c.val 0 priv)

/-- CLEAR_CLASH (R445). -/
def execClearClash (c : Fin 4) (priv : Priv) (s : State) : Res := .next (s.canCmd c.val 2 priv)

/-- CAN_FRAME_RECEIVED (R447). -/
def execCanFrameReceived (c : Fin 4) (f : CanFrame) (s : State) : Res := .next (s.canReceive c.val f)

/-- What a fault adds to REC and TEC; with PEX_EN a recessive res bit is a protocol exception and no error (R435, R453). -/
def canFaultAdds (pex : Bool) : CanFault → Nat × Nat
  | .rec1 => (1, 0) | .rec8 => (8, 0) | .tec8 => (0, 8)
  | .res => if pex then (0, 0) else (1, 0)

/-- CAN_BUS_ERROR (R435, R437, R453): REC or TEC rises as ISO 11898-1 says; not in MONITOR. -/
def execCanBusError (c : Fin 4) (f : CanFault) (s : State) : Res :=
  let x := s.canCh c.val
  let a := canFaultAdds (s.canCfg c.val 4 1 == 1) f
  .next (
    if s.canMode c.val = 1 ∧ x.off = false then
      (s.setCan c.val { x with rec_ := x.rec_ + a.1, tec := x.tec + a.2 }).canErrState c.val x.err
    else s)

/-- BUS_OFF (R453). -/
def execBusOff (c : Fin 4) (s : State) : Res := .next (s.canBusOff c.val)

/-- BUS_OFF_RECOVERY (R453). -/
def execBusOffRecovery (c : Fin 4) (s : State) : Res := .next (s.canRecovered c.val)

/-- NORMAL_ENTRY (R437). -/
def execNormalEntry (c : Fin 4) (s : State) : Res :=
  .next (if s.canEn c.val && s.pair.gate then s.setCan c.val { s.canCh c.val with normal := true } else s)

/-- CAN_BUFFER_TIMEOUT (R452): a buffer that has had a frame. -/
def execCanBufferTimeout (c : Fin 4) (b : BitVec 7) (s : State) : Res :=
  let x := s.canCh c.val
  .next (
    if s.bindF c.val b.toNat 24 8 ≠ 0 ∧ x.busOff = false ∧ x.had.contains b.toNat = true then s.canHeld c.val b.toNat 3 false
    else s)

/-- FIFO_POP (R451). -/
def execFifoPop (c : Fin 4) (f0 f1 : Bool) (s : State) : Res := .next (s.canPop c.val f0 f1)

/-- ND_CLEAR (R450). -/
def execNdClear (c i : Fin 4) (v : Word) (s : State) : Res :=
  let q := Page.canRx c.val
  .next (s.setReg q (Reg.canrx_ND i.val) (s.reg q (Reg.canrx_ND i.val) &&& ~~~v))

/-- RX_BANK (R460). -/
def execRxBank (c : Fin 4) (v : BitVec 2) (s : State) : Res := .next (s.setReg (Page.canRx c.val) Reg.canrx_RX_BANK (v.zeroExtend 32))

/-- CAN_EN (R438, R448). -/
def execCanEn (c : Fin 4) (v : Bool) (s : State) : Res := .next (s.canEnWrite c.val v)

end Sys2Proof.Machine
end

