-- ==== Sys2Proof/Machine/Float.lean ====
section
/-! DEFINITION. IEEE 754-2019 binary32 and binary64 as R101 states them: exact integers rounded once, sticky flags. -/

namespace Sys2Proof.Machine

/-- An interchange format: exponent and fraction widths. -/
structure FFmt where
  eb : Nat
  mb : Nat
  deriving DecidableEq, Repr

/-- binary32 (R90). -/
def f32 : FFmt := { eb := 8, mb := 23 }

/-- binary64 (R90). -/
def f64 : FFmt := { eb := 11, mb := 52 }

/-- Exponent bias. -/
def FFmt.bias (f : FFmt) : Nat := 2 ^ (f.eb - 1) - 1

/-- The all-ones exponent field. -/
def FFmt.emax (f : FFmt) : Nat := 2 ^ f.eb - 1

/-- Position of the sign bit. -/
def FFmt.signPos (f : FFmt) : Nat := f.eb + f.mb

/-- A datum unpacked: a NaN (quiet or signalling), an infinity, or `(-1)^neg * sig * 2^exp`. -/
inductive FVal where
  | nan (signalling : Bool)
  | inf (neg : Bool)
  | fin (neg : Bool) (sig : Nat) (exp : Int)
  deriving DecidableEq, Repr

/-- The IEEE 754 conditions of R92: [4] NV, [3] DZ, [2] OF, [1] UF, [0] NX. -/
structure FFlags where
  nv : Bool := false
  dz : Bool := false
  of : Bool := false
  uf : Bool := false
  nx : Bool := false
  deriving DecidableEq, Repr

/-- No condition. -/
def FFlags.none : FFlags := {}

/-- The flags as fl[4:0] (R92). -/
def FFlags.toWord (f : FFlags) : Word :=
  (ofBool 32 f.nv <<< 4) ||| (ofBool 32 f.dz <<< 3) ||| (ofBool 32 f.of <<< 2) ||| (ofBool 32 f.uf <<< 1) ||| ofBool 32 f.nx

/-- Unpack the pattern `x` of a format. -/
def unpackF (f : FFmt) (x : Nat) : FVal :=
  let neg := x.testBit f.signPos
  let e := (x >>> f.mb) % 2 ^ f.eb
  let m := x % 2 ^ f.mb
  if e = f.emax then
    (if m = 0 then .inf neg else .nan (!(m.testBit (f.mb - 1))))
  else if e = 0 then .fin neg m (1 - (f.bias : Int) - f.mb)
  else .fin neg (m + 2 ^ f.mb) ((e : Int) - f.bias - f.mb)

/-- The sign bit placed. -/
def signBits (f : FFmt) (neg : Bool) : Nat := if neg then 2 ^ f.signPos else 0

/-- The default quiet NaN of R101. -/
def qnan (f : FFmt) : Nat := f.emax * 2 ^ f.mb + 2 ^ (f.mb - 1)

/-- An infinity. -/
def infBits (f : FFmt) (neg : Bool) : Nat := signBits f neg + f.emax * 2 ^ f.mb

/-- A zero. -/
def zeroBits (f : FFmt) (neg : Bool) : Nat := signBits f neg

/-- `sig` shifted right by `k` and rounded to nearest, ties to even, where `sticky` says that more lies below. -/
def rneShift (sig k : Nat) (sticky : Bool) : Nat × Bool :=
  if k = 0 then (sig, sticky)
  else
    let q := sig >>> k
    let r := sig % 2 ^ k
    let half := 2 ^ (k - 1)
    let up := half < r || (r = half && (sticky || q % 2 = 1))
    (if up then q + 1 else q, sticky || r ≠ 0)

/-- Round `(-1)^neg * (sig + sticky part) * 2^exp`, `sig` not 0, to the format: to nearest, ties to even, tininess after rounding (R101). When `sticky` is set the caller gives `sig` at least two bits more than the format's precision. -/
def roundF (f : FFmt) (neg : Bool) (sig : Nat) (exp : Int) (sticky : Bool) : Nat × FFlags :=
  let p := f.mb + 1
  let len := Nat.log2 sig + 1
  let emin : Int := 1 - (f.bias : Int)
  let etop : Int := exp + len - 1
  -- the exponent of the last kept bit, first as if the exponent range were unbounded
  let lsbU : Int := etop - (p - 1)
  let lsb : Int := max lsbU (emin - f.mb)
  let rnd (l : Int) : Nat × Bool :=
    if l ≤ exp then (sig * 2 ^ (exp - l).toNat, sticky) else rneShift sig (l - exp).toNat sticky
  let (q, inexact) := rnd lsb
  let (qu, _) := rnd lsbU
  let topU : Int := lsbU + (Nat.log2 qu : Int)
  let tiny := decide (topU < emin)
  -- a carry out of the kept bits raises the exponent by one
  let (q, lsb) := if q = 2 ^ p then (2 ^ (p - 1), lsb + 1) else (q, lsb)
  if q < 2 ^ f.mb then
    (signBits f neg + q, { uf := tiny && inexact, nx := inexact })
  else
    let e : Int := lsb + f.mb + f.bias
    if e ≥ f.emax then (infBits f neg, { of := true, nx := true })
    else (signBits f neg + e.toNat * 2 ^ f.mb + (q - 2 ^ f.mb), { uf := tiny && inexact, nx := inexact })

/-- Round an exact value; a zero keeps the sign given. -/
def roundExact (f : FFmt) (neg : Bool) (sig : Nat) (exp : Int) : Nat × FFlags :=
  if sig = 0 then (zeroBits f neg, FFlags.none) else roundF f neg sig exp false

/-- Whether an unpacked operand is a signalling NaN. -/
def FVal.isSNan : FVal → Bool
  | .nan s => s
  | _ => false

/-- Whether an unpacked operand is a NaN. -/
def FVal.isNan : FVal → Bool
  | .nan _ => true
  | _ => false

/-- A NaN result: the default quiet NaN, NV for a signalling operand or an invalid operation. -/
def nanRes (f : FFmt) (nv : Bool) : Nat × FFlags := (qnan f, { nv := nv })

/-- The exact sum of two finite values as a signed integer and an exponent. -/
def addExact (n1 : Bool) (s1 : Nat) (e1 : Int) (n2 : Bool) (s2 : Nat) (e2 : Int) : Int × Int :=
  let e := min e1 e2
  let a : Int := (s1 * 2 ^ (e1 - e).toNat : Nat)
  let b : Int := (s2 * 2 ^ (e2 - e).toNat : Nat)
  ((if n1 then -a else a) + (if n2 then -b else b), e)

/-- Round a signed integer times a power of two; an exact zero takes the sign given (R101, IEEE 754 6.3). -/
def roundInt (f : FFmt) (v : Int) (e : Int) (zeroNeg : Bool) : Nat × FFlags :=
  if v = 0 then (zeroBits f zeroNeg, FFlags.none) else roundF f (decide (v < 0)) v.natAbs e false

/-- Addition of unpacked operands. -/
def addV (f : FFmt) (a b : FVal) : Nat × FFlags :=
  match a, b with
  | .nan x, b => nanRes f (x || b.isSNan)
  | a, .nan y => nanRes f (a.isSNan || y)
  | .inf n1, .inf n2 => if n1 = n2 then (infBits f n1, FFlags.none) else nanRes f true
  | .inf n1, .fin .. => (infBits f n1, FFlags.none)
  | .fin .., .inf n2 => (infBits f n2, FFlags.none)
  | .fin n1 s1 e1, .fin n2 s2 e2 =>
    let (v, e) := addExact n1 s1 e1 n2 s2 e2
    roundInt f v e (n1 && n2)

/-- An unpacked operand with its sign inverted. -/
def FVal.negate : FVal → FVal
  | .nan s => .nan s
  | .inf n => .inf (!n)
  | .fin n s e => .fin (!n) s e

/-- fa + fb. -/
def fadd (f : FFmt) (a b : Nat) : Nat × FFlags := addV f (unpackF f a) (unpackF f b)

/-- fa − fb. -/
def fsub (f : FFmt) (a b : Nat) : Nat × FFlags := addV f (unpackF f a) (unpackF f b).negate

/-- Multiplication of unpacked operands. -/
def mulV (f : FFmt) (a b : FVal) : Nat × FFlags :=
  match a, b with
  | .nan x, b => nanRes f (x || b.isSNan)
  | a, .nan y => nanRes f (a.isSNan || y)
  | .inf n1, .inf n2 => (infBits f (n1 != n2), FFlags.none)
  | .inf n1, .fin n2 s2 _ => if s2 = 0 then nanRes f true else (infBits f (n1 != n2), FFlags.none)
  | .fin n1 s1 _, .inf n2 => if s1 = 0 then nanRes f true else (infBits f (n1 != n2), FFlags.none)
  | .fin n1 s1 e1, .fin n2 s2 e2 => roundExact f (n1 != n2) (s1 * s2) (e1 + e2)

/-- fa × fb. -/
def fmul (f : FFmt) (a b : Nat) : Nat × FFlags := mulV f (unpackF f a) (unpackF f b)

/-- fa ÷ fb. The quotient is taken with more bits than any format keeps, the remainder as sticky. -/
def fdiv (f : FFmt) (a b : Nat) : Nat × FFlags :=
  match unpackF f a, unpackF f b with
  | .nan x, b => nanRes f (x || b.isSNan)
  | a, .nan y => nanRes f (a.isSNan || y)
  | .inf _, .inf _ => nanRes f true
  | .inf n1, .fin n2 _ _ => (infBits f (n1 != n2), FFlags.none)
  | .fin n1 _ _, .inf n2 => (zeroBits f (n1 != n2), FFlags.none)
  | .fin n1 s1 e1, .fin n2 s2 e2 =>
    if s2 = 0 then (if s1 = 0 then nanRes f true else (infBits f (n1 != n2), { dz := true }))
    else if s1 = 0 then (zeroBits f (n1 != n2), FFlags.none)
    else
      let k := 2 * f.mb + 8
      let n := s1 * 2 ^ k
      roundF f (n1 != n2) (n / s2) (e1 - e2 - k) (decide (n % s2 ≠ 0))

/-- Integer square root, one result bit per step from bit `k` down. -/
def isqrt (n : Nat) : Nat → Nat → Nat
  | 0, r => if (r + 1) * (r + 1) ≤ n then r + 1 else r
  | k + 1, r => let r' := r + 2 ^ (k + 1); isqrt n k (if r' * r' ≤ n then r' else r)

/-- Square root. −0 gives −0, any other negative operand is invalid. -/
def fsqrt (f : FFmt) (a : Nat) : Nat × FFlags :=
  match unpackF f a with
  | .nan x => nanRes f x
  | .inf n => if n then nanRes f true else (infBits f false, FFlags.none)
  | .fin n s e =>
    if s = 0 then (zeroBits f n, FFlags.none)
    else if n then nanRes f true
    else
      let k := 2 * f.mb + 8
      -- an even exponent under the root
      let (s', e') := if (e - k) % 2 = 0 then (s * 2 ^ k, e - k) else (s * 2 ^ (k + 1), e - k - 1)
      let r := isqrt s' (Nat.log2 s' / 2 + 1) 0
      roundF f false r (e' / 2) (decide (r * r ≠ s'))

/-- fa × fb + fd with one rounding; 0 × ∞ is invalid whatever the addend (R101). -/
def ffma (f : FFmt) (a b d : Nat) : Nat × FFlags :=
  let va := unpackF f a
  let vb := unpackF f b
  let vd := unpackF f d
  let snan := va.isSNan || vb.isSNan || vd.isSNan
  match va, vb with
  | .nan _, _ => nanRes f snan
  | _, .nan _ => nanRes f snan
  | .inf n1, .inf n2 => addV f (.inf (n1 != n2)) vd
  | .inf n1, .fin n2 s2 _ => if s2 = 0 then nanRes f true else addV f (.inf (n1 != n2)) vd
  | .fin n1 s1 _, .inf n2 => if s1 = 0 then nanRes f true else addV f (.inf (n1 != n2)) vd
  | .fin n1 s1 e1, .fin n2 s2 e2 => addV f (.fin (n1 != n2) (s1 * s2) (e1 + e2)) vd

/-- Whether a is below b, both not NaN; −0 and +0 are equal. -/
def ltV (a b : FVal) : Bool :=
  match a, b with
  | .inf n1, .inf n2 => n1 && !n2
  | .inf n1, _ => n1
  | _, .inf n2 => !n2
  | .fin n1 s1 e1, .fin n2 s2 e2 => decide ((addExact n1 s1 e1 (!n2) s2 e2).1 < 0)
  | _, _ => false

/-- Whether a equals b, both not NaN. -/
def eqV (a b : FVal) : Bool :=
  match a, b with
  | .inf n1, .inf n2 => n1 == n2
  | .fin n1 s1 e1, .fin n2 s2 e2 => decide ((addExact n1 s1 e1 (!n2) s2 e2).1 = 0)
  | _, _ => false

/-- FMIN and FMAX: the other operand for one NaN, −0 below +0 (R101). `isMin` says which. -/
def fminmax (f : FFmt) (isMin : Bool) (a b : Nat) : Nat × FFlags :=
  let va := unpackF f a
  let vb := unpackF f b
  let nv := va.isSNan || vb.isSNan
  if va.isNan && vb.isNan then (qnan f, { nv := nv })
  else if va.isNan then (b, { nv := nv })
  else if vb.isNan then (a, { nv := nv })
  else
    let below := ltV va vb || (eqV va vb && a.testBit f.signPos && !b.testBit f.signPos)
    ((if below = isMin then a else b), FFlags.none)

/-- FEQ: quiet compare. -/
def feq (f : FFmt) (a b : Nat) : Bool × FFlags :=
  let va := unpackF f a
  let vb := unpackF f b
  if va.isNan || vb.isNan then (false, { nv := va.isSNan || vb.isSNan }) else (eqV va vb, FFlags.none)

/-- FLT (`orEq` false) and FLE (`orEq` true): signalling compares. -/
def fcmp (f : FFmt) (orEq : Bool) (a b : Nat) : Bool × FFlags :=
  let va := unpackF f a
  let vb := unpackF f b
  if va.isNan || vb.isNan then (false, { nv := true })
  else (ltV va vb || (orEq && eqV va vb), FFlags.none)

/-- Conversion between the formats. -/
def fcvt (src dst : FFmt) (a : Nat) : Nat × FFlags :=
  match unpackF src a with
  | .nan x => nanRes dst x
  | .inf n => (infBits dst n, FFlags.none)
  | .fin n s e => roundExact dst n s e

/-- A signed integer to float. -/
def fOfInt (f : FFmt) (v : Int) : Nat × FFlags := roundInt f v 0 false

/-- Float to a signed integer of `w` bits, to nearest or toward zero, saturating; a NaN gives 0 (R101). -/
def fToInt (f : FFmt) (w : Nat) (trunc : Bool) (a : Nat) : Int × FFlags :=
  let hi : Int := 2 ^ (w - 1) - 1
  let lo : Int := -(2 ^ (w - 1))
  match unpackF f a with
  | .nan _ => (0, { nv := true })
  | .inf n => (if n then lo else hi, { nv := true })
  | .fin n s e =>
    let (m, inexact) : Nat × Bool :=
      if 0 ≤ e then (s * 2 ^ e.toNat, false)
      else
        let k := (-e).toNat
        if trunc then (s >>> k, decide (s % 2 ^ k ≠ 0)) else rneShift s k false
    let v : Int := if n then -(m : Int) else m
    if v > hi then (hi, { nv := true })
    else if v < lo then (lo, { nv := true })
    else (v, { nx := inexact })

end Sys2Proof.Machine
end

