-- ==== Sys2Proof/Machine/LoopBase.lean ====
section
/-! DEFINITION. What the loop engines read and write: measurement-plane channels, descriptors, setpoint blocks, binary32 arithmetic in the order of R279. -/

namespace Sys2Proof.Machine

/-! ### The measurement plane (R291) -/

/-- Channel c of the measurement plane, by CLASS × 0x1000 + INDEX. -/
def State.chan (s : State) (c : Nat) : MChan := tget (fun _ => {}) s.mp c

/-- A source writes a channel; a selected channel is offered to the recorder (R531, R532). -/
def State.setChan (s : State) (c : Nat) (v : MChan) : State :=
  let s := { s with mp := tset (fun _ => {}) s.mp c v }
  s.recSignal (0x30000 + c) v.value (Time.ofNs v.time)

/-- An output stage. -/
def State.stage (s : State) (c : Nat) : MChan := tget (fun _ => {}) s.lo c

/-! ### Engine memory (R288, R289, R331) -/

/-- Window base of engine e. -/
def leBase (e : Nat) : Nat := 0x40000000 + e * 0x1000000

/-- A word at an offset of the window of engine e. -/
def State.leWord (s : State) (e off : Nat) : Word := BitVec.ofNat 32 (s.loadLE (leBase e + off) 4)

/-- A word of the descriptor of loop l. -/
def State.dsc (s : State) (e l off : Nat) : Word := s.leWord e (l * 0x800 + off)

/-- A field of a descriptor word. -/
def State.dscF (s : State) (e l off lo n : Nat) : Nat := fieldNat (s.dsc e l off) lo n

/-- n words of a descriptor from an offset. -/
def State.dscV (s : State) (e l off n : Nat) : List Word := (List.range n).map (fun i => s.dsc e l (off + 4 * i))

/-- Row i, n columns, of a matrix with a row stride. -/
def State.dscRow (s : State) (e l off stride i n : Nat) : List Word := s.dscV e l (off + i * stride * 4) n

/-- A 16-bit element of a block of a descriptor. -/
def State.dscH (s : State) (e l off i : Nat) : Nat := s.loadLE (leBase e + l * 0x800 + off + 2 * i) 2

/-- n, p and m of a loop. -/
def State.ln (s : State) (e l : Nat) : Nat := s.dscF e l 0 0 4
def State.lp (s : State) (e l : Nat) : Nat := s.dscF e l 0 8 3
def State.lm (s : State) (e l : Nat) : Nat := s.dscF e l 0 12 3

/-- Period in TCLK, output phase, LAT in CCLK. -/
def State.lper (s : State) (e l : Nat) : Nat := (s.dsc e l 4).toNat
def State.lphi (s : State) (e l : Nat) : Nat := s.dscF e l 8 0 8
def State.llat (s : State) (e l : Nat) : Nat := s.dscF e l 8 16 16

/-- STOP_ACT and FB_ACT. -/
def State.stopActOf (s : State) (e l : Nat) : Nat := s.dscF e l 0xC 4 2
def State.fbActOf (s : State) (e l : Nat) : Nat := s.dscF e l 0xC 8 2

/-- A word of the setpoint block of loop l (R331). -/
def State.spb (s : State) (e l off : Nat) : Word := s.leWord e (0x180000 + l * 0x80 + off)

/-- USAFE of the actuators of a loop. -/
def State.usafe (s : State) (e l : Nat) : List Word := s.dscV e l 0xC0 (s.lm e l)

/-- MACs of an evaluation and its time E in CCLK (R280). -/
def evalE (n p m : Nat) : Nat := (n * (n + 2 * p + 2 * m) + 15) / 16 + 8

/-- The engine's own words written to its memory; whole stored words lose what is left of an error. -/
def State.leStore (s : State) (a : Nat) : List Word → State
  | [] => s
  | w :: ws => ((if a % 16 = 0 then s.setUpset a 0#144 else s).storeLE a 4 w.toNat).leStore (a + 4) ws

/-- The engine reads words of its memory (R171, R172). R183 has no SOURCE code for this reader; it is shown as a remap copy. DEDUCED: notes/assumptions/56.md. -/
def State.leRead (s : State) (e off n : Nat) : State × Bool := s.eccRange (leBase e + off / 16 * 16) (leBase e + off + n) 5

/-- Several areas are read, each by offset and length; the flag is false where a word cannot be returned. -/
def State.leReads (s : State) (e : Nat) : List (Nat × Nat) → State × Bool
  | [] => (s, true)
  | a :: l =>
    match s.leRead e a.1 a.2 with
    | (s, false) => (s, false)
    | (s, true) => s.leReads e l

/-- Descriptor and setpoint block of loop l. -/
def loopAreas (l : Nat) : List (Nat × Nat) := [(l * 0x800, 0x800), (0x180000 + l * 0x80, 0x80)]

/-! ### Loops, engines, recipes, probes -/

/-- Loop l of engine e. -/
def State.loop (s : State) (e l : Nat) : LoopRt := tget (fun _ => {}) s.loops (e * 512 + l)
def State.setLoop (s : State) (e l : Nat) (x : LoopRt) : State := { s with loops := tset (fun _ => {}) s.loops (e * 512 + l) x }

/-- Flags of loop l of engine e. -/
def State.lfl (s : State) (e l : Nat) : LoopFl := tget (fun _ => {}) s.loopFl (e * 512 + l)
def State.setLfl (s : State) (e l : Nat) (x : LoopFl) : State := { s with loopFl := tset (fun _ => {}) s.loopFl (e * 512 + l) x }

/-- Engine e. -/
def State.eng (s : State) (e : Nat) : Engine := tget (fun _ => {}) s.engines e
def State.setEng (s : State) (e : Nat) (x : Engine) : State := { s with engines := tset (fun _ => {}) s.engines e x }

/-- Recipe k of engine e. -/
def State.rcp (s : State) (e k : Nat) : Recipe := tget (fun _ => {}) s.rcps (e * 64 + k)
def State.setRcp (s : State) (e k : Nat) (x : Recipe) : State := { s with rcps := tset (fun _ => {}) s.rcps (e * 64 + k) x }

/-- Probe q of engine e. -/
def State.probe (s : State) (e q : Nat) : Probe := tget (fun _ => {}) s.probes (e * 16 + q)
def State.setProbe (s : State) (e q : Nat) (x : Probe) : State := { s with probes := tset (fun _ => {}) s.probes (e * 16 + q) x }

/-- Loops that engine e runs: those named in its active bank. -/
def State.loopsOf (s : State) (e : Nat) : List Nat :=
  (tkeys s.loops (e * 512) (e * 512 + 512)).map (fun k => k - e * 512)

/-- Whether engine e evaluates: RUNNING, outside a step gap (R304, R315). -/
def State.leRuns (s : State) (e : Nat) : Bool := (s.eng e).st == .running

/-! ### Arithmetic (R279) -/

/-- A binary32 value as a binary64 pattern. -/
def toD (x : Word) : Nat := (fcvt f32 f64 x.toNat).1

/-- A binary64 pattern rounded to binary32. -/
def toS (x : Nat) : Word := BitVec.ofNat 32 (fcvt f64 f32 x).1

/-- The exact product of two binary32 values, in binary64. -/
def prodD (a b : Word) : Nat := (fmul f64 (toD a) (toD b)).1

/-- A sum of terms in their order, in binary64. -/
def sumD : List Nat → Nat
  | [] => 0
  | t :: ts => ts.foldl (fun acc x => (fadd f64 acc x).1) t

/-- The sign of a binary64 value inverted. -/
def negD (x : Nat) : Nat := x ^^^ 2 ^ 63

/-- A sum of terms rounded once to binary32. -/
def rowS (ts : List Nat) : Word := toS (sumD ts)

/-- The products of a row with a vector. -/
def prods (row v : List Word) : List Nat := (row.zip v).map (fun e => prodD e.1 e.2)

/-- Comparisons and limits of binary32 values. -/
def ltS (a b : Word) : Bool := ltV (unpackF f32 a.toNat) (unpackF f32 b.toNat)
def leS (a b : Word) : Bool := ltS a b || eqV (unpackF f32 a.toNat) (unpackF f32 b.toNat)
def minS (a b : Word) : Word := BitVec.ofNat 32 (fminmax f32 true a.toNat b.toNat).1
def maxS (a b : Word) : Word := BitVec.ofNat 32 (fminmax f32 false a.toNat b.toNat).1

/-- Whether a binary32 value is finite, or infinite. -/
def finite (a : Word) : Bool := fieldNat a 23 8 != 255
def infPos (a : Word) : Bool := a == 0x7F800000#32

/-- Element i of a list of words, 0 beyond its end. -/
def elt (l : List Word) (i : Nat) : Word := l.getD i 0#32

end Sys2Proof.Machine
end

