-- ==== Sys2Proof/Machine/SafeFn.lean ====
section
/-! DEFINITION. The safety functions and the levels that field drivers take (R39, R462, R487 to R502, R511, R512, R514). -/

namespace Sys2Proof.Machine

/-! ### DIO data that safety reads -/

/-- DIO channel c. -/
def State.dio (s : State) (c : Nat) : DioCh := tget (fun _ => {}) s.dios c
def State.setDio (s : State) (c : Nat) (x : DioCh) : State := { s with dios := tset (fun _ => {}) s.dios c x }

/-- DIO group g. -/
def State.dioGroup (s : State) (g : Nat) : DioGroup := tget (fun _ => {}) s.dioGroups g
def State.setDioGroup (s : State) (g : Nat) (x : DioGroup) : State := { s with dioGroups := tset (fun _ => {}) s.dioGroups g x }

/-- A field of DIO_CFG, the mode, the period and the filter length of channel c (R483). -/
def State.dioCfg (s : State) (c lo n : Nat) : Nat := s.fld Page.dio (Reg.dio_DIO_CFG c) lo n
def State.dioMode (s : State) (c : Nat) : Nat := s.dioCfg c 0 2
def State.filtN (s : State) (c : Nat) : Nat := s.dioCfg c 4 4 + 1
def State.tpEn (s : State) (c : Nat) : Bool := s.dioCfg c 19 1 == 1

/-- The handle of an onboard channel: 0 to 3 AIO and 16 to 31 DIO command or input, 40 to 43 AIO measurement, 48 to 63 DIO readback. -/
def State.chHandle (s : State) (k : Nat) : Option Nat := tget (fun _ => none) s.proj.chHandle k

/-! ### Reflex actions in force (R479) -/

/-- A word of rule r. -/
def State.rule (s : State) (r w : Nat) : Word := s.reg Page.rfx (Reg.rfx_RULE r + 4 * w)

/-- The lowest rule in force that names a target bit of its word 4. -/
def State.ruleOn (s : State) (target : Nat) : Option Nat :=
  (List.range 64).find? (fun r => bit s.rfxAct r && bit (s.rule r 4) target)

/-! ### Safety inputs (R490, R491) -/

/-- Safety input k, safety output j. -/
def State.si (s : State) (k : Nat) : SafeIn := tget (fun _ => {}) s.sis k
def State.setSi (s : State) (k : Nat) (x : SafeIn) : State := { s with sis := tset (fun _ => {}) s.sis k x }
def State.so (s : State) (j : Nat) : SafeOut := tget (fun _ => {}) s.sos j
def State.setSo (s : State) (j : Nat) (x : SafeOut) : State := { s with sos := tset (fun _ => {}) s.sos j x }

/-- SAFE_EN, and fields of SI_CFG and SO_CFG. -/
def State.safeEn (s : State) : Bool := s.rbit Page.safe Reg.safe_SAFE_CFG 0
def State.siCfg (s : State) (k lo n : Nat) : Nat := s.fld Page.safe (Reg.safe_SI_CFG k) lo n
def State.soCfg (s : State) (j lo n : Nat) : Nat := s.fld Page.safe (Reg.safe_SO_CFG j) lo n
def State.siOn (s : State) (k : Nat) : Bool := s.safeEn && s.siCfg k 0 1 == 1
def State.soOn (s : State) (j : Nat) : Bool := s.safeEn && s.soCfg j 31 1 == 1

/-- Whether channel A (`b` false) or B of input k is in its run state. -/
def State.siRun (s : State) (k : Nat) (b : Bool) : Bool :=
  let low := (s.dioGroup 0).fsLow || (s.dioGroup 1).fsLow
  let on := (s.dio (if b then k + 8 else k)).filt
  !low && (if b && s.siCfg k 1 1 == 1 then !on else on)

/-- The state that follows from both channels (R491). -/
def siNext (st : SiSt) (a b : Bool) : SiSt :=
  if st = .fault then (if !a && !b then .open_ else .fault)
  else if a && b then .closed
  else if !a && !b then .open_
  else .discrepant

/-- Whether input k demands (R491, R493). -/
def State.siDemand (s : State) (k : Nat) : Bool := s.siOn k && (s.si k).st != .closed

/-- Code of a state of R514. -/
def SiSt.code : SiSt → Nat
  | .closed => 0 | .discrepant => 1 | .open_ => 2 | .fault => 3
def SoSt.code : SoSt → Nat
  | .disabled => 0 | .ready => 1 | .tripped => 2 | .lockout => 3

/-- SI_STAT (R514). -/
def State.siStat (s : State) (k : Nat) : Word :=
  let x := s.si k
  BitVec.ofNat 32 (x.st.code + x.cause * 16 + (if s.siRun k false then 256 else 0) + (if s.siRun k true then 512 else 0))

/-! ### Safety outputs (R494 to R497) -/

/-- The running state of connection i. -/
def State.pst (s : State) (i : Nat) : PstRt := tget (fun _ => {}) s.psts i
def State.setPst (s : State) (i : Nat) (x : PstRt) : State := { s with psts := tset (fun _ => {}) s.psts i x }

/-- Whether a connection is RUNNING or DEGRADED with PERMIT = 1. -/
def PstRt.permits (x : PstRt) : Bool := (x.st == .running || x.st == .degraded) && x.permit

/-- Connections named in SO_PST of output j. -/
def State.soPst (s : State) (j : Nat) : List Nat :=
  (List.range 64).filter (fun i =>
    s.rbit Page.safe (if i < 32 then Reg.safe_SO_PST_LO j else Reg.safe_SO_PST_HI j) (i % 32))

/-- The cause of a demand on output j, the first of R514 that holds: 1 safety input, 2 PST, 3 not in Run. -/
def State.soDemand (s : State) (j : Nat) : Option Nat :=
  let m := s.soCfg j 8 8
  if (List.range 8).any (fun k => m.testBit k && (s.si k).st != .closed) then some 1
  else if (s.soPst j).any (fun i => !(s.pst i).permits) then some 2
  else if s.bell.mode != .run then some 3
  else none

/-- The entry conditions of READY (R495). -/
def State.soEntry (s : State) (j : Nat) : Bool := (s.soDemand j).isNone && !s.safe.swdExp

/-- Diagnostics that lock a safety output out: OFF_OVL, SHORT_LP, CONTENTION, OVERTEMP, GROUP_OFF (R497). -/
def lockDiag (v : Nat) : Bool := v.testBit 1 || v.testBit 2 || v.testBit 4 || v.testBit 5 || v.testBit 6

/-- Whether the fault of a locked-out output has ended (R495, R497). -/
def State.soFaultEnded (s : State) (j : Nat) : Bool :=
  !lockDiag (s.fld Page.dio (Reg.dio_DIO_DIAG (s.soCfg j 0 4)) 0 8) && !s.safe.swdExp

/-- The channel is named by an enabled safety output that is not READY: the safety block holds it off (R39, R495). -/
def State.safeHolds (s : State) (c : Nat) : Bool :=
  (List.range 8).any (fun j => s.soCfg j 31 1 == 1 && s.soCfg j 0 4 == c && (s.so j).st != .ready)

/-! ### Driver levels (R39, R462, R466, R467, R479) -/

/-- Whether the Off action of R66 is in force for an output handle. -/
def State.offAct (s : State) (h : Nat) : Bool :=
  s.bell.mode == .stop &&
    (match tget (fun _ => none) s.proj.safe h with
     | some .off => true
     | some (.subst _) => false
     | _ => s.bell.offSafe)

/-- The level of a DIO command TRUE or FALSE in a mode (R462). -/
def levelOf (mode : Nat) (v : Bool) : Level := if v then .high else if mode = 2 then .low else .off

/-- Whether the owner commands channel c TRUE, none for the off state. -/
def State.dioCmd (s : State) (c : Nat) : Option Bool :=
  match s.chHandle (16 + c) with
  | none => none
  | some h => if s.offAct h then none else some (s.formeValue h != 0#32)

/-- The level of the driver of channel c. -/
def State.dioLevel (s : State) (c : Nat) : Level :=
  let m := s.dioMode c
  if m < 2 || !s.gateOpen || s.safeHolds c || (s.dio c).held then .off
  else match s.ruleOn c with
    | some r =>
      let l := fieldNat (s.rule r 5) 0 2
      if l = 1 then .high else if l = 0 then levelOf m false else .off
    | none =>
      match s.dioCmd c with
      | none => .off
      | some v => levelOf m (v && !(s.dio c).pulse)

/-- SO_STAT (R514). -/
def State.soStat (s : State) (j : Nat) : Word :=
  let x := s.so j
  let drive := x.st == .ready && s.dioLevel (s.soCfg j 0 4) == .high
  BitVec.ofNat 32 (x.st.code + x.lockCause * 256 + x.tripCause * 4096 + (if drive then 65536 else 0))

/-! ### Output states -/

/-- LOCKOUT bits follow into the keepsake (R499). -/
def State.keepLock (s : State) (j : Nat) : State :=
  { s with safe := { s.safe with kept := setField s.safe.kept j 1 (if (s.so j).st = .lockout then 1 else 0) } }

/-- Entry to LOCKOUT: counted, reported, recorded (R497). -/
def State.soLock (s : State) (j cause : Nat) : State :=
  if !s.soOn j || (s.so j).st == .lockout then s
  else
    let s := s.setSo j { s.so j with st := .lockout, lockCause := cause }
    let s := (s.count Page.safe Reg.safe_LOCKOUT_CNT).raise Page.safe 1
    (s.journal Page.safe 0x0101 (Reg.safe_SO_STAT j) (s.soStat j)).keepLock j

/-- Output j after any change it depends on (R495). -/
def State.soJudge (s : State) (j : Nat) : State :=
  let o := s.so j
  if !s.soOn j then (if o.st = .disabled then s else s.setSo j { o with st := .disabled })
  else match o.st with
    | .disabled => if bit s.safe.kept j then s.soLock j 4 else s.setSo j { st := .tripped, tripCause := 4 }
    | .ready =>
      match s.soDemand j with
      | some c => (s.setSo j { o with st := .tripped, tripCause := c }).raise Page.safe 0
      | none => s
    | .tripped => if s.soCfg j 16 1 = 0 ∧ s.soEntry j then s.setSo j { o with st := .ready } else s
    | .lockout => s

/-- Every output. -/
def State.soAll (s : State) : State := (List.range 8).foldl State.soJudge s

/-- Input k enters FAULT: outputs that name it lock out (R491, R492, R497). -/
def State.siFault (s : State) (k cause : Nat) : State :=
  if (s.si k).st = .fault then s
  else
    let s := s.setSi k { st := .fault, cause := cause }
    let s := (List.range 8).foldl (fun s j => if (s.soCfg j 8 8).testBit k then s.soLock j 1 else s) s
    s.soAll

/-- SAFETY_INPUT_CHANGE (R491): input k follows its channels, and the outputs follow it (R496). -/
def State.siUpdate (s : State) (k : Nat) : State :=
  if !s.siOn k then s
  else
    let x := s.si k
    let st := siNext x.st (s.siRun k false) (s.siRun k true)
    if st = x.st then s else (s.setSi k { st := st }).soAll

/-- Every input. -/
def State.siAll (s : State) : State := (List.range 8).foldl State.siUpdate s

/-! ### Watchdog and reset (R498, R500, R501) -/

/-- Expiry of the safety watchdog: every output locks out (R498). -/
def State.swdExpire (s : State) : State :=
  if s.safeEn && s.bell.mode == .run then
    let s := ({ s with safe := { s.safe with swdExp := true } }).raise Page.safe 3
    ((List.range 8).foldl (fun s j => s.soLock j 3) s).soAll
  else s

/-- The watchdog restarts at a forme flip or commit (R498). -/
def State.swdRestart (s : State) : State := ({ s with safe := { s.safe with swdExp := false } }).soAll

/-- The reset window opens or restarts (R501). -/
def State.rstAck (s : State) : State := { s with safe := { s.safe with winOpen := true } }

/-- One output at a reset: READY, refused, or not concerned. -/
def State.soReset (s : State) (j : Nat) : State :=
  let o := s.so j
  if (o.st = .tripped ∧ s.soCfg j 16 1 = 1) ∨ o.st = .lockout then
    if s.soEntry j && (o.st == .tripped || s.soFaultEnded j) then (s.setSo j { o with st := .ready, lockCause := 0 }).keepLock j
    else s.count Page.safe Reg.safe_RST_REFUSED
  else s

/-- A reset (R501): outputs as their entry conditions stand, then connections that have accepted a frame since their trip; the window closes. -/
def State.safeReset (s : State) : State :=
  let s := (List.range 8).foldl State.soReset s
  let s := (List.range 64).foldl (fun s i =>
    let x := s.pst i
    if x.st = .tripped ∧ x.since then s.setPst i { x with st := .running, failA := false, failB := false, both := 0 } else s) s
  let s := ((({ s with safe := { s.safe with winOpen := false } }).count Page.safe Reg.safe_RST_OK).raise Page.safe 2)
  s.soAll

/-- SRST (R500): Type 1 thresholds, three samples of 1 ms; a falling edge after 0.1 s and before 5 s inside the window resets. -/
def State.srstSample (s : State) (mv : Int) : State :=
  let b := s.safe
  let raw := if mv ≥ 15000 then true else if mv ≤ 5000 then false else b.raw
  let run := if raw = b.high then 0 else b.run + 1
  let flip := decide (run = 3)
  let high := if flip then !b.high else b.high
  let ms := if b.high then b.highMs + 1 else 0
  let s := { s with safe := { b with raw := raw, run := if flip then 0 else run, high := high, highMs := if flip && high then 0 else ms,
                                     stuck := b.stuck && high } }
  if flip && !high then
    if b.winOpen && decide (100 ≤ ms ∧ ms < 5000) then s.safeReset else s.count Page.safe Reg.safe_RST_IGNORED
  else s

/-- The forme value of ACK_HANDLE at a flip: a change from 0 opens the reset window (R501). -/
def State.ackFlip (s : State) : State :=
  if s.rbit Page.safe Reg.safe_ACK_HANDLE 31 then
    let v := s.formeValue (s.fld Page.safe Reg.safe_ACK_HANDLE 0 16)
    let was := s.safe.ackLast
    let s := { s with safe := { s.safe with ackLast := v } }
    if was = 0#32 ∧ v ≠ 0#32 then s.rstAck else s
  else s

/-! ### SAFE_EN (R489, R490, R492, R494) -/

/-- The rules about the configuration of enabled input k. -/
def State.siCfgOk (s : State) (k : Nat) : Bool :=
  let ch := fun c => s.dioMode c == 1 && decide (2 ≤ s.filtN c)
  let src := fun t c => s.dioMode t == 3 && s.tpEn t
    && decide (s.dioCfg c 8 10 + 1 ≤ s.dioCfg t 20 8 ∧ s.dioCfg t 20 8 < s.filtN c * s.dioCfg c 8 10)
  s.siCfg k 0 1 == 0 ||
    (ch k && ch (k + 8) && (s.siCfg k 2 1 == 0 || (src (s.siCfg k 4 4) k && src (s.siCfg k 8 4) (k + 8))))

/-- Channels an enabled input uses. -/
def State.siUses (s : State) (k c : Nat) : Bool :=
  s.siCfg k 0 1 == 1 && (c == k || c == k + 8 || (s.siCfg k 2 1 == 1 && (s.siCfg k 4 4 == c || s.siCfg k 8 4 == c)))

/-- The rules about the configuration of enabled output j. -/
def State.soCfgOk (s : State) (j : Nat) : Bool :=
  let c := s.soCfg j 0 4
  s.soCfg j 31 1 == 0 ||
    (s.dioMode c == 3 && s.tpEn c && !((List.range 8).any (fun k => s.siUses k c))
      && !((List.range 64).any (fun r => bit (s.rule r 5) 31 && bit (s.rule r 4) c)) && (s.chHandle (16 + c)).isSome)

/-- The registers of the safety configuration (R489). -/
def State.safeRegs (s : State) : List Word :=
  (List.range 8).map (fun k => s.reg Page.safe (Reg.safe_SI_CFG k)) ++ (List.range 8).map (fun j => s.reg Page.safe (Reg.safe_SO_CFG j))
    ++ (List.range 16).map (fun i => s.reg Page.safe (0x100 + 4 * i))
    ++ [s.reg Page.safe Reg.safe_SWD_TIME, s.reg Page.safe Reg.safe_RST_WIN, s.reg Page.safe Reg.safe_ACK_HANDLE]
    ++ [s.reg Page.pst Reg.pst_PST_CFG, s.reg Page.pst Reg.pst_PST_ETYPE, s.reg Page.pst Reg.pst_PAIR_WIN, s.reg Page.pst Reg.pst_DEG_MAX]

/-- A write of SAFE_EN (R489): refused where a rule about the configuration is broken. -/
def State.safeEnWrite (s : State) (v : Bool) : State :=
  if s.locked Page.safe then (if s.safeEn = v then s else s.err Page.safe)
  else if v then
    if (List.range 8).all s.siCfgOk && (List.range 8).all s.soCfgOk then
      let s := s.setBit Page.safe Reg.safe_SAFE_CFG 0 true
      let s := s.setReg Page.safe Reg.safe_SAFE_CRC (Config.safeCrc s.safeRegs)
      (s.siAll).soAll
    else s.err Page.safe
  else (s.setBit Page.safe Reg.safe_SAFE_CFG 0 false).soAll

/-- SAFE_STAT (R514). -/
def State.safeStat (s : State) : Word :=
  let b := s.safe
  let bits := fun (f : Nat → Bool) => ((List.range 8).filter f).foldl (fun m k => m + 2 ^ k) 0
  BitVec.ofNat 32 ((if s.safeEn then 1 else 0) + (if b.swdExp then 2 else 0) + (if b.winOpen then 4 else 0) + (if b.high then 8 else 0)
    + (if b.stuck then 16 else 0) + bits s.siDemand * 2 ^ 8 + bits (fun j => (s.so j).st == .ready) * 2 ^ 16
    + bits (fun j => (s.so j).st == .lockout) * 2 ^ 24)

/-! ### Commands -/

/-- DISCREPANCY_EXPIRY (R491): the input enters FAULT; its outputs lock out (SAFETY_LOCKOUT). -/
def execDiscrepancyExpiry (k : Fin 8) (s : State) : Res :=
  .next (if s.siOn k.val && (s.si k.val).st == .discrepant then s.siFault k.val 1 else s)

/-- SAFETY_WATCHDOG_EXPIRY (R498). -/
def execSafetyWatchdogExpiry (s : State) : Res := .next s.swdExpire

/-- SRST_SAMPLE (R500, R501). -/
def execSrstSample (mv : Int) (s : State) : Res := .next (s.srstSample mv)

/-- SRST_STUCK (R500): SRST has been high for 60 s. -/
def execSrstStuck (s : State) : Res :=
  .next (if s.safe.high then ({ s with safe := { s.safe with stuck := true } }).raise Page.safe 4 else s)

/-- RST_ACK (R501), P0 and P1 only. -/
def execRstAck (priv : Priv) (s : State) : Res := .next (if priv = .p2 then s.err Page.safe else s.rstAck)

/-- RST_WIN_EXPIRY (R502). -/
def execRstWinExpiry (s : State) : Res := .next { s with safe := { s.safe with winOpen := false } }

/-- SAFE_EN (R489). -/
def execSafeEn (v : Bool) (s : State) : Res := .next (s.safeEnWrite v)

end Sys2Proof.Machine
end

