-- ==== Sys2Proof/Machine/FieldIo.lean ====
section
/-! DEFINITION. Field channels: DIO, AIO and HART (R461 to R476, R482 to R484). -/

namespace Sys2Proof.Machine

/-! ### Status of onboard channels (R475) -/

/-- Order in which DETAIL codes are shown. -/
def onbOrder : List Nat := [7, 6, 2, 3, 4, 1, 5, 0xE, 9, 0xB, 8, 0xD, 0xC, 0xA]

/-- QUAL of a DETAIL code: 0 good, 1 uncertain, 2 bad. -/
def onbQual (d : Nat) : Nat :=
  if d = 1 ∨ d = 8 ∨ d = 0xB then 1 else if d = 0 ∨ d = 0xA ∨ d = 0xC ∨ d = 0xD then 0 else 2

/-- The status word of an onboard channel from the codes that apply; RANGE with code 8 (R470, R475). -/
def onbStatus (codes : List Nat) : Half :=
  stWord ((codes.map onbQual).foldl max 0) false false (codes.contains 8) false false 0
    ((onbOrder.find? (fun d => codes.contains d)).getD 0)

/-- Codes of the live bits of DIO_DIAG. -/
def dioCodes (v : Nat) : List Nat :=
  (if v.testBit 0 then [1] else []) ++ (if v.testBit 1 then [2] else []) ++ (if v.testBit 2 then [3] else [])
    ++ (if v.testBit 3 then [5] else []) ++ (if v.testBit 4 then [4] else []) ++ (if v.testBit 5 || v.testBit 6 then [6] else [])

/-- Codes of the live bits of AIO_DIAG. -/
def aioCodes (v : Nat) : List Nat :=
  (if v.testBit 0 then [0xA] else []) ++ (if v.testBit 1 then [0xB] else []) ++ (if v.testBit 2 then [0xC] else [])
    ++ (if v.testBit 3 then [8] else []) ++ (if v.testBit 4 then [9] else []) ++ (if v.testBit 6 then [6] else [])

/-- Live bits of DIO_DIAG, and the status of channel c. -/
def State.dioLive (s : State) (c : Nat) : Nat := s.fld Page.dio (Reg.dio_DIO_DIAG c) 0 8
def State.dioStatus (s : State) (c : Nat) : Half :=
  onbStatus ((if (s.dioGroup (c / 8)).fsLow then [7] else []) ++ (if s.dioMode c ≥ 2 then dioCodes (s.dioLive c) else []))

/-- The readback handle of an output is written (R465). -/
def State.writeRb (s : State) (c : Nat) : State :=
  match s.chHandle (48 + c) with
  | none => s
  | some h => s.inWrite h (BitVec.ofNat 32 (s.dio c).rb) (s.dioStatus c)

/-- A diagnostic register takes new live bits: latched copies, DIAG, and for a channel with CAUSE_EN the error cause and a record (R466, R476, R482, R484). -/
def State.diag (s : State) (p off : Nat) (live : Nat) (causeEn : Bool) : State :=
  let v := s.reg p off
  let old := fieldNat v 0 8
  let rise := live &&& (255 - old)
  let lat := fieldNat v 8 8
  let s := s.setReg p off (BitVec.ofNat 32 (live % 256 + (lat ||| rise) * 256))
  let s := if rise &&& (255 - lat) ≠ 0 then s.raise p 0 else s
  if causeEn ∧ rise ≠ 0 then (s.cause 7).journalReg p 0x0100 off else s

/-- DIO_DIAG of channel c takes new live bits; a locking fault acts on its safety output (R497); a readback handle follows the status. -/
def State.dioDiag (s : State) (c live : Nat) : State :=
  let was := s.dioLive c
  let st := s.dioStatus c
  let s := s.diag Page.dio (Reg.dio_DIO_DIAG c) live (s.rbit Page.dio Reg.dio_CAUSE_EN c)
  let s := if lockDiag (live &&& (255 - was)) then
      (List.range 8).foldl (fun s j => if s.soCfg j 0 4 = c then s.soLock j 2 else s) s
    else s
  if s.dioMode c ≥ 2 && (s.dio c).rbWritten && s.dioStatus c != st then s.writeRb c else s

/-- Live bits with bits set and cleared. -/
def State.dioSet (s : State) (c bits : Nat) : State := s.dioDiag c (s.dioLive c ||| bits)
def State.dioClr (s : State) (c bits : Nat) : State := s.dioDiag c (s.dioLive c &&& (255 - bits))

/-- Whether channel c is an output that drives: the driver is enabled (R468). -/
def State.dioDrives (s : State) (c : Nat) : Bool := decide (2 ≤ s.dioMode c) && s.gateOpen

/-! ### Inputs (R463, R464) -/

/-- The handle and the channel of an input take the filter output (R464). -/
def State.writeDi (s : State) (c : Nat) : State :=
  let v := (s.dio c).filt
  let st := s.dioStatus c
  let s := match s.chHandle (16 + c) with
    | none => s
    | some h => s.inWrite h (if v then 1#32 else 0#32) st
  s.setChan (16 + c) { value := if v then 0x3F800000#32 else 0#32, status := st, time := s.tb.time.toNs }

/-- One sample of an input channel. -/
def State.dioSample (s : State) (c : Nat) (mv : Int) : State :=
  if s.dioMode c ≠ 1 then s
  else
    let x := s.dio c
    let n := s.filtN c
    let raw := if mv ≥ (if s.dioCfg c 2 1 = 1 then 11000 else 15000) then true else if mv ≤ 5000 then false else x.prev
    let run := if raw = x.filt then 0 else x.run + 1
    let flip := decide (n ≤ run)
    let count := min 16 (x.count + 1)
    let first := !x.written && decide (n ≤ count)
    let s := s.setDio c { x with prev := raw, run := if flip then 0 else run, filt := if flip then !x.filt else x.filt,
                                 count := count, written := x.written || first, rawOff := x.rawOff || !raw }
    let s := if first || (flip && x.written) then s.writeDi c else s
    if flip then s.siUpdate (c % 8) else s

/-! ### Field supply (R461) -/

/-- FS_LOW of a group changes: inputs and readbacks show it, safety inputs follow it (R490). -/
def State.fsChange (s : State) (g : Nat) (low : Bool) : State :=
  let s := s.setDioGroup g { s.dioGroup g with fsLow := low }
  let s := s.setBit Page.dio (if g = 0 then Reg.dio_FS_STAT else Reg.dio_FS_STAT1) 16 low
  let s := if low then s.raise Page.dio 1 else s
  let s := ((List.range 8).map (· + 8 * g)).foldl (fun (s : State) c =>
    let x := s.dio c
    let s :=
      if s.dioMode c = 1 ∧ x.written then
        let s := match s.chHandle (16 + c) with
          | none => s
          | some h => s.inStatus h (fun _ => s.dioStatus c)
        s.setChan (16 + c) { s.chan (16 + c) with status := s.dioStatus c }
      else s
    if s.dioMode c ≥ 2 ∧ x.rbWritten then s.writeRb c else s) s
  s.siAll

/-- A measurement of L+ of a group, in 10 mV. -/
def State.fsMeasure (s : State) (g v : Nat) : State :=
  let x := s.dioGroup g
  let lo := if v < 1800 then x.low + 1 else 0
  let hi := if v > 1850 then x.high + 1 else 0
  let s := s.setDioGroup g { x with low := min lo 100, high := min hi 100 }
  let s := s.setFld Page.dio (if g = 0 then Reg.dio_FS_STAT else Reg.dio_FS_STAT1) 0 16 (min v 0xFFFF)
  if !x.fsLow && decide (100 ≤ lo) then s.fsChange g true
  else if x.fsLow && decide (100 ≤ hi) then s.fsChange g false
  else s

/-! ### Outputs (R465 to R467) -/

/-- A readback sample: level, current, and the diagnostics whose condition has ended or holds (R465, R466). -/
def State.readback (s : State) (c : Nat) (mv ma : Int) (limit openW : Bool) (groupMa : Nat) : State :=
  if s.dioMode c < 2 then s
  else
    let x := s.dio c
    let rb := if mv > 15000 then 1 else if mv < 5000 then 0 else 2
    let s := s.setReg Page.dio (Reg.dio_DIO_CUR c) ((BitVec.ofInt 16 ma).zeroExtend 32)
    let s := s.setFld Page.dio Reg.dio_GROUP_STAT (8 * (c / 8)) 8 (min (groupMa / 20) 255)
    let st := s.dioStatus c
    -- what the driver drives: not HIGH, outside a test pulse (R20)
    let cmdFalse := s.dioLevel c != .high && !x.pulse
    let tpShort := x.tpShort && !(cmdFalse && rb != 1)
    let s := s.setDio c { x with rb := rb, rbWritten := true, tpShort := tpShort }
    let s :=
      if s.dioDrives c then
        let v := s.dioLive c
        let ovl := v.testBit 0 && limit
        let short := tpShort || (cmdFalse && rb == 1)
        s.dioDiag c ((v &&& 0xE2) + (if ovl then 1 else 0) + (if short then 4 else 0) + (if v.testBit 3 && openW then 8 else 0)
          + (if ovl && rb == 2 then 16 else 0))
      else s
    if !x.rbWritten || x.rb != rb || s.dioStatus c != st then s.writeRb c else s

/-- A held channel takes its command again: OFF_OVL and GROUP_OFF end, OVERTEMP where the driver has cooled (R466). -/
def State.dioRetry (s : State) (c : Nat) (cool : Bool) : State :=
  if !(s.dio c).held then s
  else
    let s := s.dioClr c (0x42 + if cool then 0x20 else 0)
    let s := s.setDio c { s.dio c with held := (s.dioLive c).testBit 5 }
    let g := c / 8
    if ((List.range 8).map (· + 8 * g)).any (fun k => (s.dioLive k).testBit 6) then s
    else (s.setDioGroup g { s.dioGroup g with off := false }).setBit Page.dio Reg.dio_GROUP_STAT (16 + g) false

/-- A channel takes its off state with a fault bit (R466). -/
def State.dioHold (s : State) (c bits : Nat) : State :=
  (s.setDio c { s.dio c with held := true }).dioSet c bits

/-- GROUP_OFF of a group (R466). -/
def State.groupOff (s : State) (g : Nat) : State :=
  let l := ((List.range 8).map (· + 8 * g)).filter (fun c => s.dioDrives c)
  if l.isEmpty then s
  else
    let s := (s.setDioGroup g { s.dioGroup g with off := true }).setBit Page.dio Reg.dio_GROUP_STAT (16 + g) true
    (l.foldl (fun s c => s.dioHold c 0x40) s).raise Page.dio 2

/-- A test pulse starts on a TRUE output that drives (R467); the sources of R492 watch their channels anew. -/
def State.pulseStart (s : State) (c : Nat) : State :=
  if s.dioDrives c && s.tpEn c && s.dioLevel c == .high && (s.ruleOn c).isNone then
    let s := s.setDio c { s.dio c with pulse := true }
    (List.range 8).foldl (fun s k =>
      let s := if s.siCfg k 2 1 = 1 ∧ s.siCfg k 4 4 = c then s.setDio k { s.dio k with rawOff := false } else s
      if s.siCfg k 2 1 = 1 ∧ s.siCfg k 8 4 = c then s.setDio (k + 8) { s.dio (k + 8) with rawOff := false } else s) s
  else s

/-- A test pulse ends: SHORT_LP from the readback, cross-shorts from the channels of its source (R466, R467, R492). -/
def State.pulseEnd (s : State) (c : Nat) (mv : Int) : State :=
  if !(s.dio c).pulse then s
  else
    let short := decide (mv > 15000)
    let s := s.setDio c { s.dio c with pulse := false, tpShort := short }
    let s := if short then s.dioSet c 4 else s.dioClr c 4
    (List.range 8).foldl (fun s k =>
      let test := s.siOn k && s.siCfg k 2 1 == 1
      let s := if test && s.siCfg k 4 4 == c && !(s.dio k).rawOff then s.siFault k 2 else s
      if test && s.siCfg k 8 4 == c && !(s.dio (k + 8)).rawOff then s.siFault k 3 else s) s

/-! ### Analogue channels (R469 to R472) -/

/-- AIO channel a. -/
def State.aio (s : State) (a : Nat) : AioCh := tget (fun _ => {}) s.aios a
def State.setAio (s : State) (a : Nat) (x : AioCh) : State := { s with aios := tset (fun _ => {}) s.aios a x }

/-- AIO_CFG fields. -/
def State.aioCfg (s : State) (a lo n : Nat) : Nat := s.fld (Page.aio a) Reg.aio_AIO_CFG lo n
def State.aioMode (s : State) (a : Nat) : Nat := s.aioCfg a 0 3
def State.alarmLo (s : State) (a : Nat) : Nat := (s.reg (Page.aio a) Reg.aio_ALARM_LO).toNat
def State.alarmHi (s : State) (a : Nat) : Nat := (s.reg (Page.aio a) Reg.aio_ALARM_HI).toNat

/-- The alarm level in µA (R471). -/
def State.alarm (s : State) (a : Nat) : Nat := if s.aioCfg a 4 1 = 1 then s.alarmHi a else s.alarmLo a

/-- The current in µA that a binary32 command in mA gives (R469). -/
def State.aioClamp (s : State) (a : Nat) (v : Word) : Nat :=
  if (unpackF f32 v.toNat).isNan then s.alarm a
  else
    let ua := (fToInt f64 64 false (fmul f64 (toD v) (fOfInt f64 1000).1).1).1
    if ua ≤ 0 then 0 else min ua.toNat 24000

/-- The owner's command of an AO channel: the forme, the Off action of R66, or its loop. -/
def State.aioOwner (s : State) (a : Nat) : Nat :=
  match s.chHandle a with
  | some h => if s.offAct h then (if s.aioCfg a 5 1 = 1 then s.alarm a else 0) else s.aioClamp a (s.formeValue h)
  | none => s.aioClamp a (s.stage a).value

/-- AIO_CMD: the command in force in µA, after reflex and safety; 0 without the pass (R471). -/
def State.aioCmd (s : State) (a : Nat) : Nat :=
  if (s.aioMode a ≠ 1 ∧ s.aioMode a ≠ 2) ∨ ¬ s.gateOpen then 0
  else match s.ruleOn (16 + a) with
    | some r =>
      let l := fieldNat (s.rule r 5) 2 2
      if l = 1 then s.alarmLo a else if l = 2 then s.alarmHi a else 0
    | none => s.aioOwner a

/-- Live bits of AIO_DIAG, and the status of the measured current (R470, R473, R475). -/
def State.aioLive (s : State) (a : Nat) : Nat := s.fld (Page.aio a) Reg.aio_AIO_DIAG 0 8
def State.multidrop (s : State) (a : Nat) : Bool := s.aioMode a == 3 && s.aioCfg a 6 1 == 1 && s.aioCfg a 7 1 == 1
def State.aioStatus (s : State) (a : Nat) : Half :=
  onbStatus (aioCodes (s.aioLive a) ++ if s.multidrop a then [9] else [])

/-- AIO_DIAG takes new live bits. -/
def State.aioDiag (s : State) (a live : Nat) : State :=
  s.diag (Page.aio a) Reg.aio_AIO_DIAG live (s.aioCfg a 8 1 == 1)

/-- NE 43 class of a current in µA: 0 measuring range, 1 outside it, 2 failure signal; a boundary belongs to the better class (R470). -/
def ne43 (ua : Nat) : Nat :=
  if 3800 ≤ ua ∧ ua ≤ 20500 then 0 else if 3600 ≤ ua ∧ ua ≤ 21000 then 1 else 2

/-- A current in µA as binary32 mA. -/
def maWord (ua : Nat) : Word := BitVec.ofNat 32 (fdiv f32 (fOfInt f32 ua).1 (fOfInt f32 1000).1).1

/-- Available voltage in source mode, in mV (R472). -/
def vComp (ua : Nat) : Int := 18400 - (ua : Int) * 20 / 1000

/-- One measurement of channel a: current in µA, terminal or channel voltage in mV (R469, R470, R472). No rule gives a condition that sets AIO_DIAG [6] OVERTEMP, and nothing sets it: DESIGN CHOICE, notes/assumptions/47.md. -/
def State.aiSample (s : State) (a ua mv : Nat) : State :=
  let m := s.aioMode a
  if m = 0 then s
  else
    let p := Page.aio a
    let head : Int := if m = 2 then (mv : Int) - 2000 else vComp ua - mv
    let s := s.setReg p Reg.aio_AIO_MEAS (BitVec.ofNat 32 ua)
    let s := s.setReg p Reg.aio_TERM_V (BitVec.ofNat 32 mv)
    let s := s.setReg p Reg.aio_HEADROOM (BitVec.ofInt 32 head)
    let st := s.aioStatus a
    let v := s.aioLive a
    let cls := if m = 3 && !s.multidrop a then ne43 ua else 0
    let far := decide (((ua : Int) - s.aioCmd a).natAbs > 200)
    let s := s.aioDiag a ((v &&& 0xE4) + (if v.testBit 0 && decide (head < 1500) then 1 else 0) + (if v.testBit 1 && far then 2 else 0)
      + (if cls = 1 then 8 else 0) + (if cls = 2 then 16 else 0))
    let s := s.setChan a { value := maWord ua, status := s.aioStatus a, time := s.tb.time.toNs }
    let x := s.aio a
    let moved := match x.last with | none => true | some l => decide (((ua : Int) - l).natAbs > 1)
    match s.chHandle (40 + a) with
    | none => s
    | some h =>
      if moved then (s.setAio a { x with last := some ua }).inWrite h (maWord ua) (s.aioStatus a)
      else if s.aioStatus a ≠ st then s.inStatus h (fun _ => s.aioStatus a)
      else s

/-- LOOP_R and ALARM_UNACH (R472). -/
def State.loopR (s : State) (a : Nat) : State :=
  let p := Page.aio a
  let ua := (s.reg p Reg.aio_AIO_MEAS).toNat
  let mv := (s.reg p Reg.aio_TERM_V).toNat
  if (s.aioMode a ≠ 1 ∧ s.aioMode a ≠ 2) ∨ ua < 3500 then s
  else
    let s := if s.aioMode a = 1 then s.setReg p Reg.aio_LOOP_R (BitVec.ofNat 32 (mv * 1000 / ua)) else s
    let r := (s.reg p Reg.aio_LOOP_R).toNat
    let hi := s.alarmHi a
    let bad :=
      if s.aioMode a = 1 then s.aioCfg a 4 1 == 1 && decide ((r * hi : Int) > vComp hi * 1000)
      else decide ((mv : Int) * 1000 - r * ((hi : Int) - ua) < 2000000)
    s.aioDiag a ((s.aioLive a &&& 0xFB) + if bad then 4 else 0)

/-! ### HART (R473, R474) -/

/-- Poll entries, polling address and first handle of an entry. -/
def State.pollLen (s : State) (a : Nat) : Nat := s.fld (Page.aio a) Reg.aio_HART_POLL_LEN 0 4
def State.pollHandle (s : State) (a i : Nat) : Nat := s.fld (Page.aio a) (Reg.aio_HART_POLL i) 16 16
def AioCh.dev (x : AioCh) (i : Nat) : HartDev := tget (fun _ => {}) x.devs i
def AioCh.setDev (x : AioCh) (i : Nat) (d : HartDev) : AioCh := { x with devs := tset (fun _ => {}) x.devs i d }

/-- HART_STAT: BUSY, devices answering, last response code. -/
def State.hartStat (s : State) (a : Nat) : Word :=
  let x := s.aio a
  let n := ((List.range (s.pollLen a)).filter (fun i => (x.dev i).answered && !(x.dev i).lost)).length
  BitVec.ofNat 32 ((if x.reqWait || x.reqRun then 1 else 0) + n * 256 + s.fld (Page.aio a) Reg.aio_HART_STAT 16 8 * 65536)

/-- HART_LOST follows the devices. -/
def State.hartLost (s : State) (a : Nat) : State :=
  let lost := (List.range (s.pollLen a)).any (fun i => ((s.aio a).dev i).lost)
  s.aioDiag a ((s.aioLive a &&& 0xDF) + if lost then 32 else 0)

/-- The next exchange: the request buffer when it waits, else the next poll entry; sent only with the pass (R473, R474). -/
def State.hartNext (s : State) (a : Nat) : State :=
  let x := s.aio a
  let s' :=
    if x.reqWait then s.setAio a { x with reqWait := false, reqRun := true }
    else s.setAio a { x with reqRun := false, turn := if s.pollLen a = 0 then 0 else (x.turn + 1) % s.pollLen a }
  if s.gateOpen && (x.reqWait || s.pollLen a != 0) then
    s'.send .hartRequest (if x.reqWait then [a, 64] else [a, s'.fld (Page.aio a) (Reg.aio_HART_POLL (s'.aio a).turn) 0 6])
  else s'

/-- Five values written to the handles of a poll entry. -/
def State.hartWrite (s : State) (h : Nat) (vals : List Word) (st : Half) : State :=
  ((List.range 5).foldl (fun s i => s.inWrite (h + i) (elt vals i) st) s)

/-- Bytes as the words of a register window, little-endian. -/
def wordsLE : List Byte → Nat → List Word
  | _, 0 => []
  | l, n + 1 => BitVec.ofNat 32 (natLE (l.take 4)) :: wordsLE (l.drop 4) n

/-- A reply whose byte count would be the reserved all-ones value or lies beyond the response buffer (R10). -/
def HartMsg.tooLong : HartMsg → Bool
  | .reply f => decide (255 ≤ f.length)
  | .poll _ _ _ _ => false

/-- A response (R474); one with the reserved byte count is discarded whole (R10). -/
def State.hartResponse (s : State) (a : Nat) (m : HartMsg) (code : Byte) : State :=
  if s.aioCfg a 6 1 = 0 then s
  else if m.tooLong then s.discard (Page.aio a) Reg.com_ERRCNT
  else
    let s := s.setFld (Page.aio a) Reg.aio_HART_STAT 16 8 code.toNat
    match m with
    | .poll i vals bad unc =>
      if i < s.pollLen a then
        let d := if bad || unc then 0xD else 0
        let s := s.hartWrite (s.pollHandle a i) vals (stWord (if bad then 2 else if unc then 1 else 0) false false false false false 0 d)
        let s := s.setAio a ((s.aio a).setDev i { answered := true })
        (s.hartLost a).hartNext a
      else s
    | .reply f =>
      if (s.aio a).reqRun then
        let b := BitVec.ofNat 8 f.length :: f
        let s := ((wordsLE b 64).zipIdx).foldl (fun s w => s.setReg (Page.aio a) (Reg.aio_HART_RSP w.2) w.1) s
        (s.raise (Page.aio a) 1).hartNext a
      else s

/-- A missed exchange: the third in a row makes the device bad (R474). -/
def State.hartTimeout (s : State) (a : Nat) : State :=
  if s.aioCfg a 6 1 = 0 then s
  else
    let s := s.count (Page.aio a) Reg.aio_HART_ERR
    let x := s.aio a
    if x.reqRun then (s.raise (Page.aio a) 1).hartNext a
    else
      let d := x.dev x.turn
      let d := { d with miss := d.miss + 1, lost := decide (3 ≤ d.miss + 1) }
      let h := s.pollHandle a x.turn
      let s := s.setAio a (x.setDev x.turn d)
      let s := if d.miss = 3 then
          (List.range 5).foldl (fun s i => s.inStatus (h + i) (fun _ => stWord 2 false false false false true 0 0xE)) s
        else s
      (s.hartLost a).hartNext a

/-- HART_CMD[SEND] and [ABORT], P0 and P1 only (R484); a request with the reserved byte count is discarded (R10). -/
def State.hartSend (s : State) (a : Nat) (pr : Priv) : State :=
  if pr = .p2 then s.err (Page.aio a)
  else if s.fld (Page.aio a) (Reg.aio_HART_REQ 0) 0 8 = 0xFF then s.discard (Page.aio a) Reg.com_ERRCNT
  else
    let s := s.setAio a { s.aio a with reqWait := true }
    -- with an empty poll list no exchange is in progress
    if s.pollLen a = 0 ∧ ¬ (s.aio a).reqRun then s.hartNext a else s
def State.hartAbort (s : State) (a : Nat) (pr : Priv) : State :=
  if pr = .p2 then s.err (Page.aio a) else s.setAio a { s.aio a with reqWait := false, reqRun := false }

/-! ### Commands -/

/-- FS_MEASURE (R461): both groups, in 10 mV. -/
def execFsMeasure (l0 l1 : Nat) (s : State) : Res := .next (s.ifAlive (fun s => (s.fsMeasure 0 l0).fsMeasure 1 l1))

/-- DIO_SAMPLE (R464): terminal voltage in mV. -/
def execDioSample (c : Fin 16) (mv : Int) (s : State) : Res := .next (s.ifAlive (fun s => s.dioSample c.val mv))

/-- READBACK_SAMPLE (R465). -/
def execReadbackSample (c : Fin 16) (mv ma : Int) (limit open_ : Bool) (groupMa : Nat) (s : State) : Res :=
  .next (s.ifAlive (fun s => s.readback c.val mv ma limit open_ groupMa))

/-- OVERLOAD (R466): 100 µs in current limit, not during a test pulse (R467). -/
def execOverload (c : Fin 16) (s : State) : Res :=
  .next (if s.dioDrives c.val && !(s.dio c.val).pulse then
    s.dioSet c.val (1 + if (s.dio c.val).rb = 2 then 16 else 0) else s)

/-- OFF_OVL (R466): 5 ms in current limit. -/
def execOffOvl (c : Fin 16) (s : State) : Res := .next (if s.dioDrives c.val then s.dioHold c.val 2 else s)

/-- OPEN_WIRE (R20, R466): the condition has lasted 100 ms, with OW_EN set: high-side FALSE, or push-pull TRUE, as the driver drives. -/
def execOpenWire (c : Fin 16) (s : State) : Res :=
  .next (if s.dioDrives c.val && s.dioCfg c.val 18 1 == 1 && s.dioLevel c.val == (if s.dioMode c.val = 2 then .high else .off) then s.dioSet c.val 8 else s)

/-- GROUP_OFF (R466). -/
def execGroupOff (g : Fin 2) (s : State) : Res := .next (s.groupOff g.val)

/-- OVERTEMP (R466). -/
def execOvertemp (c : Fin 16) (s : State) : Res := .next (if s.dioDrives c.val then s.dioHold c.val 0x20 else s)

/-- OUTPUT_RETRY (R466): RETRY_MS has passed; `cool` says that the junction is below 140 °C. -/
def execOutputRetry (c : Fin 16) (cool : Bool) (s : State) : Res := .next (s.dioRetry c.val cool)

/-- RETRY (R482): the named channels retry now. -/
def State.retryMask (s : State) (mask : BitVec 16) : State :=
  (List.range 16).foldl (fun s c => if bit mask c then s.dioRetry c false else s) s

/-- RETRY (R482). -/
def execRetry (mask : BitVec 16) (s : State) : Res := .next (s.retryMask mask)

/-- TEST_PULSE_START (R467). -/
def execTestPulseStart (c : Fin 16) (s : State) : Res := .next (s.pulseStart c.val)

/-- TEST_PULSE_END (R467, R492). -/
def execTestPulseEnd (c : Fin 16) (mv : Int) (s : State) : Res := .next (s.pulseEnd c.val mv)

/-- AI_SAMPLE (R469). -/
def execAiSample (a : Fin 4) (ua mv : Nat) (s : State) : Res := .next (s.ifAlive (fun s => s.aiSample a.val ua mv))

/-- COMP_WARN (R472): headroom below 1.5 V for 10 ms. -/
def execCompWarn (a : Fin 4) (s : State) : Res :=
  .next (if (s.aioMode a.val = 1 ∨ s.aioMode a.val = 2) ∧ s.gateOpen then s.aioDiag a.val (s.aioLive a.val ||| 1) else s)

/-- COMP_FAULT (R472): 0.2 mA off the command for 50 ms. -/
def execCompFault (a : Fin 4) (s : State) : Res :=
  .next (if (s.aioMode a.val = 1 ∨ s.aioMode a.val = 2) ∧ s.gateOpen then s.aioDiag a.val (s.aioLive a.val ||| 2) else s)

/-- LOOP_R_COMPUTE (R472). -/
def execLoopRCompute (a : Fin 4) (s : State) : Res := .next (s.loopR a.val)

/-- HART_RESPONSE (R474). -/
def execHartResponse (a : Fin 4) (m : HartMsg) (code : BitVec 8) (s : State) : Res := .next (s.ifAlive (fun s => s.hartResponse a.val m code))

/-- HART_TIMEOUT (R474). -/
def execHartTimeout (a : Fin 4) (s : State) : Res := .next (s.ifAlive (fun s => s.hartTimeout a.val))

/-- HART_SEND (R474). -/
def execHartSend (a : Fin 4) (priv : Priv) (s : State) : Res := .next (s.hartSend a.val priv)

/-- HART_ABORT (R484). -/
def execHartAbort (a : Fin 4) (priv : Priv) (s : State) : Res := .next (s.hartAbort a.val priv)

end Sys2Proof.Machine
end

