-- ==== Sys2Proof/Machine/Reflex.lean ====
section
/-! DEFINITION. Threshold comparators and the reflex table (R477 to R481, R485, R486). -/

namespace Sys2Proof.Machine

/-- RFX_EN. -/
def State.rfxEn (s : State) : Bool := s.rbit Page.rfx Reg.rfx_RFX_CFG 0

/-- The input vector (R478, R493). -/
def State.rfxIn (s : State) : BitVec 64 :=
  let bits := fun (lo n : Nat) (f : Nat → Bool) => ((List.range n).filter f).foldl (fun m i => m + 2 ^ (lo + i)) 0
  BitVec.ofNat 64 (bits 0 16 (fun c => s.dioMode c == 1 && (s.dio c).filt)
    + bits 16 32 (fun k => (tget (fun _ => {}) s.cmps k : Cmp).out)
    + bits 48 8 s.siDemand + s.fld Page.rfx Reg.rfx_RFX_ARM 0 8 * 2 ^ 56)

/-- Whether rule r fires: every bit of MASK equals that of POL (R479). -/
def State.ruleFires (s : State) (inp : BitVec 64) (r : Nat) : Bool :=
  let mask : BitVec 64 := s.rule r 1 ++ s.rule r 0
  let pol : BitVec 64 := s.rule r 3 ++ s.rule r 2
  s.rfxEn && bit (s.rule r 5) 31 && (inp &&& mask == pol &&& mask)

/-- The REFLEX bits of DIO_DIAG and AIO_DIAG follow the actions in force (R482, R484). -/
def State.rfxShow (s : State) : State :=
  let s := (List.range 16).foldl (fun s c =>
    let on := (s.ruleOn c).isSome && decide (2 ≤ s.dioMode c)
    if (s.dioLive c).testBit 7 = on then s else if on then s.dioSet c 0x80 else s.dioClr c 0x80) s
  (List.range 4).foldl (fun s a =>
    let on := (s.ruleOn (16 + a)).isSome
    if (s.aioLive a).testBit 7 = on then s
    else s.aioDiag a ((s.aioLive a &&& 0x7F) + if on then 0x80 else 0)) s

/-- One rule judged: a firing begins, goes on or ends; a latching rule holds its action (R479). -/
def State.ruleJudge (s : State) (inp : BitVec 64) (r : Nat) : State :=
  let on := bit s.rfxAct r
  let fire := s.ruleFires inp r
  let latch := bit (s.rule r 5) 8
  let act := fire || (on && latch && s.rfxEn)
  let s := { s with rfxAct := setField s.rfxAct r 1 (if act then 1 else 0) }
  if fire && !on then
    let s := (s.count Page.rfx Reg.rfx_RFX_FIRED).raise Page.rfx 0
    let s := if latch then s.raise Page.rfx 1 else s
    if bit (s.rule r 5) 9 then
      s.journal Page.rfx 0x0100 (if r < 32 then Reg.rfx_RFX_ACT_LO else Reg.rfx_RFX_ACT_HI)
        (s.rfxAct.extractLsb' (if r < 32 then 0 else 32) 32)
    else s
  else s

/-- The table is judged (R480). -/
def State.reflex (s : State) : State :=
  let inp := s.rfxIn
  ((List.range 64).foldl (fun s r => s.ruleJudge inp r) s).rfxShow

/-! ### Comparators (R477) -/

/-- Comparator k. -/
def State.cmp (s : State) (k : Nat) : Cmp := tget (fun _ => {}) s.cmps k
def State.setCmp (s : State) (k : Nat) (x : Cmp) : State := { s with cmps := tset (fun _ => {}) s.cmps k x }

/-- A word of comparator k. -/
def State.cmpReg (s : State) (k w : Nat) : Word := s.reg Page.rfx (Reg.rfx_CMP k + 4 * w)

/-- THRESHOLD_COMPARATOR (R477): comparator k judges a good sample. -/
def State.cmpSample (s : State) (k : Nat) (v : Word) : State :=
  let w := s.cmpReg k 0
  let x := s.cmp k
  let th := s.cmpReg k 1
  let hy := s.cmpReg k 2
  let rev := bit w 12
  -- the clear threshold: THRESH − HYST, or THRESH + HYST with DIR = 1
  let cl := BitVec.ofNat 32 ((if rev then fadd f32 th.toNat hy.toNat else fsub f32 th.toNat hy.toNat).1)
  let nan := (unpackF f32 v.toNat).isNan
  let toSet := !nan && (if rev then leS v th else leS th v)
  let toClr := !nan && (if rev then ltS cl v else ltS v cl)
  let hit := if x.out then toClr else toSet
  let run := if hit then x.run + 1 else 0
  if fieldNat w 16 3 + 1 ≤ run then s.setCmp k { out := !x.out, run := 0 } else s.setCmp k { x with run := run }

/-- Comparators that watch channel c, and are enabled. -/
def State.cmpsOf (s : State) (c : Nat) : List Nat :=
  (List.range 32).filter (fun k => bit (s.cmpReg k 0) 31 && fieldNat (s.cmpReg k 0) 0 10 == c)

/-- Comparators of a stream in loss hold FAIL_STATE (R477). -/
def State.cmpFail (s : State) (stream : Nat) : State :=
  (List.range 32).foldl (fun s k =>
    if bit (s.cmpReg k 0) 31 && fieldNat (s.cmpReg k 0) 0 10 / 8 == stream then s.setCmp k { out := bit (s.cmpReg k 0) 13 } else s) s

/-! ### RFX_EN (R481) -/

/-- Whether enabled rule r keeps R481. -/
def State.ruleOk (s : State) (r : Nat) : Bool :=
  let t := s.rule r 4
  let a := s.rule r 5
  !bit a 31 ||
    ((s.rule r 0 != 0#32 || s.rule r 1 != 0#32)
      && (List.range 16).all (fun c => !bit t c || decide (2 ≤ s.dioMode c))
      && (List.range 4).all (fun c => !bit t (16 + c) || s.aioMode c == 1 || s.aioMode c == 2)
      && fieldNat a 0 2 != 3 && fieldNat a 2 2 != 3)

/-- A write of RFX_EN. -/
def State.rfxEnWrite (s : State) (v : Bool) : State :=
  if s.locked Page.rfx then (if s.rfxEn = v then s else s.err Page.rfx)
  else if v then
    match (List.range 64).find? (fun r => !s.ruleOk r) with
    | some r => (s.setReg Page.rfx Reg.rfx_RFX_BAD (BitVec.ofNat 32 (256 + r))).err Page.rfx
    | none => (s.setReg Page.rfx Reg.rfx_RFX_BAD 0).setBit Page.rfx Reg.rfx_RFX_CFG 0 true
  else ({ s.setBit Page.rfx Reg.rfx_RFX_CFG 0 false with rfxAct := 0#64 }).rfxShow

/-- RFX_CLR (R479): latched actions end; a rule whose condition still holds latches again. -/
def State.rfxClr (s : State) (rules : BitVec 64) : State :=
  let inp := s.rfxIn
  let keep := ((List.range 64).filter (s.ruleFires inp)).foldl (fun m r => m + 2 ^ r) 0
  let again := (List.range 64).any (fun r => bit rules r && bit s.rfxAct r && bit (s.rule r 5) 8 && s.ruleFires inp r)
  let s := { s with rfxAct := s.rfxAct &&& (~~~rules ||| BitVec.ofNat 64 keep) }
  (if again then s.raise Page.rfx 1 else s).rfxShow

/-- A write of RFX_ARM, P0 and P1 only (R485). -/
def State.rfxArm (s : State) (v : Byte) (pr : Priv) : State :=
  if pr = .p2 then s.err Page.rfx else s.setReg Page.rfx Reg.rfx_RFX_ARM (v.zeroExtend 32)

/-! ### Commands -/

/-- REFLEX_FIRE (R480). -/
def execReflexFire (s : State) : Res := .next (s.ifAlive State.reflex)

/-- RFX_CLR (R479). -/
def execRfxClr (rules : BitVec 64) (s : State) : Res := .next (s.rfxClr rules)

/-- RFX_ARM (R485). -/
def execRfxArm (v : BitVec 8) (priv : Priv) (s : State) : Res := .next (s.rfxArm v priv)

/-- RFX_EN (R481). -/
def execRfxEn (v : Bool) (s : State) : Res := .next (s.rfxEnWrite v)

end Sys2Proof.Machine
end

