-- ==== Sys2Proof/Machine/Setpoint.lean ====
section
/-! DEFINITION. Setpoints, the program mailbox, recipes and trace probes (R320 to R350). -/

namespace Sys2Proof.Machine

/-! ### Mode codes (R290) -/

/-- The automatic modes: AUTO, CASCADE_INNER, CASCADE_OUTER. -/
def isAutoMode (m : Nat) : Bool := m == 1 || m == 2 || m == 3

/-- MANUAL, TRACKING, FALLBACK or OFF: the modes after which a preset is due (R322, R323). -/
def isBreakMode (m : Nat) : Bool := m == 0 || m == 4 || m == 6 || m == 7

/-! ### Bindings as read (R291) -/

/-- The channel an input binding names: a measurement-plane channel, or an actuator of a loop of the same engine. -/
def State.bindVal (s : State) (e bnd : Nat) : MChan :=
  let cls := bnd / 4096 % 8
  let idx := bnd % 4096
  if cls = 4 then
    let l := idx / 8
    { value := elt (s.loop e l).u (idx % 8), status := (s.lfl e l).qual, time := (s.lfl e l).outAt }
  else s.chan (cls * 4096 + idx)

/-- Twice the TCLK count from a grid point to the output instant, and the sample instant in units of 0.2 ns (R282). -/
def outInstant (j per phi : Nat) : Nat := j * per + 2 * (phi * per / 512)
def sampleInstant (j per phi lat : Nat) : Int := (outInstant j per phi * 20 : Int) - lat * 8

/-- Whether a value is good for a sample of loop l (R292), and whether it is stale or not finite. -/
def State.classify (s : State) (e l j : Nat) (c : MChan) : Bool × Bool :=
  let si := sampleInstant j (s.lper e l) (s.lphi e l) (s.llat e l)
  let lim : Int := (s.dscF e l 0xC 24 8) * s.lper e l * 20
  let old := decide ((c.time * 5 : Int) < si - lim) || !finite c.value
  let qual := fieldNat c.status 14 2
  let badQ := qual == 2 || bit c.status 8 || (qual == 1 && s.dscF e l 0 18 1 == 0)
  (!badQ && !old, old)

/-! ### The directory and the steps of recipes (R336, R337) -/

/-- Word w of directory entry k. -/
def State.rcpDir (s : State) (e k w : Nat) : Word := s.leWord e (0x190000 + k * 16 + 4 * w)
def State.rcpFirst (s : State) (e k : Nat) : Nat := fieldNat (s.rcpDir e k 0) 0 14
def State.rcpCount (s : State) (e k : Nat) : Nat := fieldNat (s.rcpDir e k 0) 16 14
def State.rcpLoop (s : State) (e k : Nat) : Nat := fieldNat (s.rcpDir e k 1) 0 9
def State.rcpMask (s : State) (e k : Nat) : Nat := fieldNat (s.rcpDir e k 1) 16 6

/-- Word w of step i of recipe k. -/
def State.rcpStep (s : State) (e k i w : Nat) : Word := s.leWord e (0x190800 + (s.rcpFirst e k + i) * 16 + 4 * w)

/-- Whether a CBIND is an input binding that R291 lists. -/
def inputBindOk (b : Nat) : Bool :=
  let cls := b / 4096 % 8
  let idx := b % 4096
  decide (b / 32768 = 1) && ((cls == 0 && (idx ≤ 3 || (0x10 ≤ idx && idx ≤ 0x1F))) || (cls == 1 && idx ≤ 0x3FF)
    || cls == 2 || (cls == 4 && idx % 8 < 6))

/-- Whether a step is valid under R337. -/
def State.stepOk (s : State) (e k i : Nat) : Bool :=
  let t := (s.rcpStep e k i 0).toNat
  let dur := s.rcpStep e k i 1
  let val := s.rcpStep e k i 2
  let w3 := s.rcpStep e k i 3
  let cond := fieldNat w3 16 3
  decide (t ≤ 4) && dur != 0xFFFFFFFF#32 &&
    (if t = 0 then dur == 0#32 && val == 0#32 && w3 == 0#32
     else if t = 1 then finite val && w3 == 0#32
     else if t = 2 then val == 0#32 && w3 == 0#32
     else if t = 3 then dur == 0#32 && finite val && w3 == 0#32
     else decide (fieldNat w3 20 12 = 0) && decide (cond ≤ 2) && (cond == 2 || inputBindOk (fieldNat w3 0 16)))

/-- Whether directory entry k and all its steps are valid (R336, R337). -/
def State.rcpOk (s : State) (e k : Nat) : Bool :=
  let c := s.rcpCount e k
  let l := s.rcpLoop e k
  decide (1 ≤ c) && decide (s.rcpFirst e k + c ≤ 12160) && bit (s.rcpDir e k 1) 31
    && decide (s.rcpMask e k < 2 ^ s.lp e l) && (List.range c).all (s.stepOk e k)

/-- Whether a recipe drives its loop. -/
def Recipe.active (r : Recipe) : Bool := r.st == .running || r.st == .held || r.st == .waiting

/-- The recipe that drives loop l, if any. -/
def State.rcpOf (s : State) (e l : Nat) : Option Nat :=
  (List.range 64).find? (fun k => (s.rcp e k).active && s.rcpLoop e k == l)

/-- Word 0 of a run record, and ITEM 13 (R342). -/
def rcpWord (k : Nat) (r : Recipe) : Word :=
  let st := match r.st with | .idle => 0 | .running => 1 | .held => 2 | .waiting => 3 | .done => 4 | .aborted => 5
  BitVec.ofNat 32 (st + r.cause * 16 + k * 256 + r.step * 65536)

/-- A recipe with its run record rewritten (R342). -/
def State.putRcp (s : State) (e k : Nat) (r : Recipe) : State :=
  let s := s.setRcp e k r
  s.leStore (leBase e + 0x190400 + k * 16) [rcpWord k r, BitVec.ofNat 32 r.t0, BitVec.ofNat 32 r.elapsed, 0]

/-- SQ_STAT as the recipes stand. -/
def State.sqStat (s : State) (e : Nat) : Word :=
  let n (p : RcpSt) := ((List.range 64).filter (fun k => (s.rcp e k).st = p)).length
  BitVec.ofNat 32 (n .running + n .held * 256 + n .waiting * 65536)

/-! ### Setpoints in force (R320 to R322) -/

/-- Value of a RAMP at f = num/den, limited to [0, 1]: binary64, rounded once (R338). -/
def rampVal (v0 v : Word) (num : Int) (den : Nat) : Word :=
  let f := if num ≤ 0 then 0 else if (den : Int) ≤ num then (fOfInt f64 1).1
    else (fdiv f64 (fOfInt f64 num).1 (fOfInt f64 den).1).1
  let d := (fsub f64 (toD v) (toD v0)).1
  toS (fadd f64 (toD v0) (fmul f64 d f).1).1

/-- Targets of a recipe's loop replaced on its mask. -/
def onMask (mask : Nat) (rt : List Word) (f : Nat → Word → Word) : List Word :=
  (rt.zipIdx).map (fun e => if mask.testBit e.2 then f e.2 e.1 else e.1)

/-- Targets of loop l at a sample instant as a RAMP of its recipe moves them (R338). -/
def State.rampTargets (s : State) (e l j : Nat) (rt : List Word) : List Word :=
  match s.rcpOf e l with
  | none => rt
  | some k =>
    let r := s.rcp e k
    let dur := (s.rcpStep e k r.step 1).toNat
    if r.st = .running ∧ (s.rcpStep e k r.step 0).toNat = 1 ∧ r.e0 < dur then
      let si := sampleInstant j (s.lper e l) (s.lphi e l) (s.llat e l)
      -- time since the last tick, never below 0 nor beyond one tick: a time step neither skips nor repeats recipe time
      let part := max 0 (min (si - (r.tickAt : Int) * 20) (12500 * 20))
      let num : Int := ((r.elapsed : Int) - r.e0) * 12500 * 20 + part
      onMask (s.rcpMask e k) rt (fun i _ => rampVal (elt r.v0 i) (s.rcpStep e k r.step 2) num ((dur - r.e0) * 12500 * 20))
    else rt

/-- CAS_MAP nibble of setpoint i: an outer actuator, or 15. -/
def State.casMap (s : State) (e l i : Nat) : Nat := fieldNat (s.spb e l 4) (4 * i) 4

/-- SPCFG fields: INNER and OUTER. -/
def State.isInner (s : State) (e l : Nat) : Bool := bit (s.spb e l 0) 2
def State.outerOf (s : State) (e l : Nat) : Nat := fieldNat (s.spb e l 0) 16 9

/-- The cascaded targets of an inner loop in CASCADE_INNER (R329). -/
def State.cascadeTargets (s : State) (e l : Nat) (rt : List Word) : List Word :=
  let o := s.outerOf e l
  let x := s.loop e o
  if x.mode = 3 ∧ !x.shadow ∧ fieldNat (s.lfl e o).qual 14 2 = 0 then
    (rt.zipIdx).map (fun t => let a := s.casMap e l t.2; if a < 6 then elt x.u a else t.1)
  else rt

/-- One step of rᵢ toward its target by at most SS_RATE × P × 4 ns (R322). -/
def slew (rate : Word) (per : Nat) (r t : Word) : Word × Bool :=
  let dt := (fdiv f64 (fOfInt f64 (per * 4 : Nat)).1 (fOfInt f64 1000000000).1).1
  let step := (fmul f64 (toD rate) dt).1
  let d := (fsub f64 (toD t) (toD r)).1
  let ad := d % 2 ^ 63
  if !ltV (unpackF f64 step) (unpackF f64 ad) then (t, true)
  else (toS (if d / 2 ^ 63 = 1 then (fsub f64 (toD r) step).1 else (fadd f64 (toD r) step).1), false)

/-- rᵢ in an automatic mode: the new value and whether a soft start still runs (R322). -/
def State.followSp (s : State) (e l i : Nat) (begin : Bool) (soft good : Bool) (r t y : Word) : Word × Bool :=
  let rate := s.spb e l (0x20 + 4 * i)
  if infPos rate then (t, false)
  else if begin then (if good then (y, y != t) else (t, false))
  else if soft || bit (s.spb e l 0) 0 then
    let (v, fin) := slew rate (s.lper e l) r t
    (v, soft && !fin)
  else (t, false)

/-- Targets and setpoints of loop l for sample j, before its law (R320 to R324). -/
def State.setpoints (s : State) (e l j : Nat) (x : LoopRt) (y : List Word) (good : List Bool) : LoopRt :=
  let rt := if x.mode = 1 ∨ x.mode = 3 then s.rampTargets e l j x.rt else x.rt
  let rt := if x.mode = 2 then s.cascadeTargets e l rt else rt
  let x := { x with rt := rt }
  if isAutoMode x.mode then
    let begin := x.softDue && !x.shadow
    let z := (List.range (s.lp e l)).map (fun i =>
      s.followSp e l i begin (x.soft.getD i false) (good.getD i false) (elt x.r i) (elt rt i) (elt y i))
    { x with r := z.map Prod.fst, soft := z.map Prod.snd, softDue := false }
  else if (x.mode = 0 ∨ x.mode = 4) ∧ bit (s.spb e l 0) 1 then
    { x with r := (List.range (s.lp e l)).map (fun i => if good.getD i false then elt y i else elt x.r i) }
  else x

/-! ### Mode requests (R326, R327) -/

/-- Whether a loop is the outer of some inner loop in its engine (R328). -/
def State.isOuter (s : State) (e l : Nat) : Bool := (s.loopsOf e).any (fun i => s.isInner e i && s.outerOf e i == l)

/-- Whether a mode request is accepted. -/
def State.reqOk (s : State) (e l : Nat) (x : LoopRt) (m : Nat) : Bool :=
  !x.shadow && (m == 0 || m == 1 || m == 4 || (m == 2 && s.isInner e l) || (m == 3 && s.isOuter e l))

/-- A loop enters a mode through a request, a fallback or STOP_ACT: presets, soft starts and stored manual values (R322, R323, R334). -/
def LoopRt.enterMode (x : LoopRt) (m : Nat) : LoopRt :=
  let x := if isAutoMode m && isBreakMode x.mode then { x with pre := true, softDue := m == 1 || m == 2 } else x
  let x := if m = 0 then { x with mvSt := [] } else x
  { x with mode := m }

/-- A mode request takes effect (R326): flags latched in FALLBACK clear, MANUAL takes the stored values or the last outputs. -/
def State.takeReq (s : State) (e l m : Nat) : State :=
  let x := s.loop e l
  if !s.reqOk e l x m then s.count (Page.sq e) Reg.sq_MBX_IGNORED
  else if x.mode = m then s
  else
    let f := s.lfl e l
    let s := if x.mode = 6 then s.setLfl e l { f with nonfinite := false, badmeas := false, satf := false, fbCause := 0 } else s
    let mv := (List.range (s.lm e l)).map (fun a => match x.mvSt.find? (fun p => p.1 = a) with | some p => p.2 | none => elt x.u a)
    let x := if m = 0 then { x with mv := mv } else x
    s.setLoop e l (x.enterMode m)

/-- All requests delivered to a loop take effect, in order. -/
def State.takeReqs (s : State) (e l : Nat) : State :=
  let rs := (s.loop e l).reqs
  let s := s.setLoop e l { s.loop e l with reqs := [] }
  rs.foldl (fun s m => s.takeReq e l m) s

/-- The mode that the requests delivered set (R327). -/
def State.modeJudged (s : State) (e l : Nat) : Nat :=
  (s.loop e l).reqs.foldl (fun m r => if s.reqOk e l (s.loop e l) r then r else m) (s.loop e l).mode

/-! ### Recipes (R338 to R343) -/

/-- Whether a recipe of loop l may run in mode m (R339). -/
def State.rcpModeIn (s : State) (e l m : Nat) : Bool := (m == 1 || m == 3) && !(s.loop e l).shadow && (s.lfl e l).stopAct == 0

/-- The same in the mode that the requests delivered set, by which commands are judged (R327), and in the mode in force. -/
def State.rcpMode (s : State) (e l : Nat) : Bool := s.rcpModeIn e l (s.modeJudged e l)
def State.rcpNow (s : State) (e l : Nat) : Bool := s.rcpModeIn e l (s.loop e l).mode

/-- The recipe that drives a loop becomes HELD with CAUSE 0x4. -/
def State.rcpStop (s : State) (e l : Nat) : State :=
  match s.rcpOf e l with
  | none => s
  | some k =>
    let r := s.rcp e k
    if r.st = .held then s else s.putRcp e k { r with st := .held, cause := 4, wasWait := r.st == .waiting }

/-- A recipe that runs while its loop is not in a mode of R339 is held. -/
def State.rcpLeft (s : State) (e l : Nat) : State := if s.rcpNow e l then s else s.rcpStop e l

/-- Every recipe is IDLE (R340). -/
def State.rcpIdle (s : State) : State :=
  (List.range 2).foldl (fun s e => (List.range 64).foldl (fun s k => if s.rcp e k = {} then s else s.putRcp e k {}) s) s

/-- Directory entry and steps of recipe k are read (R171, R172). -/
def State.rcpRead (s : State) (e k : Nat) : State × Bool :=
  match s.leRead e (0x190000 + k * 16) 16 with
  | (s, false) => (s, false)
  | (s, true) => s.leRead e (0x190800 + s.rcpFirst e k * 16) (min (s.rcpCount e k) 12160 * 16)

/-- A recipe ends as ABORTED. -/
def State.rcpAbort (s : State) (e k cause : Nat) : State :=
  (s.putRcp e k { s.rcp e k with st := .aborted, cause := cause }).raise (Page.sq e) 2

/-- A WAIT condition as it stands at a tick (R338). The bad rule is that of the loop's samples. -/
def State.waitMet (s : State) (e k i tick : Nat) : Bool :=
  let w3 := s.rcpStep e k i 3
  let l := s.rcpLoop e k
  let c := s.bindVal e (fieldNat w3 0 16)
  let lim := s.dscF e l 0xC 24 8 * s.lper e l * 4
  let qual := fieldNat c.status 14 2
  let ok := !(qual == 2 || bit c.status 8 || (qual == 1 && s.dscF e l 0 18 1 == 0)) && finite c.value
    && decide (tick * 50000 ≤ c.time + lim)
  let v := s.rcpStep e k i 2
  match fieldNat w3 16 3 with
  | 0 => ok && leS v c.value
  | 1 => ok && leS c.value v
  | _ => false

/-- Step i of recipe k begins at a tick; steps that take no time end at once and the next begins (R338). -/
def State.enterStep (s : State) (e k tick : Nat) : Nat → Nat → State
  | 0, _ => s
  | n + 1, i =>
    let l := s.rcpLoop e k
    let r := s.rcp e k
    let ty := (s.rcpStep e k i 0).toNat
    let dur := (s.rcpStep e k i 1).toNat
    let v := s.rcpStep e k i 2
    let x := s.loop e l
    let fresh : Recipe := { r with st := .running, cause := 0, step := i, t0 := tick % 2 ^ 32, elapsed := 0, e0 := 0, v0 := x.rt, tickAt := tick * 12500, wasWait := false }
    let jump := s.setLoop e l { x with rt := onMask (s.rcpMask e k) x.rt (fun _ _ => v) }
    -- past the last step, that step stays the current one
    if s.rcpCount e k ≤ i then (s.putRcp e k { r with st := .done, cause := 0 }).raise (Page.sq e) 1
    else if ty = 0 then (s.putRcp e k { fresh with st := .done }).raise (Page.sq e) 1
    else if ty = 1 ∧ dur ≠ 0 ∨ ty = 2 ∧ dur ≠ 0 then s.putRcp e k fresh
    else if ty = 1 ∨ ty = 3 then (jump.putRcp e k fresh).enterStep e k tick n (i + 1)
    else if ty = 2 ∨ s.waitMet e k i tick then (s.putRcp e k fresh).enterStep e k tick n (i + 1)
    else s.putRcp e k { fresh with st := .waiting }

/-- A step of a recipe begins, with enough fuel for all its steps. -/
def State.beginStep (s : State) (e k tick i : Nat) : State := s.enterStep e k tick (s.rcpCount e k + 2) i

/-- The step clock of a recipe that runs or waits advances by the tick that has passed (R338). -/
def State.clockRcp (s : State) (e tick k : Nat) : State :=
  let r := s.rcp e k
  if r.st = .running ∨ r.st = .waiting then s.putRcp e k { r with elapsed := r.elapsed + 1, tickAt := tick * 12500 } else s

/-- One recipe at one tick (R338): a RAMP or DWELL ends, a WAIT is judged, its timeout after its condition (R9). -/
def State.judgeRcp (s : State) (e tick k : Nat) : State :=
  let r := s.rcp e k
  let dur := (s.rcpStep e k r.step 1).toNat
  match r.st with
  | .running =>
    if r.elapsed ≥ dur then
      let l := s.rcpLoop e k
      let x := s.loop e l
      let s := if (s.rcpStep e k r.step 0).toNat = 1 then
          s.setLoop e l { x with rt := onMask (s.rcpMask e k) x.rt (fun i _ => rampVal (elt r.v0 i) (s.rcpStep e k r.step 2) 1 1) }
        else s
      s.beginStep e k tick (r.step + 1)
    else s
  | .waiting =>
    if s.waitMet e k r.step tick then s.beginStep e k tick (r.step + 1)
    else if dur ≠ 0 ∧ r.elapsed ≥ dur then
      let s := s.raise (Page.sq e) 3
      if bit (s.rcpStep e k r.step 3) 19 then s.beginStep e k tick (r.step + 1)
      else
        let s := s.rcpAbort e k 3
        let s := s.count (Page.sq e) Reg.sq_WAIT_TMO_CNT
        s.journalReg (Page.sq e) 0x0103 Reg.sq_WAIT_TMO_CNT
    else s
  | _ => s

/-- A recipe command is refused. -/
def State.rcpRefuse (s : State) (e : Nat) : State := s.count (Page.sq e) Reg.sq_RCP_REFUSED

/-- Whether START of recipe k from the slot of loop l is accepted (R341). -/
def State.startOk (s : State) (e l k : Nat) : Bool :=
  let r := s.rcp e k
  (r.st == .idle || r.st == .done || r.st == .aborted) && s.rcpLoop e k == l && s.rcpOk e k && s.rcpMode e l
    && (s.rcpOf e l).isNone && s.rbit (Page.sq e) Reg.sq_SQ_CFG 0 && (tget (fun _ => ({} : LoopRt)) s.loops (e * 512 + l) != {})

/-- A recipe drives its loop from step i. -/
def State.rcpRun (s : State) (e l k tick i : Nat) : State :=
  (s.setLfl e l { s.lfl e l with lastRcp := some k }).beginStep e k tick i

/-- Recipe commands of R341, each judged at a tick: START, and RESUME_AT as START, ask that the slot they are put to is that of the recipe's loop; the others act on recipe k wherever they are put. -/
def State.rcpStart (s : State) (e l k tick : Nat) : State :=
  if s.startOk e l k then s.rcpRun e l k tick 0 else s.rcpRefuse e
def State.rcpHold (s : State) (e k : Nat) : State :=
  let r := s.rcp e k
  if r.st = .running ∨ r.st = .waiting then s.putRcp e k { r with st := .held, cause := 1, wasWait := r.st == .waiting }
  else s.rcpRefuse e
def State.rcpResume (s : State) (e k tick : Nat) : State :=
  let r := s.rcp e k
  let l := s.rcpLoop e k
  if r.st = .held ∧ s.rcpMode e l then
    s.putRcp e k { r with st := if r.wasWait then .waiting else .running, cause := 0, v0 := (s.loop e l).rt, e0 := r.elapsed, tickAt := tick * 12500 }
  else s.rcpRefuse e
def State.rcpAbortCmd (s : State) (e k : Nat) : State :=
  if (s.rcp e k).active then s.rcpAbort e k 1 else s.rcpRefuse e
def State.rcpContinue (s : State) (e k tick : Nat) : State :=
  let r := s.rcp e k
  if r.st = .waiting ∧ fieldNat (s.rcpStep e k r.step 3) 16 3 = 2 then s.beginStep e k tick (r.step + 1)
  else s.rcpRefuse e
def State.rcpResumeAt (s : State) (e l k tick i : Nat) : State :=
  if decide (s.rcpCount e k ≤ i) then s.rcpRefuse e
  else if (s.rcp e k).st = .held then
    -- the table asks nothing of the loop, and R339 holds the recipe again where it may not run
    let o := s.rcpLoop e k
    if s.rcpMode e o then s.rcpRun e o k tick i else (s.rcpRun e o k tick i).rcpStop e o
  else if s.startOk e l k then s.rcpRun e l k tick i
  else s.rcpRefuse e

/-- A recipe command put to ITEM 13 (R341). -/
def State.rcpCommand (s : State) (e l tick : Nat) (v : Word) : State :=
  let k := fieldNat v 0 6
  let (s, ok) := s.rcpRead e k
  if !ok then s
  else if fieldNat v 6 2 ≠ 0 ∨ fieldNat v 11 5 ≠ 0 then s.rcpRefuse e
  else match fieldNat v 8 3 with
    | 1 => s.rcpStart e l k tick
    | 2 => s.rcpHold e k
    | 3 => s.rcpResume e k tick
    | 4 => s.rcpAbortCmd e k
    | 5 => s.rcpContinue e k tick
    | 6 => s.rcpResumeAt e l k tick (fieldNat v 16 16)
    | _ => s.rcpRefuse e

/-! ### The mailbox (R109, R110, R333, R334) -/

/-- A LEPUT value that a later one to its slot replaces: it only counts where the loop or item is not configured (R110). -/
def State.mbGone (s : State) (slot : Nat) : State :=
  let e := slot / 2 ^ 13 % 2
  if slot % 16 = 14 ∨ tget (fun _ => ({} : LoopRt)) s.loops (e * 512 + slot / 16 % 512) = {} then s.count (Page.le e) Reg.le_MBX_DISCARD else s

/-- Whether a trigger that takes effect at the next output instant reaches a probe: it is ARMED, or a fill may complete there first (R345). -/
def Probe.hears (p : Probe) : Bool := p.st == .armed || p.st == .filling

/-- One LEPUT value delivered to its engine. -/
def State.mbPut (s : State) (slot : Nat) (v : Word) : State :=
  let e := slot / 2 ^ 13 % 2
  let l := slot / 16 % 512
  let item := slot % 16
  let x := s.loop e l
  let ign := s.count (Page.sq e) Reg.sq_MBX_IGNORED
  if item = 14 ∨ tget (fun _ => ({} : LoopRt)) s.loops (e * 512 + l) = {} then s.count (Page.le e) Reg.le_MBX_DISCARD
  else if item < 6 then
    let drv : Bool := match s.rcpOf e l with | some k => (s.rcpMask e k).testBit item | none => false
    let cas : Bool := x.mode == 2 && decide (s.casMap e l item < 6)
    if s.lp e l ≤ item ∨ !finite v ∨ drv ∨ cas then ign
    else s.setLoop e l { x with rt := x.rt.set item v }
  else if item < 12 then
    let a := item - 6
    if s.lm e l ≤ a ∨ !finite v then ign
    else if x.mode = 0 then s.setLoop e l { x with mv := x.mv.set a v }
    else s.setLoop e l { x with mvSt := (a, v) :: x.mvSt.filter (fun p => p.1 ≠ a) }
  else if item = 12 then
    if v.toNat ≥ 8 then ign else s.setLoop e l { x with reqs := x.reqs ++ [v.toNat] }
  else if item = 13 then { s with rcpCmds := s.rcpCmds ++ [(e, l, v)] }
  else
    (List.range 16).foldl (fun s q =>
      let p := s.probe e q
      if bit v q && decide (s.fld (Page.sq e) (Reg.sq_PR_CFG q) 20 3 = 5) && p.hears then s.setProbe e q { p with pend := true } else s) s

/-- Loop status word 0 (R313). -/
def statusWord (x : LoopRt) (f : LoopFl) : Word :=
  BitVec.ofNat 32 ((if x.shadow then 5 else x.mode) + f.fbCause * 256 + (if f.nonfinite then 2 ^ 16 else 0) + (if f.badmeas then 2 ^ 17 else 0)
    + (if f.satf then 2 ^ 18 else 0) + (if f.lost then 2 ^ 19 else 0) + (if f.stale then 2 ^ 20 else 0) + min f.badRun 255 * 2 ^ 24)

/-- What LEGET of a slot returns: the value as captured at the bell (R110, R333). -/
def State.mbGet (s : State) (slot : Nat) : Word :=
  let e := slot / 2 ^ 13 % 2
  let l := slot / 16 % 512
  let item := slot % 16
  let x := tget (fun _ => ({} : LoopRt)) s.bellLoops (e * 512 + l)
  let f := tget (fun _ => ({} : LoopFl)) s.bellFl (e * 512 + l)
  if x = {} then 0
  else if item < 6 then elt x.r item
  else if item < 12 then elt x.u (item - 6)
  else if item = 12 then statusWord x f
  else if item = 13 then
    match f.lastRcp with
    | none => 0
    | some k => rcpWord k (tget (fun _ => ({} : Recipe)) s.bellRcps (e * 64 + k))
  else 0

/-! ### Trace probes (R344 to R347) -/

/-- A probe's field of PR_CFG. -/
def State.prCfg (s : State) (e q lo n : Nat) : Nat := s.fld (Page.sq e) (Reg.sq_PR_CFG q) lo n

/-- Elements of a node of loop l: its p, n or m (R344). -/
def State.nodeLen (s : State) (e l node : Nat) : Nat :=
  if node = 2 ∨ node = 3 then s.ln e l else if node = 4 ∨ node = 5 ∨ node = 6 then s.lm e l else s.lp e l

/-- The value of a node (R344), none for a NODE or ELEM outside the loop. -/
def State.nodeVal (s : State) (e l : Nat) (node elem : Nat) (y : List Word) (ev : LoopEval) : Option Word :=
  let x := s.loop e l
  let v := if node = 0 then y else if node = 1 then ev.nu else if node = 2 then ev.xh else if node = 3 then x.xp
    else if node = 4 then ev.v else if node = 5 then x.u else if node = 6 then x.w else if node = 7 then x.r
    else if node = 8 then x.rt else []
  v[elem]?

/-- One record of a probe into trace SRAM, offered to the recorder when it differs from the last offer (R344, R347). -/
def State.probeRecord (s : State) (e q sample : Nat) (v : Word) (t : Time) : State :=
  let p := s.probe e q
  let s := s.leStore (leBase e + 0x1C0000 + q * 0x4000 + p.idx * 8) [BitVec.ofNat 32 sample, v]
  let offer := bit (s.reg (Page.sq e) (Reg.sq_PR_CFG q)) 27 && p.offered != some v
  let s := s.setProbe e q { p with idx := (p.idx + 1) % 2048, wrapped := p.wrapped || p.idx == 2047,
                                   offered := if offer then some v else p.offered }
  if offer then (s.count (Page.sq e) Reg.sq_REC_OFFERED).recSignal (0x20000 + e * 16 + q) v t else s

/-- A probe triggers at a record just written (R345, R346): CAPTURING, or DONE when that is the last record. -/
def State.probeTrig (s : State) (e q sample : Nat) : State :=
  let p := s.probe e q
  let at_ := (p.idx + 2047) % 2048
  let pre := s.fld (Page.sq e) (Reg.sq_PR_PRE q) 0 11
  let dn := decide (2048 - pre ≤ 1)
  let s := s.setProbe e q { p with st := if dn then .done else .capturing, count := 1, pend := false,
                                   skip := s.fld (Page.sq e) (Reg.sq_PR_DECIM q) 0 12, trigSample := sample, trigIdx := at_ }
  let s := if dn then s.raise (Page.sq e) 0 else s
  let s := if bit (s.reg (Page.sq e) (Reg.sq_PR_CFG q)) 28 then s.trigger [0x44] else s
  -- probes that this one triggers, judged at the next output instant of their loop
  (List.range 16).foldl (fun s r =>
    let o := s.probe e r
    if s.prCfg e r 20 3 = 6 ∧ s.prCfg e r 23 4 = q ∧ o.hears then s.setProbe e r { o with pend := true } else s) s

/-- A trigger that found its probe still FILLING at its output instant is ignored (R345). -/
def State.probeDeaf (s : State) (e q : Nat) : State :=
  let p := s.probe e q
  if p.st = .filling then s.setProbe e q { p with pend := false } else s

/-- What one probe does at an output instant of its loop (R344 to R346). `ev` is none for a lost sample; `event` tells a loop event. -/
def State.probeAct (s : State) (e l sample : Nat) (y : List Word) (ev : Option LoopEval) (event : Bool) (t : Time) (q : Nat) : State :=
  let p := s.probe e q
  if s.prCfg e q 0 9 ≠ l ∨ p.st = .idle ∨ p.st = .done ∨ !s.rbit (Page.sq e) Reg.sq_SQ_CFG 1 then s
  else
    let src := s.prCfg e q 20 3
    let val := match ev with | some v => s.nodeVal e l (s.prCfg e q 12 4) (s.prCfg e q 16 4) y v | none => none
    match val with
    | none => if event ∧ src = 4 ∧ p.st = .armed then s.setProbe e q { p with pend := true } else s
    | some v =>
      let th := s.reg (Page.sq e) (Reg.sq_PR_THRESH q)
      let rise := match p.prev with | some u => ltS u th && leS th v | none => false
      let fall := match p.prev with | some u => ltS th u && leS v th | none => false
      let cross := (src == 1 && rise) || (src == 2 && fall) || (src == 3 && (rise || fall))
      let pre := s.fld (Page.sq e) (Reg.sq_PR_PRE q) 0 11
      let d := s.fld (Page.sq e) (Reg.sq_PR_DECIM q) 0 12
      let trig := p.pend || cross
      let arm := p.st == .armed && trig
      let due := p.skip == 0 || arm
      let s := s.setProbe e q { p with prev := some v, skip := if due then d else p.skip - 1, count := if due then p.count + 1 else p.count }
      let s := if due then s.probeRecord e q sample v t else s
      let p := s.probe e q
      let filled := due && p.st == .filling && decide (pre ≤ p.count)
      let s := if filled then s.setProbe e q { p with st := .armed } else s
      if arm || (filled && trig) then s.probeTrig e q sample
      else if due && p.st == .capturing && decide (2048 - pre ≤ p.count) then (s.setProbe e q { p with st := .done }).raise (Page.sq e) 0
      else if event ∧ src = 4 ∧ (s.probe e q).st = .armed then s.setProbe e q { s.probe e q with pend := true }
      else s

/-- One probe at one output instant. -/
def State.probeStep (s : State) (e l sample : Nat) (y : List Word) (ev : Option LoopEval) (event : Bool) (t : Time) (q : Nat) : State :=
  let s' := s.probeAct e l sample y ev event t q
  if s.prCfg e q 0 9 = l then s'.probeDeaf e q else s'

/-- An order of probes in which one that another triggers comes after it (R346), with fuel: `src` is the source of a probe that has one. -/
def probeOrder (src : Nat → Option Nat) : Nat → List Nat → List Nat
  | 0, l => l
  | n + 1, l =>
    let ready := l.filter (fun q => match src q with | some p => !l.contains p | none => true)
    if ready.isEmpty then l else ready ++ probeOrder src n (l.filter (fun q => !ready.contains q))

/-- The source of a probe that another triggers. -/
def State.probeSrc (s : State) (e q : Nat) : Option Nat := if s.prCfg e q 20 3 = 6 then some (s.prCfg e q 23 4) else none

/-- All probes of a loop at one output instant: a trigger by another probe at the same instant counts (R346). No record is taken once a save has begun (R573). -/
def State.probesAt (s : State) (e l sample : Nat) (y : List Word) (ev : Option LoopEval) (event : Bool) (t : Time) : State :=
  if s.saving then s else (probeOrder (s.probeSrc e) 16 (List.range 16)).foldl (fun s q => s.probeStep e l sample y ev event t q) s

/-! ### Commands -/

/-- One recipe at a tick, whose words are read first. -/
def State.tickRcp (s : State) (e tick k : Nat) : State :=
  if (s.rcp e k).st ≠ .running ∧ (s.rcp e k).st ≠ .waiting then s
  else
    match s.rcpRead e k with
    | (s, false) => s
    | (s, true) => s.judgeRcp e tick k

/-- A tick of engine e: the step clocks advance, the commands delivered are judged, and then ends, conditions and timeouts, so that a CONTINUE or a HOLD in the tick of a timeout is in time (R9, R338, R341). -/
def State.ssuTick (s : State) (e tick : Nat) : State :=
  let s := (List.range 64).foldl (fun s k => s.clockRcp e tick k) s
  let cmds := s.rcpCmds.filter (fun c => c.1 = e)
  let s := { s with rcpCmds := s.rcpCmds.filter (fun c => c.1 ≠ e) }
  let s := cmds.foldl (fun s c => s.rcpCommand e c.2.1 tick c.2.2) s
  (List.range 64).foldl (fun s k => s.tickRcp e tick k) s

/-- SSU_TICK (R338, R341). No tick counts in a step gap (R338). -/
def execSsuTick (e : Fin 2) (tick : Nat) (s : State) : Res :=
  .next (s.ifAlive fun s => if (s.eng e.val).slip || !s.leRuns e.val then s else s.ssuTick e.val tick)

/-- RECIPE_START (R341), judged at a tick. -/
def execRecipeStart (e : Fin 2) (l : BitVec 9) (k : BitVec 6) (tick : Nat) (s : State) : Res := .next (s.rcpStart e.val l.toNat k.toNat tick)

/-- RECIPE_HOLD (R341). -/
def execRecipeHold (e : Fin 2) (_l : BitVec 9) (k : BitVec 6) (s : State) : Res := .next (s.rcpHold e.val k.toNat)

/-- RECIPE_RESUME (R341). -/
def execRecipeResume (e : Fin 2) (_l : BitVec 9) (k : BitVec 6) (tick : Nat) (s : State) : Res := .next (s.rcpResume e.val k.toNat tick)

/-- RECIPE_ABORT (R341). -/
def execRecipeAbort (e : Fin 2) (_l : BitVec 9) (k : BitVec 6) (s : State) : Res := .next (s.rcpAbortCmd e.val k.toNat)

/-- RECIPE_CONTINUE (R341). -/
def execRecipeContinue (e : Fin 2) (_l : BitVec 9) (k : BitVec 6) (tick : Nat) (s : State) : Res := .next (s.rcpContinue e.val k.toNat tick)

/-- RESUME_AT (R341). -/
def execResumeAt (e : Fin 2) (l : BitVec 9) (k : BitVec 6) (step : Half) (tick : Nat) (s : State) : Res :=
  .next (s.rcpResumeAt e.val l.toNat k.toNat tick step.toNat)

/-- SSU_EN (R343): SQ_CFG[SSU_EN] written; clearing it aborts every active recipe with CAUSE 0x5. A locked quoin ignores the write (R589). -/
def State.ssuEn (s : State) (e : Nat) (v : Bool) : State :=
  if s.locked (Page.sq e) then (if s.rbit (Page.sq e) Reg.sq_SQ_CFG 0 = v then s else s.err (Page.sq e))
  else
    let s := s.setBit (Page.sq e) Reg.sq_SQ_CFG 0 v
    if v then s else ((List.range 64).filter (fun k => (s.rcp e k).active)).foldl (fun s k => s.rcpAbort e k 5) s

/-- SSU_EN (R343). -/
def execSsuEn (e : Fin 2) (v : Bool) (s : State) : Res := .next (s.ssuEn e.val v)

/-- Probe commands (R345, R346). -/
def State.probeArm (s : State) (e q : Nat) : State :=
  let p := s.probe e q
  if p.st = .idle ∨ p.st = .done then
    s.setProbe e q { st := if s.fld (Page.sq e) (Reg.sq_PR_PRE q) 0 11 = 0 then .armed else .filling, offered := p.offered }
  else s.err (Page.sq e)
def State.probeDisarm (s : State) (e q : Nat) : State := s.setProbe e q { s.probe e q with st := .idle, pend := false }
def State.probeForce (s : State) (e q : Nat) : State :=
  let p := s.probe e q
  if p.st = .armed then s.setProbe e q { p with pend := true } else s

/-- PROBE_ARM (R345). -/
def execProbeArm (e : Fin 2) (q : BitVec 4) (s : State) : Res := .next (s.probeArm e.val q.toNat)

/-- PROBE_DISARM (R345). -/
def execProbeDisarm (e : Fin 2) (q : BitVec 4) (s : State) : Res := .next (s.probeDisarm e.val q.toNat)

/-- PROBE_FORCE (R346): the trigger takes the next sample of the probe's loop. -/
def execProbeForce (e : Fin 2) (q : BitVec 4) (s : State) : Res := .next (s.probeForce e.val q.toNat)

end Sys2Proof.Machine
end

