-- ==== Sys2Proof/Machine/Journal.lean ====
section
/-! DEFINITION. The event journal: writing, the full rule, commands, the block stage, close (R516 to R530, R540). -/

namespace Sys2Proof.Machine

/-- Slots of the journal (R522). -/
def jrnSlots : Nat := 131072

/-- Address of slot i (R522). -/
def jrnAddr (i : Nat) : Nat := 0x10000000 + i * 32

/-- The 32 bytes of a record (R516), the CRC over bytes 0 to 27. -/
def recBytes (r : JRec) (seq : Word) : List Byte :=
  let b := bytesLE 2 r.code.toNat ++ bytesLE 2 r.source.toNat ++ bytesLE 4 seq.toNat ++ bytesLE 8 r.cal.toNat
    ++ bytesLE 4 r.p0.toNat ++ bytesLE 4 r.p1.toNat ++ bytesLE 4 r.p2.toNat
  b ++ bytesLE 4 (crc32c b).toNat

/-- JRN_HEAD (R540). -/
def State.jrnHead (s : State) : Nat := (s.reg Page.jrn Reg.jrn_JRN_HEAD).toNat

/-- SOURCE of the engine's own records (R517). -/
def ownSource : Half := 0x1000#16

/-- A record of the engine's own, stamped now (R521). -/
def State.ownRec (s : State) (code : Nat) (p0 p1 p2 : Word) : JRec :=
  { code := BitVec.ofNat 16 code, source := ownSource, cal := s.tb.calendar, p0 := p0, p1 := p1, p2 := p2 }

/-- The interrupt bit of a record of the engine's own (R540). -/
def ownBit (r : JRec) : Option Nat :=
  if r.source ≠ ownSource then none
  else if r.code = 2 then some 0 else if r.code = 3 then some 1 else if r.code = 4 then some 2
  else if r.code = 7 then some 3 else none

/-- A record goes into a slot and takes the next SEQ; JRN_HEAD moves past the slot (R520, R522). ARCHIVING ends with the ARCHIVED record (R528). -/
def State.slotPut (s : State) (i : Nat) (r : JRec) : State :=
  let q := s.jrn.seq
  let s := s.putBytes (jrnAddr i) (recBytes r q)
  let s := { s with jrn := { s.jrn with seq := q + 1#32, archiving := s.jrn.archiving && ownBit r != some 3 } }
  let s := s.setReg Page.jrn Reg.jrn_JRN_SEQ q
  let s := s.setReg Page.jrn Reg.jrn_JRN_HEAD (BitVec.ofNat 32 (i + 1))
  match ownBit r with
  | some b => s.raise Page.jrn b
  | none => s

/-- The journal engine writes a slot, where MRAM's check permits it (R188, R196); a record that is refused is lost and counted. DEDUCED: notes/assumptions/56.md. -/
def State.putSlot (s : State) (i : Nat) (r : JRec) : State :=
  match s.fixedMay 0x038 .write (jrnAddr i) 32 with
  | (s, true) => s.slotPut i r
  | (s, false) => s.count Page.jrn Reg.jrn_JRN_LOST

/-- FULL goes into the last slot (JOURNAL_FULL, R523). -/
def State.jrnFull (s : State) : State :=
  let s := s.putSlot (jrnSlots - 1) (s.ownRec 2 (s.reg Page.jrn Reg.jrn_JRN_LOST) (s.reg Page.jrn Reg.jrn_JRN_SUPP) 0)
  { s with jrn := { s.jrn with full := true } }

/-- A record is written into slot JRN_HEAD, of slots 0 to 131,070; FULL follows the last of them (R523). Nothing is written while FULL: such a record is discarded, and so is one that finds only the last slot empty, after a start-up or a close. -/
def State.jrnWrite (s : State) (r : JRec) : State :=
  if s.jrn.full then s.count Page.jrn Reg.jrn_JRN_DROP_FULL
  else
    let i := s.jrnHead
    if i + 1 = jrnSlots then s.jrnFull.count Page.jrn Reg.jrn_JRN_DROP_FULL
    else
      let s := s.putSlot i r
      if i + 2 = jrnSlots then s.jrnFull else s

/-- Whether writing pauses: a clear, or an archive before a clear (R528). -/
def Journal.paused (j : Journal) : Bool := j.running == some .clear || j.running == some .archiveClear

/-- A slot as the archive reads it, where the target lets the journal engine read (R196): words are corrected; a slot with an uncorrectable word counts in BAD_REC and stands as zeros, and so does one that is refused (R171, R172, R197). R183 has no code for this reader: 0. DEDUCED: notes/assumptions/32.md, 56.md. -/
def State.jrnSlot (s : State) (i : Nat) : State × List Byte :=
  match s.fixedMay 0x038 .read (jrnAddr i) 32 with
  | (s, false) => (s, List.replicate 32 0#8)
  | (s, true) =>
    match s.eccRange (jrnAddr i) (jrnAddr i + 32) 0 with
    | (s, true) => (s, s.bytes (jrnAddr i) 32)
    | (s, false) => (s.count Page.jrn Reg.jrn_BAD_REC, List.replicate 32 0#8)

/-- Slots i, i + 1, … as the archive reads them. -/
def State.jrnFile (s : State) (i : Nat) : Nat → State × List Byte
  | 0 => (s, [])
  | n + 1 =>
    let (s, l) := s.jrnSlot i
    let (s, r) := s.jrnFile (i + 1) n
    (s, l ++ r)

/-- A waiting command starts (R528). -/
def State.jrnStart (s : State) : State :=
  match s.jrn.waiting with
  | none => s
  | some .clear => { s with jrn := { s.jrn with waiting := none, running := some .clear, clearing := true } }
  | some c =>
    let (s, file) := s.jrnFile 0 s.jrnHead
    { s with jrn := { s.jrn with
        waiting := none, running := some c, archiving := true, file := file
        fileFirst := BitVec.ofNat 32 (natLE ((file.drop 4).take 4)), fileLast := s.reg Page.jrn Reg.jrn_JRN_SEQ } }

/-- The queue that is served next: the first with records after the one served last, in turn (R525). -/
def nextQueue (qs : Tab (List JRec)) (turn : Nat) : Option Nat :=
  let ks := (qs.filter (fun e => !e.2.isEmpty)).map Prod.fst
  match ks.find? (fun k => turn < k) with
  | some k => some k
  | none => ks.head?

/-- The losses of a queue become LOSS records of kind 0 behind its records (R526). -/
def State.lossRecs (s : State) (q : Nat) : List JRec :=
  (s.jrn.lost.filter (fun e => e.1 = q)).map (fun e => s.ownRec 3 (BitVec.ofNat 32 e.2.1) (BitVec.ofNat 32 e.2.2) 0)

/-- The next record to write and the journal without it: the block in progress, the waiting blocks in cycle order, the LOSS records of shed blocks, then the queues in turn (R525, R526, R529). -/
def State.jrnNext (s : State) : Option (JRec × State) :=
  let j := s.jrn
  match j.cur with
  | r :: rs => some (r, { s with jrn := { j with cur := rs } })
  | [] =>
    match j.blocks with
    | b :: bs =>
      match b.recs ++ b.loss with
      | r :: rs => some (r, { s with jrn := { j with cur := rs, blocks := bs } })
      | [] => none
    | [] =>
      if j.blockShed ≠ 0 then
        match j.shedLoss ++ [s.ownRec 3 0x8000#32 (BitVec.ofNat 32 j.blockShed) 3] with
        | r :: rs => some (r, { s with jrn := { j with cur := rs, blockShed := 0, shedLoss := [] } })
        | [] => none
      else match nextQueue j.queues j.turn with
        | none => none
        | some q =>
          match tget (fun _ => []) j.queues q with
          | [] => none
          | r :: rs =>
            some (r, { s with jrn := { j with
              queues := tset (fun _ => []) j.queues q (rs ++ s.lossRecs q), turn := q
              lost := j.lost.filter (fun e => e.1 ≠ q) } })

/-- Posts of the journal's queues and stage that a close writes: everything staged, with fuel. -/
def State.jrnDrain (s : State) : Nat → State
  | 0 => s
  | n + 1 =>
    match s.jrnNext with
    | none => s
    | some (r, s) => (s.jrnWrite r).jrnDrain n

/-- Records that a close has to write at most. -/
def Journal.staged (j : Journal) : Nat :=
  j.cur.length + (j.blocks.map (fun b => b.recs.length + b.loss.length)).sum + j.shedLoss.length + 1
    + (j.queues.map (fun e => e.2.length)).sum + j.lost.length

/-- A journal command is taken, or ignored and counted: P2, one waiting or running, or an archive area without room (R528, R540). -/
def State.jrnCommand (s : State) (c : JCmd) (pr : Priv) : State :=
  if pr = .p2 ∨ s.jrn.waiting ≠ none ∨ s.jrn.running ≠ none ∨ s.jrn.closed then s.err Page.jrn
  else if c ≠ .clear ∧ (s.jrn.archives.map (fun f => f.content.length)).sum + 32 * s.jrnHead > s.nand.archiveRoom then
    ({ s with jrn := { s.jrn with archFull := true } }).err Page.jrn
  else
    let s := { s with jrn := { s.jrn with waiting := some c } }
    if s.jrn.cur.isEmpty then s.jrnStart else s

/-- Slots lo to hi − 1 are zeroed. -/
def State.zeroRun (s : State) (lo hi : Nat) : State := { s.cleanWords (jrnAddr lo) (32 * (hi - lo)) with mem := tclear s.mem (jrnAddr lo) (jrnAddr hi) }

/-- Slots at which the decision of the MRAM target may change: a rule of the bank that the journal engine issues under starts there or ends before it (R190, R196). -/
def State.slotCuts (s : State) : List Nat :=
  (List.range 16).flatMap (fun i =>
    let w := s.ruleWord (Page.target 9) (s.bankOf 0x038) i
    [lineOf (w 0) (w 1) * 2 - jrnAddr 0 / 32, (lineOf (w 2) (w 3) + 1) * 2 - jrnAddr 0 / 32])

/-- The next of some cuts after `lo`, at most `hi`. -/
def nextCut (cuts : List Nat) (lo hi : Nat) : Nat := cuts.foldl (fun m c => if lo < c ∧ c < m then c else m) hi

/-- Slots lo to hi − 1 are zeroed where the target lets the journal engine write (R188, R196), in runs between cuts, with fuel. A slot that is refused keeps its record, and each refusal counts at the target (R197). DEDUCED: notes/assumptions/56.md. -/
def State.zeroFrom (s : State) (cuts : List Nat) (hi : Nat) : Nat → Nat → State
  | 0, _ => s
  | n + 1, lo =>
    if hi ≤ lo then s
    else
      let m := nextCut cuts lo hi
      match s.fixedMay 0x038 .write (jrnAddr lo) 32 with
      | (s, true) => (s.zeroRun lo m).zeroFrom cuts hi n m
      | (s, false) => (s.countN (Page.target 9) Reg.tc_TFAULT_CNT (m - lo - 1)).zeroFrom cuts hi n m

/-- Slots lo to hi − 1 are zeroed by the journal engine. -/
def State.zeroSlots (s : State) (lo hi : Nat) : State := s.zeroFrom s.slotCuts hi 34 lo

/-- The file just programmed is kept, and its ARCHIVED record is written, behind a block that is being written (R61, R525, R528). -/
def State.archived (s : State) : State :=
  let j := s.jrn
  let f : Archive := { number := j.nextFile, firstSeq := j.fileFirst, lastSeq := j.fileLast, content := j.file }
  let s := { s with jrn := { j with archives := j.archives ++ [f], nextFile := j.nextFile + 1, file := [] } }
  let r := s.ownRec 7 f.firstSeq f.lastSeq (BitVec.ofNat 32 f.number)
  if s.jrn.cur.isEmpty then
    let s := s.jrnWrite r
    { s with jrn := { s.jrn with archiving := false } }
  else { s with jrn := { s.jrn with cur := s.jrn.cur ++ [r] } }

/-- The engine reads the word of a slot that holds its month: whether the slot is empty, month 0 (R519). An uncorrectable word counts as occupied, and in BAD_REC (R171, R172, R524). -/
def State.slotEmpty (s : State) (i : Nat) : State × Bool :=
  match s.eccRead (jrnAddr i) 0 with
  | (s, true) => (s, fieldNat (BitVec.ofNat 64 (s.loadLE (jrnAddr i + 8) 8)) 46 4 == 0)
  | (s, false) => (s.count Page.jrn Reg.jrn_BAD_REC, false)

/-- First empty slot of [lo, hi) by binary search over the month field, with fuel (R524). -/
def State.jrnSearch (s : State) : Nat → Nat → Nat → State × Nat
  | 0, lo, _ => (s, lo)
  | n + 1, lo, hi =>
    if lo < hi then
      let m := (lo + hi) / 2
      match s.slotEmpty m with
      | (s, true) => s.jrnSearch n lo m
      | (s, false) => s.jrnSearch n (m + 1) hi
    else (s, lo)

/-- JRN_HEAD at the first empty slot (R524). -/
def State.jrnFind (s : State) : State :=
  match s.jrnSearch 18 0 jrnSlots with
  | (s, h) => s.setReg Page.jrn Reg.jrn_JRN_HEAD (BitVec.ofNat 32 h)

/-- JOURNAL_SCAN (R524): JRN_HEAD to the first empty slot, FULL where there is none, then START. -/
def State.jrnScan (s : State) : State :=
  let s := s.jrnFind
  let s := { s with jrn := { s.jrn with full := s.jrnHead == jrnSlots } }
  if s.jrn.full then s
  else s.jrnWrite (s.ownRec 1 (s.fwVer.zeroExtend 32) (Config.hwIssue.zeroExtend 32) (s.reg Page.jrn Reg.jrn_BAD_REC))

/-- The program posts of a committed cycle enter as one block, stamped with the packed time of the commit (R61, R268, R525, R529): written at once, staged, or shed whole. `shed` counts the posts of each source shed before staging (R108, R526). -/
def State.postBlockAt (s : State) (cal : DWord) (posts : List Post) (shed : List (Half × Nat)) : State :=
  let s := s.countN Page.jrn Reg.jrn_JRN_LOST (shed.map Prod.snd).sum
  if posts.isEmpty ∧ shed.isEmpty then s
  else if s.jrn.closed then { s with jrn := { s.jrn with afterClose := s.jrn.afterClose + posts.length } }
  else if s.jrn.full then s.countN Page.jrn Reg.jrn_JRN_DROP_FULL posts.length
  else
    let recs := posts.map (fun p => ({ code := p.code, source := p.source, cal := cal, p0 := p.p0, p1 := p.p1, p2 := p.p2 } : JRec))
    let loss := shed.map (fun e => s.ownRec 3 (e.1.zeroExtend 32) (BitVec.ofNat 32 e.2) 2)
    let j := s.jrn
    if !j.paused && j.cur.isEmpty && j.blocks.isEmpty then { s with jrn := { j with cur := recs ++ loss } }
    else if (j.blocks.map (fun b => b.recs.length)).sum + recs.length ≤ 8192 then
      { s with jrn := { j with blocks := j.blocks ++ [{ recs := recs, loss := loss }] } }
    else
      ({ s with jrn := { j with blockShed := j.blockShed + recs.length, shedLoss := j.shedLoss ++ loss } }).countN
        Page.jrn Reg.jrn_JRN_LOST recs.length

/-- A block of posts that commits now. -/
def State.postBlock (s : State) (posts : List Post) (shed : List (Half × Nat)) : State := s.postBlockAt s.tb.calendar posts shed

/-! ### Commands -/

/-- JOURNAL_WRITE (R522, R523, R525): one staged record is written; a waiting command starts behind the block (R528). Nothing is written while paused or FULL. -/
def execJournalWrite (s : State) : Res :=
  .next (
    if s.jrn.paused || s.jrn.full then s
    else
      match s.jrnNext with
      | none => s
      | some (r, s) =>
        let s := s.jrnWrite r
        if s.jrn.cur.isEmpty then s.jrnStart else s)

/-- STAGING_OVERFLOW (R526): a record offered to the full queue of its source is lost and counted by source; where the queue has room it is staged. -/
def execStagingOverflow (r : JRec) (s : State) : Res := .next (s.offer r)

/-- RATE_LIMIT_SECOND (R527): at a TAI second boundary one LOSS record of kind 1 for each source with suppressed records. -/
def execRateLimitSecond (s : State) : Res :=
  let supp := s.jrn.supp
  let s := { s with jrn := { s.jrn with supp := [], rate := [], rateSec := s.tb.time.sec } }
  .next (supp.foldl (fun s e => s.offer (s.ownRec 3 (BitVec.ofNat 32 e.1) (BitVec.ofNat 32 e.2) 1)) s)

/-- CLEAR (R528). -/
def execClear (priv : Priv) (s : State) : Res := .next (s.jrnCommand .clear priv)

/-- ARCHIVE (R528). -/
def execArchive (priv : Priv) (s : State) : Res := .next (s.jrnCommand .archive priv)

/-- ARCHIVE_CLEAR (R528). -/
def execArchiveClear (priv : Priv) (s : State) : Res := .next (s.jrnCommand .archiveClear priv)

/-- CLEAR_COMPLETE (R528): every slot is 0, JRN_HEAD 0, FULL clear, CLEARED in slot 0, and ARCHIVED in slot 1 after an ARCHIVE_CLEAR. -/
def execClearComplete (s : State) : Res :=
  if s.jrn.clearing then
    let last := s.reg Page.jrn Reg.jrn_JRN_SEQ
    let n := s.reg Page.jrn Reg.jrn_JRN_HEAD
    let both := s.jrn.running == some .archiveClear
    let s := s.zeroSlots 0 jrnSlots
    let s := s.setReg Page.jrn Reg.jrn_JRN_HEAD 0
    let s := s.count Page.jrn Reg.jrn_CLEAR_CNT
    let s := { s with jrn := { s.jrn with full := false, clearing := false, running := none } }
    let s := s.jrnWrite (s.ownRec 4 last n 0)
    .next (if both then s.archived else s)
  else .next s

/-- ARCHIVE_COMPLETE (R528): the file is kept; ARCHIVED is written, or the clear of an ARCHIVE_CLEAR starts. -/
def execArchiveComplete (s : State) : Res :=
  .next (
    if s.jrn.running = some .archive then
      let s := s.archived
      { s with jrn := { s.jrn with running := none } }
    else if s.jrn.running = some .archiveClear ∧ ¬ s.jrn.clearing then
      { s with jrn := { s.jrn with clearing := true } }
    else s)

/-- The journal closes (R530): commands are dropped, JRN_HEAD found again, everything staged written, then CLOSED. -/
def State.jrnClose (s : State) : State :=
  if s.jrn.closed then s
  else
    let dropped := s.jrn.waiting.isSome
    let abandoned := s.jrn.running.isSome
    -- the slots a running clear has zeroed, from the top: a free value (R528 bounds only the whole)
    let s := if s.jrn.clearing then
        ({ s with freeCtr := s.freeCtr + 1 }).zeroSlots (jrnSlots - 1 - (Config.freeWord s.freeCtr).toNat % jrnSlots) jrnSlots
      else s
    let s := { s with jrn := { s.jrn with waiting := none, running := none, clearing := false, archiving := false, file := [], closed := true } }
    let s := s.jrnFind
    let s := if s.jrnHead < jrnSlots then { s with jrn := { s.jrn with full := false } } else s
    let s := s.jrnDrain s.jrn.staged
    if s.jrn.full then s
    else s.jrnWrite (s.ownRec 5 (s.reg Page.jrn Reg.jrn_JRN_LOST) (BitVec.ofNat 32 s.jrn.afterClose)
      (BitVec.ofNat 32 ((if dropped then 1 else 0) + (if abandoned then 2 else 0))))

/-- JOURNAL_CLOSE (R530). -/
def execJournalClose (s : State) : Res := .next s.jrnClose

end Sys2Proof.Machine
end

