-- ==== Sys2Proof/Machine/Loop.lean ====
section
/-! DEFINITION. The loop engines: the law, samples, outputs, faults and fallbacks, the static schedule, snapshots (R278 to R319). -/

namespace Sys2Proof.Machine

/-! ### The law (R278, R279, R323, R324) -/

/-- Step 2: ν, 0 for a bad measurement. -/
def State.stepNu (s : State) (e l : Nat) (x : LoopRt) (y : List Word) (good : List Bool) : List Word :=
  (List.range (s.lp e l)).map (fun i =>
    if good.getD i false then rowS (toD (elt y i) :: (prods (s.dscRow e l 0x460 12 i (s.ln e l)) x.xp).map negD) else 0)

/-- Step 3: x̂ = x̂⁻ + L ν. -/
def State.stepX (s : State) (e l : Nat) (x : LoopRt) (nu : List Word) : List Word :=
  (List.range (s.ln e l)).map (fun i => rowS (toD (elt x.xp i) :: prods (s.dscRow e l 0x6A0 6 i (s.lp e l)) nu))

/-- Step 9: A x̂ + B u. -/
def State.stepNext (s : State) (e l : Nat) (xh u : List Word) : List Word :=
  (List.range (s.ln e l)).map (fun i =>
    rowS (prods (s.dscRow e l 0x100 12 i (s.ln e l)) xh ++ prods (s.dscRow e l 0x340 6 i (s.lm e l)) u))

/-- Row a of K with x̂, as products. -/
def State.rowK (s : State) (e l a : Nat) (xh : List Word) : List Nat := prods (s.dscRow e l 0x580 12 a (s.ln e l)) xh

/-- Step 4: Δₐ in binary64. -/
def State.delta (s : State) (e l a : Nat) (x : LoopRt) (y : List Word) (good : List Bool) : Nat :=
  let i := (s.byte (leBase e + l * 0x800 + 0xE0 + a)).toNat
  if i = 0xFF ∨ !good.getD i false then 0
  else (fmul f64 (toD (s.dsc e l (0x40 + 4 * a))) (fsub f64 (toD (elt x.r i)) (toD (elt y i))).1).1

/-- How an actuator is computed at a sample. -/
inductive ActLaw where
  /-- Steps 4 to 8 of R278. -/
  | auto
  /-- The preset of R323. -/
  | preset
  /-- vₐ given, steps 6 and 7, w kept (MANUAL). -/
  | manual (v : Word)
  /-- vₐ given, step 6, the preset of w (TRACKING). -/
  | track (v : Word)
  deriving DecidableEq, Repr

/-- v, w, u, clamped and rate-limited of one actuator (R278 steps 4 to 8, R323, R324). -/
def State.actuator (s : State) (e l : Nat) (x : LoopRt) (y : List Word) (good : List Bool) (xh : List Word) (law : ActLaw) (a : Nat) :
    Word × Word × Word × Bool × Bool :=
  let up := elt x.u a
  let w := elt x.w a
  let kx := s.rowK e l a xh
  let umin := s.dsc e l (0x60 + 4 * a)
  let umax := s.dsc e l (0x80 + 4 * a)
  let rmax := s.dsc e l (0xA0 + 4 * a)
  let d := s.delta e l a x y good
  let wp := rowS (toD up :: kx)
  let v := match law with
    | .auto => rowS (toD w :: d :: kx.map negD)
    | .preset => up
    | .manual v => v
    | .track v => v
  let w' := match law with
    | .auto =>
      let dv := unpackF f64 d
      if (ltS umax v && ltV (unpackF f64 0) dv) || (ltS v umin && ltV dv (unpackF f64 0)) then w else rowS [toD w, d]
    | .preset => wp
    | .manual _ => w
    | .track _ => wp
  let c := minS (maxS v umin) umax
  let rate := match law with | .track _ => false | _ => !infPos rmax
  let u := if rate then minS (maxS c (rowS [toD up, negD (toD rmax)])) (rowS [toD up, toD rmax]) else c
  (v, w', u, ltS v umin || ltS umax v, rate && (ltS c u || ltS u c))

/-- A track value for an actuator of an outer loop: the setpoint in force of an inner that it feeds and that is not in CASCADE_INNER; none when it feeds inners in CASCADE_INNER only, or feeds none (R324). -/
def State.outerTrack (s : State) (e l a : Nat) : Option Word :=
  let fed := (s.loopsOf e).flatMap (fun i =>
    if s.isInner e i && s.outerOf e i == l then ((List.range (s.lp e i)).filter (fun k => s.casMap e i k = a)).map (fun k => (i, k)) else [])
  match fed.find? (fun p => (s.loop e p.1).mode ≠ 2) with
  | some p => some (elt (s.loop e p.1).r p.2)
  | none => none

/-- The law of actuator a at a sample, by the mode and by what the sample instant captured (R324, R325). -/
def State.lawOf (s : State) (x : LoopRt) (c : LoopCap) (a : Nat) : ActLaw :=
  if x.mode = 0 then .manual (elt c.mv a)
  else if x.mode = 4 then .track (match x.tv.getD a none with | some v => v | none => Config.freeWord s.freeCtr)
  else if x.mode = 3 then
    match c.ot.getD a none with
    | some v => .track v
    | none => if c.preset then .preset else .auto
  else if c.preset then .preset else .auto

/-- An output computed for every actuator without the law: held, or USAFE. -/
def State.fixedEval (s : State) (e l : Nat) (x : LoopRt) (nu xh u : List Word) : LoopEval :=
  let xp := s.stepNext e l xh u
  { nu := nu, xh := xh, v := u, u := u, w := x.w, xp := xp, clamped := [], rated := [],
    nonfinite := !(xh.all finite && u.all finite && xp.all finite), sat := false }

/-- LOOP_EVALUATION's computation (R278): in FALLBACK and under STOP_ACT only steps 2, 3 and 9 run (R295, R298). -/
def State.evalLoop (s : State) (e l : Nat) (c : LoopCap) : LoopEval :=
  let x := s.loop e l
  let f := s.lfl e l
  let nu := s.stepNu e l x c.y c.good
  let xh := s.stepX e l x nu
  if x.mode = 6 then s.fixedEval e l x nu xh x.u
  else if f.stopAct = 1 then s.fixedEval e l x nu xh x.u
  else if f.stopAct = 2 then s.fixedEval e l x nu xh (s.usafe e l)
  else
    let r := (List.range (s.lm e l)).map (fun a => s.actuator e l x c.y c.good xh (s.lawOf x c a) a)
    let v := r.map (fun t => t.1)
    let w := r.map (fun t => t.2.1)
    let u := r.map (fun t => t.2.2.1)
    let cl := r.map (fun t => t.2.2.2.1)
    let xp := s.stepNext e l xh u
    let lim := s.dscF e l 0x10 0 16
    { nu := nu, xh := xh, v := v, u := u, w := w, xp := xp, clamped := cl, rated := r.map (fun t => t.2.2.2.2)
      nonfinite := !(xh.all finite && v.all finite && u.all finite && w.all finite && xp.all finite)
      sat := decide (lim ≠ 0) && (cl.zipIdx).any (fun p => p.1 && decide (lim ≤ f.satRun.getD p.2 0 + 1)) }

/-! ### Output stages, state records, status words (R297, R308, R313) -/

/-- Status words of R297, CLASS 0x6: good; lost sample and FALLBACK with Hold; Safe. -/
def qGood : Half := 0x0060#16
def qHeld : Half := 0x4860#16
def qSafe : Half := 0x6060#16

/-- The status of the outputs of loop l (R297): in FALLBACK and in a controller Stop with Safe that row stands, after a lost sample too. DEDUCED: notes/assumptions/58.md. -/
def State.qualOf (s : State) (e l : Nat) : Half :=
  if (s.loop e l).mode = 6 then (if s.fbActOf e l = 2 then qSafe else qHeld)
  else if (s.lfl e l).stopAct = 2 then qSafe
  else if (s.lfl e l).lost then qHeld
  else qGood

/-- Whether the module holds the pass for its loops: its drivers are enabled (R310, R312). -/
def State.holdsPass (s : State) : Bool := s.pair.driveEn && s.pair.gate

/-- The outputs of loop l reach their output stages at a time (R282, R291). -/
def State.driveOut (s : State) (e l : Nat) (u : List Word) (q : Half) (t : Nat) : State :=
  (List.range (s.lm e l)).foldl (fun s a =>
    let b := s.dscH e l 0x30 a
    if b / 32768 = 1 then { s with lo := tset (fun _ => {}) s.lo (b % 32768) { value := elt u a, status := q, time := t } } else s) s

/-- A list of words filled up with zeros. -/
def padW (l : List Word) (n : Nat) : List Word := (List.range n).map (elt l)

/-- A list of Bools as bits. -/
def maskOf (l : List Bool) : Nat := (l.zipIdx).foldl (fun m p => if p.1 then m + 2 ^ p.2 else m) 0

/-- The words of a state record (R308): in MANUAL the manual values stand for u. -/
def stateWords (x : LoopRt) (f : LoopFl) : List Word :=
  let mode := if x.shadow then 5 else x.mode
  let fl := (if f.nonfinite || f.badmeas || f.satf then 1 else 0) + (if f.stopAct ≠ 0 then 2 else 0) + (if f.lost then 4 else 0)
  [BitVec.ofNat 32 f.sample, BitVec.ofNat 32 (mode + fl * 256)] ++ padW x.xp 12 ++ padW x.w 6 ++ padW (if x.mode = 0 then x.mv else x.u) 6 ++ padW x.r 6

/-- The state record and the status word of loop l are rewritten. -/
def State.putRecords (s : State) (e l : Nat) : State :=
  let x := s.loop e l
  let f := s.lfl e l
  let s := s.leStore (leBase e + 0x100000 + l * 128) (stateWords x f)
  s.leStore (leBase e + 0x140000 + l * 16) [statusWord x f, BitVec.ofNat 32 f.sample,
    BitVec.ofNat 32 (maskOf f.clamped + maskOf f.rated * 256 + maskOf f.bad * 65536), 0]

/-! ### Start, faults, fallback (R294 to R301) -/

/-- A loop starts under R299 and R320: X0, USAFE, SP_INIT, the initial mode; in SHADOW without the pass. Its output latches take USAFE, also in SHADOW; OFF drives nothing (R232, R290). -/
def State.startLoop (s : State) (e l : Nat) : State :=
  let s := (s.leReads e (loopAreas l)).1
  let m := s.dscF e l 0xC 0 3
  let us := s.usafe e l
  let sp := (List.range (s.lp e l)).map (fun i => s.spb e l (0x40 + 4 * i))
  let x : LoopRt := {
    mode := m, shadow := !s.holdsPass && m != 7, xp := s.dscV e l 0x7C0 (s.ln e l), w := us.map (fun _ => 0#32), u := us, r := sp, rt := sp
    mv := us, tv := us.map (fun _ => none), pre := isAutoMode m, softDue := isAutoMode m, soft := sp.map (fun _ => false) }
  let s := (s.setLoop e l x).setLfl e l {}
  let s := if m = 7 then s else s.driveOut e l us qSafe s.tb.time.toNs
  s.putRecords e l

/-- A loop fault or engine event of a page: INT bit, cause, journal (R296). Class 0x01 with the bit; the register that describes it. -/
def State.engineFault (s : State) (e b off : Nat) : State :=
  ((s.raise (Page.le e) b).cause 4).journalReg (Page.le e) (0x0100 + b) off

/-- All owned channels of an engine, those of loops in OFF too, go to USAFE with the status of a Safe fallback (R303, R316), and the recipes of its loops are held (R339). -/
def State.engineSafe (s : State) (e : Nat) : State :=
  (s.loopsOf e).foldl (fun s l =>
    let us := s.usafe e l
    let s := s.setLoop e l { s.loop e l with u := us, cap := none, res := none }
    let s := s.setLfl e l { s.lfl e l with qual := qSafe }
    (s.rcpStop e l).driveOut e l us qSafe s.tb.time.toNs) s

/-- ENGINE_FAILED (R303): FAILED, outputs at USAFE; a module failure for a standby or a synchronised active. -/
def State.engineFailed (s : State) (e : Nat) : State :=
  let s := s.setEng e { s.eng e with st := .failed, switchPend := false }
  let s := s.engineSafe e
  let s := (s.loopsOf e).foldl (fun s l => (s.setLfl e l { s.lfl e l with fbCause := 4 }).putRecords e l) s
  let s := s.engineFault e 1 Reg.le_LANE_LASTING
  if s.synced || s.pair.role == .standbySync || s.pair.role == .standbyUnsync then s.moduleFail 24 else s

/-- FB_MAPk: the loops 32k to 32k + 31 that are in FALLBACK (R314). -/
def State.fbMap (s : State) (e k : Nat) : Word :=
  BitVec.ofNat 32 (((List.range 32).filter (fun b => (s.loop e (32 * k + b)).mode = 6 ∧ !(s.loop e (32 * k + b)).shadow)).map (fun b => 2 ^ b)).sum

/-- FB_ACT at the output instant of the faulting sample (LOOP_FALLBACK, R295). `nf` is the non-finite fault, after which X0 is reloaded. -/
def State.fallback (s : State) (e l : Nat) (ev : LoopEval) (nf : Bool) : State :=
  let x := s.loop e l
  let f := s.lfl e l
  let act := s.fbActOf e l
  let u := if act = 2 then s.usafe e l else x.u
  let x := if act = 1 then { x.enterMode 0 with mv := x.u } else x.enterMode 6
  let x := { x with u := u, xp := if nf then x.xp else s.stepNext e l ev.xh u }
  let s := s.setLoop e l x
  let s := s.setLfl e l { f with reload := nf, stopAct := 0 }
  -- the loop enters FALLBACK, but for FB_ACT 0b01, which takes it to MANUAL (R319)
  let s := if act = 1 then s else s.raise (Page.le e) 2
  let s := s.cause 6
  s.journal (Page.le e) 0x0102 (Reg.le_FB_MAP (l / 32)) (s.fbMap e (l / 32))

/-! ### Samples (R282, R284, R292, R293, R311) -/

/-- A staging record later than the last loaded one is loaded by a loop of a module without the pass: one in SHADOW, or in OFF, which a record that names another mode takes to SHADOW, as one that names OFF ends it (R310, R311). Entering MANUAL ends the storage of R334. -/
def State.loadSnapshot (s : State) (e l : Nat) : State :=
  let x := s.loop e l
  let f := s.lfl e l
  let rd (o : Nat) : Word := s.leWord e (0x110000 + l * 128 + o)
  let smp := (rd 0).toNat
  let later := match f.loaded with | none => true | some p => decide ((smp + 2 ^ 32 - p) % 2 ^ 32 < 2 ^ 31 ∧ smp ≠ p)
  let s := s.setLfl e l { f with staged := false }
  if s.holdsPass || !(x.shadow || x.mode == 7) || !f.staged || !later then s
  else
    let m := if fieldNat (rd 4) 0 3 = 5 then x.mode else fieldNat (rd 4) 0 3
    let snap := s.dscF e l 0 17 1 == 1
    let r := (List.range (s.lp e l)).map (fun i => rd (0x68 + 4 * i))
    let u := (List.range (s.lm e l)).map (fun i => rd (0x50 + 4 * i))
    let y := { x with
      mode := m, shadow := decide (m ≠ 7), r := r, rt := r, mv := if m = 0 then u else x.mv, softDue := false
      mvSt := if m = 0 ∧ x.mode ≠ 0 then [] else x.mvSt }
    let y := if snap then { y with xp := (List.range (s.ln e l)).map (fun i => rd (8 + 4 * i)),
                                   w := (List.range (s.lm e l)).map (fun i => rd (0x38 + 4 * i)), pre := false }
      else if m ≠ x.mode then { y with pre := isAutoMode m } else y
    let s := s.setLoop e l y
    let s := s.setLfl e l { s.lfl e l with loaded := some smp }
    s.count (Page.le e) Reg.le_SNAP_LOADED

/-- The track values at a sample (R325). -/
def State.trackVals (s : State) (e l j : Nat) (x : LoopRt) : List (Option Word) :=
  (List.range (s.lm e l)).map (fun a =>
    let b := s.loadLE (leBase e + 0x180000 + l * 0x80 + 8 + 2 * a) 2
    if b / 32768 = 0 then
      some (match x.mvSt.find? (fun p => p.1 = a) with | some p => p.2 | none => elt x.mv a)
    else
      let c := s.bindVal e b
      if (s.classify e l j c).1 then some c.value else x.tv.getD a none)

/-- Whether loop l is named in the active bank of a running engine of a module that has not failed (R214). -/
def State.loopRuns (s : State) (e l : Nat) : Bool :=
  s.alive && s.leRuns e && tget (fun _ => ({} : LoopRt)) s.loops (e * 512 + l) != {}

/-- The measurement fault of R293: the count of bad samples in a row exceeds BAD_TOL. In an automatic mode the law needs a count of at most BAD_TOL, so every such sample is a fault; in another mode the one at which the count comes to exceed it. DEDUCED: notes/assumptions/58.md. -/
def measFault (auto : Bool) (run tol : Nat) : Bool := if auto then decide (tol < run) else decide (run = tol + 1)

/-- LOOP_SAMPLE (R282): the snapshot, mode requests, capture, target and setpoint for sample j. In a step gap the sample is lost (R304). -/
def State.loopSample (s : State) (e l j : Nat) : State :=
  if !s.loopRuns e l then s
  else if (s.eng e).slip then
    let x := s.loop e l
    if x.mode = 7 then s
    else
      let c : LoopCap := { j := j, y := [], good := [], stale := false, fault := false, preset := false, pre := x.pre, softDue := x.softDue,
                           mode0 := x.mode, r0 := x.r, xp0 := x.xp, lost := true }
      s.setLoop e l { x with cap := some c, res := none }
  else
    let was := s.loop e l
    let (s, ok) := s.leReads e (loopAreas l ++ if (s.lfl e l).staged then [(0x110000 + l * 128, 128)] else [])
    if !ok then s
    else
    let s := s.loadSnapshot e l
    let s := s.takeReqs e l
    let s := s.rcpLeft e l
    let x := s.loop e l
    if x.mode = 7 then s
    else
      let f := s.lfl e l
      let x := if f.reload then { x with xp := s.dscV e l 0x7C0 (s.ln e l), w := x.w.map (fun _ => 0#32) } else x
      let ms := (List.range (s.lp e l)).map (fun i => s.bindVal e (s.dscH e l 0x20 i))
      let cl := ms.map (s.classify e l j)
      let good := cl.map Prod.fst
      let y := ms.map MChan.value
      let run := if good.all id then 0 else f.badRun + 1
      let auto := isAutoMode x.mode && f.stopAct == 0
      let fault := measFault auto run (s.dscF e l 0xC 16 8)
      let c : LoopCap := { j := j, y := y, good := good, stale := (cl.map Prod.snd).any id, fault := fault, preset := auto && x.pre
                           mv := x.mv, pre := x.pre, softDue := x.softDue, mode0 := was.mode, r0 := was.r, xp0 := was.xp
                           ot := (List.range (s.lm e l)).map (s.outerTrack e l) }
      let x := { x with tv := s.trackVals e l j x }
      let x := s.setpoints e l j x y good
      let x := { x with cap := some c, res := none, pre := if auto then false else x.pre }
      let s := s.setLoop e l x
      let s := if x.mode = 4 ∧ x.tv.any Option.isNone then { s with freeCtr := s.freeCtr + 1 } else s
      s.setLfl e l { f with badRun := run, reload := false, bad := good.map (fun b => !b) }

/-! ### Output instants (R282, R294, R298, R312) -/

/-- The faults found in a sample are latched in the loop status word (R294). -/
def LoopFl.latch (f : LoopFl) (nf bad sat : Bool) : LoopFl :=
  { f with nonfinite := f.nonfinite || nf, badmeas := f.badmeas || bad, satf := f.satf || sat }

/-- What a sample tells: non-finite, measurement fault, saturation (R294). Without an evaluation only the measurement fault is known. -/
def sampleFaults (c : LoopCap) (ev : Option LoopEval) : Bool × Bool × Bool := (ev.any (·.nonfinite), c.fault, ev.any (·.sat))

/-- The faults of a sample, lost or not, are latched and counted (R294, R314); STALE, CLAMPED and RATE are those of the latest sample (R313). -/
def State.latchFaults (s : State) (e l : Nat) (c : LoopCap) (ev : Option LoopEval) : State :=
  let (nf, bad, sat) := sampleFaults c ev
  let f := (s.lfl e l).latch nf bad sat
  let s := s.setLfl e l { f with
    stale := c.stale, clamped := (ev.map (·.clamped)).getD [], rated := (ev.map (·.rated)).getD [] }
  let s := if nf then s.count (Page.le e) Reg.le_NONFINITE_CNT else s
  let s := if bad then s.count (Page.le e) Reg.le_BADMEAS_CNT else s
  if sat then s.count (Page.le e) Reg.le_SATFAULT_CNT else s

/-- A lost sample: outputs held, the state of the loop as it was before it (R294). -/
def State.lostSample (s : State) (e l : Nat) (c : LoopCap) : State :=
  let x := s.loop e l
  let s := s.setLoop e l { x with pre := x.pre || c.pre, softDue := x.softDue || c.softDue }
  s.setLfl e l { s.lfl e l with lost := true }

/-- A slot-late fault (R294, R319): an engine fault, in SHADOW without the error cause (R310). -/
def State.slotLate (s : State) (e l : Nat) : State :=
  let s := s.count (Page.le e) Reg.le_SLOT_LATE_CNT
  if (s.loop e l).shadow then (s.raise (Page.le e) 3).journalReg (Page.le e) 0x0103 Reg.le_SLOT_LATE_CNT
  else s.engineFault e 3 Reg.le_SLOT_LATE_CNT

/-- x̂⁻ for the next sample with another u than the one evaluated (R295 step 9). -/
def State.nextWith (s : State) (e l : Nat) (ev : Option LoopEval) (u : List Word) : List Word :=
  match ev with
  | some v => s.stepNext e l v.xh u
  | none => (s.loop e l).xp

/-- STOP_ACT at an output instant (R298): taken at the first one in Stop, left at the first one in Run. `up` are the outputs before this instant. -/
def State.stopActStep (s : State) (e l : Nat) (up : List Word) (ev : Option LoopEval) : State :=
  let x := s.loop e l
  let f := s.lfl e l
  let act := s.stopActOf e l
  if s.bell.mode = .stop then
    if f.stopSeen || x.shadow || x.mode == 6 then s
    else
      let s := s.setLfl e l { f with stopSeen := true }
      let u := if act = 2 then s.usafe e l else up
      let held := { x with u := u, xp := s.nextWith e l ev u }
      if act = 3 then s.setLoop e l { held.enterMode 0 with mv := up }
      else if act = 1 ∨ act = 2 then
        let s := s.setLfl e l { s.lfl e l with stopAct := act, fbCause := 5 }
        s.setLoop e l held
      else s
  else if f.stopSeen ∧ s.bell.mode = .run then
    let s := s.setLfl e l { f with stopSeen := false, stopAct := 0, fbCause := if f.stopAct ≠ 0 then 0 else f.fbCause }
    if f.stopAct ≠ 0 then s.setLoop e l { x with pre := true } else s
  else s

/-- The results of a sample are applied, or its fault takes effect (R294, R295, R310). `up` are the outputs of the sample before. In FALLBACK a fault is latched with its cause too, and no further fallback follows. -/
def State.applySample (s : State) (e l : Nat) (c : LoopCap) (ev : LoopEval) (up : List Word) : State :=
  let s := s.latchFaults e l c (some ev)
  let x := s.loop e l
  let f := s.lfl e l
  let f := { f with lost := false, satRun := (ev.clamped.zipIdx).map (fun p => if p.1 then f.satRun.getD p.2 0 + 1 else 0) }
  let s := s.setLfl e l f
  let (nf, bad, sat) := sampleFaults c (some ev)
  let cause := if nf then 1 else if bad then 2 else if sat then 3 else f.fbCause
  if x.shadow then
    if nf then s.lostSample e l c else s.setLoop e l { x with u := ev.u, w := ev.w, xp := ev.xp }
  else if x.mode = 6 then
    let s := s.setLfl e l { f with fbCause := cause, reload := nf }
    if nf then s else s.setLoop e l { x with xp := ev.xp }
  else if nf ∨ bad ∨ sat then
    let s := s.setLoop e l { x with u := up }
    let s := s.setLfl e l { f with fbCause := cause }
    s.fallback e l ev nf
  else s.setLoop e l { x with u := ev.u, w := ev.w, xp := ev.xp }

/-- The preset of w for an output held at `up`, with the estimate of the sample (R233, R323). -/
def State.presetW (s : State) (e l : Nat) (up : List Word) (ev : LoopEval) : List Word :=
  (List.range (s.lm e l)).map (fun a => rowS (toD (elt up a) :: s.rowK e l a ev.xh))

/-- The pass at an output instant (R310, R312, R233): SHADOW is entered or left. Leaving it, the output is the one before, and an automatic mode presets w at this sample, or, where it is lost, at the next. -/
def State.passStep (s : State) (e l : Nat) (up : List Word) (ev : Option LoopEval) : State :=
  let x := s.loop e l
  if x.shadow ∧ s.holdsPass then
    let x := { x with shadow := false, u := up, xp := s.nextWith e l ev up, softDue := false, rt := x.r }
    let s := s.setLfl e l { s.lfl e l with stopSeen := false, stopAct := 0 }
    s.setLoop e l (match isAutoMode x.mode, ev with
      | true, some v => { x with w := s.presetW e l up v, pre := false }
      | true, none => { x with pre := true }
      | false, _ => x)
  else if !x.shadow ∧ !s.holdsPass then s.setLoop e l { x with shadow := true }
  else s

/-- LOOP_OUTPUT_INSTANT (R282). The outputs reach the output latches, in SHADOW the module's own, whose drivers are disabled (R232, R310). -/
def State.loopOutput (s : State) (e l : Nat) : State :=
  if !s.loopRuns e l then s
  else
    let x := s.loop e l
    match x.cap with
    | none => s
    | some c =>
      let up := x.u
      let was := x.mode
      let ran := s.rcpNow e l
      let o := outInstant c.j (s.lper e l) (s.lphi e l)
      let t := Time.ofNs (o * 4)
      let ev := if c.lost then none else x.res
      let s := s.setLoop e l { x with cap := none, res := none }
      let s := s.setLfl e l { s.lfl e l with sample := c.j % 2 ^ 32, outAt := o * 4 }
      let s := match ev with
        | some v => s.applySample e l c v up
        | none =>
          let s := s.latchFaults e l c x.res
          (if c.lost then s else s.slotLate e l).lostSample e l c
      let lost := (s.lfl e l).lost
      let ev := if lost then none else ev
      -- nothing of a non-finite evaluation is used
      let good := if ev.any (·.nonfinite) then none else ev
      let s := s.stopActStep e l up good
      let s := s.passStep e l up good
      let s := if ran then s.rcpLeft e l else s
      let s := s.setLfl e l { s.lfl e l with qual := s.qualOf e l }
      let s := s.driveOut e l (s.loop e l).u (s.lfl e l).qual (o * 4)
      let s := s.putRecords e l
      s.probesAt e l (c.j % 2 ^ 32) c.y ev (lost || (was != 6 && (s.loop e l).mode == 6)) t

/-! ### The schedule (R285 to R287, R305 to R307) -/

/-- Base of schedule bank b in the window. -/
def bankOff (b : Bool) : Nat := if b then 0x130000 else 0x120000

/-- Words of entry i of a bank (R286). -/
def State.schedW (s : State) (e : Nat) (b : Bool) (i w : Nat) : Word := s.leWord e (bankOff b + i * 8 + 4 * w)

/-- An entry: START, LOOP, D, RESID. -/
structure SchedEnt where
  start : Nat
  loop : Nat
  d : Nat
  resid : Nat
  deriving DecidableEq, Repr

/-- Entry i of a bank. -/
def State.schedEnt (s : State) (e : Nat) (b : Bool) (i : Nat) : SchedEnt :=
  let w0 := s.schedW e b i 0
  let w1 := s.schedW e b i 1
  { start := fieldNat w0 0 20, loop := fieldNat w0 20 9, d := fieldNat w1 0 12 + 1, resid := fieldNat w1 16 12 }

/-- The entries of a bank. -/
def State.entries (s : State) (e : Nat) (b : Bool) (n : Nat) : List SchedEnt := (List.range n).map (s.schedEnt e b)

/-- E of a loop. -/
def State.loopE (s : State) (e l : Nat) : Nat := evalE (s.ln e l) (s.lp e l) (s.lm e l)

/-- Loops named by entries, each once, in order of their number. -/
def namedLoops (es : List SchedEnt) : List Nat := (List.range 512).filter (fun l => es.any (fun x => x.loop = l))

/-- CLASS and INDEX of an output binding are ones that R291 lists, whether EN is set or not. -/
def outBindOk (b : Nat) : Bool :=
  let cls := b / 4096 % 8
  (cls == 0 && decide (b % 4096 ≤ 3)) || cls == 2

/-- A period that R281 permits. -/
def State.periodOk (s : State) (e l : Nat) : Bool :=
  let p := s.lper e l
  decide (p % 2 = 0) && decide (p ≠ 0) && decide (250000000 % p = 0) && decide (p ≤ 250000000)
    && decide ((if s.dscF e l 0 16 1 = 1 then 2500 else 12500) ≤ p)

/-- The r × c words of a matrix of the loop are finite; the engine reads no other element (R289). -/
def State.matOk (s : State) (e l off stride r c : Nat) : Bool :=
  (List.range r).all (fun i => (List.range c).all (fun j => finite (s.dsc e l (off + (i * stride + j) * 4))))

/-- The first k words of a vector keep a test; the engine reads no other element (R289). -/
def State.vecOk (s : State) (e l off k : Nat) (ok : Nat → Word → Bool) : Bool :=
  (List.range k).all (fun i => ok i (s.dsc e l (off + 4 * i)))

/-- An outer loop feeds at most six setpoints in at most six inner loops of the bank (R328). -/
def State.outerFeeds (s : State) (e o : Nat) (named : List Nat) : Bool :=
  let inners := named.filter (fun i => s.isInner e i && s.outerOf e i == o)
  let fed := inners.flatMap (fun i => (List.range (s.lp e i)).filter (fun k => s.casMap e i k != 15))
  decide (inners.length ≤ 6 ∧ fed.length ≤ 6)

/-- The setpoint block of a loop (R328, R331); `named` are the loops of the bank. -/
def State.spbOk (s : State) (e l : Nat) (named : List Nat) : Bool :=
  let p := s.lp e l
  let m := s.lm e l
  let cfg := s.spb e l 0
  let cas := s.spb e l 4
  let inner := bit cfg 2
  let o := s.outerOf e l
  let nn := fieldNat cfg 4 7
  (List.range 6).all (fun i => decide (i < p) || s.casMap e l i == 15)
    && (List.range 6).all (fun i => let w := s.spb e l (0x20 + 4 * i); if i < p then ltS 0 w else w == 0#32)
    && (List.range 6).all (fun i => let w := s.spb e l (0x40 + 4 * i); if i < p then finite w else w == 0#32)
    && (List.range 6).all (fun a =>
        let b := s.loadLE (leBase e + 0x180000 + l * 0x80 + 8 + 2 * a) 2
        if a < m then b < 32768 || inputBindOk b else b == 0)
    && (if inner then
          decide (2 ≤ nn ∧ nn ≤ 64) && named.contains o && o != l && s.dscF e l 0 16 1 == 1 && s.dscF e o 0 16 1 == 1
            && decide (s.lper e o = nn * s.lper e l) && !s.isInner e o
            && (List.range p).all (fun i => s.casMap e l i == 15 || decide (s.casMap e l i < s.lm e o)) && s.outerFeeds e o named
        else decide (nn = 0 ∧ o = 0) && cas == 0x00FFFFFF#32)

/-- A descriptor that meets R281, R283, R289, R291 and chapter 10 (rule 4). -/
def State.descOk (s : State) (e l : Nat) (named : List Nat) : Bool :=
  let n := s.ln e l
  let p := s.lp e l
  let m := s.lm e l
  let modes := s.dsc e l 0xC
  decide (1 ≤ n ∧ n ≤ 12 ∧ 1 ≤ p ∧ p ≤ 6 ∧ 1 ≤ m ∧ m ≤ 6) && s.periodOk e l
    && decide (s.dscF e l 0x10 0 16 ≠ 0xFFFF)
    && decide (96 ≤ s.llat e l ∧ s.llat e l ≤ 65534 ∧ s.llat e l * 2 < s.lper e l * 5)
    && decide (fieldNat modes 0 3 ≠ 5 ∧ fieldNat modes 0 3 ≠ 6 ∧ fieldNat modes 8 2 ≠ 3)
    && decide (1 ≤ fieldNat modes 24 8 ∧ fieldNat modes 24 8 ≤ 254)
    && (List.range 6).all (fun i => let b := s.dscH e l 0x20 i; if i < p then inputBindOk b else b == 0)
    && (List.range 6).all (fun a => let b := s.dscH e l 0x30 a; if a < m then outBindOk b else b == 0)
    && s.vecOk e l 0x40 m (fun _ w => finite w) && s.vecOk e l 0x60 m (fun _ w => finite w)
    && s.vecOk e l 0x80 m (fun a w => finite w && !ltS w (s.dsc e l (0x60 + 4 * a)))
    && s.vecOk e l 0xA0 m (fun _ w => ltS 0 w)
    && s.vecOk e l 0xC0 m (fun a w => finite w && !ltS w (s.dsc e l (0x60 + 4 * a)) && !ltS (s.dsc e l (0x80 + 4 * a)) w)
    && (List.range m).all (fun a => let i := (s.byte (leBase e + l * 0x800 + 0xE0 + a)).toNat; i == 0xFF || decide (i < p))
    && s.matOk e l 0x100 12 n n && s.matOk e l 0x340 6 n m && s.matOk e l 0x460 12 p n
    && s.matOk e l 0x580 12 m n && s.matOk e l 0x6A0 6 n p && s.vecOk e l 0x7C0 n (fun _ w => finite w)
    && s.spbOk e l named

/-- Slot starts, in CCLK, of the entries of a loop that run in the frame of the sample instant `sj` (R285, R287): frames of `fr` CCLK, numbered from the origin of `sj`. -/
def slotsOf (mine : List SchedEnt) (fr : Nat) (sj : Int) : List Int :=
  let f := sj / (fr : Int)
  (mine.filter (fun x => f % (x.d : Int) = x.resid)).map (fun x => f * fr + x.start)

/-- Whether a slot of e CCLK from `t` lies in the window of a sample (R283). -/
def inSlotWindow (sj oj t : Int) (e : Nat) : Bool := decide (sj + 24 ≤ t ∧ t + e + 32 ≤ oj)

/-- Rule 5: for each sample of loop l exactly one entry runs inside its window in the frame of the sample, which is the frame of its sample instant (R283, R287; DEDUCED: notes/assumptions/58.md). Times in CCLK from a grid point that starts a hyperperiod of the loop and the frame. -/
def State.windowOk (s : State) (e l mf : Nat) (es : List SchedEnt) : Bool :=
  let p := s.lper e l
  let fr := mf * 5 / 2
  let mine := es.filter (fun x => x.loop = l)
  let samples := if p ≤ mf then mf / p else 1
  let frames := if p ≤ mf then 1 else p / mf
  let divOk := mine.all (fun x => decide (x.d = frames ∧ x.resid < x.d))
  divOk && decide ((if p ≤ mf then p * samples else mf * frames) = (if p ≤ mf then mf else p)) &&
    (List.range samples).all (fun q =>
      let o : Int := (outInstant 0 p (s.lphi e l) + q * p) * 5 / 2
      let sj := o - s.llat e l
      decide (((slotsOf mine fr sj).filter (fun t => inSlotWindow sj o t (s.loopE e l))).length = 1))

/-- Whether the active bank has the slot in which sample j of loop l is evaluated (R285): an entry whose frame condition holds, at its start offset inside the window of the sample. -/
def State.slotDue (s : State) (e l j : Nat) : Bool :=
  let g := s.eng e
  let mine := (s.entries e g.bank (s.reg (Page.le e) Reg.le_ACTIVE_LEN).toNat).filter (fun x => x.loop = l)
  let o : Int := outInstant j (s.lper e l) (s.lphi e l) * 5 / 2
  let sj := o - s.llat e l
  (slotsOf mine (g.mf * 5 / 2) sj).any (fun t => inSlotWindow sj o t (s.loopE e l))

/-- Whether the station map gives station output channel c to the forme (R38, R398): an output entry takes it from a handle, and none from a loop engine. DEDUCED: notes/assumptions/58.md. -/
def State.stnFormeOwned (s : State) (c : Nat) : Bool :=
  let l := s.stnMap.filter (fun m => bit m.w1 18 && fieldNat m.w0 16 12 == c)
  l.any (fun m => bit m.w0 28) && !l.any (fun m => bit m.w0 29 && !bit m.w0 28)

/-- Whether the configuration gives the channel of an output binding to the forme (R38). -/
def State.formeOwned (s : State) (w : Nat) : Bool :=
  match w / 4096 % 8 with
  | 0 => (tget (fun _ => none) s.proj.chHandle (w % 4096)).isSome
  | 2 => s.stnFormeOwned (w % 4096)
  | _ => false

/-- The channels that the actuators of loop l drive. -/
def State.outsOf (s : State) (e l : Nat) : List Nat := ((List.range (s.lm e l)).map (s.dscH e l 0x30)).filter (fun w => 32768 ≤ w)

/-- Whether a loop binds an output channel that the forme owns, or that an actuator before it in the bank binds (R287). -/
def State.outClash (s : State) (e : Nat) (named : List Nat) (l : Nat) : Bool :=
  let mine := s.outsOf e l
  let before := (named.filter (fun k => k < l)).flatMap (s.outsOf e)
  mine.any (fun w => s.formeOwned w || before.contains w) || !decide mine.Nodup

/-- The broken rule of R287 that is first by its error code, with the entry or loop at which it is found; 0 for a schedule that is admitted. -/
def State.checkBank (s : State) (e : Nat) (b : Bool) (n mf : Nat) : Nat × Nat :=
  let es := s.entries e b n
  let named := namedLoops es
  let frame2 := mf * 5
  let first (l : List Nat) (c : Nat) : Option (Nat × Nat) := l.head?.map (fun i => (c, i))
  let idx := List.range n
  let r1 := if mf % 2 = 0 ∧ 2500 ≤ mf ∧ mf ≤ 250000 ∧ 250000000 % mf = 0 then none else some (1, 0)
  let en (i : Nat) : SchedEnt := s.schedEnt e b i
  let r2 := first (idx.filter (fun i => 2 * ((en i).start + s.loopE e (en i).loop) > frame2)) 2
  let r3 := first (idx.filter (fun i => decide (0 < i ∧ (en i).start < (en (i - 1)).start + s.loopE e (en (i - 1)).loop))) 3
  let r4 := first (named.filter (fun l => !s.descOk e l named)) 4
  let r5 := first (named.filter (fun l => !s.windowOk e l mf es)) 5
  let load := (es.map (fun x => s.loopE e x.loop)).sum
  let r6 := if load * 2 * 5 ≤ frame2 * 4 then none else some (6, 0)
  let r7 := first (named.filter (s.outClash e named)) 7
  let priv := named.filter (fun l => s.dscF e l 0 16 1 = 1)
  -- the 33rd privileged loop, or the first with a period that R281 does not permit
  let r8 := first (priv.drop 32 ++ named.filter (fun l => !s.periodOk e l)) 8
  let r9 := if n ≤ 8192 then none else some (9, 0)
  match [r9, r1, r2, r3, r4, r5, r6, r7, r8].filterMap id with
  | [] => (0, 0)
  | x :: xs => xs.foldl (fun a y => if y.1 < a.1 then y else a) x

/-- Reservation of a bank in ‰, rounded down (R314). -/
def State.bankLoad (s : State) (e : Nat) (b : Bool) (n mf : Nat) : Nat :=
  ((s.entries e b n).map (fun x => s.loopE e x.loop)).sum * 2000 / (mf * 5)

/-- A loop as it stood at its latest output instant: what a sample captured since has changed is left out (R307). -/
def LoopRt.atOutput (x : LoopRt) : LoopRt :=
  match x.cap with
  | none => x
  | some c => { x with mode := c.mode0, r := c.r0, xp := c.xp0, pre := x.pre || c.pre, softDue := x.softDue || c.softDue }

/-- BANK_SWITCH (R306, R307): loops in both banks go on; new loops start or inherit; old ones stop, and their recipes are held (R339). -/
def State.bankSwitch (s : State) (e : Nat) : State :=
  let g := s.eng e
  let n := (s.reg (Page.le e) Reg.le_SHADOW_LEN).toNat
  let old := s.loopsOf e
  let oldN := s.reg (Page.le e) Reg.le_ACTIVE_LEN
  let named := namedLoops (s.entries e (!g.bank) n)
  let mf := (s.reg (Page.le e) Reg.le_MF_TCLK).toNat
  let oldLoops := s.loops
  let oldFl := s.loopFl
  -- loops named only in the old bank stop
  let s := (old.filter (fun l => !named.contains l)).foldl (fun s l => ((s.setLoop e l {}).setLfl e l {}).rcpStop e l) s
  let s := (named.filter (fun l => !old.contains l)).foldl (fun s l =>
    let s := s.startLoop e l
    let inh := s.dsc e l 0x14
    if bit inh 15 then
      let q := fieldNat inh 0 9
      let px := (tget (fun _ => ({} : LoopRt)) oldLoops (e * 512 + q)).atOutput
      let pf := tget (fun _ => ({} : LoopFl)) oldFl (e * 512 + q)
      if px = {} then s
      else
        let x := s.loop e l
        let s := s.setLoop e l { x with
          xp := if s.ln e q = s.ln e l then px.xp else x.xp
          w := padW px.w (s.lm e l), r := padW px.r (s.lp e l), rt := padW px.rt (s.lp e l), mode := px.mode, shadow := px.shadow
          u := padW px.u (s.lm e l), mv := padW px.mv (s.lm e l), pre := px.pre, softDue := px.softDue }
        let s := s.setLfl e l { s.lfl e l with qual := pf.qual, outAt := pf.outAt, stopAct := pf.stopAct, stopSeen := pf.stopSeen }
        if px.mode = 7 then s else s.driveOut e l (s.loop e l).u pf.qual pf.outAt
    else s) s
  let load := s.bankLoad e (!g.bank) n mf
  let s := s.setEng e { s.eng e with bank := !g.bank, hasBank := true, switchPend := false, mf := mf, valid := false,
                                     st := if g.st = .failed then .failed else if s.rbit (Page.le e) Reg.le_LE_CFG 0 then .running else .idle }
  let s := s.setReg (Page.le e) Reg.le_ACTIVE_LEN (BitVec.ofNat 32 n)
  let s := s.setReg (Page.le e) Reg.le_SHADOW_LEN oldN
  let s := s.setReg (Page.le e) Reg.le_LOAD (BitVec.ofNat 32 load)
  let priv := (named.filter (fun l => s.dscF e l 0 16 1 = 1)).length
  let s := s.setReg (Page.le e) Reg.le_LOOPS (BitVec.ofNat 32 (named.length + priv * 65536))
  s.raise (Page.le e) 4

/-- SW_CYC (R314). -/
def State.swCyc (s : State) (e : Nat) : Nat :=
  (s.reg (Page.le e) Reg.le_SW_CYC_LO).toNat + 2 ^ 32 * (s.fld (Page.le e) Reg.le_SW_CYC_HI 0 16)

/-- Whether SWITCH is permitted (R306): VALID, and configuration load with SW_CYC 0, or an online change with SW_CYC = k_s after the migration. -/
def State.switchOk (s : State) (e : Nat) : Bool :=
  (s.eng e).valid && ((s.fld Page.clk Reg.clk_STARTUP_STEP 0 4 == 6 && s.swCyc e == 0) || (s.olc.stat == .migrating && s.olc.migrated && s.swCyc e == s.olc.ks))

/-- SCHED_STAT (R318). -/
def State.schedStat (s : State) (e : Nat) : Word :=
  let g := s.eng e
  BitVec.ofNat 32 ((if g.busy then 1 else 0) + (if g.done then 2 else 0) + (if g.valid then 4 else 0) + g.err % 16 * 256 + g.errEntry % 65536 * 65536)

/-- LANE_LASTING (R314): lanes whose count reached LANE_LIMIT, and lanes not enabled at start-up. -/
def State.laneLasting (s : State) (e : Nat) : Word := (s.eng e).notEnabled ++ (s.eng e).lasting

/-- SWITCH (R306, R317). -/
def State.schedSwitch (s : State) (e : Nat) (pr : Priv) : State :=
  if pr = .p2 then s.err (Page.le e)
  else if s.switchOk e then s.setEng e { s.eng e with switchPend := true }
  else (s.err (Page.le e)).journal (Page.le e) 0x03FF Reg.le_SCHED_STAT (s.schedStat e)

/-- VALID is cleared, and with it the reservation of the validated shadow bank in LOAD (R305, R314). -/
def State.schedInvalid (s : State) (e : Nat) : State := (s.setEng e { s.eng e with valid := false }).setFld (Page.le e) Reg.le_LOAD 16 10 0

/-- VALIDATE (R305). -/
def State.schedValidate (s : State) (e : Nat) (pr : Priv) : State :=
  if pr = .p2 then s.err (Page.le e)
  else
    let s := s.schedInvalid e
    s.setEng e { s.eng e with busy := true, done := false, err := 0, errEntry := 0 }

/-- CANCEL (R306, R317). -/
def State.schedCancel (s : State) (e : Nat) (pr : Priv) : State :=
  if pr = .p2 then s.err (Page.le e) else s.setEng e { s.eng e with switchPend := false }

/-- VALIDATION_DONE (R305, R318): the bank, the descriptors and the setpoint blocks of its loops are read and checked; DONE with VALID or ERR. -/
def State.validationDone (s : State) (e : Nat) : State :=
  let g := s.eng e
  if !g.busy then s
  else
    let n := (s.reg (Page.le e) Reg.le_SHADOW_LEN).toNat
    let mf := (s.reg (Page.le e) Reg.le_MF_TCLK).toNat
    let s := (s.leRead e (bankOff (!g.bank)) (min n 8192 * 8)).1
    let s := (s.leReads e ((namedLoops (s.entries e (!g.bank) n)).flatMap loopAreas)).1
    let (c, i) := s.checkBank e (!g.bank) n mf
    let s := s.setEng e { s.eng e with busy := false, done := true, valid := decide (c = 0), err := c, errEntry := i }
    let s := s.setFld (Page.le e) Reg.le_LOAD 16 10 (if c = 0 then s.bankLoad e (!g.bank) n mf else 0)
    s.raise (Page.le e) 5

/-- LE_ENABLE (R316): setting ENABLE lets the engine evaluate its bank; clearing it stops all loops at USAFE. -/
def State.leEnable (s : State) (e : Nat) (v : Bool) : State :=
  if s.locked (Page.le e) then (if s.rbit (Page.le e) Reg.le_LE_CFG 0 = v then s else s.err (Page.le e))
  else
    let g := s.eng e
    let was := s.rbit (Page.le e) Reg.le_LE_CFG 0
    let s := s.setBit (Page.le e) Reg.le_LE_CFG 0 v
    if g.st = .failed ∨ was = v then s
    else if v then
      let s := s.setEng e { g with st := if g.hasBank then .running else .idle }
      if g.hasBank then (s.loopsOf e).foldl (fun s l => s.startLoop e l) s else s
    else (s.engineSafe e).setEng e { g with st := .idle }

/-- TIME_STEP seen by an engine (R304, R319): each step counts; a gap begins where the engine evaluates and none is open; captured samples go on. -/
def State.leSlip (s : State) (e : Nat) : State :=
  let s := s.count (Page.le e) Reg.le_FRAME_SLIP_CNT
  if (s.eng e).st ≠ .running ∨ (s.eng e).slip then s
  else (s.setEng e { s.eng e with slip := true }).raise (Page.le e) 6

/-- The cycle whose bell has rung last: on a standby it is the one of the latest PROOF_BEGIN, whose commit is still to come (R258, R306). -/
def State.rungCycle (s : State) : Nat := match s.prx.cycles.getLast? with | some c => c.head.cyc | none => s.bell.cycle

/-- FRAME_START (R285, R304, R306): a step gap ends; an armed switch takes effect once the bell of SW_CYC has rung. -/
def State.frameStart (s : State) (e : Nat) : State :=
  let g := s.eng e
  let s := if g.slip then s.setEng e { g with slip := false } else s
  if g.switchPend ∧ s.swCyc e ≤ s.rungCycle then s.bankSwitch e else s

/-! ### Lanes (R300 to R303) -/

/-- One mismatch of a lane counted in its window (R302): the events still within LANE_WINDOW, and whether the fault is lasting. -/
def State.laneCount (s : State) (e lane : Nat) : State :=
  let g := s.eng e
  let win := secTclk (s.reg (Page.le e) Reg.le_LANE_WINDOW).toNat
  let ev := (tget (fun _ => []) g.events lane).filter (fun t => s.now - t ≤ win) ++ [s.now]
  let lim := s.fld (Page.le e) Reg.le_LE_CFG 4 4
  let s := s.setEng e { g with events := tset (fun _ => []) g.events lane ev,
                               lasting := if lim ≤ ev.length then g.lasting ||| BitVec.ofNat 16 (2 ^ lane) else g.lasting }
  let s := s.count (Page.le e) Reg.le_LANE_MISM_TOTAL
  s.setFld (Page.le e) (if lane < 8 then Reg.le_LANE_CNT_LO else Reg.le_LANE_CNT_HI) (lane % 8 * 4) 4 (min ev.length 15)

/-- LANE_MISMATCH (R294, R302): outputs of the slot held, counted per lane; a lasting fault fails the engine. -/
def State.laneMismatch (s : State) (e l lanes : Nat) : State :=
  if (s.eng e).st ≠ .running then s
  else
    let ls := (List.range 16).filter (fun i => lanes.testBit i)
    if ls.isEmpty then s
    else
      let x := s.loop e l
      let s := match x.cap with
        | some c => s.setLoop e l { x with cap := some { c with lost := true } }
        | none => s
      let s := ls.foldl (fun s i => s.laneCount e i) s
      let lane := ls.getD 0 0
      let s := s.setReg (Page.le e) Reg.le_LAST_LANE_EVT (BitVec.ofNat 32 (lane + l * 256))
      let s := if x.shadow then (s.raise (Page.le e) 0).journalReg (Page.le e) 0x0100 Reg.le_LAST_LANE_EVT
        else s.engineFault e 0 Reg.le_LAST_LANE_EVT
      if (s.eng e).lasting = 0#16 then s else s.engineFailed e

/-- LANE_INJECTION_TEST and lane LBIST (R300, R301): a lane not enabled makes its engine FAILED. -/
def State.laneTests (s : State) (e : Nat) (bad : BitVec 16) : State :=
  if bad = 0 then s else (s.setEng e { s.eng e with notEnabled := bad, st := .failed }).raise (Page.le e) 1

/-- SNAPSHOT_FREEZE (R260, R309): the snapshot lines of all configured loops, each record two lines. -/
def State.snapLines (s : State) : List ProofLine :=
  (List.range 2).flatMap (fun e => (s.loopsOf e).flatMap (fun l =>
    let line (k : Nat) : ProofLine :=
      { target := 0xA + e, line := l * 2 + k, data := BitVec.ofNat 512 (s.loadLE (leBase e + 0x100000 + l * 128 + k * 64) 64) }
    [line 0, line 1]))

/-- A snapshot line is applied on the standby: into the staging record of its loop (R311). -/
def State.stageSnap (s : State) (p : ProofLine) : State :=
  let e := p.target - 0xA
  let l := p.line / 2
  let s := s.storeLE (leBase e + 0x110000 + l * 128 + p.line % 2 * 64) 64 p.data.toNat
  if p.line % 2 = 1 ∧ tget (fun _ => ({} : LoopRt)) s.loops (e * 512 + l) ≠ {} then s.setLfl e l { s.lfl e l with staged := true } else s

/-! ### Writes by other masters (R288, R305, R332, R343, R345) -/

/-- Whether a write of another master at an offset of the window of engine e is accepted: the state after it, counting a discard or clearing VALID. Of the tables of the setpoint schedule unit, R335 names P0 and P1 as the writers: a write at P2 is discarded, and so is one of the run records, in no counter, since R348 counts those of R332 and R343 only. DESIGN CHOICE: notes/assumptions/58.md. -/
def State.leWrite (s : State) (e off : Nat) (pr : Priv) : State × Bool :=
  let g := s.eng e
  let named (b : Bool) (n : Nat) : List Nat := namedLoops (s.entries e b n)
  let dsc : State × Bool := (s.count (Page.le e) Reg.le_DSC_WR_DISCARD, false)
  let spb : State × Bool := ((s.count (Page.sq e) Reg.sq_SPB_WR_DISCARD).raise (Page.sq e) 4, false)
  let shadowN := (s.reg (Page.le e) Reg.le_SHADOW_LEN).toNat
  if off < 0x100000 then
    if (s.loopsOf e).contains (off / 0x800) then dsc
    else if g.valid && (named (!g.bank) shadowN).contains (off / 0x800) then (s.schedInvalid e, true) else (s, true)
  else if off < 0x120000 then dsc
  else if off < 0x140000 then
    if (decide (0x130000 ≤ off)) ≠ g.bank then (s.schedInvalid e, true) else if g.hasBank then dsc else (s, true)
  else if off < 0x142000 then dsc
  else if off < 0x180000 then (s, true)
  else if off < 0x1C0000 ∧ pr = .p2 then (s, false)
  else if off < 0x190000 then
    let l := (off - 0x180000) / 0x80
    if (s.loopsOf e).contains l then spb
    else if g.valid && (named (!g.bank) shadowN).contains l then (s.schedInvalid e, true) else (s, true)
  else if off < 0x190400 then (if (s.rcp e ((off - 0x190000) / 16)).active then spb else (s, true))
  else if off < 0x190800 then (s, false)
  else if off < 0x1C0000 then
    let i := (off - 0x190800) / 16
    if (List.range 64).any (fun k => (s.rcp e k).active && decide (s.rcpFirst e k ≤ i ∧ i < s.rcpFirst e k + s.rcpCount e k)) then spb else (s, true)
  else dsc

/-! ### Commands -/

/-- LOOP_SAMPLE (R282) of sample j of loop l. -/
def execLoopSample (e : Fin 2) (l : BitVec 9) (j : Nat) (s : State) : Res := .next (s.loopSample e.val l.toNat j)

/-- LOOP_EVALUATION (R278, R285): at the start of the slot that the active bank gives the sample. -/
def State.loopEvaluate (s : State) (e l : Nat) : State :=
  let x := s.loop e l
  match x.cap with
  | some c =>
    if !s.loopRuns e l || c.lost then s
    else
      let g := s.eng e
      match s.leReads e [(bankOff g.bank, (s.reg (Page.le e) Reg.le_ACTIVE_LEN).toNat * 8), (l * 0x800, 0x800)] with
      | (s, false) => s
      | (s, true) => if s.slotDue e l c.j then s.setLoop e l { x with res := some (s.evalLoop e l c) } else s
  | none => s

/-- LOOP_EVALUATION (R278, R285). -/
def execLoopEvaluation (e : Fin 2) (l : BitVec 9) (s : State) : Res := .next (s.loopEvaluate e.val l.toNat)

/-- LOOP_OUTPUT_INSTANT (R282). -/
def execLoopOutputInstant (e : Fin 2) (l : BitVec 9) (s : State) : Res := .next (s.loopOutput e.val l.toNat)

/-- LANE_MISMATCH (R302). -/
def execLaneMismatch (e : Fin 2) (l : BitVec 9) (lanes : Half) (s : State) : Res := .next (s.laneMismatch e.val l.toNat lanes.toNat)

/-- FRAME_START (R285). -/
def execFrameStart (e : Fin 2) (s : State) : Res := .next (s.ifAlive fun s => s.frameStart e.val)

/-- VALIDATE (R305). -/
def execValidate (e : Fin 2) (priv : Priv) (s : State) : Res := .next (s.schedValidate e.val priv)

/-- VALIDATION_DONE (R305). -/
def execValidationDone (e : Fin 2) (s : State) : Res := .next (s.validationDone e.val)

/-- SWITCH (R306). -/
def execSwitch (e : Fin 2) (priv : Priv) (s : State) : Res := .next (s.schedSwitch e.val priv)

/-- SCHED_CANCEL (R317). -/
def execSchedCancel (e : Fin 2) (priv : Priv) (s : State) : Res := .next (s.schedCancel e.val priv)

/-- LE_ENABLE (R316). -/
def execLeEnable (e : Fin 2) (v : Bool) (s : State) : Res := .next (s.leEnable e.val v)

end Sys2Proof.Machine
end

