-- ==== Sys2Proof/Machine/TimeBase.lean ====
section
/-! DEFINITION. The time base: states, servo, steps, pulse per second, calendar (R351 to R359, R382). -/

namespace Sys2Proof.Machine

/-- Whether source 1 of R357 applies. -/
def TimeBase.src1 (b : TimeBase) : Bool :=
  b.utcFromPtp && b.src == .ptp && (b.st == .acquiring || b.st == .locked || b.st == .holdover)

/-- The time base takes a new state: a change of STATE sets STATE_CHG, the end of source 1 leaves UTC_OFFSET written (R354, R357). -/
def State.setTb (s : State) (b : TimeBase) : State :=
  let chg := s.tb.st != b.st
  let b := if s.tb.src1 && !b.src1 then { b with utcWritten := true } else b
  let s := { s with tb := b }
  if chg then s.raise Page.tb 0 else s

/-- Code of the state (R354) and of the source (R382). -/
def TbSt.code : TbSt → Nat
  | .unset => 0 | .freerun => 1 | .acquiring => 2 | .locked => 3 | .holdover => 4
def TbSrc.code : TbSrc → Nat
  | .none => 0 | .ptp => 1 | .pps => 2

/-- clockClass and clockAccuracy of the module itself (R361). -/
def State.ownClock (s : State) : Nat × Nat :=
  let b := s.tb
  if s.rbit Page.ptp Reg.ptp_PTP_CFG 3 then (255, 0xFE)
  else if b.st = .locked ∧ b.src = .pps then (6, 0x21)
  else if b.st = .holdover ∧ b.src = .pps then (7, 0x22)
  else if b.st = .freerun ∧ b.past = .pps then (52, 0xFE)
  else (248, 0xFE)

/-- TB_STAT (R382). -/
def State.tbStat (s : State) : Word :=
  let b := s.tb
  BitVec.ofNat 32 (b.st.code + (if b.stepBlocked then 8 else 0) + (if b.leapPend then 16 else 0) + (if b.leapNeg then 32 else 0)
    + (if b.src1 || b.utcWritten then 64 else 0) + s.ownClock.1 * 256 + b.src.code * 2 ^ 16)

/-- UTC_OFFSET (R357, R358): during an inserted second the offset has not grown yet. -/
def State.utcOffsetReg (s : State) : Word :=
  (BitVec.ofInt 16 (if s.tb.leapAt = some s.tb.time.sec then s.tb.utc - 1 else s.tb.utc)).zeroExtend 32

/-- HOLDOVER_TIME (R382). -/
def State.holdoverTime (s : State) : Nat := if s.tb.st = .holdover then (s.now - s.tb.holdSince) / 250000000 else 0

/-- Whether R353 permits a step. -/
def State.tbMayStep (s : State) : Bool := !(s.isActive && s.bell.mode == .run) || s.rbit Page.tb Reg.tb_TB_CFG 1

/-- A TIME record: seconds and nanoseconds added, 0 for the first setting and 1 for a step (R519, R521). -/
def State.timeRecord (s : State) (dns : Int) (step : Bool) : State :=
  s.offer (s.ownRec 6 (BitVec.ofInt 32 (dns.tdiv 1000000000)) (BitVec.ofInt 32 (dns.tmod 1000000000)) (if step then 1 else 0))

/-- A step (R353): the new time at one TCLK edge, rounded down to 4 ns; loops, launch queues and sampled values follow (R304, R366, R373). -/
def State.tbStep (s : State) (ns : Nat) : State :=
  let first := s.tb.st == .unset
  let ns := ns / 4 * 4
  let dns : Int := (ns : Int) - s.tb.time.toNs
  let s := { s with tb := { s.tb with time := Time.ofNs ns, stepAt := ns, stepBlocked := false } }
  let s := (s.count Page.tb Reg.tb_STEP_CNT).raise Page.tb 1
  let s := s.timeRecord dns (!first)
  ((s.leSlip 0).leSlip 1).rejudge

/-- A signed value saturated as OFFSET and PPS_ERR show it (R382). -/
def satOffset (v : Int) : Word := BitVec.ofInt 32 (max (-0x7FFFFFFF) (min 0x7FFFFFFF v))

/-- FREQ_ADJ in 0.001 ppb: a correction within the ±10 ppm of the DAC, in its steps of 0.1 ppb (R352). -/
def State.setFreq (s : State) (v : Int) : State :=
  s.setReg Page.tb Reg.tb_FREQ_ADJ (BitVec.ofInt 32 (max (-10000000) (min 10000000 (v / 100 * 100))))

/-- The correction that the servo learns from an offset: a free value within ±10 ppm (R352). -/
def State.learnFreq (s : State) : State :=
  let v := (Config.freeWord s.freeCtr).toNat % 200001
  { s with freeCtr := s.freeCtr + 1, tb := { s.tb with learned := (v : Int) * 100 - 10000000 } }

/-- What the servo adds to the learned correction to remove an offset θ: at most SLEW_MAX, a free value of the sense that removes it; SLEW_MAX itself where a step is blocked (R353). How the servo comes to these values the manual does not say: notes/assumptions/22.md. -/
def State.slewAdd (s : State) (th : Int) (full : Bool) : Int :=
  let m : Int := (s.reg Page.tb Reg.tb_SLEW_MAX).toNat * 1000
  let a : Int := if full then m else ((Config.freeWord s.freeCtr).toNat : Int) % (m + 1)
  if th = 0 then 0 else if 0 < th then -a else a

/-- The servo slews (R353). -/
def State.newFreq (s : State) (th : Int) (full : Bool) : State :=
  let s := s.learnFreq
  let v := s.slewAdd th full
  ({ s with freeCtr := s.freeCtr + 1 }).setFreq (s.tb.learned + v)

/-- A source becomes available or returns: FREERUN and HOLDOVER go to ACQUIRING (R354); a followed source may be replaced. -/
def State.tbFollow (s : State) (src : TbSrc) : State :=
  let b := s.tb
  match b.st with
  | .unset => s
  | .freerun | .holdover => s.setTb { b with st := .acquiring, src := src, past := .none, good := 0, bad := 0 }
  | .acquiring | .locked => if b.src = src then s else s.setTb { b with st := .acquiring, src := src, good := 0, bad := 0 }

/-- The followed source is lost (R354). -/
def State.tbLost (s : State) (src : TbSrc) : State :=
  let b := s.tb
  if b.src ≠ src then s
  else match b.st with
    | .acquiring => s.setTb { b with st := .freerun, src := .none, stepBlocked := false }
    -- the correction last learned is held, without what removed an offset
    | .locked => (s.setTb { b with st := .holdover, holdSince := s.now, stepBlocked := false }).setFreq b.learned
    | _ => s

/-- Locking by offsets in a row (R354). -/
def State.tbJudge (s : State) (a : Nat) : State :=
  let b := s.tb
  let lim := (s.reg Page.tb Reg.tb_LOCK_THRESH).toNat
  match b.st with
  | .acquiring =>
    let g := if a ≤ lim then b.good + 1 else 0
    if g = 16 then s.setTb { b with st := .locked, good := 0, bad := 0 } else { s with tb := { b with good := g } }
  | .locked =>
    let n := if a > 4 * lim then b.bad + 1 else 0
    if n = 4 then s.setTb { b with st := .acquiring, good := 0, bad := 0 } else { s with tb := { b with bad := n } }
  | _ => s

/-- The servo takes an offset θ from its source (R353, R354). -/
def State.tbOffset (s : State) (src : TbSrc) (th : Int) : State :=
  let a := th.natAbs
  let s := s.setReg Page.tb Reg.tb_OFFSET (satOffset th)
  let big := decide (a > (s.reg Page.tb Reg.tb_STEP_THRESH).toNat)
  let unset := s.tb.st == .unset
  let go := !big || s.tbMayStep
  let s :=
    if big && s.tbMayStep then s.tbStep ((s.tb.time.toNs : Int) - th).toNat
    else
      let s := { s with tb := { s.tb with stepBlocked := big } }
      let s := if unset && go then s.timeRecord 0 false else s
      s.newFreq th big
  -- the first setting by a source leaves UNSET
  let s := if unset && go then s.setTb { s.tb with st := .acquiring, src := src, good := 0, bad := 0 } else s
  s.tbJudge a

/-! ### Commands -/

/-- PPS_IN (R356): the error against the nearest second; the edge disciplines the time base while no PTP master is followed. -/
def execPpsIn (sub : BitVec 2) (s : State) : Res :=
  .next (
    if s.rbit Page.tb Reg.tb_TB_CFG 0 then
      let ns := s.tb.time.ns + sub.toNat
      let th : Int := if ns < 500000000 then ns else (ns : Int) - 1000000000
      let s := s.setReg Page.tb Reg.tb_PPS_ERR (satOffset th)
      if s.tb.everSet && s.fld Page.ptp Reg.ptp_SLAVE_PORT 0 3 == 0 then (s.tbFollow .pps).tbOffset .pps th else s
    else s)

/-- PPS_IN_LOSS (R354). -/
def execPpsInLoss (s : State) : Res := .next (s.tbLost .pps)

/-- HOLDOVER_EXPIRY (R354): FREERUN; the source that expired decides the clockClass (R361). -/
def execHoldoverExpiry (s : State) : Res :=
  .next (
    if s.tb.st = .holdover then
      (s.setTb { s.tb with st := .freerun, past := s.tb.src, src := .none }).raise Page.tb 3
    else s)

/-- PPS_OUT (R356): the pulse of a TAI second. -/
def execPpsOut (s : State) : Res :=
  .next (if s.rbit Page.tb Reg.tb_TB_CFG 2 && s.tb.st != .unset then ({ s with ppsOut := true }).send .ppsOut [s.tb.time.sec] else s)

/-- PPS_OUT_FALL (R356): 100 ms after the start of the second. -/
def execPpsOutFall (s : State) : Res := .next { s with ppsOut := false }

/-- What the master announced before a leap second holds after it with the offset moved and the announcement fulfilled, until its next Announce (R358). -/
def PtpPort.leapDone (p : PtpPort) (d : Int) : PtpPort :=
  { p with foreign := p.foreign.map (fun a => if a.leap61 || a.leap59 then { a with utc := a.utc + d, leap61 := false, leap59 := false } else a) }

/-- LEAP_SECOND (R358): at the end of the UTC day the announced second is inserted or omitted. -/
def execLeapSecond (s : State) : Res :=
  .next (
    if s.tb.leapPend then
      let b := s.tb
      let d : Int := if b.leapNeg then -1 else 1
      let b := if b.leapNeg then { b with utc := b.utc - 1 } else { b with utc := b.utc + 1, leapAt := some b.time.sec }
      ({ s with tb := { b with leapPend := false, leapNeg := false }, ptpPorts := s.ptpPorts.map (fun (e : Nat × PtpPort) => (e.1, e.2.leapDone d)) }).raise Page.tb 2
    else s)

/-- SET (R382): the SET registers as a step; refused while the source is PTP or no step is permitted. -/
def State.tbSet (s : State) (pr : Priv) : State :=
  if pr = .p2 ∨ s.tb.src = .ptp ∨ ¬ s.tbMayStep then s.err Page.tb
  else
    let sec := (s.reg Page.tb Reg.tb_SET_SEC_LO).toNat + 2 ^ 32 * (s.reg Page.tb Reg.tb_SET_SEC_HI).toNat
    let unset := s.tb.st == .unset
    let s := s.tbStep (sec * 1000000000 + (s.reg Page.tb Reg.tb_SET_NS).toNat)
    let s := { s with tb := { s.tb with everSet := true } }
    if unset then s.setTb { s.tb with st := .freerun } else s

/-- LEAP_INS, LEAP_DEL and LEAP_CANCEL (R358, R382); ignored and counted while source 1 of R357 announces. DEDUCED: notes/assumptions/22.md. -/
def State.tbLeap (s : State) (pr : Priv) (pend neg : Bool) : State :=
  if pr = .p2 ∨ s.tb.src1 then s.err Page.tb
  else { s with tb := { s.tb with leapPend := pend, leapNeg := neg } }

/-- A write of UTC_OFFSET (R357). -/
def State.tbUtc (s : State) (v : Half) : State :=
  if s.tb.src1 then s.err Page.tb else { s with tb := { s.tb with utc := v.toInt, utcWritten := true } }

/-- SET (R382). -/
def execSet (priv : Priv) (s : State) : Res := .next (s.tbSet priv)

/-- LEAP_INS (R358). -/
def execLeapIns (priv : Priv) (s : State) : Res := .next (s.tbLeap priv true false)

/-- LEAP_DEL (R358). -/
def execLeapDel (priv : Priv) (s : State) : Res := .next (s.tbLeap priv true true)

/-- LEAP_CANCEL (R358). -/
def execLeapCancel (priv : Priv) (s : State) : Res := .next (s.tbLeap priv false false)

/-- UTC_OFFSET (R357). -/
def execUtcOffset (v : BitVec 16) (s : State) : Res := .next (s.tbUtc v)

end Sys2Proof.Machine
end

