-- ==== Sys2Proof/Machine/SampledValues.lean ====
section
/-! DEFINITION. Sampled values: checks, alignment, loss, quality, publishing (R368 to R377, R386). -/

namespace Sys2Proof.Machine

/-- Stream i: configuration and running state. -/
def State.svCfg (s : State) (i : Nat) : Option SvCfg := tget (fun _ => none) s.net.streams i
def State.sv (s : State) (i : Nat) : SvRt := tget (fun _ => {}) s.svs i
def State.setSv (s : State) (i : Nat) (x : SvRt) : State := { s with svs := tset (fun _ => {}) s.svs i x }

/-- Configured streams, rising. -/
def State.svStreams (s : State) : List Nat := (s.net.streams.filter (fun e => e.2.isSome)).map Prod.fst

/-- Samples per second (R368). -/
def SvProfile.rate : SvProfile → Nat
  | .le4000 => 4000 | .le4800 => 4800 | .p4800 => 4800 | .p14400 => 14400

/-- Instant of sample c of TAI second S, in ns (R371). -/
def svInstant (rate sec c : Nat) : Nat := sec * 1000000000 + c * 250000000 / rate * 4

/-- ALIGN_DELAY of a group in ns. -/
def State.alignDelay (s : State) (g : Nat) : Nat := (s.reg Page.sv (Reg.sv_ALIGN_DELAY g)).toNat * 1000

/-- The instant of smpCnt c within 500 ms before an arrival (R371). -/
def svAssign (rate now c : Nat) : Option Nat :=
  let s0 := now / 1000000000
  [svInstant rate s0 c, svInstant rate (s0 - 1) c].find? (fun i => decide (i ≤ now ∧ now ≤ i + 500000000))

/-! ### Quality (R375) -/

/-- QUAL that an IEC 61850 quality gives: the worst row. -/
def Quality.qual (q : Quality) : Nat :=
  max (match q.validity with | .good => 0 | .questionable => 1 | .invalid => 2 | .reserved => 2)
    (max (if q.failure then 2 else 0)
      (if q.badReference || q.oscillatory || q.inconsistent || q.inaccurate || q.oldData || q.operatorBlocked then 1 else 0))

/-- Whether DETAIL 0x4 applies. -/
def Quality.detail4 (q : Quality) : Bool := q.badReference || q.oscillatory || q.inconsistent || q.inaccurate || q.oldData

/-- The status word of a quality in a class; `unsync` adds DETAIL 0x6 (R373, R375). Order of DETAIL: 0x5, 0x4, 0x6. -/
def Quality.status (q : Quality) (cls : Nat) (unsync : Bool) : Half :=
  stWord (max q.qual (if unsync then 1 else 0)) q.substituted false (q.overflow || q.outOfRange) q.test q.failure cls
    (if q.operatorBlocked then 5 else if q.detail4 then 4 else if unsync then 6 else 0)

/-- The quality a status word maps back to (R377). -/
def qualityOf (st : Half) : Quality :=
  { validity := if stQual st = 0 then .good else if stQual st = 1 then .questionable else .invalid
    substituted := bit st 13, test := bit st 9, outOfRange := bit st 10 }

/-! ### Checks (R370) -/

/-- The value of a sample: INT32 × SCALE rounded once to binary32 (R372). -/
def svValue (v scale : Word) : Word := BitVec.ofNat 32 (mulV f32 (.fin (decide (v.toInt < 0)) v.toInt.natAbs 0) (unpackF f32 scale.toNat)).1

/-- Streams whose address, VLAN and APPID match a frame (order 1). -/
def State.svMatch (s : State) (f : SvFrame) : List Nat :=
  s.svStreams.filter (fun i =>
    match s.svCfg i with
    | none => false
    | some c => f.etherType == 0x88BA#16 && c.dstMac == f.dstMac && c.appid == f.appid && (c.vlan == 0 || f.vlan == some c.vlan))

/-- The ASDU checks and the acceptance of one ASDU of stream i (orders 5 to 7, R477). -/
def State.svAsdu (s : State) (i : Nat) (c : SvCfg) (a : SvAsdu) : State :=
  let now := s.tb.time.toNs
  if a.smpCnt ≥ c.profile.rate ∨ a.smpSynch < c.reqSync then s.count Page.sv Reg.sv_SV_SMP_ERR
  else
    let x := s.sv i
    match svAssign c.profile.rate now a.smpCnt with
    | none => s.count Page.sv Reg.sv_SV_SMP_ERR
    | some t =>
      if x.samples.any (fun y => y.instant == t) then s.count Page.sv Reg.sv_SV_DUP
      else if now > t + s.alignDelay c.group then s.count Page.sv Reg.sv_SV_LATE
      else
        let keep := x.samples.filter (fun y => decide (now ≤ y.instant + 600000000))
        let s := s.setSv i { x with samples := keep ++ [{ instant := t, vals := a.vals }] }
        if x.loss then s
        else
          (a.vals.zipIdx).foldl (fun s v =>
            if v.1.2.validity = .good then
              (s.cmpsOf (i * 8 + v.2)).foldl (fun s k => s.cmpSample k (svValue v.1.1 (elt c.scale v.2))) s
            else s) s

/-- A frame that a port discards for a length (R10): the counter of its check with a record, and LEN_DISCARD of the port (R384). -/
def State.portLen (s : State) (port : Nat) : State :=
  (s.discard Page.sv Reg.sv_SV_LEN_ERR).count (Page.port port) Reg.port_LEN_DISCARD

/-- A sampled-value frame on a port (R370). -/
def State.svFrame (s : State) (port : Nat) (f : SvFrame) : State :=
  let cand := s.svMatch f
  let named := fun i => match s.svCfg i, f.asdus with | some c, a :: _ => c.svid == a.svid | _, _ => false
  match (cand.find? named).orElse (fun _ => cand.head?) with
  | none => s.count Page.sv Reg.sv_SV_NOMATCH
  | some i =>
    match s.svCfg i with
    | none => s
    | some c =>
      if !f.lenOk then s.portLen port
      else if f.sim && !c.simAccept then s.count Page.sv Reg.sv_SV_SIM
      else if f.noAsdu ≠ c.noAsdu ∨ f.asdus.length ≠ c.noAsdu
          ∨ f.asdus.any (fun a => a.svid != c.svid || a.confRev != c.confRev || a.bytes != c.nval * 8) then
        s.count Page.sv Reg.sv_SV_CFG_ERR
      else f.asdus.foldl (fun s a => s.svAsdu i c a) s

/-! ### Alignment and loss (R372 to R374) -/

/-- SV_SSTAT (R386): CONFIGURED, LOSS, RECOVERING, UNSTABLE, loss count, instants missed. -/
def State.svStat (s : State) (i : Nat) : Word :=
  let x := s.sv i
  BitVec.ofNat 32 ((if (s.svCfg i).isSome then 1 else 0) + (if x.loss then 2 else 0) + (if x.loss && x.good != 0 then 4 else 0)
    + (if x.unstable then 8 else 0) + min x.losses.length 15 * 16 + min x.miss 255 * 256)

/-- A stream loss is declared and counted in its window (R374). -/
def State.svLoss (s : State) (i : Nat) : State :=
  let x := s.sv i
  let win := (s.reg Page.sv Reg.sv_SV_LOSS_WINDOW).toNat * 250000000
  let l := x.losses.filter (fun t => decide (s.now ≤ t + win)) ++ [s.now]
  let hit := decide (s.fld Page.sv Reg.sv_SV_LOSS_LIMIT 0 4 ≤ l.length)
  let s := s.setSv i { x with loss := true, losses := l, unstable := x.unstable || hit }
  let s := ((s.cause 1).count Page.sv Reg.sv_SV_LOSS_TOTAL).raise Page.sv 0
  let s := if hit && !x.unstable then s.raise Page.sv 1 else s
  let s := s.journal Page.sv 0x0100 (Reg.sv_SV_SSTAT i) (s.svStat i)
  s.cmpFail i

/-- The counts of a stream at the publication of an instant (R374). -/
def State.svCount (s : State) (i : Nat) (c : SvCfg) (got : Bool) : State :=
  let x := s.sv i
  if got then
    let x := { x with miss := 0, good := x.good + 1 }
    let hold := x.unstable && s.rbit Page.sv Reg.sv_SV_CFG 0
    if x.loss ∧ c.recoverN ≤ x.good ∧ ¬ hold then
      -- the comparators judge anew from their fail state
      s.setSv i { x with loss := false, good := 0 }
    else s.setSv i x
  else
    let x := { x with miss := x.miss + 1, good := 0 }
    let s := s.setSv i x
    if !x.loss ∧ x.miss = c.lossN then s.svLoss i else s

/-- The mean of two binary32 values in binary64, rounded once (R372). -/
def svMean (a b : Word) : Word := toS ((fdiv f64 (fadd f64 (toD a) (toD b)).1 (fOfInt f64 2).1).1)

/-- One value of a stream at the publication of instant t (R372, R373). -/
def State.svPublishVal (s : State) (i v t before after : Nat) (c : SvCfg) : State :=
  let x := s.sv i
  let ch := i * 8 + v
  let at_ := fun t => (x.samples.find? (fun y => y.instant == t)).bind (fun y => y.vals[v]?)
  let unsync := s.tb.st == .unset || s.tb.st == .freerun || s.tb.st == .acquiring
  let last := (s.chan (0x1000 + ch)).value
  let interp := bit (s.reg Page.sv Reg.sv_SV_CFG) (16 + c.group)
  let (val, st) :=
    if x.loss then (last, stWord 2 false true false false true 2 3)
    else match at_ t, at_ before, at_ after with
      | some (w, q), _, _ => (svValue w (elt c.scale v), q.status 2 unsync)
      | none, some (a, _), some (b, _) =>
        if interp then (svMean (svValue a (elt c.scale v)) (svValue b (elt c.scale v)), stWord 1 true false false false false 2 1)
        else (last, stWord 1 false true false false false 2 2)
      | none, _, _ => (last, stWord 1 false true false false false 2 2)
  s.setChan (0x1000 + ch) { value := val, status := st, time := t }

/-- GROUP_PUBLISH (R372, R373): instant c of a second, unless its publication time does not lie after the last step. -/
def State.svGroup (s : State) (g sec c : Nat) : State :=
  let l := s.svStreams.filter (fun i => match s.svCfg i with | some x => x.group == g | none => false)
  l.foldl (fun s i =>
    match s.svCfg i with
    | none => s
    | some cfg =>
      let rate := cfg.profile.rate
      let t := svInstant rate sec c
      if c ≥ rate ∨ t + s.alignDelay g ≤ s.tb.stepAt then s
      else
        let before := if c = 0 then svInstant rate (sec - 1) (rate - 1) else svInstant rate sec (c - 1)
        let after := if c + 1 = rate then svInstant rate (sec + 1) 0 else svInstant rate sec (c + 1)
        let s := s.svCount i cfg ((s.sv i).samples.any (fun y => y.instant == t))
        (List.range cfg.nval).foldl (fun s v => s.svPublishVal i v t before after cfg) s) s

/-! ### Publishing (R376, R377) -/

/-- The value of a source binding with its status and its time in ns, that of the flip for a forme handle; none where EN = 0. -/
def State.pubSource (s : State) (b : Word) : Option (Word × Half × Nat) :=
  let idx := fieldNat b 0 16
  let ch := fun (c : MChan) => some (c.value, c.status, c.time)
  if !bit b 31 then none
  else match fieldNat b 28 3 with
    | 0 => ch (s.chan (idx % 0x1000))
    | 1 => ch (s.chan (0x1000 + idx % 0x1000))
    | 2 => ch (s.chan (0x2000 + idx % 0x1000))
    | 4 => ch (s.bindVal (idx / 4096 % 2) (0xC000 + idx % 0x1000))
    | 6 => let f := s.engineSlot idx; some (f.value, f.status, s.bell.flipTime.toNs)
    | _ => none

/-- The latest value whose time lies at or before the instant t (R377): the source's value, or where that is later, what an earlier instant took (`last`); before the first, value 0 with QUAL bad. DESIGN CHOICE: notes/assumptions/43.md. -/
def State.pubTake (s : State) (b : Word) (t : Nat) (last : Option (Word × Half)) : Option (Word × Half) :=
  (s.pubSource b).map (fun x => if x.2.2 ≤ t then (x.1, x.2.1) else last.getD (0, 0x8100#16))

/-- A quotient of naturals rounded to nearest, ties to even. -/
def divNear (n d : Nat) : Nat :=
  let q := n / d
  let r := 2 * (n % d)
  if d < r ∨ (r = d ∧ q % 2 = 1) then q + 1 else q

/-- value / SCALE rounded once to nearest, saturating with overflow (R377). The result for a NaN is not stated: a free value, with overflow. DESIGN CHOICE: notes/assumptions/43.md. -/
def pubInt (v scale : Word) (free : Word) : Word × Bool :=
  match unpackF f32 v.toNat, unpackF f32 scale.toNat with
  | .fin n1 s1 e1, .fin n2 s2 e2 =>
    let q := divNear (s1 * 2 ^ (e1 - e2).toNat) (s2 * 2 ^ (e2 - e1).toNat)
    let n : Int := if n1 = n2 then q else -(q : Int)
    (BitVec.ofInt 32 (max (-2147483648) (min 2147483647 n)), decide (n < -2147483648 ∨ 2147483647 < n))
  | .inf n1, .fin n2 _ _ => (if n1 = n2 then 0x7FFFFFFF#32 else 0x80000000#32, true)
  | _, _ => (free, true)

/-- One published value. -/
def pubVal (x : Option (Word × Half)) (scale free : Word) : SvPubVal :=
  match x with
  | none => { value := 0, quality := { validity := .invalid } }
  | some (v, st) =>
    let (n, o) := pubInt v scale free
    { value := n, quality := { qualityOf st with overflow := o } }

/-- PUB_DELAY in ns: 8 µs to one sample period, the reset value of 20 µs where the configuration names another (R377). -/
def SvPubCfg.delay (c : SvPubCfg) : Nat :=
  if 8000 ≤ c.pubDelay ∧ c.pubDelay * c.profile.rate ≤ 1000000000 then c.pubDelay else 20000

/-- A quality as the bits of IEC 61850: validity, then the details that R377 maps. -/
def Quality.bits (x : Quality) : Nat :=
  (match x.validity with | .good => 0 | .invalid => 1 | .reserved => 2 | .questionable => 3)
    + (if x.overflow then 4 else 0) + (if x.outOfRange then 8 else 0) + (if x.substituted then 1024 else 0) + (if x.test then 2048 else 0)

/-- smpSynch of the module (R377). -/
def TbSt.smpSynch : TbSt → Nat
  | .locked => 2 | .holdover => 2 | .freerun => 1 | .acquiring => 1 | .unset => 0

/-- SV_PUBLISH (R377): the sample of the instant at or before now; the frame is launched when its last ASDU is formed. -/
def State.svPublish (s : State) (p : Nat) : State :=
  match tget (fun _ => none) s.net.pubs p with
  | none => s
  | some c =>
    let rate := c.profile.rate
    let n := ((s.tb.time.ns + 4) * rate - 1) / 1000000000
    let t := svInstant rate s.tb.time.sec n
    let gm := if (c.profile = .p4800 ∨ c.profile = .p14400) ∧ s.tb.src = .ptp ∧ (s.tb.st = .acquiring ∨ s.tb.st = .locked) then
        some (s.reg Page.ptp Reg.ptp_GM_ID_HI ++ s.reg Page.ptp Reg.ptp_GM_ID_LO) else none
    let x := tget (fun _ => {}) s.svPubs p
    let took := c.binds.zipIdx.map (fun e => s.pubTake e.1 t (tget (fun _ => none) x.last e.2))
    let free := Config.freeWord s.freeCtr
    let s := { s with freeCtr := s.freeCtr + 1 }
    let a : SvPubAsdu := { smpCnt := n, smpSynch := s.tb.st.smpSynch, gm := gm, vals := (took.zip c.scale).map (fun e => pubVal e.1 e.2 free) }
    let l := x.asdus ++ [a]
    let last := (took.zipIdx).foldl (fun m e => tset (fun _ => none) m e.2 e.1) x.last
    let full := decide (c.noAsdu ≤ l.length)
    let s := { s with svPubs := tset (fun _ => {}) s.svPubs p { asdus := if full then [] else l, last := last } }
    if full then
      let args := p :: l.flatMap (fun a => [a.smpCnt, a.smpSynch, (a.gm.getD 0).toNat] ++ a.vals.flatMap (fun v => [v.value.toNat, v.quality.bits]))
      s.enqueue c.port c.queue { launch := t + c.delay, what := .sampledValue, args := args }
    else s

/-! ### Commands -/

/-- SV_FRAME (R367, R370): a copy that passed duplicate discard is checked. -/
def execSvFrame (port : Fin 4) (tag : Option RedTag) (f : SvFrame) (s : State) : Res :=
  let (s, ok) := s.redAccept port.val tag
  .next (if ok then s.svFrame port.val f else s)

/-- GROUP_PUBLISH (R372). -/
def execGroupPublish (g : Fin 16) (sec c : Nat) (s : State) : Res := .next (s.ifAlive (fun s => s.svGroup g.val sec c))

/-- SV_UNSTABLE_CLEAR (R374). -/
def State.svClear (s : State) (i : Nat) : State := s.setSv i { s.sv i with unstable := false }

/-- SV_UNSTABLE_CLEAR (R374). -/
def execSvUnstableClear (st : BitVec 7) (s : State) : Res := .next (s.svClear st.toNat)

/-- SV_PUBLISH (R377). -/
def execSvPublish (p : Fin 8) (s : State) : Res := .next (s.svPublish p.val)

end Sys2Proof.Machine
end

