-- ==== Sys2Proof/Machine/Goose.lean ====
section
/-! DEFINITION. GOOSE: subscription, supervision, publishing (R378 to R381, R386). -/

namespace Sys2Proof.Machine

/-- Subscription i and its running state. -/
def State.goSub (s : State) (i : Nat) : Option GoSub := tget (fun _ => none) s.net.goSubs i
def State.go (s : State) (i : Nat) : GoRt := tget (fun _ => {}) s.gos i
def State.setGo (s : State) (i : Nat) (x : GoRt) : State := { s with gos := tset (fun _ => {}) s.gos i x }

/-- A member as its handle holds it (R378). -/
def GoType.word (t : GoType) (v : Word) : Word :=
  match t with
  | .boolean => if v = 0#32 then 0#32 else 1#32
  | .int8 => (v.extractLsb' 0 8).signExtend 32
  | .int16 => (v.extractLsb' 0 16).signExtend 32
  | .int8u => (v.extractLsb' 0 8).zeroExtend 32
  | .int16u => (v.extractLsb' 0 16).zeroExtend 32
  | .dbpos => (v.extractLsb' 0 2).zeroExtend 32
  | _ => v

/-- The quality that a Quality member gives member k, good where none does. -/
def goQuality (ms : List GoMember) (vs : List GoVal) (k : Nat) : Quality :=
  ((ms.zip vs).findSome? (fun e =>
    match e with
    | (m, .qual q) => if m.ty = .quality ∧ m.ofMember = k then some q else none
    | _ => none)).getD {}

/-- An accepted message: its values enter the hidden slots of their handles with CLASS 0x3 (R379). -/
def State.goWrite (s : State) (c : GoSub) (m : GoMsg) : State :=
  ((c.members.zip m.vals).zipIdx).foldl (fun s e =>
    let st := (goQuality c.members m.vals e.2).status 3 false
    match e.1 with
    | (x, .num v) => s.inWrite x.handle (x.ty.word v) st
    | (x, .time sec ns) => (s.inWrite x.handle sec st).inWrite (x.handle + 1) ns st
    | (_, .qual _) => s) s

/-- Whether a message matches a subscription (order 1 of R370). -/
def GoSub.hits (c : GoSub) (m : GoMsg) : Bool :=
  c.dstMac == m.dstMac && c.appid == m.appid && (c.vlan == 0 || m.vlan == some c.vlan)

/-- A GOOSE message on a port (R379). -/
def State.goMessage (s : State) (port : Nat) (m : GoMsg) : State :=
  let cand := (s.net.goSubs.filter (fun e => match e.2 with | some c => c.hits m | none => false)).map Prod.fst
  let named := fun i => match s.goSub i with | some c => c.gocbRef == m.gocbRef | none => false
  match (cand.find? named).orElse (fun _ => cand.head?) with
  | none => s.count Page.sv Reg.sv_SV_NOMATCH
  | some i =>
    match s.goSub i with
    | none => s
    | some c =>
      if !m.lenOk then s.portLen port
      else if m.sim && !c.simAccept then s.count Page.sv Reg.sv_SV_SIM
      else if m.gocbRef ≠ c.gocbRef ∨ m.datSet ≠ c.datSet ∨ m.confRev ≠ c.confRev ∨ m.entries ≠ c.members.length then
        s.count Page.sv Reg.sv_SV_CFG_ERR
      else if m.ndsCom then s
      else
        let x := s.go i
        let ok := match x.last with
          | none => some true
          | some (st, sq) =>
            if st ≠ m.stNum then some true
            else if sq = m.sqNum then none
            else some (decide (sq.toNat < m.sqNum.toNat))
        match ok with
        | none => s
        | some false => s.count Page.sv Reg.sv_GO_ORDER
        | some true =>
          let s := s.setGo i { last := some (m.stNum, m.sqNum), armed := true, until_ := s.now + m.tal * 250000 }
          s.goWrite c m

/-- Supervision expires: handles go bad with their last or substitute value (R379). -/
def State.goExpire (s : State) (i : Nat) : State :=
  let x := s.go i
  match s.goSub i with
  | none => s
  | some c =>
    if !x.armed then s
    else
      let s := s.setGo i { x with armed := false }
      let s := c.members.foldl (fun s m =>
        if m.ty = .quality then s
        else
          let f := fun s h =>
            let l := s.inLast h
            s.inWrite h (if c.talSubst then m.subst else l.value)
              (stWord 2 c.talSubst (!c.talSubst) false false true 3 0)
          let s := f s m.handle
          if m.ty = .timestamp then f s (m.handle + 1) else s) s
      let s := (s.count Page.sv Reg.sv_GO_TAL_EXP).raise Page.sv 2
      s.journalReg Page.sv 0x0102 Reg.sv_GO_TAL_EXP

/-! ### Publishing (R380, R381) -/

/-- Control block i and its running state. -/
def State.goPub (s : State) (i : Nat) : GoPubRt := tget (fun _ => {}) s.goPubs i
def State.setGoPub (s : State) (i : Nat) (x : GoPubRt) : State := { s with goPubs := tset (fun _ => {}) s.goPubs i x }

/-- The member values of a control block as the forme holds them, each in its type (R378, R380); a Quality member shows the status of the member that it names, mapped back as in R377. DEDUCED: notes/assumptions/43.md. -/
def State.goVals (s : State) (c : GoPub) : List GoVal :=
  c.members.map (fun m =>
    match m.ty with
    | .timestamp => .time (s.formeValue m.handle) (s.formeValue (m.handle + 1))
    | .quality => .qual (qualityOf (((c.members[m.ofMember]?).map (fun x => (s.engineSlot x.handle).status)).getD 0#16))
    | t => .num (t.word (s.formeValue m.handle)))

/-- A member value as it is sent. -/
def GoVal.args : GoVal → List Nat
  | .num v => [v.toNat]
  | .time sec ns => [sec.toNat, ns.toNat]
  | .qual q => [q.bits]

/-- T_MIN and T_MAX in ms; their reset values where the configuration names others than 1 to 100 and 100 to 60,000 (R380). -/
def GoPub.first (c : GoPub) : Nat := if 1 ≤ c.tMin ∧ c.tMin ≤ 100 then c.tMin else 2
def GoPub.longest (c : GoPub) : Nat := if 100 ≤ c.tMax ∧ c.tMax ≤ 60000 then c.tMax else 1000

/-- A message of a control block is queued for launch at a time; timeAllowedtoLive is twice the interval to the next, in ms. -/
def State.goSend (s : State) (i : Nat) (c : GoPub) (t : Nat) : State :=
  let x := s.goPub i
  s.enqueue c.port c.queue
    { launch := t, what := .goose, args := [i, x.stNum.toNat, x.sqNum.toNat, 2 * x.interval] ++ x.vals.flatMap GoVal.args }

/-- GOOSE_CHANGE (R380, R381): change detection at a forme flip or commit. `transmit`: the module is active; `restart`: its first flip as active. -/
def State.goFlip (s : State) (transmit restart : Bool) : State :=
  s.net.goPubs.foldl (fun s e =>
    match e.2 with
    | none => s
    | some c =>
      let i := e.1
      let x := s.goPub i
      let v := s.goVals c
      if restart || x.vals != v || !x.started then
        let s := s.setGoPub i { stNum := x.stNum + 1#32, sqNum := 0#32, interval := c.first, vals := v, started := true }
        if transmit then s.goSend i c s.tb.time.toNs else s
      else s) s

/-- GOOSE_RETRANSMIT (R380): the next message of the series, at its set time; the interval doubles up to T_MAX. -/
def State.goRetransmit (s : State) (i : Nat) : State :=
  match tget (fun _ => none) s.net.goPubs i with
  | none => s
  | some c =>
    let x := s.goPub i
    if !x.started || !s.isActive then s
    else
      let s := s.setGoPub i { x with sqNum := x.sqNum + 1#32, interval := min c.longest (2 * x.interval) }
      s.goSend i c s.tb.time.toNs

/-- On the standby of a pair that becomes synchronised, the stNum of every published control block is the active's, which the standby follows from then on (R381). How it learns the number the manual does not say: a free value. DESIGN CHOICE: notes/assumptions/43.md. -/
def State.goJoin (s : State) : State :=
  s.net.goPubs.foldl (fun s e =>
    match e.2 with
    | none => s
    | some _ => { s with freeCtr := s.freeCtr + 1 }.setGoPub e.1 { s.goPub e.1 with stNum := Config.freeWord s.freeCtr }) s

/-- Every control block starts at stNum 1 at its next flip: a claim from STANDBY_UNSYNC or a cold start (R381). -/
def State.goRestart (s : State) : State := { s with goPubs := [] }

/-! ### Commands -/

/-- GOOSE_MESSAGE (R367, R379). -/
def execGooseMessage (port : Fin 4) (tag : Option RedTag) (m : GoMsg) (s : State) : Res :=
  let (s, ok) := s.redAccept port.val tag
  .next (if ok then s.goMessage port.val m else s)

/-- GOOSE_TAL_EXPIRY (R379). -/
def execGooseTalExpiry (i : BitVec 9) (s : State) : Res := .next (s.ifAlive (fun s => s.goExpire i.toNat))

/-- GOOSE_RETRANSMIT (R380). -/
def execGooseRetransmit (i : BitVec 7) (s : State) : Res := .next (s.ifAlive fun s => s.goRetransmit i.toNat)

end Sys2Proof.Machine
end

