-- ==== Sys2Proof/Machine/Memory.lean ====
section
/-! DEFINITION. Commands of the memories and of access protection: scrubbing, remap copies, NAND retries, the rule swap (R166, R170 to R176, R184, R187, R199 to R206). -/

namespace Sys2Proof.Machine

/-! ### Scrubbing and remapping (R170 to R175) -/

/-- The page of the scrubber of a memory and whether it runs: CTRL[0] (R26, R30, R184, R186). -/
def State.scrubOn (s : State) (m : Nat) : Bool := s.rbit (memPage m) Reg.com_CTRL 0

/-- SCRUB_POS goes on; at the end of a pass it starts again (R170, R182). -/
def State.scrubNext (s : State) (m : Nat) : State :=
  let p := memPage m
  let k := (s.reg p Reg.rg_SCRUB_POS).toNat + 1
  if k < memWords m then s.setReg p Reg.rg_SCRUB_POS (BitVec.ofNat 32 k)
  else ((s.setReg p Reg.rg_SCRUB_POS 0#32).count p Reg.rg_SCRUB_PASSES).raise p 6

/-- A NAND page read by its scrubber: the page holds no log and no spares (R165, R186); a page with an uncorrectable word is read again (R166), which NAND_READ_RETRY reports. -/
def State.scrubNand (s : State) (e : BitVec 144) : State :=
  let p := memPage 10
  match eccDecode e with
  | .asStored => s
  | .corrected j v =>
    let s := s.count p Reg.rg_CORR_CNT
    let s := s.setReg p Reg.rg_LAST_CORR_ADDR (BitVec.ofNat 32 ((s.reg p Reg.rg_SCRUB_POS).toNat * 4096))
    (s.setReg p Reg.rg_LAST_CORR_INFO (BitVec.ofNat 32 (2 * 2 ^ 12 + j * 16 + v.toNat))).raise p 0
  | .uncorrectable =>
    let page := (s.reg p Reg.rg_SCRUB_POS).toNat
    let s := s.uncorrectable 10 (page * 4096)
    { s with nand := { s.nand with retry := some (page / 64) } }

/-- SCRUB_READ (R170, R171, R214): the scrubber of memory m reads its next word, in which a disturbance has left the error `err`. -/
def execScrubRead (m : Fin 14) (err : BitVec 144) (s : State) : Res :=
  let m := m.val
  if !s.alive || !s.scrubOn m then .next s
  else if m = 10 then .next ((s.scrubNand err).scrubNext m)
  else
    let w := memBase m + (s.reg (memPage m) Reg.rg_SCRUB_POS).toNat * 16
    let s := s.setUpset w (s.upset w ^^^ err)
    .next ((s.eccRead w 2).1.scrubNext m)

/-- REMAP_COPY (R175): the next word of the first line in copy goes to its spare; after the fourth the line switches. -/
def execRemapCopy (m : Fin 14) (s : State) : Res :=
  let m := m.val
  match s.alive, (s.corr m).copying with
  | false, _ => .next s
  | _, [] => .next s
  | _, (line, k) :: rest =>
    let (s, ok) := s.eccRead (line + 16 * k) 5
    if !ok then .next s
    else if k + 1 < 4 then .next (s.setCorr m { s.corr m with copying := (line, k + 1) :: rest })
    else .next (s.remapSwitch m line)

/-- A block is marked bad (R166): its readable pages go to the next block of the reserve, and what it held is read from the other copy, which holds the same; without a reserve block its area shrinks, with a record. -/
def State.nandBad (s : State) (block : Nat) : State :=
  let p := Page.mem 2
  let s := s.setReg p 0x080 (BitVec.ofNat 32 (min 0xFFFF ((s.reg p 0x080).toNat + 1)))
  let n := s.nand
  if n.moved.length = 4096 then { s with nand := { n with bad := n.bad ++ [block] } }.journalReg p 0x01FF 0x080
  else
    let s := { s with nand := { n with bad := n.bad ++ [block], moved := n.moved ++ [(block, nandReserve + n.moved.length)] } }
    s.setReg p 0x084 s.nand.reserveFree

/-- NAND_READ_RETRY (R166, R172) of a page of a block: an uncorrectable page is counted and read again, `retries` times of at most 3. The block is marked bad when each of the three has failed, or, with no retry, when an erase or a program operation on it has failed. -/
def execNandReadRetry (read : NandRead) (bad : Bool) (s : State) : Res :=
  let block := read.block
  let retries := read.retries
  let s :=
    if retries.val = 0 then s
    else
      -- the scrubber has already counted the page that it found
      let s := if s.nand.retry = some block.toNat then s else s.uncorrectable 10 (block.toNat * 0x40000)
      ({ s with nand := { s.nand with retry := none } }).countN (Page.mem 2) 0x088 retries.val
  .next (if bad && (retries.val == 3 || retries.val == 0) && !s.nand.bad.contains block.toNat then s.nandBad block.toNat else s)

/-- CLR_STATS of a region (R184). -/
def State.clrStats (s : State) (g : Nat) : State :=
  let p := Page.region g
  ((s.setReg p Reg.rg_DIRTY_PEAK 0#32).setReg p Reg.rg_RESENT_CNT 0#32).setReg p Reg.rg_LOG_OVF 0#32

/-- CLR_STATS (R184). -/
def execClrStats (g : Fin 8) (s : State) : Res := .next (s.clrStats g.val)

/-- DOUBLED_REFRESH (R187): the highest DRAM device temperature, and the doubled refresh rate above 85 °C. -/
def execDoubledRefresh (temp : BitVec 8) (s : State) : Res :=
  let s := s.setReg (Page.mem 0) 0x080 (temp.zeroExtend 32)
  .next (s.setReg (Page.mem 0) 0x084 (ofBool 32 (85 < temp.toNat)))

/-! ### The rule swap (R199 to R206) -/

/-- The bit of DRAIN_PEND that stands for a master (R206). -/
def drainBit (mid : Nat) : Nat :=
  if mid < 0x18 then mid
  else if mid = 0x20 then 24 else if mid = 0x21 then 25 else if mid = 0x28 then 26 else if mid = 0x29 then 27
  else if mid = 0x2A then 28 else if mid = 0x38 then 29 else if mid = 0x39 then 30 else 31

/-- DRAIN_PEND and SWAP_STAT (R206). -/
def State.drainPend (s : State) : Word := s.prot.pend.foldl (fun w m => w ||| (1#32 <<< drainBit m)) 0#32
def State.swapStat (s : State) : Word :=
  ofBool 32 s.swapBusy ||| (ofBool 32 s.prot.complete <<< 1) ||| (ofBool 32 s.epochBit <<< 2)

/-- SWAP_CMD[SWAP] (R201 step 1); ignored while BUSY. -/
def State.swap (s : State) : State :=
  if s.swapBusy then s.err Page.pctrl
  else
    let s := s.setReg Page.pctrl Reg.pc_RULE_EPOCH (s.reg Page.pctrl Reg.pc_RULE_EPOCH + 1#32)
    { s with prot := { s.prot with pend := masters, swapAt := s.now, complete := false } }

/-- SWAP (R201). -/
def execSwap (s : State) : Res := .next s.swap

/-- Whether a master is at a switching point (R202): a cluster only while it does not execute, a DMA engine not while a migration map has still to run, which runs under the old rules (R205). -/
def State.maySwitch (s : State) (mid : Nat) : Bool :=
  if 16 ≤ mid then decide (0x18 ≤ mid) || s.olc.stat != .migrating || s.olc.migrated
  else !((s.core mid).status == .running || (s.core mid).status == .atBarrier) || s.bell.mode == .hold
    || s.cluster mid == .failed || !s.alive

/-- A master switches to the new bank and acknowledges; the last one completes the swap (R201 steps 2 and 3). -/
def State.drainAck (s : State) (mid : Nat) : State :=
  if s.prot.pend.contains mid && s.maySwitch mid then
    let s := { s with prot := { s.prot with pend := s.prot.pend.erase mid, bank := tset (fun _ => false) s.prot.bank mid s.epochBit } }
    if s.swapBusy then s
    else
      let s := { s with prot := { s.prot with complete := true } }
      let s := (s.raise Page.pctrl 0).count Page.pctrl Reg.pc_SWAP_COUNT
      s.setReg Page.pctrl Reg.pc_LAST_SWAP_TIME (BitVec.ofNat 32 (min 0xFFFFFFFE ((s.now - s.prot.swapAt) * 5 / 4)))
  else s

/-- Clusters that still wait for a swap switch before they start (R202, R205), but for a SWAP in the same tick as the core start, which leaves them under the old bank (R203). -/
def State.switchIdle (s : State) : State := if s.prot.swapAt = s.now then s else (List.range 16).foldl State.drainAck s

/-- DRAIN_ACK (R201). -/
def execDrainAck (mid : BitVec 12) (s : State) : Res := .next (s.drainAck mid.toNat)

/-- The start-up swap, with no master executing (R199). -/
def State.swapWhole (s : State) : State := masters.foldl State.drainAck s.swap

/-- Bits that word j of a rule holds (R209). -/
def ruleMask (tgt : Bool) (j : Nat) : Word :=
  match j with
  | 0 => 0xFFFFFFC1#32 | 1 => 0xFF#32 | 2 => 0xFFFFFFC0#32 | 3 => 0xFF#32 | 4 => 0x1FF#32
  | 5 => if tgt then 0x0FFF0FFF#32 else 0#32
  | _ => 0#32

/-- Rules of a check page: 32 in the master-side pages, 16 in the target pages, none elsewhere (R208, R211). -/
def rulesOf (p : Nat) : Nat := match pageTy p with | some .msCl => 32 | some .msDma => 32 | some .target => 16 | _ => 0

/-- The bank that is active at a check page: the master's own, or the one of the epoch (R206, R208, R211). -/
def State.activeBank (s : State) (p : Nat) : Bool :=
  match pageTy p with
  | some .msCl => s.bankOf (p - Page.msCl 0)
  | some .msDma => s.bankOf (0x10 + (p - Page.msDma 0))
  | _ => s.epochBit

/-- A write of word i of a shadow bank: refused while a swap is busy (R200). -/
def State.shadowWrite (s : State) (p i : Nat) (v : Word) : State :=
  if s.swapBusy then s.err p
  else
    let k := (p * 2 + if s.activeBank p then 0 else 1) * 256 + i
    { s with prot := { s.prot with rules := tset (fun _ => 0#32) s.prot.rules k (v &&& ruleMask (pageTy p == some .target) (i % 8)) } }

/-- SHADOW_BANK_WRITE (R200): word i of the shadow bank of a check page. -/
def execShadowBankWrite (page i : Nat) (v : Word) (s : State) : Res :=
  .next (if i < rulesOf page * 8 then s.shadowWrite page i v else s)

/-- A word of the shadow or the active bank, as the page shows it (R208, R211). -/
def State.bankWord (s : State) (p i : Nat) (active : Bool) : Word :=
  tget (fun _ => 0#32) s.prot.rules ((p * 2 + if s.activeBank p == active then 1 else 0) * 256 + i)

/-- PCTRL[OPEN] written 1 (R199). -/
def State.openClear (s : State) : State := { s with prot := { s.prot with openMode := false } }

/-- OPEN (R199). -/
def execOpenEnd (s : State) : Res := .next s.openClear

end Sys2Proof.Machine
end

