-- ==== Sys2Proof/Machine/Proof.lean ====
section
/-! DEFINITION. The proof stream: dirty lines, frames, budget, replay, the receive store, discard, resynchronisation (R177 to R181, R251 to R269, R274, R275, R277). -/

namespace Sys2Proof.Machine

/-! ### Frames received (R252, R264, R265) -/

/-- Whether the VER of a received frame is permitted (R264): the version in use, the agreed one that a raise brings (R239), or that of the transfer in progress. -/
def State.verOk (s : State) (w : Out) (ver : Nat) : Bool :=
  if linkFirst w then ver == 1
  else s.linkAgreed && (ver == s.linkVer || ver == s.pair.agreed.getD 0 0 || (linkXfer w && s.link.xfer.busy && ver == s.link.xfer.ver))

/-- The checks of R252 on a received frame: none where it passes. -/
def State.linkCheck (s : State) (w : Out) (ident : Word) (args : List Nat) (t : Trailer) : Option LinkErr :=
  let body := withResv (linkBody w args) t.resv
  match t.bad with
  | some e => some e
  | none =>
    if 137 < 1 + body.length / 8 then some .len
    else if t.crc ≠ crc32c (linkHeader (linkType w) t.ver (linkParam ident w args) body ++ body) then some .crc
    else if t.csum ≠ codeSum body then some .csum
    else if !s.verOk w t.ver then some .ver
    else none

/-- Body bytes of a control record (R261). -/
def CtrlRec.bytes : CtrlRec → List Byte
  | .force n e => [1#8] ++ bytesBE 2 n ++ bytesBE 2 e.handle ++ bytesBE 4 e.value.toNat ++ [e.attr.zeroExtend 8] ++ bytesBE 4 e.ident.toNat ++ [0#8, 0#8]
  | .raise v => [2#8] ++ (v.take 5).map (BitVec.ofNat 8) ++ List.replicate 10 0#8
  | .olcSwitch ks => [3#8] ++ bytesBE 6 ks ++ List.replicate 9 0#8

/-- Body bytes of a program post (R261). -/
def Post.bytes (p : Post) : List Byte :=
  bytesBE 2 p.code.toNat ++ bytesBE 2 p.source.toNat ++ bytesBE 4 p.p0.toNat ++ bytesBE 4 p.p1.toNat ++ bytesBE 4 p.p2.toNat

/-- A directory entry (R259). -/
def ProofLine.entry (p : ProofLine) : List Byte := bytesBE 4 (p.target * 2 ^ 28 + p.line)

/-- Body of a proof frame (R259, R261). -/
def ProofBody.bytes : ProofBody → List Byte
  | .lines l =>
    let dir := l.flatMap ProofLine.entry
    dir ++ List.replicate (evenUp ((l.length + 1) / 2) * 8 - dir.length) 0#8 ++ l.flatMap (fun p => bytesLE 64 p.data.toNat)
  | .posts l => l.flatMap Post.bytes
  | .ctrls l => l.flatMap CtrlRec.bytes

/-- TYPE of a proof frame and what is sent (R253). -/
def ProofBody.type : ProofBody → Nat
  | .lines _ => 0x11 | .posts _ => 0x12 | .ctrls _ => 0x13
def ProofBody.out : ProofBody → Out
  | .lines _ => .proofData | .posts _ => .proofJournal | .ctrls _ => .proofCtrl

/-- Header and body of a proof frame (R251). -/
def frameBytes (ver : Nat) (seq : Word) (b : ProofBody) : List Byte := linkHeader b.type ver seq.toNat b.bytes ++ b.bytes

/-- A proof frame as it is sent. -/
def ProofFrame.args (f : ProofFrame) : List Nat := f.seq.toNat :: f.crc.toNat :: f.body.bytes.map BitVec.toNat

/-- DIGEST over the CRC fields of a cycle's frames (R262). -/
def proofDigest (l : List Word) : Word := crc32c (l.flatMap (fun c => bytesBE 4 c.toNat))

/-! ### Registers of the proof page (R277) -/

/-- Code of a state of the sending side. -/
def TxSt.code : TxSt → Nat
  | .idle => 0 | .streaming => 1 | .endSent => 2 | .acked => 3 | .stopped => 4

/-- Whether a sweep is active. -/
def ProofTx.sweeping (p : ProofTx) : Bool := p.resync == .sweep

/-- PROOF_STAT. -/
def State.proofStat (s : State) : Word :=
  BitVec.ofNat 32 s.ptx.st.code ||| (ofBool 32 s.ptx.overRun <<< 8) ||| (ofBool 32 s.ptx.wait <<< 9) ||| (ofBool 32 s.ptx.sweeping <<< 10)

/-- Bytes of the receive store that a frame takes: its lines, posts and records, image lines apart (R266). -/
def ProofFrame.held (f : ProofFrame) : Nat :=
  match f.body with
  | .lines l => 64 * (l.filter (fun p => p.target ≠ 8)).length
  | .posts l => 16 * l.length
  | .ctrls l => 16 * l.length

/-- Bytes of a cycle in the receive store. -/
def RxCycle.held (c : RxCycle) : Nat := (c.frames.map ProofFrame.held).sum

/-- RX_STORE_USED, SNAP_LINES, APPLY_LAG is stored at the end of each apply. -/
def State.rxUsed (s : State) : Nat := ((s.prx.cycles ++ s.prx.apply).map RxCycle.held).sum
def State.snapCount (s : State) : Nat := 2 * ((s.loopsOf 0).length + (s.loopsOf 1).length)

/-! ### The sending side (R257 to R263) -/

/-- A resynchronisation that this active module serves is given up (R275). -/
def State.resyncDrop (s : State) : State :=
  { s with ptx := { s.ptx with resync := .none }, dirty := { s.dirty with swept := [] } }

/-- Lines in a proof frame. -/
def ProofFrame.lineN (f : ProofFrame) : Nat := match f.body with | .lines l => l.length | _ => 0

/-- The replay store holds more than the budget and the sweep lines of a cycle, those of the first sweep cycle with every image line (R263, R274). -/
def ProofTx.replayFull (p : ProofTx) : Bool :=
  decide (p.budget + 64 * (p.sweepLines + 8192) < 64 * (p.replay.map (fun x => x.2.lineN)).sum)

/-- The active gives a full resynchronisation up and tells the standby with CANCEL; a transfer of it ends (R273, R275). -/
def State.resyncCancel (s : State) : State :=
  let s := s.resyncDrop.ctrlSend .xferCancel [0xC]
  if s.link.xfer.busy && s.link.xfer.sending then s.xferDrop .cancelled else s

/-- A full replay store ends a full resynchronisation (R275). DEDUCED: notes/assumptions/33.md. -/
def State.replayCheck (s : State) : State := if s.ptx.resync != .none && s.ptx.replayFull then s.resyncCancel else s

/-- Whether a partner takes the proof: a synchronised one, or one in full resynchronisation. -/
def State.heard (s : State) : Bool := s.pair.syncPair || s.ptx.resync != .none

/-- Whether a proof frame carries lines. -/
def ProofBody.isLines : ProofBody → Bool
  | .lines _ => true | _ => false

/-- A frame of this cycle takes the next sequence number; it is kept for repair, but for lines once the budget is passed (R253, R263). -/
def State.proofFrame (s : State) (b : ProofBody) : State :=
  let f : ProofFrame := { seq := s.ptx.seq, body := b, crc := crc32c (frameBytes s.linkVer s.ptx.seq b) }
  let s := s.linkSend b.out f.args
  let p := s.ptx
  ({ s with ptx := { p with
      seq := p.seq + 1#32, crcs := p.crcs ++ [f.crc]
      replay := if p.overRun && b.isLines then p.replay else p.replay ++ [(p.cyc, f)] } }).replayCheck

/-- The open frame of lines is closed (R259). -/
def State.flushLines (s : State) : State :=
  if s.ptx.pending.isEmpty then s
  else
    let l := s.ptx.pending
    let s := { s with ptx := { s.ptx with pending := [] } }
    s.proofFrame (.lines l)

/-- A line goes into the open frame and counts (R179, R263): a sweep line not against the budget; from the line that passes the budget on, frames have no replay copy. -/
def State.putLine (s : State) (sweep : Bool) (l : ProofLine) : State :=
  let bytes := s.ptx.bytes + if sweep then 0 else 64
  let s :=
    if bytes > s.ptx.budget && !s.ptx.overRun then
      let s := s.flushLines
      let s := { s with ptx := { s.ptx with overRun := true } }
      ((s.count Page.proof Reg.proof_OVERRUN_CNT).raise Page.proof 0).cause 3
    else s
  let s : State := { s with ptx := { s.ptx with
    lines := s.ptx.lines + 1, bytes := bytes, sweepIn := s.ptx.sweepIn || sweep, pending := s.ptx.pending ++ [l] } }
  if 16 ≤ s.ptx.pending.length then s.flushLines else s

/-- An output entry in the working image window: 8 bytes, value, status, age (R41, R43). -/
def State.outBytes (s : State) (h : Nat) : Nat :=
  let x := (s.outEnt h).newer
  x.value.toNat + x.status.toNat * 2 ^ 32 + outAge s.bell.cycle x * 2 ^ 48

/-- The contents of a tracked line as its proof carries them: region SRAM, or eight entries of the output working image. -/
def State.lineOf (s : State) (a : Nat) : ProofLine :=
  if a < 0x8000000 then { target := a / 0x1000000, line := a % 0x1000000 / 64, data := BitVec.ofNat 512 (s.loadLE a 64) }
  else
    let n := (a - 0x80080000) / 64
    { target := 8, line := n, data := BitVec.ofNat 512 ((List.range 8).foldl (fun v i => v + s.outBytes (n * 8 + i) * 2 ^ (64 * i)) 0) }

/-- The 64 bytes of a tracked line, read by the proof readout and corrected on the way (R179, R183, R188, R196, R252): the state after it and the line, none where the target refuses the access or a word is uncorrectable. -/
def State.readLine (s : State) (a : Nat) : State × Option ProofLine :=
  match s.fixedMay 0x020 .read a 64 with
  | (s, false) => (s, none)
  | (s, true) =>
    match s.eccRange a (a + 64) 3 with
    | (s, false) => (s, none)
    | (s, true) => (s, some (s.lineOf a))

/-- Control records that have arisen in this cycle are sent, 16 to a frame (R257, R261). -/
def State.flushCtrls (s : State) : State :=
  let l := s.ptx.ctrls
  let s := { s with ptx := { s.ptx with ctrls := [], ctrlCnt := s.ptx.ctrlCnt + l.length } }
  (chunks 16 l.length l).foldl (fun s l => s.proofFrame (.ctrls l)) s

/-- Outside Stop control frames mix with the data frames (R257); in Stop they follow them (R609). -/
def State.ctrlsNow (s : State) : State := if s.bell.mode = .stop then s else s.flushCtrls

/-- PROOF_TAKE of the line at an address (R179). -/
def State.proofTake (s : State) (a : Nat) : State :=
  if s.isActive && s.ptx.began && tmem s.dirty.marked a then
    let s := s.ctrlsNow
    let sweep := tmem s.dirty.swept a
    let again := tmem s.dirty.taken a
    let s := { s with dirty := { s.dirty with marked := tdel s.dirty.marked a, swept := tdel s.dirty.swept a, taken := tadd s.dirty.taken a } }
    let s := if again && decide (a < 0x8000000) then s.count (Page.region (a / 0x1000000)) Reg.rg_RESENT_CNT else s
    match s.readLine a with
    | (s, some l) =>
      let s := s.putLine sweep l
      if s.dirty.marked.isEmpty then s.flushLines else s
    | (s, none) => s
  else s

/-- Lines swept so far and next: every tracked line in ascending order of region and line (R274). -/
def State.trackedLines (s : State) : List Nat :=
  (List.range 8).flatMap (fun g => ((List.range 196608).filter (fun i => trackedIn s.dirty.ranges g (i * 64) 4)).map (fun i => g * 0x1000000 + i * 64))

/-- Lines marked by the sweep: lines that a write has already marked stay ordinary ones. -/
def State.sweepMark (s : State) (l : List Nat) : State :=
  l.foldl (fun s a =>
    if tmem s.dirty.marked a then s
    else
      let s := { s with dirty := { s.dirty with marked := tadd s.dirty.marked a, swept := tadd s.dirty.swept a } }
      if a < 0x8000000 then s.dirtyPeak (a / 0x1000000) else s) s

/-- The first proof of a full resynchronisation (R239, R274): interfaces 0 and 1 take the agreed version, and a control record tells the joining module the versions in use. DEDUCED: notes/assumptions/55.md. -/
def State.sweepOpen (s : State) (k : Nat) : State :=
  let v := s.pair.agreed.take 2 ++ s.pair.inUse.drop 2
  let s := s.sweepMark ((List.range 8192).map (fun i => 0x80080000 + i * 64))
  { s with
    pair := { s.pair with inUse := v }
    ptx := { s.ptx with resync := .sweep, sweepFirst := k, sweepLast := none, nextCtrls := s.ptx.nextCtrls ++ [.raise v] }
    dirty := { s.dirty with sweepPos := 0 } }

/-- The sweep at a bell of cycle k (R274 step 2). -/
def State.sweepBell (s : State) (k : Nat) : State :=
  let s := if s.ptx.resync = .armed then s.sweepOpen k else s
  if s.ptx.resync = .sweep ∧ s.ptx.sweepLast = none then
    let all := s.trackedLines
    let l := (all.drop s.dirty.sweepPos).take s.ptx.sweepLines
    let pos := s.dirty.sweepPos + l.length
    let s := s.sweepMark l
    let s := { s with dirty := { s.dirty with sweepPos := pos } }
    let s := s.setReg Page.proof Reg.proof_SWEEP_POS (BitVec.ofNat 32 pos)
    if all.length ≤ pos then { s with ptx := { s.ptx with sweepLast := some k } } else s
  else s

/-- PROOF_BEGIN fields as they are sent. -/
def ProofBegin.args (b : ProofBegin) : List Nat :=
  [b.cyc, b.mode + (if b.stopTask then 4 else 0) + (if b.start then 8 else 0) + (if b.wait then 128 else 0), b.bellTime.sec, b.bellTime.ns,
    b.errCause.toNat, b.flipTime.sec, b.flipTime.ns, b.firstSeq.toNat]

/-- PROOF_BUDGET and SWEEP_LINES take effect at a bell (R277). -/
def State.latchProof (s : State) : State :=
  { s with ptx := { s.ptx with
      budget := (s.reg Page.proof Reg.proof_PROOF_BUDGET).toNat, sweepLines := (s.reg Page.proof Reg.proof_SWEEP_LINES).toNat } }

/-- The proof of cycle k begins (R257 step 1, R258, R609): WAIT in a synchronised pair or at the end of a resynchronisation, never in Stop. PROOF_END[SWEEP] is due in a cycle at whose bell the sweep marked lines (R274). -/
def State.proofBegin (s : State) (k : Nat) : State :=
  if !s.dirty.on || s.pair.suspended then { s with ptx := { s.ptx with began := false, wait := false } }
  else
    let run := s.bell.mode == .run
    let wait := run && (s.pair.syncPair || s.ptx.resync == .wait)
    let sweep := s.ptx.resync == .sweep && s.ptx.sweepLast.all (fun l => l == k)
    let s := { s with ptx := { s.ptx with
      st := .streaming, began := true, done := false, cyc := k, pending := [], ctrls := s.ptx.nextCtrls, nextCtrls := [], lines := 0, bytes := 0
      posts := [], ctrlCnt := 0, crcs := [], overRun := false, sweepIn := sweep, wait := wait, snap := []
      -- of cycles that no partner takes only the current one is kept (R263): notes/assumptions/55.md
      replay := if s.heard then s.ptx.replay else [], unacked := if s.heard then s.ptx.unacked else [] } }
    let b : ProofBegin :=
      { cyc := k, mode := if run then 1 else 0, stopTask := s.bell.finalCycle, start := s.bell.firstRun, wait := wait, bellTime := s.bell.bellTime
        errCause := s.reg Page.bell Reg.bell_ERR_CAUSE, flipTime := s.bell.flipTime, firstSeq := s.ptx.seq }
    s.linkSend .proofBegin b.args

/-- LAST_LINES, LAST_BYTES and PEAK_BYTES of a committed cycle (R277). -/
def State.proofCommitted (s : State) (lines bytes : Nat) : State :=
  let s := s.setReg Page.proof Reg.proof_LAST_LINES (BitVec.ofNat 32 lines)
  let s := s.setReg Page.proof Reg.proof_LAST_BYTES (BitVec.ofNat 32 bytes)
  if (s.reg Page.proof Reg.proof_PEAK_BYTES).toNat < bytes then s.setReg Page.proof Reg.proof_PEAK_BYTES (BitVec.ofNat 32 bytes) else s

/-- The posts of the cycle, in the order of R61. -/
def State.cyclePosts (s : State) : List Post := (List.range 16).flatMap (fun n => (s.core n).posts)

/-- Whether the current cycle has completed (R52, R609): every cluster in Run, core start in Stop. -/
def State.complete (s : State) : Bool :=
  s.bell.cycleOpen && s.bell.coresStarted && (s.bell.mode != .run || s.reg Page.bell Reg.bell_DONE == 0xFFFF#32)

/-- The last cycle through which the recorder has committed, REC_CYC (R262, R535). -/
def State.recCyc (s : State) : Nat :=
  (s.reg Page.recd Reg.rec_REC_CYC_LO).toNat + 2 ^ 32 * ((s.reg Page.recd Reg.rec_REC_CYC_HI).toNat % 2 ^ 16)

/-- PROOF_END_DECISION (R180, R257 steps 3 and 4, R262). -/
def State.proofEnd (s : State) : State :=
  if s.isActive && s.ptx.began && s.ptx.done && s.dirty.marked.isEmpty then
    let s := s.ctrlsNow.flushLines
    let snap := s.ptx.snap
    let s := (snap.foldl (fun s l => s.putLine false l) s).flushLines
    let posts := s.ptx.posts
    let s := ((chunks 32 posts.length posts).foldl (fun s l => s.proofFrame (.posts l)) s).flushCtrls
    let p := s.ptx
    let s := s.linkSend .proofEnd [p.cyc, p.lines, p.crcs.length, posts.length, p.ctrlCnt, (proofDigest p.crcs).toNat,
      (if p.overRun then 1 else 0) + (if p.sweepIn then 2 else 0), s.recCyc]
    let c : TxCycle := { cyc := p.cyc, lines := p.lines, bytes := p.bytes, wait := s.bell.waitAck, endAt := s.now }
    let s := { s with ptx := { s.ptx with st := .endSent, began := false, unacked := s.ptx.unacked ++ [c] } }
    let s := { s with bell := { s.bell with proofEndSent := true, proofEndAt := s.now } }
    let s := s.setReg Page.proof Reg.proof_LAST_TAIL (BitVec.ofNat 32 (s.now - p.doneAt))
    if s.bell.waitAck then s else s.proofCommitted p.lines p.bytes
  else s

/-- The state records of the configured loops are read for the freeze, with correction (R171, R309). -/
def State.snapRead (s : State) : State :=
  (List.range 2).foldl (fun s e => (s.loopsOf e).foldl (fun s l => (s.leRead e (0x100000 + l * 128) 128).1) s) s

/-- SNAPSHOT_FREEZE (R260) at completion, with the posts of the cycle in the order of R61 (R257). -/
def State.snapFreeze (s : State) : State :=
  let s := if s.ptx.began then s.snapRead else s
  { s with ptx := { s.ptx with
      snap := if s.ptx.began then s.snapLines else [], posts := if s.ptx.began then s.cyclePosts else [], done := true, doneAt := s.now } }

/-- What is left of the proof of the last cycle is sent before PROOF_BEGIN of the next (R257): its dirty lines, then its end. DEDUCED: notes/assumptions/55.md. -/
def State.proofDrain (s : State) : State :=
  if s.ptx.began && s.ptx.done then ((s.dirty.marked.map Prod.fst).foldl State.proofTake s).proofEnd else s

/-- The pair becomes synchronised (R274 step 5, R247); a notice of an earlier holder is past. -/
def State.pairSynced (s : State) : State :=
  ({ s with pair := { s.pair with syncPair := true, partnerLost := false, resyncBusy := false, resign := 0, notice := false } }).raise Page.pair 6

/-- The active receives the acknowledgement of cycle k (R57, R255, R274 steps 4 and 5). -/
def State.proofAcked (s : State) (k : Nat) : State :=
  match s.ptx.unacked.find? (fun c => c.cyc = k) with
  | none => s
  | some c =>
    let lat := s.now - c.endAt
    let s := s.setReg Page.proof Reg.proof_LAST_ACK_LAT (BitVec.ofNat 32 lat)
    let s := if (s.reg Page.proof Reg.proof_MAX_ACK_LAT).toNat < lat then s.setReg Page.proof Reg.proof_MAX_ACK_LAT (BitVec.ofNat 32 lat) else s
    let s := if c.wait then s.proofCommitted c.lines c.bytes else s
    let s := s.setAckCyc k
    let p := s.ptx
    let s := { s with ptx := { p with
      st := if p.began then p.st else .acked
      unacked := p.unacked.filter (fun x => !cycLe x.cyc k)
      replay := p.replay.filter (fun x => !cycLe x.1 k) } }
    let s := if k = s.bell.cycle then { s with bell := { s.bell with ackRcvd := true } } else s
    if p.resync = .sweep ∧ p.sweepLast.any (fun l => cycLe l k) = true then
      ({ s with ptx := { s.ptx with resync := .wait } }).raise Page.proof 2
    else if p.resync = .wait ∧ c.wait then ({ s with ptx := { s.ptx with resync := .none } }).pairSynced
    else s

/-- A cycle whose acknowledgement is no longer waited for commits with its flip (R57, R59, R277). -/
def State.proofFlipped (s : State) (k : Nat) : State :=
  match s.ptx.unacked.find? (fun c => c.cyc = k && c.wait) with
  | none => s
  | some c =>
    let s := s.proofCommitted c.lines c.bytes
    { s with ptx := { s.ptx with unacked := s.ptx.unacked.map (fun x => if x.cyc = k then { x with wait := false } else x) } }

/-- The active goes on without a synchronised partner (R59, R225): it tells the partner, and no acknowledgement is waited for. -/
def State.partnerGone (s : State) : State :=
  let s := if s.ptx.resync = .none then s else s.resyncDrop
  { s with pair := { s.pair with syncPair := false, partnerLost := true }, bell := { s.bell with waitAck := false } }

/-! ### The receiving side (R264 to R269) -/

/-- A change of the received cycle with a number. -/
def State.mapRx (s : State) (cyc : Nat) (f : RxCycle → RxCycle) : State :=
  { s with prx := { s.prx with cycles := s.prx.cycles.map (fun c => if c.head.cyc = cyc then f c else c) } }

/-- A NAK for up to 12 missing frames of a cycle (R265). -/
def State.sendNak (s : State) (cyc : Nat) (seqs : List Word) : State :=
  let l := seqs.take 12
  let s := s.mapRx cyc (fun c =>
    { c with naks := l.foldl (fun t q => tset (fun _ => 0) t q.toNat (tget (fun _ => 0) t q.toNat + 1)) c.naks })
  (s.count Page.link Reg.link_NAK_TX).linkSend .proofNak (cyc :: l.map BitVec.toNat)

/-- A discard (R269): everything received and not committed is dropped, the newer slots of provisional image lines with it. -/
def State.proofDiscard (s : State) : State :=
  let had := !s.prx.cycles.isEmpty
  let s := { (if had then s.imageAbandon else s) with prx := { s.prx with cycles := [], nextSeq := none } }
  if had then (s.count Page.proof Reg.proof_DISCARD_CNT).raise Page.proof 3 else s

/-- A full resynchronisation in progress on this standby fails (R275). -/
def State.resyncFail (s : State) : State :=
  if s.pair.resyncBusy then
    let s := s.proofDiscard
    let s := { s with pair := { s.pair with resyncBusy := false }, link := { s.link with retry := s.rbit Page.pair Reg.pair_PAIR_CFG 3 } }
    (s.raise Page.proof 5).journal Page.proof 0x0105 Reg.proof_PROOF_STAT s.proofStat
  else s

/-- Whether a standby can start a full resynchronisation (R219, R225, R236, R238, R274): the capability exchange has succeeded, and attendance is not lost. -/
def State.canResync (s : State) : Bool :=
  s.pair.role == .standbyUnsync && !s.pair.suspended && s.linkAgreed && s.link.capsDone && !s.pair.attLost && s.linkUp && !s.pair.resyncBusy

/-- RESYNC_REQ is sent (R274). -/
def State.startResync (s : State) : State :=
  if s.canResync then
    ({ s with pair := { s.pair with resyncBusy := true }, link := { s.link with retry := false }, prx := { s.prx with expect := none } }).ctrlSend
      .resyncReq []
  else s

/-- AUTO_RESYNC (R244): a resynchronisation starts whenever a standby can. -/
def State.autoResync (s : State) : State := if s.rbit Page.pair Reg.pair_PAIR_CFG 3 then s.startResync else s

/-- A STANDBY_SYNC module becomes STANDBY_UNSYNC (R213, R269). -/
def State.standbyUnsync (s : State) : State :=
  if s.pair.role = .standbySync then
    let s := { s with pair := { s.pair with syncPair := false } }
    (s.setRole .standbyUnsync).proofDiscard.autoResync
  else s

/-- The NAK limit or a proof that cannot be repaired: the standby stops acknowledging (R265). -/
def State.proofGiveUp (s : State) : State :=
  let s := (s.raise Page.proof 4).journal Page.proof 0x0104 Reg.proof_PROOF_STAT s.proofStat
  if s.pair.resyncBusy then s.resyncFail else s.standbyUnsync

/-- Sequence numbers of a cycle that are missing: up to the end, or up to the next expected one. -/
def RxCycle.missing (c : RxCycle) (next : Word) : List Word :=
  let n := match c.tail with
    | some e => e.frames
    | none => (next - c.head.firstSeq).toNat
  ((List.range (min n 65536)).map (fun i => c.head.firstSeq + BitVec.ofNat 32 i)).filter (fun q => !c.frames.any (fun f => f.seq == q))

/-- Lines of a frame that has arrived, 16 for one that is missing: what a frame before number q can hold. -/
def RxCycle.linesBefore (c : RxCycle) (q : Word) : Nat :=
  ((List.range (q - c.head.firstSeq).toNat).map (fun i =>
    match c.frames.find? (fun f => f.seq == c.head.firstSeq + BitVec.ofNat 32 i) with
    | some f => f.lineN
    | none => 16)).sum

/-- Whether a missing frame has no replay copy (R263, R265): the cycle passed its budget, lines are missing, and the frames before this one hold the budget. DEDUCED: notes/assumptions/55.md. -/
def RxCycle.noCopy (c : RxCycle) (budget : Nat) (q : Word) : Bool :=
  c.tail.any (fun e => e.overRun && decide ((c.frames.map ProofFrame.lineN).sum < e.lines) && decide (budget ≤ 64 * c.linesBefore q))

/-- Whether a frame has been asked for 3 times (R265). -/
def RxCycle.asked (c : RxCycle) (q : Word) : Bool := decide (3 ≤ tget (fun _ => 0) c.naks q.toNat)

/-- The cycle received with a number. -/
def State.rxOf (s : State) (cyc : Nat) : Option RxCycle := s.prx.cycles.find? (fun c => c.head.cyc = cyc)

/-- Missing frames of a cycle are asked for; a frame asked for 3 times, or one without a replay copy, ends it (R265). -/
def State.nakCheck (s : State) (cyc : Nat) : State :=
  match s.rxOf cyc with
  | none => s
  | some c =>
    let miss := c.missing (s.prx.nextSeq.getD c.head.firstSeq)
    if miss.isEmpty then s
    else if miss.any (c.noCopy (s.reg Page.proof Reg.proof_PROOF_BUDGET).toNat) then s.proofGiveUp
    else
      let s := s.sendNak cyc miss
      if (s.rxOf cyc).any (fun c => miss.any c.asked) then s.proofGiveUp else s

/-- Whether this module takes proofs: a synchronised standby, or one in full resynchronisation. -/
def State.takesProof (s : State) : Bool :=
  s.pair.role == .standbySync || (s.pair.role == .standbyUnsync && s.pair.resyncBusy)

/-- Whether a line of region g lies in a tracked range that this module's configuration sets (R181). -/
def State.trkCfg (s : State) (g line : Nat) : Bool :=
  (List.range 4).any (fun i =>
    s.rbit (Page.region g) (Reg.rg_TRK_BASE i) 0 && decide (s.fld (Page.region g) (Reg.rg_TRK_BASE i) 6 18 ≤ line)
      && decide (line ≤ s.fld (Page.region g) (Reg.rg_TRK_LIMIT i) 6 18))

/-- Targets and lines that the directory may name: region lines in the tracked ranges in force (R181, R259). -/
def State.lineOk (s : State) (p : ProofLine) : Bool :=
  if p.target < 8 then decide (p.line < 196608) && trackedIn s.dirty.ranges p.target (p.line * 64) 4
  else if p.target = 8 then decide (p.line < 8192)
  else (p.target == 0xA || p.target == 0xB) && decide (p.line < 1024)

/-- FRAME_DISCARD (R252, R276): counted by its cause, FRAME_ERR, a record. -/
def State.frameDiscard (s : State) (e : LinkErr) : State :=
  let off := match e with
    | .crc => Reg.link_CRC_ERR | .csum => Reg.link_CSUM_ERR | .len => Reg.link_LEN_ERR | .ver => Reg.link_VER_ERR
  ((s.count Page.link off).raise Page.link 2).journalReg Page.link 0x0202 off

/-- The cycle being received last. -/
def State.rxCur (s : State) : Option RxCycle := s.prx.cycles.getLast?

/-- A frame that fails is missing: the next one expected goes on after it, and it is asked for (R265). -/
def State.frameMissing (s : State) (next : Word) : State :=
  match s.rxCur, s.prx.nextSeq with
  | some c, some q =>
    if c.tail.isSome || decide (2 ^ 31 ≤ (next - q).toNat) then s.nakCheck c.head.cyc
    else ({ s with prx := { s.prx with nextSeq := some next } }).nakCheck c.head.cyc
  | _, _ => s

/-- A proof frame fails the checks: the frame expected next is missing, and is asked for (R265). -/
def State.proofFrameBad (s : State) (e : LinkErr) : State :=
  let s := s.frameDiscard e
  if !s.takesProof then s else s.frameMissing ((s.prx.nextSeq.getD 0#32) + 1#32)

/-- Whether a full resynchronisation has missed a cycle (R275): the next one to commit lies 2 cycles behind the active's current one. -/
def State.resyncLate (s : State) (cyc : Nat) : Bool := s.pair.resyncBusy && s.prx.expect.any (fun e => decide (e + 2 ≤ cyc))

/-- The tracked ranges in force since the last bell (R181). -/
def State.latchRanges (s : State) : State :=
  let t := (List.range 8).foldl (fun (t : Tab Word) g =>
    (List.range 4).foldl (fun (t : Tab Word) i =>
      tset (fun _ => 0#32) (tset (fun _ => 0#32) t (g * 8 + 2 * i) (s.reg (Page.region g) (Reg.rg_TRK_BASE i)))
        (g * 8 + 2 * i + 1) (s.reg (Page.region g) (Reg.rg_TRK_LIMIT i))) t) []
  { s with dirty := { s.dirty with ranges := t } }

/-- PROOF_BEGIN received (R258): it tells the standby of the bell of its cycle, at which tracked ranges take effect (R181). -/
def State.rxBegin (s : State) (b : ProofBegin) : State :=
  if !s.takesProof then s
  else if s.resyncLate b.cyc then s.resyncFail
  else
    let s := s.latchRanges
    { s with
      prx := { s.prx with
        cycles := s.prx.cycles ++ [{ head := b }], nextSeq := some b.firstSeq, flipTime := b.flipTime, expect := some (s.prx.expect.getD b.cyc) }
      pair := { s.pair with
        -- interfaces 0 and 1 take the agreed version from the first proof (R239)
        inUse := if s.pair.resyncBusy then s.pair.agreed.take 2 ++ s.pair.inUse.drop 2 else s.pair.inUse } }

/-- Whether a frame must be discarded for its content: a directory entry outside the tracked ranges (R259), or a receive store that is full (R10, R266). -/
def State.frameBad (s : State) (f : ProofFrame) : Bool :=
  (match f.body with
    | .lines l => l.any (fun p => !s.lineOk p)
    | _ => false) || decide (0x10000000 < s.rxUsed + f.held)

/-- An entry of an image line of cycle k in the hidden slots: the tag is the cycle after the one from which it ages (R46, R266). -/
def lineSlot (k : Nat) (l : ProofLine) (i : Nat) : Slot :=
  let w := l.data.toNat / 2 ^ (64 * i)
  let age := w / 2 ^ 48 % 2 ^ 16
  { value := BitVec.ofNat 32 w, status := BitVec.ofNat 16 (w / 2 ^ 32)
    since := if age = 0xFFFE then none else some ((k + 1 + 2 ^ 48 - age) % 2 ^ 48) }

/-- An image line of the proof of cycle k enters the hidden slots: the older one, or the newer one where it is provisional already (R266). A provisional entry is listed in `outDirty`. -/
def State.takeImageLine (s : State) (k : Nat) (l : ProofLine) : State :=
  (List.range 8).foldl (fun s i =>
    let h := l.line * 8 + i
    let x := lineSlot k l i
    let e := s.outEnt h
    if e.newer = x then s
    else
      let toB := if tmem s.outDirty h then e.newerB else !e.newerB
      let e' : ImgEntry := if toB then { e with b := x, newerB := true } else { e with a := x, newerB := false }
      { s.setOutEnt h e' with outDirty := tadd s.outDirty h }) s

/-- Image lines of a frame of the oldest cycle go into the hidden slots as they arrive (R266), where the target lets the partner link writer (R196). -/
def State.provLines (s : State) (c : RxCycle) (f : ProofFrame) : State :=
  match f.body with
  | .lines l => if s.prx.cycles.head?.map (·.head.cyc) = some c.head.cyc then
      (l.filter (fun p => p.target = 8)).foldl (fun s p =>
        match s.fixedMay 0x021 .write (0x80080000 + p.line * 64) 64 with
        | (s, true) => (s.cleanWords (0x80080000 + p.line * 64) 64).takeImageLine c.head.cyc p
        | (s, false) => s) s else s
  | _ => s

/-- A data, journal or control frame received intact (R265, R266): it goes into the cycle that its sequence number belongs to; a gap is asked for, and so is a frame discarded for its directory. -/
def State.rxFrame (s : State) (f : ProofFrame) : State :=
  if !s.takesProof then s
  else
    if s.frameBad f then (s.frameDiscard .len).frameMissing (f.seq + 1#32)
    else
      let mine := s.prx.cycles.filter (fun c => decide ((f.seq - c.head.firstSeq).toNat < 2 ^ 31))
      match mine.getLast? with
      | none => s
      | some c =>
        if c.frames.any (fun g => g.seq == f.seq) then s
        else
          let s := (s.mapRx c.head.cyc (fun x => { x with frames := x.frames ++ [f] })).provLines c f
          match s.prx.nextSeq with
          | none => s
          | some q =>
            if (f.seq - q).toNat < 2 ^ 31 then
              let s := { s with prx := { s.prx with nextSeq := some (f.seq + 1#32) } }
              if f.seq = q then s else s.nakCheck c.head.cyc
            else s

/-- A count that R10 reserves. -/
def ProofEnd.reserved (e : ProofEnd) : Bool := e.lines == 0xFFFFFFFF || e.frames == 0xFFFFFFFF || e.posts == 0xFFFF || e.ctrls == 0xFFFF

/-- PROOF_END received (R10, R262, R265). -/
def State.rxEnd (s : State) (e : ProofEnd) : State :=
  if !s.takesProof then s
  else if e.reserved then s.frameDiscard .len
  else
    let s := s.mapRx e.cyc (fun c => { c with tail := if c.tail.isSome then c.tail else some e })
    s.nakCheck e.cyc

/-- Frames of a cycle in sequence order. -/
def RxCycle.sorted (c : RxCycle) (n : Nat) : List ProofFrame :=
  (List.range n).filterMap (fun i => c.frames.find? (fun f => f.seq == c.head.firstSeq + BitVec.ofNat 32 i))

/-- Counts of what a frame carries. -/
def ProofFrame.postN (f : ProofFrame) : Nat := match f.body with | .posts l => l.length | _ => 0
def ProofFrame.ctrlN (f : ProofFrame) : Nat := match f.body with | .ctrls l => l.length | _ => 0

/-- The counts and the digest of PROOF_END match what arrived (R267). -/
def RxCycle.matches (c : RxCycle) (e : ProofEnd) : Bool :=
  let l := c.sorted e.frames
  l.length == e.frames && (l.map ProofFrame.lineN).sum == e.lines && (l.map ProofFrame.postN).sum == e.posts
    && (l.map ProofFrame.ctrlN).sum == e.ctrls && proofDigest (l.map (·.crc)) == e.digest

/-! ### Commands -/

/-- PROOF_TAKE (R179). -/
def execProofTake (line : Nat) (s : State) : Res := .next (s.proofTake line)

/-- PROOF_END_DECISION (R180). -/
def execProofEndDecision (s : State) : Res := .next s.proofEnd

/-- CTRL[CLR_PEAK] of the proof page. -/
def State.clrPeak (s : State) : State :=
  (s.setReg Page.proof Reg.proof_PEAK_BYTES 0#32).setReg Page.proof Reg.proof_MAX_ACK_LAT 0#32

/-- CLR_PEAK (R277). -/
def execClrPeak (s : State) : Res := .next s.clrPeak

end Sys2Proof.Machine
end

