-- ==== Sys2Proof/Machine/Ptp.lean ====
section
/-! DEFINITION. PTP: the best master clock algorithm, Sync and delay measurement, one-step and two-step transmission (R354, R357, R360 to R364, R383). -/

namespace Sys2Proof.Machine

/-- Port i. -/
def State.ptpPort (s : State) (i : Nat) : PtpPort := tget (fun _ => {}) s.ptpPorts i
def State.setPtpPort (s : State) (i : Nat) (x : PtpPort) : State := { s with ptpPorts := tset (fun _ => {}) s.ptpPorts i x }

/-- PTP_CFG: peer-to-peer profile, slave-only, two-step; ports enabled. -/
def State.ptpP2p (s : State) : Bool := s.fld Page.ptp Reg.ptp_PTP_CFG 0 2 != 0
def State.ptpSlaveOnly (s : State) : Bool := s.rbit Page.ptp Reg.ptp_PTP_CFG 3
def State.ptpOn (s : State) (i : Nat) : Bool := s.alive && s.rbit Page.ptp Reg.ptp_PTP_PORTS i

/-- SLAVE_PORT: 0 none, n for Pn. -/
def State.slavePort (s : State) : Nat := s.fld Page.ptp Reg.ptp_SLAVE_PORT 0 3

/-- portState of a port: 4 LISTENING, 6 MASTER, 7 PASSIVE, 9 SLAVE. -/
def State.ptpState (s : State) (i : Nat) : Nat := s.fld Page.ptp (Reg.ptp_PSTATE i) 0 4

/-- delayAsymmetry, ingress and egress latency of a port in ns (R362). -/
def State.asym (s : State) (i : Nat) : Int := (s.reg Page.ptp (Reg.ptp_ASYM i)).toInt
def State.ingress (s : State) (i : Nat) : Int := (s.reg (Page.port i) Reg.port_INGRESS_LAT).toNat
def State.egress (s : State) (i : Nat) : Int := (s.reg (Page.port i) Reg.port_EGRESS_LAT).toNat

/-- A frame of a kind that R360 does not list is counted in PTP_DISCARD [23:0]. -/
def State.ptpDiscard (s : State) (i : Nat) : State :=
  s.setFld Page.ptp (Reg.ptp_PTP_DISCARD i) 0 24 (min 0xFFFFFF (s.fld Page.ptp (Reg.ptp_PTP_DISCARD i) 0 24 + 1))

/-- Whether a message is of a kind that R360 supports: no IPv6, no unicast negotiation, management message, authentication TLV or alternate timescale TLV, and not the gPTP profile. -/
def PtpHdr.listed (h : PtpHdr) : Bool := h.carrier != .ipv6 && h.kind == .plain && h.sdo == 0#4

/-- The carrier that the profile and PTP_CFG[UDP] give: UDP over IPv4 with the two default profiles only (R360, R383). -/
def State.ptpCarrier (s : State) : PtpCarrier :=
  if s.rbit Page.ptp Reg.ptp_PTP_CFG 2 && s.fld Page.ptp Reg.ptp_PTP_CFG 0 2 != 2 then .ipv4 else .ethernet

/-- In an HSR ring the module forwards PTP frames to the other ring port as a peer-to-peer transparent clock: an event message with its residence time and the upstream link delay added to correctionField (R364). Its own frames leave the ring. -/
def State.ptpForward (s : State) (i : Nat) (h : PtpHdr) (msg : Nat) (event : Bool) (corr : Int) : State :=
  if s.alive && s.redMode (i / 2) == 2 && h.listed && h.sender != Config.uid then
    let c := if event then corr + h.resid + (s.reg Page.ptp (Reg.ptp_PDELAY i)).toInt else corr
    s.send .ptpForward [i / 2 * 2 + (1 - i % 2), msg, h.seq.toNat, h.sender.toNat, (BitVec.ofInt 64 c).toNat]
  else s

/-- The checks every message passes: port enabled, kind supported, carrier and domain as configured (R360). The flag says that it goes on. A message on the other carrier is not taken and not counted, as it is of no kind that R360 lists there. DESIGN CHOICE: notes/assumptions/23.md. -/
def State.ptpAccept (s : State) (i : Nat) (h : PtpHdr) : State × Bool :=
  if !s.ptpOn i then (s, false)
  else if !h.listed then (s.ptpDiscard i, false)
  else (s, h.carrier == s.ptpCarrier && h.domain.toNat == s.fld Page.ptp Reg.ptp_PTP_CFG 8 8)

/-! ### Best master clock algorithm of IEEE 1588-2019 clause 9.3 (R360). PRESUMED: notes/assumptions/23.md -/

/-- The module's own data set D0. -/
def State.ownData (s : State) : PtpData :=
  { gm := Config.uid, prio1 := s.fld Page.ptp Reg.ptp_PTP_PRIO 0 8, cls := s.ownClock.1, acc := s.ownClock.2
    var := Config.ptpVariance, prio2 := s.fld Page.ptp Reg.ptp_PTP_PRIO 8 8, steps := 0, sender := Config.uid }

/-- The fields of a data set in their order of comparison. -/
def PtpData.key (d : PtpData) : List Nat := [d.prio1, d.cls, d.acc, d.var, d.prio2, d.gm.toNat]

/-- Lexicographic comparison: the first difference decides. -/
def lexLt : List Nat → List Nat → Bool
  | a :: as, b :: bs => decide (a < b) || (decide (a = b) && lexLt as bs)
  | _, _ => false

/-- Whether data set a is better than b: by grandmaster, then by topology. -/
def PtpData.better (a b : PtpData) : Bool :=
  if a.gm = b.gm then lexLt [a.steps, a.sender.toNat] [b.steps, b.sender.toNat] else lexLt a.key b.key

/-- The best data set received on a port. -/
def State.portBest (s : State) (i : Nat) : Option PtpData :=
  if s.ptpOn i then (s.ptpPort i).foreign.map (·.data) else none

/-- The best data set of all ports, with its port. -/
def State.ebest (s : State) : Option (Nat × PtpData) :=
  (List.range 4).foldl (fun o i =>
    match s.portBest i, o with
    | none, o => o
    | some d, none => some (i, d)
    | some d, some (j, e) => if d.better e then some (i, d) else some (j, e)) none

/-- The state the algorithm gives port i: portState code. -/
def State.ptpDecide (s : State) (i : Nat) : Nat :=
  if !s.ptpOn i then 3
  else
    let d0 := s.ownData
    match s.portBest i, s.ebest with
    -- a port without a foreign master listens until announceReceiptTimeout has expired
    | none, _ => if (s.ptpPort i).quiet && !s.ptpSlaveOnly then 6 else 4
    | some d, e =>
      let (j, b) := e.getD (i, d)
      if s.ptpSlaveOnly then (if j = i then 9 else 4)
      else if 1 ≤ d0.cls ∧ d0.cls ≤ 127 then (if d.better d0 then 7 else 6)
      else if d0.better b then 6
      else if j = i then 9
      else if b.gm = d.gm then 7 else 6

/-- Port states, SLAVE_PORT, GM registers and the time source after a change of data sets (R354, R383). -/
def State.ptpRun (s : State) : State :=
  let st := (List.range 4).map s.ptpDecide
  let chg := (List.range 4).any (fun i => st.getD i 0 != s.ptpState i)
  let was := s.slavePort
  let s := (List.range 4).foldl (fun s i => s.setReg Page.ptp (Reg.ptp_PSTATE i) (BitVec.ofNat 32 (st.getD i 3))) s
  let s := if chg then s.raise Page.ptp 1 else s
  let port := match (List.range 4).find? (fun i => st.getD i 0 = 9) with | some i => i + 1 | none => 0
  let s := s.setReg Page.ptp Reg.ptp_SLAVE_PORT (BitVec.ofNat 32 port)
  -- the grandmaster: that of the followed master, or the module itself on a master port
  let gm : Option PtpData :=
    if port ≠ 0 then (s.portBest (port - 1)).map (fun d => { d with steps := d.steps + 1 })
    else if st.any (· == 6) then some s.ownData else none
  let s := match gm with
    | none => s
    | some d =>
      let old := s.reg Page.ptp Reg.ptp_GM_ID_HI ++ s.reg Page.ptp Reg.ptp_GM_ID_LO
      let s := s.setReg Page.ptp Reg.ptp_GM_ID_LO (d.gm.extractLsb' 0 32)
      let s := s.setReg Page.ptp Reg.ptp_GM_ID_HI (d.gm.extractLsb' 32 32)
      let s := s.setReg Page.ptp Reg.ptp_GM_QUAL (BitVec.ofNat 32 (d.cls + d.acc * 256 + d.steps * 65536))
      if old = d.gm then s else s.raise Page.ptp 0
  if port ≠ 0 then (if (s.ptpPort (port - 1)).silent then s else s.tbFollow .ptp) else if was ≠ 0 then s.tbLost .ptp else s

/-- UTC data of the followed master's Announce while PTP is the source (R357). -/
def State.ptpUtc (s : State) : State :=
  if s.tb.src = .ptp ∧ s.slavePort ≠ 0 then
    match (s.ptpPort (s.slavePort - 1)).foreign with
    | none => s
    | some a =>
      if a.utcValid then
        let b := { s.tb with utcFromPtp := true, leapPend := a.leap61 || a.leap59, leapNeg := a.leap59 && !a.leap61 }
        s.setTb { b with utc := if s.tb.src1 && s.tb.leapAt == some s.tb.time.sec then b.utc else a.utc }
      else s.setTb { s.tb with utcFromPtp := false }
  else s

/-- An Announce (R360): two from one sender within four intervals qualify it. -/
def State.ptpAnnounce (s : State) (i : Nat) (h : PtpHdr) (a : PtpAnnounce) : State :=
  let (s, ok) := s.ptpAccept i h
  if !ok || a.data.gm == Config.uid || decide (a.data.steps ≥ 255) then s
  else
    let p := s.ptpPort i
    let intv := 2 ^ (s.fld Page.ptp Reg.ptp_PTP_INTV 4 4) * 250000000
    let qual := match p.seen with
      | some (who, t) => who == h.sender && decide (s.now ≤ t + 4 * intv)
      | none => false
    let a := { a with data := { a.data with sender := h.sender } }
    let take := qual && (match p.foreign with | none => true | some f => f.data.sender == h.sender || a.data.better f.data)
    let p := { p with seen := some (h.sender, s.now), quiet := false, foreign := if take then some a else p.foreign }
    ((s.setPtpPort i p).ptpRun).ptpUtc

/-! ### Offsets and delays -/

/-- The path delay of the slave port: link delay in peer-to-peer operation, mean path delay else. -/
def State.pathDelay (s : State) (i : Nat) : Int :=
  if s.ptpP2p then (s.reg Page.ptp (Reg.ptp_PDELAY i)).toInt else (s.reg Page.tb Reg.tb_PATH_DELAY).toInt

/-- The offset of a Sync: receipt − origin − path delay − correction − asymmetry (R353, R362). A source that was lost returns with it (R354); UTC data are taken where PTP becomes the source, and else at an Announce (R357, R358). -/
def State.ptpOffset (s : State) (i : Nat) (t1 t2 corr : Int) : State :=
  let p := s.ptpPort i
  let s := s.setPtpPort i { p with ms := some (t2 - t1 - corr), sync := none, silent := false }
  let was := s.tb.src
  let s := (s.tbFollow .ptp).tbOffset .ptp (t2 - t1 - s.pathDelay i - corr - s.asym i)
  if was = .ptp then s else s.ptpUtc

/-- SYNC (R353, R360, R362, R364): taken only from the followed master. -/
def execSync (port : Fin 4) (h : PtpHdr) (twoStep : Bool) (t1 corr t2 : Int) (s : State) : Res :=
  let i := port.val
  let s := s.ptpForward i h 0 true corr
  let (s, ok) := s.ptpAccept i h
  let from_ := match (s.ptpPort i).foreign with | some a => a.data.sender == h.sender | none => false
  .next (
    if !ok || s.slavePort != i + 1 || !from_ then s
    else
      let t2 := t2 - s.ingress i
      if twoStep then s.setPtpPort i { s.ptpPort i with sync := some (h.seq, t2, corr) }
      else s.ptpOffset i t1 t2 corr)

/-- FOLLOW_UP (R360, R364): the origin time of the two-step Sync with the same sequence. -/
def execFollowUp (port : Fin 4) (h : PtpHdr) (t1 corr : Int) (s : State) : Res :=
  let i := port.val
  let s := s.ptpForward i h 8 false corr
  let (s, ok) := s.ptpAccept i h
  .next (
    match (s.ptpPort i).sync with
    | some (q, t2, c) => if ok && s.slavePort == i + 1 && q == h.seq then s.ptpOffset i t1 t2 (c + corr) else s
    | none => s)

/-- ANNOUNCE (R357, R360, R364). -/
def execAnnounce (port : Fin 4) (h : PtpHdr) (a : PtpAnnounce) (s : State) : Res :=
  .next ((s.ptpForward port.val h 11 false 0).ptpAnnounce port.val h a)

/-! ### Messages that leave (R360, R363, R365) -/

/-- Bytes on the wire of a message with preamble and interframe gap: the lengths of IEEE 1588-2019 in frames of at least 64 bytes, and 28 bytes more over UDP and IPv4. PRESUMED: notes/assumptions/23.md. -/
def State.ptpLen (s : State) (w : Out) : Nat :=
  let n := match w with
    | .ptpAnnounce => 64
    | .ptpDelayResp => 54 | .ptpPdelayReq => 54 | .ptpPdelayResp => 54 | .ptpPdelayRespFollowUp => 54
    | _ => 44
  max 64 (n + 18 + (if s.ptpCarrier = .ipv4 then 28 else 0)) + 20

/-- The last fields of a one-step message: the whole nanoseconds of the egress time, its sub-nanosecond part in correctionField, 0 at the resolution of R351, and whether it goes over UDP, with the UDP checksum 0 (R363). -/
def State.oneStep (s : State) (t : Int) : List Nat := [t.toNat, 0, if s.ptpCarrier = .ipv4 then 1 else 0]

/-- A one-step insertion has failed: the frame is aborted and counted, the next Sync goes two-step (R363). -/
def State.oneAbort (s : State) (i : Nat) : State :=
  let s := s.setPtpPort i { s.ptpPort i with twoNext := true }
  s.setFld Page.ptp (Reg.ptp_PTP_DISCARD i) 24 8 (min 255 (s.fld Page.ptp (Reg.ptp_PTP_DISCARD i) 24 8 + 1))

/-- A message leaves its port, whose number is its first field, at a time: event messages take their egress time, one-step, or two-step by configuration or after a failed insertion (R363). -/
def State.ptpLeave (s : State) (f : FreeFrame) (t : Int) : State :=
  let i := f.args.getD 0 0
  let p := s.ptpPort i
  let t := t + s.egress i
  let two := s.rbit Page.ptp Reg.ptp_PTP_CFG 4
  match f.what with
  | .ptpSync =>
    if two || p.twoNext then ((s.setPtpPort i { p with twoNext := false }).send .ptpSync (f.args ++ [1] ++ s.oneStep 0)).send .ptpFollowUp (f.args ++ [t.toNat])
    else if f.fail then s.oneAbort i
    else s.send .ptpSync (f.args ++ [0] ++ s.oneStep t)
  | .ptpPdelayResp =>
    if two then (s.send .ptpPdelayResp (f.args ++ [1] ++ s.oneStep 0)).send .ptpPdelayRespFollowUp (f.args ++ [t.toNat])
    else if f.fail then s.oneAbort i
    else s.send .ptpPdelayResp (f.args ++ [0] ++ s.oneStep t)
  | .ptpDelayReq => (s.setPtpPort i { p with req := some (BitVec.ofNat 16 (f.args.getD 1 0), t) }).send .ptpDelayReq f.args
  | .ptpPdelayReq => (s.setPtpPort i { p with req := some (BitVec.ofNat 16 (f.args.getD 1 0), t) }).send .ptpPdelayReq f.args
  | w => s.send w f.args

/-- A message goes to its port: it leaves at `t`, or is held back (R365). -/
def State.ptpSend (s : State) (w : Out) (args : List Nat) (t : Int) (fail : Bool) : State :=
  let f : FreeFrame := { len := s.ptpLen w, what := w, args := args, fail := fail }
  s.freeSend (args.getD 0 0) f (fun s => s.ptpLeave f t)

/-- A frame held back leaves now; on a lane it leaves only while the pass gate is true, and counts there (R389, R409). -/
def State.freeLeave (s : State) (port : Nat) (f : FreeFrame) : State :=
  if port < 4 then s.ptpLeave f s.tb.time.toNs
  else if s.pair.gate then (s.send f.what f.args).count (Page.lane (port - 4)) Reg.lane_TX_FRAMES
  else s

/-- The frames held back on a port leave in their order, as long as each ends before the next launch time (R365). -/
def State.freeDrain (s : State) (port : Nat) : State :=
  (s.held port).foldl (fun s f =>
    if (s.held port).head? = some f ∧ s.mayStart port f.len = true then (s.setHeld port ((s.held port).drop 1)).freeLeave port f else s) s

/-- Frames held back on any port. -/
def State.freeTick (s : State) : State := if s.freeTx.isEmpty then s else (List.range 6).foldl State.freeDrain s

/-- FRAME_LAUNCH (R365): a queued frame reaches its launch time; frames held back for it follow. -/
def execFrameLaunch (port : Fin 6) (s : State) : Res := .next ((s.launchOne port.val).freeDrain port.val)

/-- DELAY_REQ (R360): a master port answers with its receipt time. -/
def execDelayReq (port : Fin 4) (h : PtpHdr) (t4 : Int) (s : State) : Res :=
  let i := port.val
  let (s, ok) := s.ptpAccept i h
  .next (
    if ok && !s.ptpP2p && s.ptpState i == 6 then
      s.ptpSend .ptpDelayResp [i, h.seq.toNat, h.sender.toNat, (t4 - s.ingress i).toNat] t4 false
    else s)

/-- DELAY_RESP (R360): half the sum of both directions; the asymmetry cancels. -/
def execDelayResp (port : Fin 4) (h : PtpHdr) (t4 corr : Int) (s : State) : Res :=
  let i := port.val
  let (s, ok) := s.ptpAccept i h
  let p := s.ptpPort i
  .next (
    match p.req, p.ms with
    | some (q, t3), some ms =>
      if ok && !s.ptpP2p && s.slavePort == i + 1 && q == h.seq then
        (s.setPtpPort i { p with req := none }).setReg Page.tb Reg.tb_PATH_DELAY (BitVec.ofInt 32 ((ms + (t4 - t3 - corr)) / 2))
      else s
    | _, _ => s)

/-- PDELAY_REQ (R363): the response names its request, with the receipt time, and carries its egress time, in itself or in a follow-up. -/
def execPdelayReq (port : Fin 4) (h : PtpHdr) (t2 : Int) (out : PtpEgress) (s : State) : Res :=
  let i := port.val
  let (s, ok) := s.ptpAccept i h
  .next (
    if ok && s.ptpP2p then s.ptpSend .ptpPdelayResp [i, h.seq.toNat, h.sender.toNat, (t2 - s.ingress i).toNat] out.t out.fail
    else s)

/-- PDELAY_RESP (R360): the link delay from the round trip less the turnaround. -/
def execPdelayResp (port : Fin 4) (h : PtpHdr) (turn t4 : Int) (s : State) : Res :=
  let i := port.val
  let (s, ok) := s.ptpAccept i h
  let p := s.ptpPort i
  .next (
    match p.req with
    | some (q, t1) =>
      if ok && s.ptpP2p && q == h.seq then
        let d := BitVec.ofInt 32 ((t4 - s.ingress i - t1 - turn) / 2)
        let s := (s.setPtpPort i { p with req := none }).setReg Page.ptp (Reg.ptp_PDELAY i) d
        if s.slavePort = i + 1 then s.setReg Page.tb Reg.tb_PATH_DELAY d else s
      else s
    | none => s)

/-- The next sequence number of a port is used. -/
def State.ptpNext (s : State) (i : Nat) : State := s.setPtpPort i { s.ptpPort i with seqNo := (s.ptpPort i).seqNo + 1#16 }

/-- PTP_MESSAGE_SEND (R360, R361, R363): `t` is the egress time of a message that leaves at once. -/
def execPtpMessageSend (port : Fin 4) (k : PtpSend) (t : Int) (fail : Bool) (s : State) : Res :=
  let i := port.val
  let p := s.ptpPort i
  .next (
    if !s.ptpOn i then s
    else match k with
      | .sync => if s.ptpState i = 6 then s.ptpNext i |>.ptpSend .ptpSync [i, p.seqNo.toNat] t fail else s
      | .announce =>
        if s.ptpState i = 6 then
          -- the grandmaster's values while a master is followed, the module's own else
          let d := if s.slavePort ≠ 0 then ((s.portBest (s.slavePort - 1)).map (fun d => { d with steps := d.steps + 1 })).getD s.ownData else s.ownData
          let valid := s.tb.src1 || s.tb.utcWritten
          (s.ptpNext i).ptpSend .ptpAnnounce
            [i, p.seqNo.toNat, d.gm.toNat, d.prio1, d.cls, d.acc, d.var, d.prio2, d.steps, (BitVec.ofInt 16 s.tb.utc).toNat,
             (if valid then 4 else 0) + (if s.tb.leapPend then (if s.tb.leapNeg then 2 else 1) else 0)] t false
        else s
      | .delayReq =>
        if s.ptpP2p then (s.ptpNext i).ptpSend .ptpPdelayReq [i, p.seqNo.toNat] t false
        else if s.slavePort = i + 1 then (s.ptpNext i).ptpSend .ptpDelayReq [i, p.seqNo.toNat] t false
        else s)

/-- ANNOUNCE_RECEIPT_TIMEOUT (R354): the foreign master of the port is dropped and the port states are decided anew. -/
def execAnnounceReceiptTimeout (port : Fin 4) (s : State) : Res :=
  .next ((s.setPtpPort port.val { s.ptpPort port.val with foreign := none, seen := none, quiet := true, sync := none, silent := false }).ptpRun)

/-- SYNC_LOSS (R354): four Sync intervals without a Sync on the slave port lose the source, until a Sync comes again. -/
def execSyncLoss (port : Fin 4) (s : State) : Res :=
  .next (if s.slavePort = port.val + 1 then (s.setPtpPort port.val { s.ptpPort port.val with silent := true }).tbLost .ptp else s)

end Sys2Proof.Machine
end

