-- ==== Sys2Proof/Machine/Station.lean ====
section
/-! DEFINITION. The station link: joins, input and output frames, mapping, dropout, commands (R387 to R412). -/

namespace Sys2Proof.Machine

/-- Configuration and running state of station x. -/
def State.stnCfgOf (s : State) (x : Nat) : Option StnCfg := tget (fun _ => none) s.stnCfg x
def State.stn (s : State) (x : Nat) : StnRt := tget (fun _ => {}) s.stns x
def State.setStn (s : State) (x : Nat) (r : StnRt) : State := { s with stns := tset (fun _ => {}) s.stns x r }

/-- Code of a station state (R396). -/
def StnSt.code : StnSt → Nat
  | .notConfigured => 0 | .absent => 1 | .joining => 2 | .running => 3 | .failed => 4 | .inhibited => 5

/-- Whether a station sends frames that count: JOINING or RUNNING. -/
def StnSt.joined (t : StnSt) : Bool := t == .joining || t == .running

/-- STN_STAT of station x (R411). -/
def State.stnStat (s : State) (x : Nat) : Word :=
  let r := s.stn x
  BitVec.ofNat 32 (r.st.code + r.ver % 256 * 2 ^ 8 + min r.missed 255 * 2 ^ 16 + r.nak % 16 * 2 ^ 24)

/-- Stations of a lane in a state. -/
def State.stnCount (s : State) (lane : Nat) (t : StnSt) : Nat :=
  (s.stns.filter (fun e => e.1 / 128 == lane && e.2.st == t)).length

/-- LANE_STAT (R409). -/
def State.laneStat (s : State) (lane : Nat) : Word :=
  let st := match tget (fun _ => LaneSt.down) s.lanes lane with | .down => 0 | .training => 1 | .up => 2
  BitVec.ofNat 32 (st + s.stnCount lane .running % 256 * 2 ^ 8 + s.stnCount lane .failed % 256 * 2 ^ 16)

/-- Period of a station in ns, and the number of the period that holds a time (R395). -/
def StnCfg.period (c : StnCfg) : Nat := c.k * 250000
def StnCfg.periodAt (c : StnCfg) (t : Nat) : Nat := t / c.period

/-! ### Frames to stations (R389, R390) -/

/-- A station link frame as it leaves, multi-byte fields most significant byte first, filled up to 64 bytes, with its FCS (R6, R390). -/
def stnBytes (da : BitVec 48) (etherType ver type addr flags epoch cyc seq : Nat) (payload : List Byte) : List Byte :=
  let l := bytesBE 6 da.toNat ++ bytesBE 6 ownMac.toNat ++ bytesBE 2 etherType ++ bytesBE 1 ver ++ bytesBE 1 type ++ bytesBE 1 addr
    ++ bytesBE 1 flags ++ bytesBE 4 epoch ++ bytesBE 6 cyc ++ bytesBE 2 seq ++ bytesBE 2 payload.length ++ payload
  let l := l ++ List.replicate (60 - l.length) 0#8
  l ++ bytesLE 4 (ethFcs l).toNat

/-- A frame for station x as it leaves: the station's index, then the bytes, each as a number. -/
def State.stnFrame (s : State) (x : Nat) (da : BitVec 48) (ver type flags cyc seq : Nat) (payload : List Byte) : List Nat :=
  x :: (stnBytes da (s.fld (Page.lane (x / 128)) Reg.lane_ETHERTYPE 0 16) ver type (x % 128 + 1) flags s.pair.epoch.toNat cyc seq payload).map BitVec.toNat

/-- A frame without a launch time goes to station x (R365, R390): its payload with the 56 bytes of framing, preamble and gap, at least 84. -/
def State.stnSend (s : State) (w : Out) (args : List Nat) (payload : Nat) : State :=
  let lane := args.getD 0 0 / 128
  let f : FreeFrame := { len := max 84 (payload + 56), what := w, args := args }
  s.freeSend (4 + lane) f (fun s => s.freeLeave (4 + lane) f)

/-! ### The mapping (R398) -/

/-- Fields of a mapping entry. -/
def StnMap.handle (m : StnMap) : Nat := fieldNat m.w0 0 16
def StnMap.chan (m : StnMap) : Nat := 0x2000 + fieldNat m.w0 16 12
def StnMap.hEn (m : StnMap) : Bool := bit m.w0 28
def StnMap.cEn (m : StnMap) : Bool := bit m.w0 29
def StnMap.offset (m : StnMap) : Nat := fieldNat m.w1 0 11
def StnMap.bitNo (m : StnMap) : Nat := fieldNat m.w1 11 3
def StnMap.type (m : StnMap) : Nat := fieldNat m.w1 14 4
def StnMap.output (m : StnMap) : Bool := bit m.w1 18
def StnMap.holds (m : StnMap) : Bool := bit m.w1 19
def StnMap.station (m : StnMap) : Nat := fieldNat m.w1 24 8
def StnMap.qbit (m : StnMap) : Nat := fieldNat m.w2 0 14
def StnMap.qEn (m : StnMap) : Bool := bit m.w2 15

/-- Bytes per second of the frames of a lane in one direction, with the 56 bytes of R390 (R408). -/
def laneRate (l : Tab (Option StnCfg)) (lane : Nat) (f : StnCfg → Nat) : Nat :=
  l.foldl (fun a e =>
    match e.2 with
    | some c => if e.1 / 128 = lane then a + 4000 * (f c + 56) / c.k else a
    | none => a) 0

/-- Whether a lane never holds more than 64 OUTPUT frames in launch queue 0 (R408): each waits 20 µs, from its build to its launch; judged at every launch within the common period. -/
def laneQueueOk (l : Tab (Option StnCfg)) (lane : Nat) : Bool :=
  let st := l.filterMap (fun e => if e.1 / 128 = lane then e.2 else none)
  let all := st.foldl (fun a c => Nat.lcm a (max c.k 1)) 1
  -- launches of a station in the 20 µs from t
  let due := fun (t : Nat) (c : StnCfg) => if (t + c.period - c.outPhase % c.period) % c.period = 0 ∨ c.period - (t + c.period - c.outPhase % c.period) % c.period < 20000 then 1 else 0
  st.all (fun c => (List.range (all / max c.k 1)).all (fun j => decide ((st.map (due (j * c.period + c.outPhase))).sum ≤ 64)))

/-- The rules of R408 that the module checks again at configuration load: at most 80 % of a lane in each direction, and the launch queue. -/
def lanesOk (l : Tab (Option StnCfg)) : Bool :=
  (List.range 2).all (fun lane => decide (laneRate l lane (·.outLen) ≤ 1000000000) && decide (laneRate l lane (·.inLen) ≤ 1000000000) && laneQueueOk l lane)

/-- Mapping entries of station x in one direction. -/
def State.stnEntries (s : State) (x : Nat) (out : Bool) : List StnMap :=
  s.stnMap.filter (fun m => m.station == x && m.output == out)

/-- Bytes of a field type; a BOOL lies in one. -/
def mapBytes (ty : Nat) : Nat := if ty ≤ 2 then 1 else if ty ≤ 4 then 2 else 4

/-- `n` payload bytes from an offset as a number, most significant byte first (R6, R390). -/
def payloadBE (l : List Byte) (o n : Nat) : Nat := (List.range n).foldl (fun a i => a * 256 + (l.getD (o + i) 0#8).toNat) 0

/-- A bit of the payload: bit b of byte o has number 8 o + b, from the least significant. DEDUCED: notes/assumptions/25.md. -/
def payloadBit (l : List Byte) (k : Nat) : Bool := bit (l.getD (k / 8) 0#8) (k % 8)

/-- An input field as its handle holds it. DEDUCED: notes/assumptions/25.md. -/
def StnMap.word (m : StnMap) (l : List Byte) : Word :=
  let v := payloadBE l m.offset (mapBytes m.type)
  match m.type with
  | 0 => if payloadBit l (m.offset * 8 + m.bitNo) then 1#32 else 0#32
  | 1 => (BitVec.ofNat 8 v).signExtend 32
  | 3 => (BitVec.ofNat 16 v).signExtend 32
  | _ => BitVec.ofNat 32 v

/-- An input field as its channel holds it: an integer field becomes binary32. -/
def StnMap.real (m : StnMap) (l : List Byte) : Word :=
  let v := m.word l
  if m.type ≥ 5 then v else BitVec.ofNat 32 (fOfInt f32 v.toInt).1

/-- The quality field of an entry: 0 good, 1 uncertain, 2 bad. -/
def StnMap.quality (m : StnMap) (l : List Byte) : Nat :=
  if m.qEn then min 2 ((if payloadBit l m.qbit then 1 else 0) + (if payloadBit l (m.qbit + 1) then 2 else 0)) else 0

/-- A value that an accepted INPUT carries enters its handle and its channel with the time of the grid point (R399). -/
def State.stnInput (s : State) (l : List Byte) (t : Nat) (m : StnMap) : State :=
  let q := m.quality l
  let st := stWord q false false false false false 1 (if q = 0 then 0 else 1)
  let s := if m.hEn then s.inWrite m.handle (m.word l) st else s
  if m.cEn then s.setChan m.chan { value := m.real l, status := st, time := t } else s

/-- An input without a frame: its substitute or its last value, with a DETAIL code (R399, R401). -/
def State.stnMissing (s : State) (detail : Bool → Nat) (m : StnMap) : State :=
  if m.hEn then
    s.inWrite m.handle (if m.holds then (s.inLast m.handle).value else m.w3)
      (stWord 2 (!m.holds) m.holds false false true 1 (detail m.holds))
  else s

/-- A channel of a station that is gone: QUAL bad, SRCFAIL = 1, value and time kept (R401). -/
def State.stnChanBad (s : State) (m : StnMap) : State :=
  if m.cEn then
    let c := s.chan m.chan
    s.setChan m.chan { c with status := (c.status &&& 0x3FFF#16) ||| 0x8100#16 }
  else s

/-- An input channel at configuration load: QUAL bad, SRCFAIL = 1, CLASS 0x1 and DETAIL 0x5, with its substitute in binary32 or its last value as DROP_ACT states (R399). -/
def State.stnChanLoad (s : State) (m : StnMap) : State :=
  if m.cEn then
    let c := s.chan m.chan
    let sub := if m.type ≥ 5 then m.w3 else BitVec.ofNat 32 (fOfInt f32 m.w3.toInt).1
    s.setChan m.chan { c with value := if m.holds then c.value else sub, status := stWord 2 (!m.holds) m.holds false false true 1 5 }
  else s

/-- The station configuration takes effect: every configured station ABSENT, every other one NOT_CONFIGURED, the inputs with DETAIL 0x5 (R396, R399), the load of each lane (R408). -/
def State.stnLoad (s : State) : State :=
  let s := { s with stns := [] }
  let s := s.stnCfg.foldl (fun s e => if e.2.isSome then s.setStn e.1 { st := .absent } else s) s
  let s := s.stnMap.foldl (fun s m => if m.output then s else (s.stnMissing (fun _ => 5) m).stnChanLoad m) s
  (List.range 2).foldl (fun s lane =>
    let sum := fun (f : StnCfg → Nat) => laneRate s.stnCfg lane f * 1000 / 1250000000
    s.setReg (Page.lane lane) Reg.lane_TX_LOAD
      (BitVec.ofNat 32 (sum (·.outLen) % 1024 + sum (·.inLen) % 1024 * 2 ^ 16))) s

/-! ### Dropout (R400, R401) -/

/-- OUTPUT frames queued for station x leave launch queue 0 of its lane. -/
def State.stnUnqueue (s : State) (x : Nat) : State :=
  let p := 4 + x / 128
  s.setQueue p 0 ((s.queue p 0).filter (fun f => !(f.what == .stationOutput && f.args.head? == some x)))

/-- A dropout of station x: FAILED, queued frames removed, inputs substituted or held, error cause 0 on the active module (R401, R405). -/
def State.stnDrop (s : State) (x : Nat) : State :=
  let s := s.setStn x { s.stn x with st := .failed }
  let s := s.stnUnqueue x
  let s := (s.stnEntries x false).foldl (fun s m =>
    (s.stnMissing (fun h => if h then 4 else 3) m).stnChanBad m) s
  let s := if s.isActive then s.cause 0 else s
  let s := s.count Page.stn Reg.stn_DROP_TOTAL
  let s := s.setReg Page.stn Reg.stn_LAST_DROP (BitVec.ofNat 32 (x + 256))
  (s.raise Page.stn 0).journalReg Page.stn 0x0100 Reg.stn_LAST_DROP

/-- A station leaves JOINING for ABSENT, to which no OUTPUT goes (R396, R410). -/
def State.stnJoinLost (s : State) (x : Nat) : State := ((s.setStn x { s.stn x with st := .absent }).stnUnqueue x).raise Page.stn 3

/-! ### Joins (R394, R396) -/

/-- OWN_MIN and OWN_MAX of interface i, and the version in use (R237), OWN_MAX where none is known yet: DEDUCED, notes/assumptions/35.md. -/
def ifMin (i : Nat) : Nat := (Config.ifOwn i).1
def ifMax (i : Nat) : Nat := (Config.ifOwn i).2
def State.verInUse (s : State) (i : Nat) : Nat := if s.pair.inUse.getD i 0 = 0 then ifMax i else s.pair.inUse.getD i 0

/-- Reason of the first check of R394 that fails for a JOIN_REQ payload on station x, 0 if all pass, with the agreed version. -/
def State.joinReason (s : State) (x : Nat) (l : List Byte) : Nat × Nat :=
  let ver := min (l.getD 9 0#8).toNat (s.verInUse 2)
  match s.stnCfgOf x with
  | none => (1, ver)
  | some c =>
    let caps := payloadBE l 10 2
    let need := c.caps.toNat ||| 1
    (if c.uid ≠ 0#64 ∧ c.uid ≠ BitVec.ofNat 64 (payloadBE l 0 8) then 2
     else if ver < (l.getD 8 0#8).toNat ∨ ver < ifMin 2 then 3
     else if payloadBE l 12 2 ≠ c.inLen ∨ payloadBE l 14 2 ≠ c.outLen then 4
     else if payloadBE l 16 2 > c.k then 5
     else if (s.stn x).st = .inhibited then 6
     else if caps &&& need ≠ need then 7
     else 0, ver)

/-- JOIN_NAK to the sender of the request, under the version in use (R390, R394, R410). -/
def State.joinNak (s : State) (x reason : Nat) (sa : BitVec 48) : State :=
  let s := s.stnSend .joinNak (s.stnFrame x sa (s.verInUse 2) 0x03 0 0 0 (bytesBE 1 reason ++ bytesBE 3 0)) 4
  let r := s.stn x
  let s := s.setStn x { r with nak := reason }
  let s := if r.st = .joining then s.stnJoinLost x else s
  let s := s.count Page.stn Reg.stn_NAK_TOTAL
  let s := s.setReg Page.stn Reg.stn_LAST_NAK (BitVec.ofNat 32 (x + reason * 2 ^ 8 + 2 ^ 12))
  (s.raise Page.stn 2).journalReg Page.stn 0x0302 Reg.stn_LAST_NAK

/-- Payload of a JOIN_ACK (R393). -/
def StnCfg.ackPayload (c : StnCfg) : List Byte :=
  bytesBE 2 c.k ++ bytesBE 4 c.outPhase ++ bytesBE 4 c.inPhase ++ bytesBE 4 c.wdg ++ bytesBE 2 c.inLen ++ bytesBE 2 c.outLen
    ++ bytesBE 2 (c.caps.toNat ||| 1) ++ bytesBE 2 c.cfg.length ++ bytesBE 2 0 ++ c.cfg

/-- JOIN_ACK (R393, R394): the station is JOINING from the period in which it is sent; what INPUT frames were accepted stays known (R397). -/
def State.joinAck (s : State) (x : Nat) (c : StnCfg) (ver : Nat) (sa : BitVec 48) : State :=
  let r := s.stn x
  let ver := if r.st = .joining then r.ver else ver
  let s := s.stnSend .joinAck (s.stnFrame x sa ver 0x02 0 (s.bell.cycle % 2 ^ 48) 0 c.ackPayload) c.ackPayload.length
  let s := s.setStn x { r with st := .joining, ver := ver, mac := sa, missed := 0, from_ := c.periodAt s.tb.time.toNs }
  s.count Page.stn Reg.stn_JOIN_TOTAL

/-- A JOIN_REQ of station x: answered by the module that holds the pass, which sends while its pass gate is true (R389, R394). A JOIN_REQ of a RUNNING station is a dropout first (R396). A standby learns the station's address from it, or else from its INPUT (R390). DEDUCED: notes/assumptions/26.md. -/
def State.stnJoin (s : State) (x : Nat) (f : StnFrame) : State :=
  if s.isActive then
    let s := if (s.stn x).st = .running then s.stnDrop x else s
    if s.pair.gate then
      let (reason, ver) := s.joinReason x f.payload
      match s.stnCfgOf x with
      | some c => if reason = 0 then s.joinAck x c ver f.sa else s.joinNak x reason f.sa
      | none => s.joinNak x reason f.sa
    else s
  else if (s.stnCfgOf x).isSome then s.setStn x { s.stn x with mac := f.sa }
  else s

/-! ### Receiving (R397, R405) -/

/-- Periods that a SEQ can name at a time: its own or the one before, whose deadline has not passed (R395, R397). -/
def StnCfg.seqPeriod (c : StnCfg) (t : Nat) (seq : Half) : Option Nat :=
  let n := c.periodAt t
  if n % 65536 = seq.toNat then some n
  else if 1 ≤ n ∧ (n - 1) % 65536 = seq.toNat ∧ t ≤ n * c.period + c.inPhase then some (n - 1)
  else none

/-- Whether a standby takes an INPUT of an ABSENT or FAILED station: its VER lies in the own range and at or below the version in use (R405). -/
def State.standbyTakes (s : State) (x : Nat) (ver : Nat) : Bool :=
  !s.isActive && ((s.stn x).st == .absent || (s.stn x).st == .failed)
    && decide (ifMin 2 ≤ ver ∧ ver ≤ ifMax 2 ∧ ver ≤ s.verInUse 2)

/-- An INPUT is accepted for period j (R397, R399). -/
def State.stnAccept (s : State) (x : Nat) (c : StnCfg) (j : Nat) (f : StnFrame) : State :=
  let r := s.stn x
  let s := if r.st = .running then s else s.raise Page.stn 1
  let s := s.setStn x { r with st := .running, seen := (j :: r.seen).take 4 }
  let s := s.count (Page.lane (x / 128)) Reg.lane_RX_FRAMES
  (s.stnEntries x false).foldl (fun s m => s.stnInput f.payload (j * c.period) m) s

/-- Orders 5 to 8 of R397 for an INPUT of station x. -/
def State.stnInputFrame (s : State) (lane x : Nat) (c : StnCfg) (f : StnFrame) : State :=
  let r := s.stn x
  let takes := s.standbyTakes x f.ver.toNat
  if !takes && f.ver.toNat ≠ r.ver then s.count (Page.lane lane) Reg.lane_VER_DISCARD
  else if !takes && !r.st.joined then s.count (Page.lane lane) Reg.lane_STATE_DISCARD
  else match c.seqPeriod s.tb.time.toNs f.seq with
    | none => s.count (Page.lane lane) Reg.lane_LATE_CNT
    | some j =>
      if r.seen.contains j then s.count (Page.lane lane) Reg.lane_DUP_CNT
      else
        let s := if takes then s.setStn x { r with ver := f.ver.toNat, missed := 0, from_ := j, mac := f.sa } else s
        s.stnAccept x c j f

/-- A frame arrives on a lane: the checks of R397 in their order. -/
def State.stnReceive (s : State) (lane : Nat) (f : StnFrame) : State :=
  let p := Page.lane lane
  let mac : BitVec 48 := (s.reg p Reg.lane_GROUP_MAC_HI).extractLsb' 0 16 ++ s.reg p Reg.lane_GROUP_MAC_LO
  let x := lane * 128 + f.addr.toNat - 1
  let join := f.type = 0x01#8
  if !s.alive || !s.rbit p Reg.lane_LANE_CFG 0 then s
  else if !f.fcsOk then s.count p Reg.lane_FCS_ERR
  else if f.etherType.toNat ≠ s.fld p Reg.lane_ETHERTYPE 0 16 ∨ f.da ≠ mac then s.count p Reg.lane_NOMATCH
  else if (f.type ≠ 0x01#8 ∧ f.type ≠ 0x11#8) ∨ f.addr.toNat = 0 ∨ 128 < f.addr.toNat then s.count p Reg.lane_FRAME_ERR
  else if f.len = 0xFFFF#16 ∨ f.payload.length < f.len.toNat then s.discard p Reg.lane_LEN_DISCARD
  else if join then
    if f.len ≠ 28#16 then s.discard p Reg.lane_LEN_DISCARD else (s.count p Reg.lane_RX_FRAMES).stnJoin x f
  else match s.stnCfgOf x with
    | none => s.discard p Reg.lane_LEN_DISCARD
    | some c => if f.len.toNat ≠ c.inLen then s.discard p Reg.lane_LEN_DISCARD else s.stnInputFrame lane x c f

/-! ### Sending (R403) -/

/-- A binary32 value converted to a field of w bits, rounded to nearest and saturated; none for a NaN. -/
def realToField (signed : Bool) (w : Nat) (v : Word) : Option Int :=
  match unpackF f32 v.toNat with
  | .nan _ => none
  | _ =>
    let i := (fToInt f32 64 false v.toNat).1
    some (if signed then max (-(2 ^ (w - 1))) (min (2 ^ (w - 1) - 1) i) else max 0 (min (2 ^ w - 1) i))

/-- The number of an output entry. The result of a NaN is not stated: a free value. DESIGN CHOICE: notes/assumptions/27.md. -/
def State.stnOutValue (s : State) (m : StnMap) : Nat :=
  if m.cEn then
    let v := (s.stage m.chan).value
    let free := (Config.freeWord s.freeCtr).toNat
    let num := fun (r : Option Int) (w : Nat) => match r with | some i => (BitVec.ofInt 32 i).toNat % 2 ^ w | none => free % 2 ^ w
    match m.type with
    | 0 => num (realToField false 1 v) 1
    | 1 => num (realToField true 8 v) 8
    | 2 => num (realToField false 8 v) 8
    | 3 => num (realToField true 16 v) 16
    | 4 => num (realToField false 16 v) 16
    | _ => v.toNat
  else (s.formeValue m.handle).toNat

/-- Bytes written over a payload from an offset. -/
def overlay (l : List Byte) (o : Nat) (b : List Byte) : List Byte := (b.zipIdx).foldl (fun l e => l.set (o + e.2) e.1) l

/-- An output entry is placed in the payload; one with neither H_EN nor C_EN has no source and leaves its field (R398). -/
def State.stnPlace (s : State) (l : List Byte) (m : StnMap) : List Byte :=
  let v := s.stnOutValue m
  if !m.hEn && !m.cEn then l
  else if m.type = 0 then
    let b := l.getD m.offset 0#8
    l.set m.offset (setField b m.bitNo 1 (v % 2))
  else overlay l m.offset (bytesBE (mapBytes m.type) v)

/-- OUTPUT_BUILD (R403): the OUTPUT of period j is queued in launch queue 0. -/
def State.stnBuild (s : State) (x j : Nat) : State :=
  match s.stnCfgOf x with
  | none => s
  | some c =>
    let r := s.stn x
    if s.isActive && r.st.joined then
      let es := s.stnEntries x true
      let l := es.foldl (fun l m => s.stnPlace l m) (List.replicate c.outLen 0#8)
      let flags := (if s.bell.mode == .stop then 1 else 0) + (if r.told then 0 else 2)
      let s := { s with freeCtr := s.freeCtr + 1 }
      s.enqueue (4 + x / 128) 0
        { launch := j * c.period + c.outPhase, what := .stationOutput
          args := s.stnFrame x r.mac r.ver 0x10 flags (s.bell.formeCyc % 2 ^ 48) (j % 65536) l }
    else s

/-- A deadline of period j passes (R396, R400). -/
def State.stnDeadline (s : State) (x j : Nat) : State :=
  let r := s.stn x
  if !r.st.joined || decide (j < r.from_) then s
  else if r.seen.contains j then s.setStn x { r with missed := 0 }
  else
    let s := s.setStn x { r with missed := r.missed + 1 }
    if r.missed + 1 < s.fld (Page.lane (x / 128)) Reg.lane_LANE_CFG 8 8 then s
    else if r.st = .running then s.stnDrop x
    else s.stnJoinLost x

/-! ### STN_CMD (R412) -/

/-- LEAVE is sent, and the station drops out to ABSENT. -/
def State.stnLeave (s : State) (x : Nat) : State :=
  let s := if s.isActive && s.pair.gate then s.stnSend .stationLeave (s.stnFrame x (s.stn x).mac (s.stn x).ver 0x04 0 0 0 []) 0 else s
  let was := (s.stn x).st
  let s := s.stnDrop x
  let s := s.setStn x { s.stn x with st := .absent }
  if was = .joining then s.raise Page.stn 3 else s

/-- A station command: 1 LEAVE, 2 INHIBIT, 3 ALLOW; 0 is reserved. -/
def State.stnCmd (s : State) (p : Priv) (cmd x : Nat) : State :=
  let t := (s.stn x).st
  if p = .p2 then s.err Page.stn
  else if cmd = 1 then (if s.isActive && t.joined then s.stnLeave x else s.err Page.stn)
  else if cmd = 2 then
    if t = .notConfigured then s.err Page.stn
    else
      let s := if t.joined then s.stnLeave x else s
      s.setStn x { s.stn x with st := .inhibited }
  else if cmd = 3 then (if t = .inhibited then s.setStn x { s.stn x with st := .absent } else s.err Page.stn)
  else s.err Page.stn

/-! ### Commands -/

/-- JOIN_REQ (R394, R396, R397). -/
def execJoinReq (lane : Fin 2) (f : StnFrame) (s : State) : Res := .next (s.stnReceive lane.val f)

/-- INPUT (R397). -/
def execInput (lane : Fin 2) (f : StnFrame) (s : State) : Res := .next (s.stnReceive lane.val f)

/-- OUTPUT_BUILD (R395, R403). -/
def execOutputBuild (x : BitVec 8) (j : Nat) (s : State) : Res := .next (s.stnBuild x.toNat j)

/-- INPUT_DEADLINE (R400). -/
def execInputDeadline (x : BitVec 8) (j : Nat) (s : State) : Res := .next (s.ifAlive (fun s => s.stnDeadline x.toNat j))

/-- LEAVE (R412). -/
def execLeave (x : BitVec 8) (priv : Priv) (s : State) : Res := .next (s.stnCmd priv 1 x.toNat)

/-- INHIBIT (R412). -/
def execInhibit (x : BitVec 8) (priv : Priv) (s : State) : Res := .next (s.stnCmd priv 2 x.toNat)

/-- ALLOW (R412). -/
def execAllow (x : BitVec 8) (priv : Priv) (s : State) : Res := .next (s.stnCmd priv 3 x.toNat)

/-- LANE_LINK_CHG (R409): an enabled lane trains, comes UP with the result of its training, or goes DOWN; one that is not enabled is DOWN. The interrupt bit shows a link gained or lost. -/
def execLaneLinkChg (lane : Fin 2) (evt : LaneEvt) (s : State) : Res :=
  let t : LaneSt := if s.rbit (Page.lane lane.val) Reg.lane_LANE_CFG 0 then evt.st else .down
  let was := tget (fun _ => LaneSt.down) s.lanes lane.val
  let s := { s with lanes := tset (fun _ => LaneSt.down) s.lanes lane.val t }
  let s := if t = .up then s.setReg (Page.lane lane.val) Reg.lane_TRAIN (evt.train.zeroExtend 32) else s
  .next (if (was == .up) == (t == .up) then s else s.raise (Page.lane lane.val) 0)

end Sys2Proof.Machine
end

