-- ==== Sys2Proof/Machine/Fabric.lean ====
section
/-! DEFINITION. The Ralon fabric: ports, forwarding, roll call, book, routes, versions, global variables (R413 to R434). -/

namespace Sys2Proof.Machine

/-! ### Ports and sending (R413 to R419) -/

/-- FAB_EN. -/
def State.fabEn (s : State) : Bool := s.rbit Page.fab Reg.fab_FAB_CFG 0

/-- Whether port i carries frames: fabric and port enabled, link UP. -/
def State.fportUp (s : State) (i : Nat) : Bool :=
  s.alive && s.fabEn && s.rbit (Page.fport i) Reg.fport_PORT_CFG 0 && tget (fun _ => LaneSt.down) s.fab.ports i == .up

/-- The neighbour held by a port (R420). -/
def State.nbr (s : State) (i : Nat) : Option FabNbr := tget (fun _ => none) s.fab.nbrs i

/-- COST of a port, and of its link: the higher of the two ends (R414). -/
def State.fportCost (s : State) (i : Nat) : Nat := s.fld (Page.fport i) Reg.fport_PORT_CFG 8 8

/-- Traffic class of a frame type (R418). -/
def fabTc (w : Out) : Nat := match w with | .pst => 1 | .gv => 2 | .bulk => 3 | _ => 0

/-- Types that always carry version 1 (R418). -/
def fabFixed (w : Out) : Bool := w == .hello || w == .roll || w == .addrReq || w == .addrGrant

/-- Whether the module may send or forward a frame of a type: without an address only TC0, refused only HELLO and ADDR_REQ (R423). -/
def State.fabMay (s : State) (w : Out) : Bool :=
  s.fabEn && (fabTc w == 0 || s.fab.addr != 0#16) && (!s.fab.negFail || w == .hello || w == .addrReq)

/-- The next frame sequence is used (R415). -/
def State.fabSeq (s : State) : State := { s with fab := { s.fab with seq := s.fab.seq + 1#32 } }

/-! ### Frames as bytes (R415, R418) -/

/-- TYPE of a frame (R418), and whether a received TYPE is listed. -/
def fabType : Out → Nat
  | .hello => 0x01 | .roll => 0x02 | .addrReq => 0x03 | .addrGrant => 0x04 | .lsa => 0x05 | .gv => 0x10 | .pst => 0x20 | _ => 0x30
def fabListed (t : Byte) : Bool := [0x01, 0x02, 0x03, 0x04, 0x05, 0x10, 0x20, 0x30].contains t.toNat

/-- Entries of two fields each, of n and m bytes, with r reserved ones behind them. -/
def fabPairs (n m r : Nat) : List Nat → List Byte
  | a :: b :: l => bytesBE n a ++ bytesBE m b ++ bytesBE r 0 ++ fabPairs n m r l
  | _ => []

/-- Payload of a frame, from the fields that tell it apart, most significant byte first (R6, R418, R424, R428). -/
def fabPayload (w : Out) (args : List Nat) : List Byte :=
  let n := argAt args
  match w with
  | .hello => bytesBE 8 (n 0) ++ bytesBE 2 (n 1) ++ bytesBE 1 (n 2) ++ bytesBE 1 0 ++ bytesBE 8 (n 3) ++ bytesBE 4 (n 4)
      ++ bytesBE 1 (n 5) ++ bytesBE 1 (n 6) ++ bytesBE 6 0
  | .roll => bytesBE 8 (n 0) ++ bytesBE 4 (n 1) ++ bytesBE 1 (n 2) ++ bytesBE 3 0 ++ bytesBE 2 (n 3) ++ bytesBE 14 0 ++ fabPairs 8 2 6 (args.drop 4)
  | .addrReq => bytesBE 8 (n 0) ++ bytesBE 2 (n 1) ++ bytesBE 1 (n 2) ++ bytesBE 1 (n 3) ++ bytesBE 1 (n 4) ++ bytesBE 3 0
  | .addrGrant => bytesBE 8 (n 0) ++ bytesBE 2 (n 1) ++ bytesBE 1 (n 2) ++ bytesBE 5 0
  | .lsa => bytesBE 8 (n 0) ++ bytesBE 2 (n 1) ++ bytesBE 4 (n 2) ++ bytesBE 1 (n 3) ++ bytesBE 1 0 ++ fabPairs 2 1 1 (args.drop 4)
  | .gv => bytesBE 2 (n 0) ++ bytesBE 2 (n 1) ++ bytesBE 4 (n 2) ++ bytesBE 6 (n 3) ++ bytesBE 2 0 ++ fabPairs 4 2 2 (args.drop 4)
  | _ => args.map (BitVec.ofNat 8)

/-- A payload padded with zero bytes to a multiple of 16. -/
def pad16 (b : List Byte) : List Byte := b ++ List.replicate ((16 - b.length % 16) % 16) 0#8

/-- The 16 bytes of a header. -/
def fabHeader (dst src type ver tc hops seq len : Nat) : List Byte :=
  bytesBE 2 dst ++ bytesBE 2 src ++ bytesBE 1 type ++ bytesBE 1 ver ++ bytesBE 1 (tc * 64 + hops) ++ bytesBE 1 0 ++ bytesBE 4 seq
    ++ bytesBE 2 len ++ bytesBE 2 0

/-- Header and padded payload with their trailer: code sum over the payload, CRC over both (R252, R415). -/
def fabSeal (b : List Byte) : List Byte := b ++ bytesBE 2 (codeSum (b.drop 16)).toNat ++ bytesBE 4 (crc32c b).toNat ++ bytesBE 2 0

/-- Header and padded payload of a received frame of type w with these fields. -/
def FabHdr.bytes (h : FabHdr) (w : Out) (args : List Nat) : List Byte :=
  withResv (fabHeader h.dst.toNat h.src.toNat h.type.toNat h.ver.toNat h.tc.toNat h.hops.toNat h.seq.toNat h.len.toNat ++ pad16 (fabPayload w args)) h.resv

/-- Whether code sum and CRC of a received frame are right (R417). -/
def FabHdr.intact (h : FabHdr) (w : Out) (args : List Nat) : Bool :=
  let b := h.bytes w args
  h.crc == crc32c b && h.csum == codeSum (b.drop 16)

/-- Whether LEN is at most 2,048 and matches the end of the frame and its fields (R10, R417). -/
def FabHdr.lenOk (h : FabHdr) (w : Out) (args : List Nat) : Bool :=
  decide (h.len.toNat ≤ 2048 ∧ h.ends = (h.len.toNat + 15) / 16 * 16 ∧ (fabPayload w args).length = h.len.toNat)

/-! ### The queues of a port (R419) -/

/-- Frames waiting on a port in a class. -/
def State.fabQueue (s : State) (port tc : Nat) : List FabTx := tget (fun _ => []) s.fab.queues (port * 4 + tc)
def State.setFabQueue (s : State) (port tc : Nat) (l : List FabTx) : State :=
  { s with fab := { s.fab with queues := tset (fun _ => []) s.fab.queues (port * 4 + tc) l } }

/-- The waiting frame of the lowest class of a port. -/
def State.fabNext (s : State) (port : Nat) : Option (Nat × FabTx) :=
  (List.range 4).findSome? (fun c => (s.fabQueue port c).head?.map (fun f => (c, f)))

/-- TCLK that a frame takes on the wire at 10 Gbit/s, with 16 bytes of framing (R413, R415). -/
def FabTx.time (f : FabTx) : Nat := (f.bytes.length + 16 + 4) / 5

/-- A port whose wire is free starts the waiting frame of the lowest class; the pass gate is judged for the module's own global variables and PST frames as they leave (R215, R419). -/
def State.fabStart (s : State) (port : Nat) : State :=
  if s.now < tget (fun _ => 0) s.fab.busy port ∨ s.fportUp port = false then s
  else match s.fabNext port with
    | none => s
    | some (c, f) =>
      let s := s.setFabQueue port c ((s.fabQueue port c).drop 1)
      if f.own && (f.what == .gv || f.what == .pst) && !s.pair.gate then s
      else
        let s := { s with fab := { s.fab with busy := tset (fun _ => 0) s.fab.busy port (s.now + f.time) } }
        (s.send f.what (port :: f.bytes.map BitVec.toNat)).count (Page.fport port) Reg.fport_TX_FRAMES

/-- A frame goes to a port: into the queue of its class, which holds 64, and out at once where the wire is free (R419). -/
def State.fabOut (s : State) (port tc : Nat) (f : FabTx) : State :=
  let l := s.fabQueue port tc
  if l.length < 64 then (s.setFabQueue port tc (l ++ [f])).fabStart port else s.count (Page.fport port) (Reg.fport_QDROP tc)

/-- Every port starts what waits as time passes. -/
def State.fabTick (s : State) : State := if s.fab.queues.isEmpty then s else (List.range 4).foldl State.fabStart s

/-- A new frame of this module to a destination (R415, R418). -/
def State.fabNew (s : State) (w : Out) (dst : Nat) (args : List Nat) : FabTx :=
  let p := fabPayload w args
  { what := w, own := true
    bytes := fabSeal (fabHeader dst s.fab.addr.toNat (fabType w) (if fabFixed w then 1 else s.fab.ver) (fabTc w)
      (s.fld Page.fab Reg.fab_FAB_CFG 8 6) s.fab.seq.toNat p.length ++ pad16 p) }

/-- A new link-local frame on a port. -/
def State.fabLocal (s : State) (port : Nat) (w : Out) (args : List Nat) : State :=
  if s.fportUp port && s.fabMay w then (s.fabOut port (fabTc w) (s.fabNew w 0xFFFE args)).fabSeq else s

/-- A frame goes to every port that is UP but one. -/
def State.fabAll (s : State) (but : Option Nat) (tc : Nat) (f : FabTx) : State :=
  (List.range 4).foldl (fun s i => if some i ≠ but ∧ s.fportUp i then s.fabOut i tc f else s) s

/-- The route to an address, if it leads to a port that is UP (R425). -/
def State.fabPort (s : State) (dst : Nat) : Option Nat :=
  match tget (fun _ => none) s.fab.routes dst with
  | none => none
  | some r => if s.fportUp r.port then some r.port else none

/-- A new frame to a flood or module address (R416). -/
def State.fabSend (s : State) (w : Out) (dst : Nat) (args : List Nat) : State :=
  if !s.fabMay w then s
  else
    let f := s.fabNew w dst args
    let s := s.fabSeq
    if dst = 0xFFFF then s.fabAll none (fabTc w) f
    else match s.fabPort dst with
      | none => s.count Page.fab Reg.fab_NOROUTE
      | some p => s.fabOut p (fabTc w) f

/-! ### Receiving and forwarding (R416, R417) -/

/-- Whether a sequence is newer than the last one, within a window of 2³¹. -/
def seqNewer (last : Option Word) (v : Word) : Bool :=
  match last with
  | none => true
  | some l => decide (0 < (v - l).toNat ∧ (v - l).toNat < 2 ^ 31)

/-- A received frame as it is forwarded: its hops left reduced by 1 (R417). -/
def FabHdr.onward (h : FabHdr) (w : Out) (args : List Nat) : FabTx :=
  { what := w, own := false, bytes := fabSeal (({ h with hops := h.hops - 1#6 } : FabHdr).bytes w args) }

/-- A frame of type w with these fields arrives on a port: checks, forwarding, and whether this module takes it; a TYPE that R418 does not list is discarded with the versions. DEDUCED: notes/assumptions/28.md. -/
def State.fabReceive (s : State) (port : Nat) (h : FabHdr) (w : Out) (args : List Nat) : State × Bool :=
  let dst := h.dst.toNat
  let own := decide (h.dst = s.fab.addr) && s.fab.addr != 0#16
  let pass := dst = 0xFFFF ∨ (1 ≤ dst ∧ dst ≤ 0x400 ∧ own = false)
  let verOk := if fabFixed w then h.ver = 1#8 else decide (h.ver.toNat = s.fab.ver) || decide (some h.ver.toNat = s.fab.oldVer)
  let f := h.onward w args
  if !s.fportUp port then (s, false)
  else if !h.intact w args then (s.count (Page.fport port) Reg.fport_CRC_ERR, false)
  else if !h.lenOk w args then (s.discard (Page.fport port) Reg.fport_LEN_DISCARD, false)
  else if !fabListed h.type then (s.count Page.fab Reg.fab_VER_DISCARD, false)
  else if h.type.toNat ≠ fabType w then (s, false)
  else if !verOk then (s.count Page.fab Reg.fab_VER_DISCARD, false)
  else if pass ∧ h.hops = 0#6 then (s.count Page.fab Reg.fab_HOP_DISCARD, false)
  else
    let s := s.count (Page.fport port) Reg.fport_RX_FRAMES
    if dst = 0xFFFE ∨ own then (s, true)
    else if dst = 0xFFFF then
      let last := tget (fun _ => none) s.fab.flood h.src.toNat
      if h.src = s.fab.addr ∨ !seqNewer last h.seq then (s, false)
      else if s.fabMay w then
        let s := { s with fab := { s.fab with flood := tset (fun _ => none) s.fab.flood h.src.toNat (some h.seq) } }
        (s.fabAll (some port) h.tc.toNat f, true)
      else (s, true)
    else if 1 ≤ dst ∧ dst ≤ 0x400 then
      if s.fabMay w then
        match s.fabPort dst with
        | none => (s.count Page.fab Reg.fab_NOROUTE, false)
        | some p => (s.fabOut p h.tc.toNat f, false)
      else (s, false)
    else (s.count Page.fab Reg.fab_NOROUTE, false)

/-! ### Views (R433, R434) -/

/-- PORT_STAT and the neighbour's UID. -/
def State.fportStat (s : State) (i : Nat) : Word :=
  let st := match tget (fun _ => LaneSt.down) s.fab.ports i with | .down => 0 | .training => 1 | .up => 2
  match s.nbr i with
  | none => BitVec.ofNat 32 st
  | some n => BitVec.ofNat 32 (st + 4 + n.addr.toNat * 2 ^ 16)
def State.nbrUid (s : State) (i : Nat) : DWord := match s.nbr i with | none => 0#64 | some n => n.uid

/-- FAB_STAT. -/
def State.fabStat (s : State) : Word :=
  BitVec.ofNat 32 (s.fab.addr.toNat + (if s.fab.isKeeper then 2 ^ 16 else 0) + (if s.fab.negFail then 2 ^ 17 else 0)
    + s.fab.ver % 256 * 2 ^ 24)

/-- ROUTE entry i of the window (R434). -/
def State.routeWord (s : State) (i : Nat) : Word :=
  match tget (fun _ => none) s.fab.routes (256 * s.fld Page.fab Reg.fab_ROUTE_SEL 0 2 + i + 1) with
  | none => 0#32
  | some r => BitVec.ofNat 32 (r.port % 4 + 4 + min r.hops 255 * 2 ^ 8 + min r.cost 65535 * 2 ^ 16)

/-! ### Neighbours (R420) -/

/-- A port's neighbour changes. -/
def State.setNbr (s : State) (i : Nat) (n : Option FabNbr) : State :=
  if s.nbr i = n then s
  else ({ s with fab := { s.fab with nbrs := tset (fun _ => none) s.fab.nbrs i n } }).raise (Page.fport i) 1

/-- Version ranges by UID, as learnt (R427). -/
def setRange (l : List (DWord × Nat × Nat)) (u : DWord) (lo hi : Nat) : List (DWord × Nat × Nat) :=
  (u, lo, hi) :: l.filter (fun e => e.1 != u)

/-- The range of interface 3 as this pair caps it (R239, R418). -/
def State.fabRange (s : State) : Nat × Nat := (ifMin 3, s.verInUse 3)

/-! ### Addresses and the book (R422, R423) -/

/-- The address of a UID in the book. -/
def bookAddr (b : List (DWord × Half)) (u : DWord) : Option Half := (b.find? (fun e => e.1 == u)).map Prod.snd

/-- An entry replaces those with its UID or its address. -/
def bookSet (b : List (DWord × Half)) (e : DWord × Half) : List (DWord × Half) :=
  b.filter (fun x => x.1 != e.1 && x.2 != e.2) ++ [e]

/-- Whether an address is held. -/
def bookHolds (b : List (DWord × Half)) (a : Half) : Bool := b.any (fun e => e.2 == a)

/-- The lowest free address. -/
def bookFree (b : List (DWord × Half)) : Option Half :=
  ((List.range 0x400).find? (fun i => !bookHolds b (BitVec.ofNat 16 (i + 1)))).map (fun i => BitVec.ofNat 16 (i + 1))

/-- Own address changes: ADDR_CHG. -/
def State.setAddr (s : State) (a : Half) : State :=
  if s.fab.addr = a then s else ({ s with fab := { s.fab with addr := a, lost := s.fab.lost && a == 0#16 } }).raise Page.fab 1

/-- The keeper floods ROLL, 125 book entries to a frame (R418, R421). -/
def State.rollSend (s : State) : State :=
  let b := s.fab.book
  let n := max 1 ((b.length + 124) / 125)
  (List.range n).foldl (fun s i =>
    let part := (b.drop (125 * i)).take 125
    s.fabSend .roll 0xFFFF ([s.fab.keeper.toNat, s.fab.roll.toNat, s.fab.ver, part.length]
      ++ part.flatMap (fun e => [e.1.toNat, e.2.toNat]))) s

/-- What the keeper grants (R423): result and address. -/
def State.grant (s : State) (u : DWord) (pref : Half) (lo hi : Nat) : Nat × Half :=
  let b := s.fab.book
  let a := match bookAddr b u with
    | some a => some a
    | none =>
      if 1 ≤ pref.toNat ∧ pref.toNat ≤ 0x400 ∧ bookHolds b pref = false then some pref else bookFree b
  match a with
  | none => (1, 0#16)
  | some a => if s.fab.ver < lo ∨ hi < s.fab.ver then (2, 0#16) else (0, a)

/-- The keeper judges a request; a new book entry is flooded. -/
def State.keeperGrant (s : State) (u : DWord) (pref : Half) (lo hi : Nat) : State × Nat × Half :=
  let s := { s with fab := { s.fab with ranges := setRange s.fab.ranges u lo hi } }
  let (r, a) := s.grant u pref lo hi
  if r = 0 ∧ bookAddr s.fab.book u ≠ some a then
    (({ s with fab := { s.fab with book := bookSet s.fab.book (u, a) } }).rollSend, r, a)
  else (s, r, a)

/-- PREF_ADDR. -/
def State.prefAddr (s : State) : Half := BitVec.ofNat 16 (s.fld Page.fab Reg.fab_FAB_CFG 16 16)

/-- A keeper without an address grants itself one. DEDUCED: notes/assumptions/28.md. -/
def State.selfGrant (s : State) : State :=
  if s.fab.isKeeper && s.fab.addr == 0#16 then
    let r := s.fabRange
    let (s, k, a) := s.keeperGrant Config.uid s.prefAddr r.1 r.2
    if k = 0 then s.setAddr a else s
  else s

/-- The address of the keeper, from the book. -/
def State.keeperAddr (s : State) : Option Half := bookAddr s.fab.book s.fab.keeper

/-- ADDR_REQ (R423): from a neighbour it goes to the keeper under the own address; the keeper grants. -/
def State.addrReq (s : State) (port : Nat) (h : FabHdr) (u : DWord) (pref : Half) (lo hi : Nat) : State :=
  if s.fab.isKeeper then
    let (s, r, a) := s.keeperGrant u pref lo hi
    let l := [u.toNat, a.toNat, r]
    if h.dst = 0xFFFE#16 then s.fabLocal port .addrGrant l else s.fabSend .addrGrant h.src.toNat l
  else if h.dst = 0xFFFE#16 then
    match s.keeperAddr with
    | none => s
    | some k =>
      if s.fab.addr = 0#16 then s
      else
        let s := { s with fab := { s.fab with proxies := (u, port) :: s.fab.proxies.filter (fun e => e.1 != u) } }
        s.fabSend .addrReq k.toNat [u.toNat, pref.toNat, lo, hi, port]
  else s

/-- ADDR_GRANT (R423): relayed by the proxy, taken by the requester. -/
def State.addrGrant (s : State) (h : FabHdr) (u : DWord) (a : Half) (result : Nat) : State :=
  if h.dst = 0xFFFE#16 then
    if u ≠ Config.uid ∨ s.fab.addr ≠ 0#16 then s
    else if result = 0 then
      let s := { s with fab := { s.fab with negFail := false, book := bookSet s.fab.book (u, a) } }
      s.setAddr a
    else if s.fab.negFail then s
    else
      let s := { s with fab := { s.fab with negFail := true } }
      (s.raise Page.fab 4).journal Page.fab 0x0104 Reg.fab_FAB_STAT s.fabStat
  else
    match s.fab.proxies.find? (fun e => e.1 == u) with
    | none => s
    | some (_, p) =>
      let s := s.fabLocal p .addrGrant [u.toNat, a.toNat, result]
      { s with fab := { s.fab with proxies := s.fab.proxies.filter (fun e => e.1 != u) } }

/-! ### Routes (R424, R425) -/

/-- Own links with an addressed neighbour: port, address, cost. -/
def State.fabLinks (s : State) : List (Nat × Half × Nat) :=
  (List.range 4).filterMap (fun i =>
    match s.nbr i with
    | some n => if s.fportUp i && n.addr != 0#16 then some (i, n.addr, max (s.fportCost i) n.cost) else none
    | none => none)

/-- The LSA of an address, and the least cost at which one lists a neighbour. -/
def State.lsaAt (s : State) (a : Half) : Option FabLsa := s.fab.lsas.find? (fun l => l.addr == a)
def FabLsa.lists (l : FabLsa) (a : Half) : Option Nat :=
  l.nbrs.foldl (fun m e => if e.1 = a then some (match m with | none => e.2 | some c => min c e.2) else m) none

/-- Cost of a link that both ends announce. -/
def State.linkCost (s : State) (a b : Half) : Option Nat :=
  match (s.lsaAt a).bind (·.lists b), (s.lsaAt b).bind (·.lists a) with
  | some x, some y => some (max x y)
  | _, _ => none

/-- Whether a route is preferred to another: cost, next neighbour, port, hops (R425). -/
def FabRoute.before (a b : FabRoute) : Bool :=
  if a.cost ≠ b.cost then decide (a.cost < b.cost)
  else if a.next ≠ b.next then decide (a.next < b.next)
  else if a.port ≠ b.port then decide (a.port < b.port)
  else decide (a.hops < b.hops)

/-- A route enters a table if it is preferred to the one there. -/
def putRoute (t : Tab (Option FabRoute)) (a : Half) (r : FabRoute) : Tab (Option FabRoute) :=
  match tget (fun _ => none) t a.toNat with
  | none => tset (fun _ => none) t a.toNat (some r)
  | some o => if r.before o then tset (fun _ => none) t a.toNat (some r) else t

/-- One round: every route is carried over the links of the module it reaches. -/
def State.relax (s : State) (t : Tab (Option FabRoute)) : Tab (Option FabRoute) :=
  s.fab.lsas.foldl (fun t l =>
    match tget (fun _ => none) t l.addr.toNat with
    | none => t
    | some r => l.nbrs.foldl (fun t e =>
        if e.1 = s.fab.addr ∨ e.1 = 0#16 then t
        else match s.linkCost l.addr e.1 with
          | none => t
          | some c => putRoute t e.1 { r with hops := r.hops + 1, cost := r.cost + c }) t) t

/-- n rounds. -/
def State.relaxN (s : State) : Nat → Tab (Option FabRoute) → Tab (Option FabRoute)
  | 0, t => t
  | n + 1, t => s.relaxN n (s.relax t)

/-- The shortest paths over links announced by both ends (R425). -/
def State.fabRoutes (s : State) : Tab (Option FabRoute) :=
  let direct := s.fabLinks.foldl (fun t e =>
    match (s.lsaAt e.2.1).bind (·.lists s.fab.addr) with
    | none => t
    | some c => putRoute t e.2.1 { port := e.1, next := e.2.1.toNat, hops := 1, cost := max e.2.2 c }) []
  if s.fab.addr = 0#16 then [] else s.relaxN s.fab.lsas.length direct

/-- UIDs of other modules that the route table reaches. -/
def State.fabFound (s : State) : List DWord :=
  (s.fab.lsas.filter (fun l => (tget (fun _ => none) s.fab.routes l.addr.toNat).isSome && l.uid != Config.uid)).map (·.uid)

/-- The lowest unique ID that the module reaches by its last route computation, itself included (R421). -/
def State.fabLowest (s : State) : DWord := s.fab.reach.foldl (fun a u => if u.toNat < a.toNat then u else a) Config.uid

/-- The lowest OWN_MAX, as capped, among the reached modules whose range is known (R427). DEDUCED: notes/assumptions/28.md. -/
def State.fabCap (s : State) : Nat :=
  let l := s.fab.ranges.filter (fun e => s.fab.reach.contains e.1)
  l.foldl (fun m e => min m e.2.2) s.fabRange.2

/-- The keeper known changes. -/
def State.setKeeper (s : State) (k : DWord) (mine : Bool) : State :=
  let chg := decide (s.fab.keeper ≠ k) || s.fab.isKeeper != mine
  let s := { s with fab := { s.fab with keeper := k, isKeeper := mine } }
  if chg then s.raise Page.fab 0 else s

/-- The module becomes keeper: the roll number rises by 1, ROLL floods the book it holds (R421, R422, R427). -/
def State.becomeKeeper (s : State) : State :=
  let s := { s with fab := { s.fab with roll := s.fab.roll + 1#32, ver := if s.fab.ver = 0 then s.fabCap else s.fab.ver } }
  let s := s.setKeeper Config.uid true
  s.selfGrant.rollSend

/-- ROUTE_COMPUTATION (R421, R425): a new table in one BCLK; a module no longer reached is lost. LAST_SPF is a free value within 500 µs. -/
def State.routeCompute (s : State) : State :=
  if !s.fabEn then s
  else
    let was := s.fab.reach
    let d := (Config.freeWord s.freeCtr).toNat % 125001
    let s := { s with freeCtr := s.freeCtr + 1, fab := { s.fab with routes := s.fabRoutes } }
    let now := s.fabFound
    let s := { s with fab := { s.fab with reach := now, nodes := now.length + 1 } }
    let s := (s.setReg Page.fab Reg.fab_LAST_SPF (BitVec.ofNat 32 d)).count Page.fab Reg.fab_ROUTE_CHG
    let s := if was.any (fun u => !now.contains u) then s.raise Page.fab 2 else s
    if s.fabLowest = Config.uid ∧ s.fab.isKeeper = false then s.becomeKeeper else s

/-! ### ROLL (R421 to R423, R427) -/

/-- The version that a ROLL carries takes effect; the old one stays accepted until the grace ends. -/
def State.fabVersion (s : State) (v : Nat) : State :=
  if s.fab.ver = v then s
  else { s with fab := { s.fab with ver := v, oldVer := if s.fab.ver = 0 then none else some s.fab.ver } }

/-- The book that an accepted ROLL frame leaves (R418, R422), with what a frame may continue: the frames of one book follow each other in sequence, and every one but the last is full. The book that they carry takes the place of the copy, which until then only gains entries; a full frame that nothing continues was the last one. DEDUCED: notes/assumptions/28.md. -/
def Fabric.rollBook (f : Fabric) (seq : Word) (fresh : Bool) (l : List (DWord × Half)) : Fabric :=
  let more := !fresh && f.partSeq == some seq
  let base := if fresh then [] else if more || f.part.isEmpty then f.book else f.part
  let all := (if more then f.part else []) ++ l
  if l.length < 125 then { f with book := all.foldl bookSet [], part := [], partSeq := none }
  else { f with book := all.foldl bookSet base, part := all, partSeq := some (seq + 1#32) }

/-- A module whose address another UID holds loses it, and a record is written (R423). -/
def State.addrClash (s : State) : State :=
  if s.fab.addr ≠ 0#16 ∧ s.fab.book.any (fun e => e.2 == s.fab.addr && e.1 != Config.uid) = true then
    let s := { s with fab := { s.fab with lost := true } }.setAddr 0#16
    s.journal Page.fab 0x0101 Reg.fab_FAB_STAT s.fabStat
  else s

/-- A ROLL frame with a sequence number is taken. DEDUCED: notes/assumptions/28.md. -/
def State.rollTake (s : State) (seq : Word) (k : DWord) (roll : Word) (v : Nat) (l : List (DWord × Half)) : State :=
  -- a keeper takes over the book of one that resigns to it
  if s.fab.isKeeper ∧ Config.uid.toNat < k.toNat then
    let b := l.foldl (fun b e => if (bookAddr b e.1).isSome || bookHolds b e.2 then b else b ++ [e]) s.fab.book
    if b = s.fab.book then s else ({ s with fab := { s.fab with book := b } }).rollSend
  else
    let lower := s.fab.isKeeper && s.fab.reach.contains k && decide (k.toNat < Config.uid.toNat)
    -- the resigning keeper floods its book
    let s := if lower then (s.rollSend).setKeeper k false else s
    if k = s.fabLowest ∧ k ≠ Config.uid ∧ s.fab.roll.toNat ≤ roll.toNat then
      let fresh := decide (s.fab.roll ≠ roll) || s.fab.keeper != k || lower
      let s := s.setKeeper k false
      let s := { s with fab := { s.fab.rollBook seq fresh l with roll := roll } }
      (s.fabVersion v).addrClash
    else s

/-! ### Global variables (R428 to R431) -/

/-- Subscription i and its running state. -/
def State.gvSub (s : State) (i : Nat) : Option GvSub := tget (fun _ => none) s.fab.subs i
def State.gvRt (s : State) (i : Nat) : GvRt := tget (fun _ => {}) s.fab.gvs i
def State.setGvRt (s : State) (i : Nat) (x : GvRt) : State := { s with fab := { s.fab with gvs := tset (fun _ => {}) s.fab.gvs i x } }

/-- A received status with CLASS 0x5 and DETAIL 0 (R430). -/
def gvStatus (st : Half) : Half := (st &&& 0xFF00#16) ||| 0x50#16

/-- A GV frame (R430); a COUNT that its payload does not hold leaves a record (R10). -/
def State.gvTake (s : State) (src : Half) (m : GvMsg) : State :=
  let hit := fun (e : Nat × Option GvSub) =>
    match e.2 with
    | none => false
    | some c => c.gvId == m.gvId && c.srcs.contains src && c.handles.length == m.count.toNat && m.entries.length == m.count.toNat
  match s.fab.subs.find? hit with
  | some (i, some c) =>
    let key := (m.epoch.toNat, m.cyc.toNat)
    let ok := match (s.gvRt i).last with
      | none => true
      | some (e, k) => decide (e < key.1) || (e == key.1 && decide (k < key.2))
    if ok then
      let s := s.setGvRt i { last := some key, armed := true }
      (c.handles.zip m.entries).foldl (fun s e => s.inWrite e.1.1 e.2.1 (gvStatus e.2.2)) s
    else s.count Page.fab Reg.fab_GV_STALE
  | _ => if m.count = 0xFFFF#16 ∨ m.entries.length < m.count.toNat then s.discard Page.fab Reg.fab_GV_STALE else s.count Page.fab Reg.fab_GV_STALE

/-- The handles of a subscription go bad (R431). -/
def State.gvBad (s : State) (c : GvSub) (detail : Nat) : State :=
  c.handles.foldl (fun s e =>
    s.inWrite e.1 (if c.subst then e.2 else (s.inLast e.1).value) (stWord 2 c.subst (!c.subst) false false true 5 detail)) s

/-- TMO passes (R431). -/
def State.gvTimeout (s : State) (i : Nat) : State :=
  match s.gvSub i with
  | none => s
  | some c =>
    if !(s.gvRt i).armed then s
    else
      let s := s.setGvRt i { s.gvRt i with armed := false }
      let s := s.gvBad c (if c.subst then 3 else 4)
      ((s.count Page.fab Reg.fab_GV_TMO).raise Page.fab 3).journalReg Page.fab 0x0103 Reg.fab_GV_TMO

/-- The fabric configuration takes effect: every subscribed handle with DETAIL 0x5, its timeout running (R431). -/
def State.fabLoad (s : State) : State :=
  s.fab.subs.foldl (fun s e =>
    match e.2 with
    | none => s
    | some c => (s.setGvRt e.1 { armed := true }).gvBad c 5) s

/-- GV_SEND (R429): the blocks whose DIV divides the cycle of the flip, through the pass gate. -/
def State.gvSend (s : State) : State :=
  if !s.gateOpen || !s.isActive || s.fab.lost then s
  else s.fab.pubs.foldl (fun s e =>
    match e.2 with
    | none => s
    | some c =>
      if c.div ≠ 0 ∧ s.bell.cycle % c.div = 0 then
        s.fabSend .gv c.dst.toNat ([c.gvId.toNat, c.handles.length, s.pair.epoch.toNat, s.bell.cycle % 2 ^ 48]
          ++ c.handles.flatMap (fun h => [(s.engineSlot h).value.toNat, (s.engineSlot h).status.toNat]))
      else s) s

/-! ### Commands -/

/-- FABRIC_PORT_DOWN (R413, R420): the port retrains, its neighbour is dropped, and so is what waits in its queues (DESIGN CHOICE: notes/assumptions/28.md). -/
def execFabricPortDown (port : Fin 4) (s : State) : Res :=
  let was := tget (fun _ => LaneSt.down) s.fab.ports port.val
  let s := { s with fab := { s.fab with ports := tset (fun _ => LaneSt.down) s.fab.ports port.val .training } }
  let s := (List.range 4).foldl (fun s c => s.setFabQueue port.val c []) s
  let s := if was = .up then s.raise (Page.fport port.val) 0 else s
  .next (s.setNbr port.val none)

/-- FABRIC_PORT_UP (R413, R433): with the result of the training that brought it UP. -/
def execFabricPortUp (up : FabUp) (s : State) : Res :=
  let port := up.port
  let was := tget (fun _ => LaneSt.down) s.fab.ports port.val
  let s := s.setReg (Page.fport port.val) Reg.fport_TRAIN (up.train.zeroExtend 32)
  let s := { s with fab := { s.fab with ports := tset (fun _ => LaneSt.down) s.fab.ports port.val .up } }
  .next (if was = .up then s else s.raise (Page.fport port.val) 0)

/-- HELLO_SEND (R418, R420). -/
def execHelloSend (port : Fin 4) (s : State) : Res :=
  .next (s.fabLocal port.val .hello [Config.uid.toNat, s.fab.addr.toNat, s.fportCost port.val, s.fab.keeper.toNat, s.fab.roll.toNat,
    s.fabRange.1, s.fabRange.2])

/-- HELLO (R420): the neighbour is held. -/
def execHello (port : Fin 4) (h : FabHdr) (m : FabHello) (s : State) : Res :=
  let (s, mine) := s.fabReceive port.val h .hello [m.uid.toNat, m.addr.toNat, m.cost, m.keeper.toNat, m.roll.toNat, m.ownMin, m.ownMax]
  .next (
    if mine then
      let s := { s with fab := { s.fab with ranges := setRange s.fab.ranges m.uid m.ownMin m.ownMax } }
      s.setNbr port.val (some { uid := m.uid, addr := m.addr, cost := m.cost })
    else s)

/-- NEIGHBOUR_TIMEOUT (R420). -/
def execNeighbourTimeout (port : Fin 4) (s : State) : Res := .next (s.setNbr port.val none)

/-- ROLL (R421, R423, R427). -/
def execRoll (port : Fin 4) (h : FabHdr) (keeper : DWord) (roll : Word) (fver : Nat) (entries : List (DWord × BitVec 16)) (s : State) : Res :=
  let (s, mine) := s.fabReceive port.val h .roll
    ([keeper.toNat, roll.toNat, fver, entries.length] ++ entries.flatMap (fun e => [e.1.toNat, e.2.toNat]))
  .next (if mine then s.rollTake h.seq keeper roll fver entries else s)

/-- ROLL_SEND (R421). -/
def execRollSend (s : State) : Res := .next (if s.fab.isKeeper then s.rollSend else s)

/-- ADDR_REQ (R423). -/
def execAddrReq (port : Fin 4) (h : FabHdr) (uid : DWord) (ask : FabAsk) (vmin vmax : Nat) (s : State) : Res :=
  let (s, mine) := s.fabReceive port.val h .addrReq [uid.toNat, ask.pref.toNat, vmin, vmax, ask.proxy]
  .next (if mine then s.addrReq port.val h uid ask.pref vmin vmax else s)

/-- ADDR_GRANT (R423). -/
def execAddrGrant (port : Fin 4) (h : FabHdr) (uid : DWord) (addr : BitVec 16) (result : Nat) (s : State) : Res :=
  let (s, mine) := s.fabReceive port.val h .addrGrant [uid.toNat, addr.toNat, result]
  .next (if mine then s.addrGrant h uid addr result else s)

/-- ADDR_REQ_REPEAT (R423): to the neighbour on the lowest port. -/
def execAddrReqRepeat (s : State) : Res :=
  .next (
    if s.fab.addr ≠ 0#16 ∨ s.fab.isKeeper then s
    else match (List.range 4).find? (fun i => (s.nbr i).isSome) with
      | none => s
      | some p => s.fabLocal p .addrReq [Config.uid.toNat, s.prefAddr.toNat, s.fabRange.1, s.fabRange.2, 0])

/-- LSA (R424): a newer one is kept. -/
def execLsa (port : Fin 4) (h : FabHdr) (m : FabLsa) (s : State) : Res :=
  let (s, mine) := s.fabReceive port.val h .lsa
    ([m.uid.toNat, m.addr.toNat, m.seq.toNat, m.nbrs.length] ++ m.nbrs.flatMap (fun e => [e.1.toNat, e.2]))
  .next (
    if mine ∧ m.uid ≠ Config.uid then
      let old := (s.fab.lsas.find? (fun l => l.uid == m.uid)).map (·.seq)
      if seqNewer old m.seq then { s with fab := { s.fab with lsas := m :: s.fab.lsas.filter (fun l => l.uid != m.uid) } } else s
    else s)

/-- LSA_SEND (R424). -/
def execLsaSend (s : State) : Res :=
  .next (
    if s.fab.addr = 0#16 ∨ ¬ s.fabEn then s
    else
      let s := { s with fab := { s.fab with lsaSeq := s.fab.lsaSeq + 1#32 } }
      s.fabSend .lsa 0xFFFF ([Config.uid.toNat, s.fab.addr.toNat, s.fab.lsaSeq.toNat, s.fabLinks.length]
        ++ s.fabLinks.flatMap (fun e => [e.2.1.toNat, e.2.2])))

/-- LSA_EXPIRY (R424). -/
def execLsaExpiry (uid : DWord) (s : State) : Res :=
  .next { s with fab := { s.fab with lsas := s.fab.lsas.filter (fun l => l.uid != uid) } }

/-- ROUTE_COMPUTATION (R425). -/
def execRouteComputation (s : State) : Res := .next s.routeCompute

/-- BOOK_KEEP_EXPIRY (R422): the keeper removes the entry of a module that has left. -/
def execBookKeepExpiry (uid : DWord) (s : State) : Res :=
  .next (
    if s.fab.isKeeper ∧ s.fab.reach.contains uid = false ∧ uid ≠ Config.uid ∧ (bookAddr s.fab.book uid).isSome then
      ({ s with fab := { s.fab with book := s.fab.book.filter (fun e => e.1 != uid) } }).rollSend
    else s)

/-- VERSION_GRACE_END (R427). -/
def execVersionGraceEnd (s : State) : Res := .next { s with fab := { s.fab with oldVer := none } }

/-- FAB_CMD RAISE (R427, R434). -/
def State.fabRaise (s : State) (p : Priv) : State :=
  if p = .p2 ∨ ¬ s.fab.isKeeper then s.err Page.fab else (s.fabVersion s.fabCap).rollSend

/-- FAB_CMD RENEW (R434). -/
def State.fabRenew (s : State) (p : Priv) : State :=
  if p = .p2 then s.err Page.fab else (s.setAddr 0#16).selfGrant

/-- FAB_RAISE (R427). -/
def execFabRaise (priv : Priv) (s : State) : Res := .next (s.fabRaise priv)

/-- RENEW (R434). -/
def execRenew (priv : Priv) (s : State) : Res := .next (s.fabRenew priv)

/-- GV (R430); a module that has lost its address takes none (R423). -/
def execGv (port : Fin 4) (h : FabHdr) (m : GvMsg) (s : State) : Res :=
  let (s, mine) := s.fabReceive port.val h .gv ([m.gvId.toNat, m.count.toNat, m.epoch.toNat, m.cyc.toNat]
    ++ m.entries.flatMap (fun e => [e.1.toNat, e.2.toNat]))
  .next (if mine && !s.fab.lost then s.gvTake h.src m else s)

/-- GV_TIMEOUT (R431). -/
def execGvTimeout (i : BitVec 9) (s : State) : Res := .next (s.ifAlive (fun s => s.gvTimeout i.toNat))

/-- Session bytes to the module through which a tool is reached, in BULK frames of at most 2,048 bytes (R415, R418, R554). -/
def State.bulkSend (s : State) (dst : Nat) (b : List Byte) : State :=
  (chunks 2048 b.length b).foldl (fun s l => s.fabSend .bulk dst (l.map BitVec.toNat)) s

/-- BULK (R418, R554): session bytes for this module are kept for the tool session, whose file commands are commands of their own; others are forwarded. -/
def execBulk (port : Fin 4) (h : FabHdr) (bytes : List Byte) (s : State) : Res :=
  let (s, mine) := s.fabReceive port.val h .bulk (bytes.map BitVec.toNat)
  .next (if mine then { s with fab := { s.fab with bulk := tset (fun _ => []) s.fab.bulk h.src.toNat bytes } } else s)

end Sys2Proof.Machine
end

