-- ==== Sys2Proof/Machine/Pst.lean ====
section
/-! DEFINITION. Pernos Safe Transport (R503 to R510, R515). -/

namespace Sys2Proof.Machine

/-- n bytes of a list from an offset. -/
def sliceB (l : List Byte) (o n : Nat) : List Byte := (l.drop o).take n

/-- One bit of SCRC, most significant bit first (R504). DEDUCED: notes/assumptions/24.md. -/
def scrcBit (c : Word) : Word := if bit c 31 then (c <<< 1) ^^^ 0x741B8CD7#32 else c <<< 1

/-- `n` bits of SCRC. -/
def scrcBits : Nat → Word → Word
  | 0, c => c
  | n + 1, c => scrcBits n (scrcBit c)

/-- SCRC over bytes from an initial value (R504). -/
def scrc (key : Word) (l : List Byte) : Word := l.foldl (fun (c : Word) (b : Byte) => scrcBits 8 (c ^^^ ((b.zeroExtend 32 : Word) <<< 24))) key

/-- Connection i of the configuration. -/
def State.pstConn (s : State) (i : Nat) : Option PstCfg := tget (fun _ => none) s.pstCfg i

/-- The state code of R515, and CONN_STAT. -/
def PstSt.code : PstSt → Nat
  | .unused => 0 | .waiting => 1 | .running => 2 | .degraded => 3 | .tripped => 4
def State.connStat (s : State) (i : Nat) : Word :=
  let x := s.pst i
  BitVec.ofNat 32 (x.st.code + (if (tget (fun _ => none) s.pstProd i).isSome then 8 else 0) + (if x.failA then 16 else 0)
    + (if x.failB then 32 else 0) + x.cause * 256 + (if x.since then 4096 else 0) + (if x.permit then 8192 else 0))

/-- The handles of a connection: ⌈LEN/4⌉ words with a status (R506, R510). -/
def State.pstWrite (s : State) (c : PstCfg) (data : List Byte) (st : Half) : State :=
  (List.range ((c.len + 3) / 4)).foldl (fun s i => s.inWrite (c.handle + i) (BitVec.ofNat 32 (natBE (sliceB data (4 * i) 4))) st) s

/-- Status of a connection's handles (R510). -/
def pstGood : Half := stWord 0 false false false false false 5 8
def pstDegr : Half := stWord 0 false false false false false 5 9
def pstBad : Half := stWord 2 false false false false true 5 0xA

/-- A trip (R509): cause 1 TIMEOUT, 2 MISMATCH, 3 DEG_EXPIRED. -/
def State.pstTrip (s : State) (i cause : Nat) : State :=
  let x := s.pst i
  if x.st = .unused ∨ x.st = .tripped then s
  else
    let s := s.setPst i { x with st := .tripped, cause := cause, since := false, copies := [] }
    let s := if s.pair.role = .standbySync ∨ s.pair.role = .standbyUnsync then s else s.cause 5
    let s := (s.count Page.pst Reg.pst_TRIP_CNT).raise Page.pst 0
    let s := s.journal Page.pst 0x0100 (Reg.pst_CONN_STAT i) (s.connStat i)
    let s := match s.pstConn i with
      | none => s
      | some c => s.pstWrite c (List.replicate 32 0#8) pstBad
    s.soAll

/-- A frame is accepted, on both copies or on the one of network `netB`: the other network is then marked failed (R508 to R510). -/
def State.pstAccept (s : State) (i : Nat) (c : PstCfg) (b : List Byte) (both : Bool) (netB : Bool) : State :=
  let x := s.pst i
  let epoch := natBE (sliceB b 4 4)
  let cyc := natBE (sliceB b 8 6)
  let x := { x with last := some (epoch, cyc), since := true, permit := natBE (sliceB b 16 1) % 2 == 1
                    copies := x.copies.filter (fun y => decide ((epoch, cyc) ≠ (natBE (sliceB y.bytes 4 4), natBE (sliceB y.bytes 8 6)))) }
  let x :=
    if both then
      if x.failA || x.failB then
        if x.both + 1 = 8 then { x with both := 0, failA := false, failB := false } else { x with both := x.both + 1 }
      else x
    else { x with both := 0, failA := x.failA || netB, failB := x.failB || !netB }
  let degr := x.failA || x.failB
  let was := x.st
  let st := if was = .tripped then .tripped else if degr then .degraded else .running
  let s := s.setPst i { x with st := st }
  let s := if st = .degraded ∧ was ≠ .degraded then s.raise Page.pst 1 else s
  let s := if st = .tripped then s else s.pstWrite c (sliceB b 16 c.len) (if st = .degraded then pstDegr else pstGood)
  s.soAll

/-- Whether a unit is stale (R507). -/
def PstRt.stale (x : PstRt) (epoch cyc : Nat) : Bool :=
  match x.last with
  | none => false
  | some (e, c) => decide (epoch < e) || (decide (epoch = e) && decide (cyc ≤ c))

/-- A copy that passed R507: it meets its partner or opens its pairing window (R508). -/
def State.pstPair (s : State) (i : Nat) (c : PstCfg) (netB : Bool) (b : List Byte) : State :=
  let x := s.pst i
  let same := fun (y : PstCopy) => natBE (sliceB y.bytes 4 10) == natBE (sliceB b 4 10)
  match x.copies.find? same with
  | none => s.setPst i { x with copies := x.copies ++ [{ netB := netB, bytes := b }] }
  | some y =>
    if y.netB = netB then s
    else if y.bytes.take 52 = b.take 52 then s.pstAccept i c b true netB
    else
      let s := (s.count Page.pst Reg.pst_MISMATCH_CNT).raise Page.pst 2
      let s := s.setPst i { x with copies := x.copies.filter (fun y => !same y) }
      s.pstTrip i 2

/-- A received copy (R507). -/
def State.pstReceive (s : State) (netB : Bool) (src : Nat) (netOk : Bool) (b : List Byte) : State :=
  if !netOk then s
  else
    let len := natBE (sliceB b 14 1)
    let ids := natBE (sliceB b 2 2)
    let i := (List.range 64).find? (fun i => match s.pstConn i with | some c => c.connId.toNat == ids | none => false)
    let cfg := i.bind s.pstConn
    let lenOk := decide (b.length = 52) && decide (natBE (sliceB b 0 2) = 0x0101) && decide (1 ≤ len ∧ len ≤ 32)
      && (match cfg with | some c => c.len == len | none => true)
    if !lenOk then s.discard Page.pst Reg.pst_LEN_DISCARD
    else match i, cfg with
      | some i, some c =>
        if !(if netB then c.srcB else c.srcA).contains src then s.count Page.pst Reg.pst_SRC_ERR
        else if (scrc c.key (b.take 48)).toNat ≠ natBE (sliceB b 48 4) then s.count Page.pst Reg.pst_SCRC_ERR
        else if (s.pst i).stale (natBE (sliceB b 4 4)) (natBE (sliceB b 8 6)) then s.count Page.pst Reg.pst_STALE_CNT
        else s.pstPair i c netB b
      | _, _ => s.count Page.pst Reg.pst_SRC_ERR

/-- The pairing window of the oldest waiting copy expires (R508). -/
def State.pstWindow (s : State) (i : Nat) : State :=
  let x := s.pst i
  match x.copies, s.pstConn i with
  | y :: l, some c =>
    let s := s.setPst i { x with copies := l }
    if c.tolerant then s.pstAccept i c y.bytes false y.netB else s.count Page.pst Reg.pst_PAIR_MISS
  | _, _ => s

/-- The 52 bytes of a producing connection (R504, R505). -/
def State.pstUnit (s : State) (p : PstProd) (stop : Bool) : List Byte :=
  let data := if stop then [] else (p.handles.flatMap (fun h => bytesBE 4 (s.formeValue h).toNat)).take p.len
  let b := [0x01#8, 0x01#8] ++ bytesBE 2 p.connId.toNat ++ bytesBE 4 s.pair.epoch.toNat ++ bytesBE 6 s.bell.cycle
    ++ [BitVec.ofNat 8 p.len, if stop then 1#8 else 0#8] ++ data ++ List.replicate (32 - data.length) 0#8
  b ++ bytesBE 4 (scrc p.key b).toNat

/-- PST_SEND (R503, R505): both copies of every producing connection whose DIV divides the cycle number, through the pass gate; a module that has lost its address sends none (R423). -/
def State.pstSend (s : State) : State :=
  if !s.gateOpen || !s.isActive || s.fab.lost then s
  else s.pstProd.foldl (fun s e =>
    match e.2 with
    | none => s
    | some p =>
      if p.div ≠ 0 ∧ s.bell.cycle % p.div = 0 then
        let u := (s.pstUnit p (s.bell.mode != .run)).map BitVec.toNat
        let s := p.consumers.foldl (fun s a => s.fabSend .pst a u) s
        s.send .pst (s.fld Page.pst Reg.pst_PST_CFG 0 2 :: p.group.toNat :: u)
      else s) s

/-! ### Commands -/

/-- PST (R507, R508): copy A arrives in a fabric frame, which the fabric checks and forwards (R416, R417); copy B on the PST port with its source and the outcome of that network's checks; a module that has lost its address takes neither (R423). -/
def execPst (copy : PstCarrier) (bytes : List Byte) (s : State) : Res :=
  match copy with
  | .fabric port h =>
    let (s, mine) := s.fabReceive port.val h .pst (bytes.map BitVec.toNat)
    .next (if mine && !s.fab.lost then s.pstReceive false h.src.toNat true bytes else s)
  | .ethernet src ok => .next (s.ifAlive (fun s => if s.fab.lost then s else s.pstReceive true src ok bytes))

/-- PAIR_WIN_EXPIRY (R508). -/
def execPairWinExpiry (i : BitVec 6) (s : State) : Res := .next (s.ifAlive (fun s => s.pstWindow i.toNat))

/-- PST_TIMEOUT (R509). -/
def execPstTimeout (i : BitVec 6) (s : State) : Res :=
  let st := (s.pst i.toNat).st
  .next (s.ifAlive (fun s => if st = .running ∨ st = .degraded then s.pstTrip i.toNat 1 else s))

/-- DEG_MAX_EXPIRY (R508). -/
def execDegMaxExpiry (i : BitVec 6) (s : State) : Res :=
  .next (s.ifAlive (fun s => if (s.pst i.toNat).st = .degraded then s.pstTrip i.toNat 3 else s))

end Sys2Proof.Machine
end

