-- ==== Sys2Proof/Machine/Units.lean ====
section
/-! DEFINITION. Core units and voted clusters: mismatches, outvotes, self-tests, report cards, retirement, readmission, start states (R17 to R25, R125 to R155). -/

namespace Sys2Proof.Machine

/-- The units of cluster n. -/
def unitsOf (n : Nat) : List Nat := [3 * n, 3 * n + 1, 3 * n + 2]

/-- The number of a unit state in U_STATE (R155). -/
def UnitSt.code : UnitSt → Nat
  | .inVote => 0 | .testing => 1 | .ready => 2 | .heldOut => 3 | .retired => 4 | .notEnabled => 5

/-- The number of a cluster state in CL_STATE (R148). -/
def ClSt.code : ClSt → Nat
  | .triple => 0 | .dual => 1 | .single => 2 | .failed => 3

/-- The cluster state by units in the vote (R21). -/
def clOfCount : Nat → ClSt
  | 0 => .failed | 1 => .single | 2 => .dual | _ => .triple

/-- Units of cluster n in the vote. -/
def State.voters (s : State) (n : Nat) : List Nat := (unitsOf n).filter (fun u => (s.unit u).st == .inVote)

/-- A bit for every unit of cluster n of which `f` holds, from bit `lo`. -/
def State.unitBits (s : State) (n lo : Nat) (f : CUnit → Bool) : Word :=
  (ofBool 32 (f (s.unit (3 * n))) <<< lo) ||| (ofBool 32 (f (s.unit (3 * n + 1))) <<< (lo + 1)) ||| (ofBool 32 (f (s.unit (3 * n + 2))) <<< (lo + 2))

/-- Whether CL_STATE[RETIRED] shows a unit (R148): RETIRED, or NOT_ENABLED after its injection test; before the test the bit holds its reset value 0 (R147). -/
def CUnit.shownOut (x : CUnit) : Bool := x.st == .retired || (x.st == .notEnabled && bit x.injStat 8)

/-- CL_STATE (R148). -/
def State.clState (s : State) (n : Nat) : Word :=
  BitVec.ofNat 32 (s.cluster n).code ||| s.unitBits n 4 (·.st == .inVote) ||| s.unitBits n 8 CUnit.shownOut
    ||| s.unitBits n 12 (·.st == .testing) ||| s.unitBits n 16 (·.st == .ready)

/-- Fields of CL_CFG (R149). -/
def State.mismLimit (s : State) (n : Nat) : Nat := s.fld (Page.cluster n) Reg.cl_CL_CFG 0 4
def State.minStart (s : State) (n : Nat) : Nat := s.fld (Page.cluster n) Reg.cl_CL_CFG 4 3
def State.degradeSwo (s : State) (n : Nat) : Bool := s.rbit (Page.cluster n) Reg.cl_CL_CFG 8
def State.readmitEn (s : State) (n : Nat) : Bool := s.rbit (Page.cluster n) Reg.cl_CL_CFG 9

/-! ### Events (R151, R152) -/

/-- Events of LAST_EVT. -/
inductive ClEvt where
  | mismatch | outvote | testPass | testFail | readmit | retire | state
  deriving DecidableEq, Repr

/-- EVENT of LAST_EVT (R151). -/
def ClEvt.code : ClEvt → Nat
  | .mismatch => 1 | .outvote => 2 | .testPass => 3 | .testFail => 4 | .readmit => 5 | .retire => 6 | .state => 7

/-- The INT_RAW bit of an event (R152). -/
def ClEvt.intBit : ClEvt → Nat
  | .mismatch => 0 | .outvote => 1 | .testPass => 2 | .testFail => 2 | .readmit => 3 | .retire => 4 | .state => 5

/-- An event of cluster n: LAST_EVT and its cycle, the interrupt bit, a record (R151, R152, R518). -/
def State.clEvent (s : State) (n : Nat) (e : ClEvt) (u : Nat) (groups : BitVec 8) : State :=
  let p := Page.cluster n
  let s := s.setReg p Reg.cl_LAST_EVT (BitVec.ofNat 32 (groups.toNat * 2 ^ 16 + e.code * 2 ^ 8 + u))
  let s := s.setReg p Reg.cl_LAST_EVT_CYC_LO s.cyc32
  let s := s.setReg p Reg.cl_LAST_EVT_CYC_HI (BitVec.ofNat 32 (s.bell.cycle / 2 ^ 32 % 2 ^ 16))
  let s := s.raise p e.intBit
  s.journalReg p (0x0100 + e.intBit) Reg.cl_LAST_EVT

/-- A change of STATE of cluster n (R21, R151, R152): entry to SINGLE asks for the switch-over of R143; FAILED is a module failure, cause 21 (R24). -/
def State.clChange (s : State) (n : Nat) (c : ClSt) (groups : BitVec 8) : State :=
  if s.cluster n = c then s
  else
    let s := (s.setCluster n c).clEvent n .state (3 * n) groups
    match c with
    | .failed =>
      let s := s.raise (Page.cluster n) 6
      let s := s.journal (Page.cluster n) 0x0106 Reg.cl_CL_STATE (s.clState n)
      s.moduleFail 21
    | .single => if s.degradeSwo n && s.synced then { s with pair := { s.pair with degradeReq := true } } else s
    | _ => s

/-- Cluster n abandons a readmission that has not reached core start; the units stay READY (R141). -/
def State.dropJoin (s : State) (n : Nat) : State :=
  (unitsOf n).foldl (fun s u => if (s.unit u).joining then s.setUnit u { s.unit u with joining := false } else s) s

/-! ### Report cards (R145, R146) -/

/-- A unit writes its card; the start-up card, also that of an injection failure, has SEQ 0x0000 (R132, R145). -/
def CUnit.writeCard (x : CUnit) (cause result : Nat) (groups : BitVec 8) (count : Nat) (lasting retired : Bool) (cycle : Nat) (t : Time)
    (lead check : Word) : CUnit :=
  let seq := if cause = 0 ∨ cause = 4 then 0 else if x.seq ≥ 0xFFFF then 1 else x.seq + 1
  { x with
    seq := seq
    card := [BitVec.ofNat 32 (seq + cause * 2 ^ 16 + result * 2 ^ 20),
      BitVec.ofNat 32 (groups.toNat + count * 2 ^ 8 + (if lasting then 2 ^ 12 else 0) + if retired then 2 ^ 13 else 0),
      BitVec.ofNat 32 cycle, BitVec.ofNat 32 (cycle / 2 ^ 32 % 2 ^ 16), BitVec.ofNat 32 t.sec, BitVec.ofNat 32 t.ns, lead, check] }

/-- A unit becomes RETIRED (R138): its own record, RETIRE_TOTAL, the event, error cause 2. GROUPS of LAST_EVT is 0, at the end of a self-test too: DESIGN CHOICE, notes/assumptions/31.md (R151). -/
def State.unitRetire (s : State) (u : Nat) : State :=
  let n := u / 3
  let s := s.setUnit u { s.unit u with st := .retired, joining := false }
  let s := s.setReg (Page.cluster n) Reg.cl_RETIRE_TOTAL (BitVec.ofNat 32 (min 3 ((s.reg (Page.cluster n) Reg.cl_RETIRE_TOTAL).toNat + 1)))
  let s := s.offer { code := 0x01FF#16, source := unitSource u, cal := s.tb.calendar, p0 := s.cyc32, p1 := BitVec.ofNat 32 Reg.unit_U_STATE, p2 := 4#32 }
  (s.clEvent n .retire u 0#8).cause 2

/-! ### Leaving the vote (R127 to R136) -/

/-- The count of R135, by times of the time base: earlier events that lie more than MISM_WINDOW before the new one drop, the new event is added. -/
def State.countEvents (s : State) (n : Nat) (l : List (Nat × Time)) : List (Nat × Time) :=
  let w := (s.reg (Page.cluster n) Reg.cl_MISM_WINDOW).toNat * 1000000000
  l.filter (fun e => decide (s.tb.time.toNs ≤ e.2.toNs + w)) ++ [(s.now, s.tb.time)]

/-- Unit u leaves the vote with its fail groups (R133 steps 1 to 4): counted, in self-test, the event recorded. -/
def State.unitLeave (s : State) (u : Nat) (outvoted : Bool) (groups : BitVec 8) : State :=
  let n := u / 3
  let x := s.unit u
  let ev := s.countEvents n x.events
  let s := s.setUnit u
    { x with
      st := .testing, joining := false, events := ev, lasting := x.lasting || decide (s.mismLimit n ≤ ev.length)
      failGroups := groups, mismTotal := satInc x.mismTotal
      cause := if outvoted then 2 else 1, groups := groups, evCycle := s.bell.cycle, evTime := s.tb.time }
  let s := s.count (Page.cluster n) (if outvoted then Reg.cl_OUTVOTE_TOTAL else Reg.cl_MISM_TOTAL)
  s.clEvent n (if outvoted then .outvote else .mismatch) u groups

/-- Cluster n has no unit it can trust: units still in the vote are held out (R21, R132). DEDUCED: notes/assumptions/31.md. -/
def State.voteLost (s : State) (n : Nat) : State :=
  (s.voters n).foldl (fun s u => s.setUnit u { s.unit u with st := .heldOut }) s

/-- COMPARATOR_MISMATCH (R22, R127, R129): the units of the mask that are in the vote report in one CCLK and leave; `disagree` says that the units left in the vote disagree in the same CCLK, which falls in DUAL. GROUPS of the state change is the union where several units leave, and 0 for a disagreement (R151): DEDUCED, notes/assumptions/31.md. -/
def execComparatorMismatch (n : Fin 16) (units : BitVec 3) (g0 g1 g2 : BitVec 8) (disagree : Bool) (s : State) : Res :=
  let n := n.val
  let g : Nat → BitVec 8 := fun k => if k = 0 then g0 else if k = 1 then g1 else g2
  let us := (s.voters n).filter (fun u => bit units (u % 3))
  if s.cluster n = .failed ∨ us = [] then .next s
  else
    let s := s.dropJoin n
    let s := us.foldl (fun s u => s.unitLeave u false (g (u % 3))) s
    let all := us.foldl (fun a u => a ||| g (u % 3)) 0#8
    let s := s.clChange n (clOfCount (s.voters n).length) all
    .next (if disagree && s.cluster n == .dual then (s.voteLost n).clChange n .failed 0#8 else s)

/-- OUTVOTE (R128, R21): in TRIPLE the unit that differs leaves; in DUAL the voter cannot tell which unit is wrong. A unit that has already left, through a mismatch in the same CCLK, counts once (R129). -/
def execOutvote (n : Fin 16) (k : Fin 3) (groups : BitVec 8) (s : State) : Res :=
  let n := n.val
  let u := 3 * n + k.val
  if (s.unit u).st ≠ .inVote then .next s
  else match s.cluster n with
    | .triple => .next (((s.dropJoin n).unitLeave u true groups).clChange n .dual groups)
    | .dual => .next (((s.dropJoin n).voteLost n).clChange n .failed 0#8)
    | _ => .next s

/-- RESULT of R134. -/
def lbistResult (lead check : Word) : Nat :=
  (if lead = Config.lbistExp then 0 else 1) + if check = Config.lbistExp then 0 else 2

/-- SELF_TEST_END (R133 step 5, R134): the card, then RETIRED, READY or HELD_OUT. -/
def execSelfTestEnd (u : Fin 48) (sigLead sigCheck : Word) (s : State) : Res :=
  let u := u.val
  let n := u / 3
  let x := s.unit u
  if x.st ≠ .testing then .next s
  else
    let r := lbistResult sigLead sigCheck
    let retired := x.lasting || decide (r ≠ 0)
    let x' := x.writeCard x.cause r x.groups x.events.length x.lasting retired x.evCycle x.evTime sigLead sigCheck
    let s := s.setUnit u x'
    let s := s.clEvent n (if r = 0 then .testPass else .testFail) u x.groups
    .next (if retired then s.unitRetire u
      else s.setUnit u { x' with st := if s.readmitEn n then .ready else .heldOut })

/-- The RETIRE command of UNIT_CMD (R150). LASTING of the card is set where the unit's count has reached MISM_LIMIT (R145). A retirement of a unit in the vote between bell and core start drops a readmission as a mismatch does (R141), and its event has GROUPS 0 (R151): DEDUCED, notes/assumptions/31.md. -/
def State.retireCmd (s : State) (n k : Nat) (p : Priv) : State :=
  let u := 3 * n + k
  let x := s.unit u
  let page := Page.cluster n
  if p ≠ .p0 ∨ k = 3 ∨ x.st = .retired ∨ x.st = .notEnabled ∨ s.voters n = [u] then s.err page
  else
    let inVote := x.st == .inVote
    let s := s.setUnit u (x.writeCard 3 4 0#8 x.events.length x.lasting true s.bell.cycle s.tb.time 0#32 0#32)
    let s := if inVote then s.dropJoin n else s
    let s := s.unitRetire u
    if inVote then s.clChange n (clOfCount (s.voters n).length) 0#8 else s

/-- RETIRE (R150). -/
def execRetire (n : Fin 16) (k : BitVec 2) (priv : Priv) (s : State) : Res := .next (s.retireCmd n.val k.toNat priv)

/-- The unit that frame n shows (R153). -/
def State.frameUnit (s : State) (n : Nat) : Nat := 3 * n + s.fld (Page.frame n) Reg.unit_UNIT_SEL 0 2

/-- A write of UNIT_SEL (R153): 0b11 is reserved and counts as an error of the page that shows. -/
def State.unitSel (s : State) (n k : Nat) : State :=
  if k = 3 then s.err (Page.unit (s.frameUnit n)) else s.setReg (Page.frame n) Reg.unit_UNIT_SEL (BitVec.ofNat 32 k)

/-- UNIT_SEL (R153). -/
def execUnitSel (n : Fin 16) (k : BitVec 2) (s : State) : Res := .next (s.unitSel n.val k.toNat)

/-! ### Readmission (R139 to R141) -/

/-- At a bell, READY units of a cluster that is not FAILED start to resynchronise (R139). -/
def State.joinBegin (s : State) (n : Nat) : State :=
  if s.cluster n = .failed then s
  else (unitsOf n).foldl (fun s u => if (s.unit u).st = .ready then s.setUnit u { s.unit u with joining := true } else s) s

/-- At core start, the units that resynchronised rejoin the vote (R140, R141). -/
def State.joinEnd (s : State) (n : Nat) : State :=
  let us := (unitsOf n).filter (fun u => (s.unit u).joining)
  if s.cluster n = .failed ∨ us = [] then s
  else
    let s := us.foldl (fun s u => s.setUnit u { s.unit u with st := .inVote, joining := false }) s
    let s := us.foldl (fun s u => (s.count (Page.cluster n) Reg.cl_READMIT_TOTAL).clEvent n .readmit u 0#8) s
    s.clChange n (clOfCount (s.voters n).length) 0#8

/-- Every cluster at a bell, and at core start. -/
def State.joinBeginAll (s : State) : State := (List.range 16).foldl State.joinBegin s
def State.joinEndAll (s : State) : State := (List.range 16).foldl State.joinEnd s

/-! ### Start-up tests and start states (R130 to R132) -/

/-- Unit u after the tests of steps 3 and 4: fail groups of its injection test, and the signatures read where they differ from a sound core's. A unit that fails LBIST here raises no event of a retirement, and RETIRE_TOTAL does not count it (R132, R138): DEDUCED, notes/assumptions/31.md. -/
def State.unitTested (s : State) (inj : Tab (BitVec 8)) (sigs : Tab (Option (Word × Word))) (u : Nat) : State :=
  let g := tget (fun _ => 0#8) inj u
  let x : CUnit := {}
  if g ≠ 0#8 then
    s.setUnit u ({ x with injStat := 0x100#32 ||| g.zeroExtend 32 }.writeCard 4 4 g 0 false true s.bell.cycle s.tb.time 0#32 0#32)
  else
    let (a, b) := (tget (fun _ => none) sigs u).getD (Config.lbistExp, Config.lbistExp)
    let r := lbistResult a b
    s.setUnit u ({ x with injStat := 0x300#32, st := if r = 0 then .heldOut else .retired }.writeCard 0 r 0#8 0 false (r ≠ 0) s.bell.cycle s.tb.time a b)

/-- The voter injection test of cluster n (R131), with the groups that failed. -/
def State.voterTested (s : State) (voter : Tab (BitVec 8)) (n : Nat) : State :=
  let v := tget (fun _ => 0#8) voter n
  s.setReg (Page.cluster n) Reg.cl_VOTER_STAT (if v = 0#8 then 0x300#32 else 0x100#32 ||| v.zeroExtend 32)

/-- The start state of cluster n (R132). It is no change of state in the sense of R152: no INT_RAW bit, no LAST_EVT, no record: DESIGN CHOICE, notes/assumptions/31.md. -/
def State.clusterStart (s : State) (n : Nat) : State :=
  let passed := (unitsOf n).filter (fun u => (s.unit u).st == .heldOut)
  if !s.rbit (Page.cluster n) Reg.cl_VOTER_STAT 9 || decide (passed.length < s.minStart n) then s.setCluster n .failed
  else
    let s := passed.foldl (fun s u => s.setUnit u { s.unit u with st := .inVote }) s
    s.setCluster n (clOfCount passed.length)

/-- The tests of steps 3 and 4 for all units and voters. -/
def State.unitsTest (s : State) (inj : Tab (BitVec 8)) (sigs : Tab (Option (Word × Word))) (voter : Tab (BitVec 8)) : State :=
  let s := (List.range 48).foldl (fun s u => s.unitTested inj sigs u) s
  (List.range 16).foldl (fun s n => s.voterTested voter n) s

/-- The start states of step 6. -/
def State.unitsStart (s : State) : State := (List.range 16).foldl State.clusterStart s

/-- Whether some cluster is FAILED (R24). -/
def State.anyFailed (s : State) : Bool := (List.range 16).any (fun n => s.cluster n == .failed)

/-! ### The unit page (R155) -/

/-- MISM_CNT, OLDEST_SEC and OLDEST_NS. -/
def CUnit.count (x : CUnit) : Word := BitVec.ofNat 32 (min x.events.length 8)
def CUnit.oldestSec (x : CUnit) : Word := match x.events with | [] => 0#32 | e :: _ => BitVec.ofNat 32 e.2.sec
def CUnit.oldestNs (x : CUnit) : Word := match x.events with | [] => 0#32 | e :: _ => BitVec.ofNat 32 e.2.ns

end Sys2Proof.Machine
end

