-- ==== Sys2Proof/Machine/Bell.lean ====
section
/-! DEFINITION. The bell controller: bell, core start, barriers, forme flip, modes, watchdogs, Hold, online change (R49 to R85, R93). -/

namespace Sys2Proof.Machine

/-! ### Registers (R82) -/

/-- Whether no partner and no safety function stand against Hold (R68): the partner is absent, in maintenance, or redundancy is suspended. -/
def State.holdFree (s : State) : Bool :=
  s.isActive && !s.pair.syncPair && !s.safeEn
    && (!s.pair.peerPresent || s.pair.suspended || s.pair.peerRole == .maintenance)

/-- Whether Hold is permitted now. -/
def State.holdOk (s : State) : Bool := s.holdFree && s.rbit Page.bell Reg.bell_HOLD_EN 0

/-- Code of a mode (R64). -/
def Mode.code : Mode → Nat
  | .stop => 0 | .run => 1 | .hold => 2

/-- MODE. -/
def State.modeWord (s : State) : Word :=
  BitVec.ofNat 32 s.bell.mode.code ||| (ofBool 32 s.bell.stopTask <<< 2) ||| (ofBool 32 s.holdOk <<< 3)

/-! ### Online change, as far as the cycle drives it (R77 to R81) -/

/-- The active ends a change and tells the partner (R79, R273). -/
def State.olcCancel (s : State) (o : OlcStat) : State :=
  let s := if s.pair.syncPair then s.ctrlSend .xferCancel [o.code] else s
  s.olcEnd o

/-- Whether a committed cycle that is still to be applied carries the switch. -/
def State.switchDue (s : State) : Bool :=
  s.prx.apply.any (fun c => c.frames.any (fun f => match f.body with
    | .ctrls l => l.any (fun r => match r with | .olcSwitch _ => true | _ => false)
    | _ => false))

/-- A takeover before the switch bell cancels the change (R81): once a committed cycle carries the switch, bell k_s has rung. Rules that the flip of k_s − 1 has swapped stay in force: DESIGN CHOICE, notes/assumptions/37.md. -/
def State.olcTakeover (s : State) : State := if s.olc.stat.final || s.switchDue then s else s.olcEnd .cancelled

/-- Before the flip of cycle k: without the confirmation by the flip of k_s − 1 the change is cancelled (R79, OLC_NO_CONFIRM). -/
def State.olcBeforeFlip (s : State) (k : Nat) : State :=
  if s.olc.stat = .staged ∧ s.olc.ks = cycNext k ∧ s.olc.ks ≠ 0 then s.olcCancel .noConfirm else s

/-- After the flip or commit of cycle k_s − 1: the migration starts, and the rules staged with the package are swapped (R80, R205). A change armed while the module is in Stop sees no such flip and stays ARMED past k_s: DESIGN CHOICE, notes/assumptions/53.md. -/
def State.olcAfterFlip (s : State) (k : Nat) : State :=
  if s.olc.stat = .armed ∧ s.olc.ks = cycNext k ∧ s.olc.pkg.isSome = true then
    { s with olc := { s.olc with stat := .migrating, migrated := false } }.swap
  else s

/-- A configuration as an online change leaves it: with the rule words of the package (R205). -/
def ModCfg.changed (c : ModCfg) (p : OlcPkg) : ModCfg :=
  { c with bytes := p.cfgBytes, rules := c.rules.filter (fun r => !p.rules.any (fun q => q.1 == r.1)) ++ p.rules }

/-- The new program at bell k_s, which is the project from then on, and its rule set that of the configuration (R80, R81, R205). -/
def State.olcSwitch (s : State) : State :=
  match s.olc.pkg with
  | none => s
  | some p =>
    { s with
      proj := p.project.proj, projImg := p.project, projStore := p.project, cfg := s.cfg.changed p, cfgStore := s.cfgStore.changed p
      olc := { s.olc with stat := .applied, pkg := none } }

/-- At the bell of cycle k: the switch, which the proof of the cycle carries (R80, R261). A full resynchronisation in progress would leave the standby with the old project: it is given up, and the next one brings the new one (R81). DEDUCED: notes/assumptions/55.md. -/
def State.olcBell (s : State) (k : Nat) : State :=
  if s.olc.stat = .migrating ∧ s.olc.migrated = true ∧ s.olc.ks = k then
    let s := if s.ptx.resync = .none then s.olcSwitch else s.olcSwitch.resyncCancel
    { s with ptx := { s.ptx with nextCtrls := s.ptx.nextCtrls ++ [.olcSwitch k] } }
  else s

/-- The bell of k_s waits for the migration (R80). -/
def State.olcHolds (s : State) : Bool := s.olc.stat == .migrating && !s.olc.migrated

/-! ### Stop and abandoned cycles (R66, R70, R71) -/

/-- What a cluster staged in a cycle that does not commit is dropped. -/
def Core.dropCycle (c : Core) : Core := { c with posts := [], shed := [], puts := [], canStage := [] }

/-- Every cluster with what it staged dropped; `idle` stops it. -/
def State.dropCores (s : State) (idle : Bool) : State :=
  (List.range 16).foldl (fun s n =>
    let c := s.core n
    let c' := c.dropCycle
    let c' := if idle then { c' with status := .idle, parts := [] } else c'
    if c' = c then s else s.setCore n c') s

/-- STOP_ENTRY (R66). `off` builds the forme of R230. -/
def State.stopEntry (s : State) (off : Bool) : State :=
  let s := s.buildStopForme off
  let s := { s with bell := { s.bell with
    mode := .stop, stopTask := false, runReq := false, firstRun := false, finalCycle := false, offSafe := off, waitAck := false } }
  s.soAll

/-- What the clusters shed in a cycle that does not commit is reported (R108, R526). DEDUCED: notes/assumptions/53.md. -/
def State.reportSheds (s : State) : State := s.postBlock [] ((List.range 16).flatMap (fun n => (s.core n).shed))

/-- ABANDON_CYCLE (R70, R71): the cycle does not commit; a stop marker takes the place of the proof end. -/
def State.abandonCycle (s : State) : State :=
  let s := s.imageAbandon.reportSheds.dropCores true
  let s := { s with bell := { s.bell with cycleOpen := false, coresStarted := false } }
  if s.ptx.began || s.ptx.unacked.any (fun c => decide (c.cyc = s.bell.cycle)) then
    let k := s.bell.cycle
    let s := s.linkSend .stopMark [k]
    { s with ptx := { s.ptx with
        st := .stopped, began := false, pending := [], ctrls := []
        unacked := s.ptx.unacked.filter (fun c => decide (c.cyc ≠ k))
        replay := s.ptx.replay.filter (fun x => decide (x.1 ≠ k)) } }
  else s

/-- The overrun of R63 and R70: a record with DONE, the cycle abandoned, Stop. -/
def State.overrun (s : State) : State :=
  let s := s.journalReg Page.bell 0x04FF Reg.bell_DONE
  s.abandonCycle.stopEntry false

/-! ### The bell (R47 to R53, R62, R85, R139, R143, R181) -/

/-- The timing registers in force since the last bell (R85). -/
def State.latchTiming (s : State) : State :=
  { s.latchProof with bell := { s.bell with timing :=
      [s.reg Page.bell Reg.bell_MIN_CYCLE, s.reg Page.bell Reg.bell_WDG_TIME, s.reg Page.bell Reg.bell_ERR_BUDGET,
       s.reg Page.bell Reg.bell_ACK_TMO, s.reg Page.bell Reg.bell_OLC_GAP_MAX] } }

/-- What LEGET of this cycle returns is captured (R110). -/
def State.captureLoops (s : State) : State := { s with bellLoops := s.loops, bellFl := s.loopFl, bellRcps := s.rcps }

/-- Selected image signals of the input or of the output handles are judged (R532). -/
def State.recImages (s : State) (out : Bool) (t : Time) : State :=
  (s.recd.sel.map Prod.fst).foldl (fun s sig =>
    let h := sig % 0x10000
    let mine := decide (tget (fun _ => 0) s.proj.owner h ≠ 0) == out
    if 0x20000 ≤ sig ∨ mine = false then s
    else
      let (v, st) : Word × Half := if out then ((s.formeSlot h).value, (s.formeSlot h).status)
        else ((s.inRead h).1, (s.inRead h).2.1)
      s.recSignal sig (if sig < 0x10000 then v else st.zeroExtend 32) t) s

/-- INPUT_EPOCH_FLIP (R47, R49): the visible cycle number, forces of the cycle, empty barrier mailboxes. -/
def State.epochFlip (s : State) (k : Nat) : State :=
  let s := { s with bell := { s.bell with cycle := k, forces := s.forces }, bmail := [] }
  { s with inForce := s.applyForces false s.inForce k }

/-- Barrier state resets at the bell (R54). -/
def Core.clearBars (c : Core) : Core := { c with arrived := 0, released := 0 }

/-- A suspension takes effect: the proof stops (R236). -/
def State.suspendBell (s : State) : State :=
  if s.pair.suspendReq then
    let s := if s.ptx.resync = .none then s else s.resyncDrop
    { s with pair := { s.pair with suspended := true, suspendReq := false, syncPair := false } }
  else s

/-- A version raise takes effect at the bell of its cycle, which carries it (R239). -/
def State.raiseBell (s : State) (k : Nat) : State :=
  if s.pair.raiseAt = some k && s.synced then
    let v := (s.pair.inUse.zip s.pair.agreed).map (fun p => max p.1 p.2)
    { s with pair := { s.pair with inUse := v, raiseAt := none }, ptx := { s.ptx with nextCtrls := s.ptx.nextCtrls ++ [.raise v] } }
  else s

/-- The mode of the cycle that begins (R65); the first Run bell confirms a TRIAL bank (R548). -/
def State.modeBell (s : State) : State :=
  let b := s.bell
  let first := b.mode == .stop && b.runReq
  let s := { s with bell := { b with
    mode := if first then .run else b.mode, runReq := false, firstRun := first, finalCycle := b.mode == .run && b.stopTask } }
  if first then ({ s with bell := { s.bell with offSafe := false } }).soAll.selfConfirm else s

/-- The bell's registers: LAST_PERIOD, ERR_CAUSE, DONE, BAR_STAT (R55, R62, R82). LAST_PERIOD at the first bell after a takeover is the time since this module's own last bell, and stays as it is where it never rang one: DESIGN CHOICE, notes/assumptions/53.md. -/
def State.bellRegs (s : State) : State :=
  let s := if s.bell.bellAt = 0 then s else s.setReg Page.bell Reg.bell_LAST_PERIOD (BitVec.ofNat 32 (s.now - s.bell.bellAt))
  let e := s.reg Page.bell Reg.bell_ERR_PEND
  (((s.setReg Page.bell Reg.bell_ERR_CAUSE e).setReg Page.bell Reg.bell_ERR_PEND 0#32).setReg Page.bell Reg.bell_DONE 0#32).setReg
    Page.bell Reg.bell_BAR_STAT 0#32

/-- What takes effect at a bell: timing, tracked ranges, a suspension, a change's switch, a version raise, the mode. -/
def State.bellLatch (s : State) (k : Nat) : State :=
  ((s.latchTiming.latchRanges.suspendBell.olcBell k).raiseBell k).modeBell

/-- The cycle opens. -/
def Bell.ring (b : Bell) (now : Nat) (t : Time) : Bell :=
  { b with
    bellAt := now, bellTime := t, gates := 0xFF#8, cycleOpen := true, coresStarted := false, proofEndSent := false, ackRcvd := false
    afterTakeover := false }

/-- The cycle opens on the module; dirty-line tracking of the cycle starts (R177). -/
def State.bellOpen (s : State) : State :=
  { s with bell := s.bell.ring s.now s.tb.time, dirty := { s.dirty with on := true, taken := [] } }

/-- The wait of R57 is decided at the bell; no forme flip follows a Stop bell, and connections send after it (R503). -/
def State.bellWait (s : State) : State :=
  let s := { s with bell := { s.bell with waitAck := s.ptx.wait } }
  match s.bell.mode with
  | .stop => s.pstSend
  | _ => s

/-- What the bell reads after the image epoch has flipped: readmissions, loop captures, CAN, selected inputs. -/
def State.bellRead (s : State) : State := s.joinBeginAll.captureLoops.canBell.recImages false s.tb.time

/-- What the bell reads and starts after the image epoch has flipped. -/
def State.bellTail (s : State) (k : Nat) : State := ((s.bellRead.sweepBell k).proofBegin k).bellWait

/-- What the clusters staged is dropped, they wait for the core start, and barrier state resets (R54, R93). -/
def State.bellCores (s : State) : State :=
  let s := s.dropCores true
  (List.range 16).foldl (fun s n =>
    let c := s.core n
    if c.clearBars = c then s else s.setCore n c.clearBars) s

/-- A bell of the active module; one whose last proof runs into an uncorrectable word has failed and rings none (R172). -/
def State.bellRing (s : State) : State :=
  let k := cycNext s.bell.cycle
  let s := s.proofDrain
  if !s.alive then s else (((s.bellRegs.bellLatch k).bellOpen.epochFlip k).bellCores).bellTail k

/-- Whether bells ring at all: ENABLE is set, the rules are in force, and no save has begun (R85, R199, R573). -/
def State.bellsOn (s : State) : Bool := !s.saving && s.rbit Page.bell Reg.com_CTRL 0 && !s.prot.openMode

/-- Whether a bell can ring now (R53, R64, R80, R85, R199, R227, R268, R573). In Stop the last cycle has reached its core start (R609). -/
def State.bellMay (s : State) : Bool :=
  s.isActive && s.bellsOn && s.bell.mode != .hold && !(s.bell.cycleOpen && (s.bell.mode == .run || !s.bell.coresStarted))
    && !s.olcHolds && (!s.bell.afterTakeover || s.pair.driveEn) && s.prx.apply.isEmpty

/-- Whether a module that is not active runs its exercise routine (R144, R212): standby and maintenance. -/
def State.exercises (s : State) : Bool :=
  s.pair.role == .standbySync || s.pair.role == .standbyUnsync || s.pair.role == .maintenance

/-- A bell of a module that runs the exercise routine (R144): gates open, the bell's registers and what takes effect at a bell, readmissions begin, and the clusters wait for their core start (R27, R82, R85, R181). -/
def State.exerciseBell (s : State) : State :=
  let s := s.bellRegs.latchTiming.latchRanges
  ({ s with bell := { s.bell with bellAt := s.now, bellTime := s.tb.time, gates := 0xFF#8, coresStarted := false } }.bellCores).joinBeginAll

/-- BELL (R52). On a standby or in maintenance the bell starts the exercise routine (R144). A degraded module fails instead (R143), cause 143. -/
def execBell (s : State) : Res :=
  if !s.isActive then .next (if s.exercises && s.bellsOn then s.exerciseBell else s)
  else if !s.bellMay then .next s
  else
    let degrade := s.pair.degradeReq && s.synced
    let s := { s with pair := { s.pair with degradeReq := false } }
    .next (if degrade then s.moduleFail 143 else s.bellRing)

/-! ### Core start (R93) -/

/-- Partitions of this cycle for a cluster, empty ones left out (R51, R65). -/
def State.cycleParts (s : State) (n : Nat) : List Part :=
  let err := if s.reg Page.bell Reg.bell_ERR_CAUSE = 0#32 then [] else [Part.error]
  let l := (if s.bell.firstRun then [Part.start] else []) ++ err ++ [if s.bell.finalCycle then Part.stop else Part.main]
  let e := tget (fun _ => []) s.proj.entries n
  l.filter (fun p => (e.getD (match p with | .start => 0 | .error => 1 | .main => 2 | .stop => 3) none).isSome)

/-- The entry address of a partition. -/
def State.partEntry (s : State) (n : Nat) (p : Part) : Option Word :=
  (tget (fun _ => []) s.proj.entries n).getD (match p with | .start => 0 | .error => 1 | .main => 2 | .stop => 3) none

/-- The registers of a cluster at core start (R93): of the special registers those that R140 names persist from cycle to cycle, every other register is reset. -/
def Core.start (c : Core) (parts : List Part) : Core :=
  { ip := c.cyvec, ps := psPriv (c.ps &&& 0x3C#8) 1, ct := 20#64
    ev1 := c.ev1, ev0 := c.ev0, epc1 := c.epc1, epc0 := c.epc0, ecause1 := c.ecause1, ecause0 := c.ecause0, eaddr1 := c.eaddr1, eaddr0 := c.eaddr0
    stklim := c.stklim, cyvec := c.cyvec, scr1 := c.scr1, scr0 := c.scr0
    status := .running, parts := parts, canResults := c.canResults }

/-- A cluster starts, unless it has failed. -/
def State.startCore (s : State) (n : Nat) : State :=
  match s.cluster n with
  | .failed => s
  | _ => s.setCore n ((s.core n).start (s.cycleParts n))

/-- The cores start in Run; in Stop the cycle is complete (R93, R609). -/
def State.startCores (s : State) : State :=
  match s.bell.mode with
  | .run => (List.range 16).foldl State.startCore s
  | _ => s.snapFreeze

/-- A cluster starts the exercise routine at P0 (R144); where its code begins the manual does not say: a free value of the implementation, notes/assumptions/19.md. -/
def State.exerciseCore (s : State) (n : Nat) : State :=
  match s.cluster n with
  | .failed => s
  | _ =>
    let c := (s.core n).start []
    s.setCore n { c with ip := Config.exerciseEntry n, ps := psPriv c.ps 0 }

/-- Every cluster starts the exercise routine. -/
def State.exerciseCores (s : State) : State := (List.range 16).foldl State.exerciseCore s

/-- CORE_START (R93, R140, R144, R202, R609): readmitted units rejoin, clusters that wait for a rule swap switch, then the cores start: the program on an active module, the exercise routine on a standby or in maintenance. -/
def execCoreStart (s : State) : Res :=
  let s := s.joinEndAll
  if s.bell.coresStarted then .next s
  else if s.isActive then
    .next (if s.bell.cycleOpen then ({ s.switchIdle with bell := { s.switchIdle.bell with coresStarted := true } }).startCores else s)
  else if s.exercises && s.bellsOn then .next ({ s.switchIdle with bell := { s.switchIdle.bell with coresStarted := true } }).exerciseCores
  else .next s

/-! ### Barriers (R54) -/

/-- Whether cluster n takes part in barrier b. -/
def State.participant (s : State) (b n : Nat) : Bool := bit (tget (fun _ => 0#16) s.proj.barMask b) n

/-- Participants of barrier b. -/
def State.participants (s : State) (b : Nat) : List Nat := (List.range 16).filter (s.participant b)

/-- BARRIER_RELEASE (R54): every participant resumes 24 CCLK after the last arrival. -/
def State.barrierRelease (s : State) (b : Nat) : State :=
  let l := s.participants b
  if s.bell.mode = .run ∧ !l.isEmpty ∧ l.all (fun n => bit (s.core n).arrived b && !bit (s.core n).released b) then
    let t := l.foldl (fun m n => max m (s.core n).ct.toNat) 0 + 24
    let s := l.foldl (fun s n =>
      let c := s.core n
      s.setCore n { c with
        released := c.released ||| (1#8 <<< b), ct := BitVec.ofNat 64 t
        status := if c.status = .atBarrier then .running else c.status }) s
    s.setReg Page.bell Reg.bell_BAR_STAT (s.reg Page.bell Reg.bell_BAR_STAT ||| (1#32 <<< b))
  else s

/-- BARRIER_RELEASE (R54). -/
def execBarrierRelease (b : Fin 8) (s : State) : Res := .next (s.barrierRelease b.val)

/-! ### Completion (R52 step 6, R27) -/

/-- CYCLE_COMPLETION: cluster n completes; region gates close; at the last completion snapshots are frozen. -/
def State.clusterDone (s : State) (n : Nat) : State :=
  let s := s.setReg Page.bell Reg.bell_DONE (s.reg Page.bell Reg.bell_DONE ||| (1#32 <<< n))
  let d := s.reg Page.bell Reg.bell_DONE
  let g := n / 2
  let s := if bit d (2 * g) && bit d (2 * g + 1) then { s with bell := { s.bell with gates := s.bell.gates &&& ~~~(1#8 <<< g) } } else s
  if d = 0xFFFF#32 then ({ s with bell := { s.bell with doneAt := s.now } }).snapFreeze else s

/-! ### The forme flip (R57, R58, R61, R110) -/

/-- The puts of a cycle, with a flag for those that stand: of several to one slot the last, but recipe commands act in order (R110, R341). -/
def standing : List (Nat × Word) → List (Nat × Word × Bool)
  | [] => []
  | p :: l => (p.1, p.2, decide (p.1 % 16 = 13) || !l.any (fun q => q.1 == p.1)) :: standing l

/-- The LEPUT values of the cycle in program order per cluster and in ascending cluster order (R110). -/
def State.cyclePuts (s : State) : List (Nat × Word) := (List.range 16).flatMap (fun n => (s.core n).puts)

/-- LEPUT values reach the loop engines (MAILBOX_DELIVERY, R110): every put is delivered in turn, of which one that a later put to its slot replaces only counts where the slot is not configured. -/
def State.mailDeliver (s : State) : State := (standing s.cyclePuts).foldl (fun s p => if p.2.2 then s.mbPut p.1 p.2.1 else s.mbGone p.1) s

/-- The posts of the cycle enter the journal (POST_BLOCK_COMMIT, R61). -/
def State.postCommit (s : State) : State := s.postBlock s.cyclePosts ((List.range 16).flatMap (fun n => (s.core n).shed))

/-- The program trigger of R536. -/
def State.progTrigger (s : State) : State :=
  let w := s.reg Page.recd Reg.rec_PROG_HANDLE
  if !bit w 31 then s
  else
    let v := (s.formeSlot (fieldNat w 0 16)).value
    let was := s.recd.progLast
    let s := { s with recd := { s.recd with progLast := v } }
    if was = 0#32 ∧ v ≠ 0#32 then s.trigger [0x45] else s

/-- REC_CYC (R535). -/
def State.setRecCyc (s : State) (k : Nat) : State :=
  (s.setReg Page.recd Reg.rec_REC_CYC_LO (BitVec.ofNat 32 k)).setReg Page.recd Reg.rec_REC_CYC_HI (BitVec.ofNat 32 (k / 2 ^ 32 % 2 ^ 16))

/-- A module releases the pass for a planned switch-over after a flip (R231 step 2); a change submitted since ends with it (R81). -/
def State.swoRelease (s : State) : State :=
  match s.pair.swoAt with
  | none => s
  | some k =>
    if !cycLe k s.bell.cycle then s
    else
      let s := { s with pair := { s.pair with swoAt := none } }
      if !s.pair.syncPair then s
      else
        let up := s.linkUp
        let s := s.releaseLines
        let s := s.linkSend .resign [2]
        let s := s.holderChange false 3 (cycNext s.bell.cycle)
        let s := s.setAckCyc s.bell.cycle
        let s := s.olcTakeover
        let s := { s with pair := { s.pair with syncPair := up, degradeReq := false, resign := 0, goFirst := up }, dirty := { s.dirty with on := false }, ptx := { s.ptx with began := false, resync := .none } }
        let s := (s.setRole (if up then .standbySync else .standbyUnsync)).rcpIdle
        if up then s else s.autoResync

/-- LAST_EXEC and MAX_EXEC of the cycle that commits now (R82). -/
def State.execRegs (s : State) : State :=
  let exec := s.now - s.bell.bellAt
  let s := s.setReg Page.bell Reg.bell_LAST_EXEC (BitVec.ofNat 32 exec)
  if (s.reg Page.bell Reg.bell_MAX_EXEC).toNat < exec then s.setReg Page.bell Reg.bell_MAX_EXEC (BitVec.ofNat 32 exec) else s

/-- The forme flip of the active (R57 to R61). A cycle counts as stretched where its flip comes more than 1 TCLK after its last completion (R82): DEDUCED, notes/assumptions/53.md. -/
def State.formeFlip (s : State) : State :=
  let k := s.bell.cycle
  let s := s.olcBeforeFlip k
  let late := decide (s.bell.doneAt + 1 < s.now)
  let s := s.imageFlip
  if !s.alive then s else
  let s := { s with bell := { s.bell with flipAt := s.now, flipTime := s.tb.time, formeCyc := k, cycleOpen := false, waitAck := false } }
  let s := (s.proofFlipped k).execRegs
  let s := if late then s.count Page.bell Reg.bell_STRETCH_CNT else s
  let s := s.postCommit
  let s := s.mailDeliver
  let s := s.canFlip.dropCores false
  let s := s.progTrigger
  let s := (s.recImages true s.bell.flipTime).setRecCyc k
  let first := s.pair.freezeOpen
  let s := s.goFlip true first
  let s := s.pstSend
  let s := s.gvSend
  let s := s.ackFlip.swdRestart
  let s :=
    if first then
      let f := (s.tb.time.toNs - s.prx.flipTime.toNs) / 4
      { s.setReg Page.pair Reg.pair_LAST_SWO_FREEZE (BitVec.ofNat 32 f) with pair := { s.pair with freezeOpen := false } }
    else s
  let s := if s.bell.finalCycle then s.stopEntry false else s
  s.swoRelease.olcAfterFlip k

/-- Whether the flip condition of R57 holds. -/
def State.flipMay (s : State) : Bool :=
  s.isActive && !s.saving && s.bell.mode == .run && s.complete && (!s.bell.waitAck || (s.bell.proofEndSent && s.bell.ackRcvd))

/-- FORME_FLIP (R57). -/
def execFormeFlip (s : State) : Res := .next (if s.flipMay then s.formeFlip else s)

/-- ACK_TIMEOUT (R59): the partner is lost and the forme flips at once. -/
def execAckTimeout (s : State) : Res :=
  if s.isActive && s.bell.mode == .run && s.bell.waitAck && s.bell.proofEndSent && !s.bell.ackRcvd then
    let s := (s.raise Page.proof 1).partnerGone
    .next (if s.flipMay then s.formeFlip else s)
  else .next s

/-- ERR_BUDGET_OVERRUN (R63): some cluster has not completed its Error partition. -/
def execErrBudgetOverrun (s : State) : Res :=
  .next (if s.isActive && s.bell.mode == .run && s.bell.cycleOpen && s.bell.coresStarted && (List.range 16).any (fun n => (s.core n).parts.contains .error)
    then s.overrun else s)

/-- CYCLE_WATCHDOG_EXPIRY (R70): the watchdog pauses in Hold (R69). -/
def execCycleWatchdogExpiry (s : State) : Res :=
  .next (if s.isActive && s.bell.mode == .run && s.bell.cycleOpen then s.overrun else s)

/-! ### Mode commands (R65, R67, R69, R83) -/

/-- Mode commands. -/
inductive ModeCmd where
  | run | stop | resume
  deriving DecidableEq, Repr

/-- HOLD ends: every cluster goes on (R69). -/
def State.resumeHold (s : State) : State := { s with bell := { s.bell with mode := .run } }

/-- A mode command (R65, R67): P0 or P1 only, on the ACTIVE module, and not while STOP_TASK is set. -/
def State.modeCmd (s : State) (c : ModeCmd) (p : Priv) : State :=
  if p = .p2 then s.err Page.bell
  else if !s.isActive then (s.err Page.bell).journal Page.bell 0x03FF Reg.bell_MODE s.modeWord
  else if s.bell.stopTask then s.err Page.bell
  else match c, s.bell.mode with
    | .run, .stop => { s with bell := { s.bell with runReq := true } }
    | .stop, .run => { s with bell := { s.bell with stopTask := true } }
    | .stop, .hold => s.abandonCycle.stopEntry false
    | .resume, .hold => s.resumeHold
    | _, _ => s.err Page.bell

/-- RUN (R65). -/
def execRun (priv : Priv) (s : State) : Res := .next (s.modeCmd .run priv)

/-- STOP (R65). -/
def execStop (priv : Priv) (s : State) : Res := .next (s.modeCmd .stop priv)

/-- RESUME (R69). -/
def execResume (priv : Priv) (s : State) : Res := .next (s.modeCmd .resume priv)

/-- HOLD_LIMIT_EXPIRY (R69). -/
def execHoldLimitExpiry (s : State) : Res := .next (if s.bell.mode = .hold then s.abandonCycle.stopEntry false else s)

/-- A write of HOLD_EN is ignored unless the other conditions of R68 hold. -/
def State.holdEn (s : State) (v : Bool) : State := if s.holdFree then s.setBit Page.bell Reg.bell_HOLD_EN 0 v else s

/-- HOLD_EN (R68). -/
def execHoldEn (v : Bool) (s : State) : Res := .next (s.holdEn v)

/-- CTRL[CLR_MAX]. -/
def State.clrMax (s : State) : State := s.setReg Page.bell Reg.bell_MAX_EXEC 0#32

/-- CLR_MAX (R85). -/
def execClrMax (s : State) : Res := .next s.clrMax

/-- A breakpoint (R68, R69, R114): HOLD_ENTRY where Hold is permitted, BREAKPOINT_IGNORED elsewhere. The flag says that the module is in Hold. -/
def State.breakpoint (s : State) : State × Bool :=
  if s.holdOk && s.bell.mode == .run then
    ({ s with bell := { s.bell with mode := .hold, heldAt := s.now } }, true)
  else
    let s := s.count Page.bell Reg.bell_BKPT_IGN
    (s.journalReg Page.bell 0x03FF Reg.bell_BKPT_IGN, false)

/-! ### The standby's commit (R49, R67, R226, R267) -/

/-- Force changes that a proof carries go into the force table (R74, R261). -/
def State.takeForces (s : State) (l : List CtrlRec) : State :=
  l.foldl (fun s r => match r with
    | .force n e => s.setForce n e
    | _ => s) s

/-- The first change of each entry of the force table: how the entry stood at the bell of the cycle (R74). -/
def firstForces (seen : List Nat) : List CtrlRec → List CtrlRec
  | [] => []
  | .force n e :: l => if seen.contains n then firstForces seen l else .force n e :: firstForces (n :: seen) l
  | _ :: l => firstForces seen l

/-- The commit of a cycle on the standby: cycle number, image epoch, forme and mode (R267), with the force changes that it carries: those of inputs act from its bell, those of outputs from its flip (R74). -/
def State.standbyTake (s : State) (b : ProofBegin) (ctrls : List CtrlRec) : State :=
  let s := ((s.takeForces (firstForces [] ctrls)).epochFlip b.cyc).takeForces ctrls
  if b.mode = 1 then
    let s := { s with bell := { s.bell with mode := .run } }
    let s := s.imageFlip
    let s := { s with bell := { s.bell with formeCyc := b.cyc, flipAt := s.now, flipTime := s.tb.time } }
    let s := s.goFlip false s.pair.goFirst
    let s := { s with pair := { s.pair with goFirst := false } }
    let s := if s.rbit Page.recd Reg.rec_REC_CFG 3 then s.recImages true s.bell.flipTime else s
    let s := s.ackFlip.swdRestart
    if b.stopTask then s.stopEntry false else s
  else
    let s := { s with outDirty := [] }
    if s.bell.mode = .stop then s else s.stopEntry false

/-- A standby that joins a pair in Stop builds the forme of Stop from the active's project: Hold entries from the committed working image that the sweep brought (R64, R66). DESIGN CHOICE: notes/assumptions/53.md. -/
def State.joinStop (s : State) : State :=
  if s.bell.mode = .stop then (s.outputs.foldl (fun s h => s.formePut h (s.outCom h).toForme) s).stopEntry false else s

/-- A stop marker on the standby: the cycle is dropped and the module is in Stop (R71). -/
def State.standbyStop (s : State) : State := if s.bell.mode = .stop then s else s.stopEntry false

end Sys2Proof.Machine
end

