-- ==== Sys2Proof/Machine/Pair.lean ====
section
/-! DEFINITION. The redundant pair: roles, the hall pass, attendance, takeover, pair commands (R212 to R247). -/

namespace Sys2Proof.Machine

/-! ### Settings and views (R241 to R244) -/

/-- PAIR_CFG[START_ALONE] and PAIR_CFG[UNSYNC_CLAIM]. -/
def State.startAlone (s : State) : Bool := s.rbit Page.pair Reg.pair_PAIR_CFG 0
def State.unsyncClaim (s : State) : Bool := s.rbit Page.pair Reg.pair_PAIR_CFG 1

/-- IFn_OWN. -/
def ifOwnWord (n : Nat) : Word := BitVec.ofNat 32 ((Config.ifOwn n).1 % 256 + (Config.ifOwn n).2 % 256 * 256)

/-- IFn_PAIR. -/
def Pair.ifPair (p : Pair) (n : Nat) : Word :=
  let (lo, hi) := (p.peer.map (fun c => c.ifs.getD n (0, 0))).getD (0, 0)
  BitVec.ofNat 32 (lo % 256 + hi % 256 * 256 + p.agreed.getD n 0 % 256 * 65536 + p.inUse.getD n 0 % 256 * 16777216)

/-- ATT_MISS (R221, R241): attendance periods since the last valid frame. -/
def State.attMiss (s : State) : Nat := if s.pair.attSeen then min 5 ((s.now - s.pair.attAt) / 2500) else 0

/-! ### Line readings (R215, R216) -/

/-- Line readings after the filters: bit 0 line 1, bit 1 line 2. -/
def State.readLines (s : State) (own peer : BitVec 2) : State :=
  { s with pair := { s.pair with own1 := bit own 0, own2 := bit own 1, peer1 := bit peer 0, peer2 := bit peer 1 } }

/-- Readings of the peer lines. -/
def State.readPeer (s : State) (peer : BitVec 2) : State :=
  { s with pair := { s.pair with peer1 := bit peer 0, peer2 := bit peer 1 } }

/-- Own and peer lines all read asserted (R218). -/
def Pair.clash (p : Pair) : Bool := p.own1 && p.own2 && p.peer1 && p.peer2

/-- CONFLICT clears when the conflict ends (R243). -/
def State.endConflict (s : State) : State := { s with pair := { s.pair with conflict := s.pair.conflict && s.pair.clash } }

/-- The drivers go off: CAN channels leave NORMAL, safety outputs follow (R36, R215, R437). -/
def State.gateOff (s : State) : State := (({ s with pair := { s.pair with driveEn := false } }).canGateLost).soAll

/-- PASS_GATE_FALSE (R215). The command carries the line readings. -/
def execPassGateFalse (own peer : BitVec 2) (s : State) : Res :=
  let s := (s.readLines own peer).endConflict
  .next (if s.pair.gate then s else s.gateOff)

/-- PASS_STAT[LINE_FAULT] becomes set (R216, R247). -/
def State.lineFaulty (s : State) : State :=
  if s.pair.lineFault then s else ({ s with pair := { s.pair with lineFault := true } }).raise Page.pair 3

/-- LINE_DISAGREEMENT (R216): a module failure of the holder (cause 216), else LINE_FAULT; for the peer lines also a record. -/
def execLineDisagreement (own peer : BitVec 2) (s : State) : Res :=
  let s := (s.readLines own peer).endConflict
  let s := if s.pair.own1 == s.pair.own2 then s else if s.isActive then s.moduleFail 216 else s.lineFaulty
  let s := if s.pair.peer1 == s.pair.peer2 then s
    else s.lineFaulty.journal Page.pair 0x0103 Reg.pair_PASS_STAT (passWord s.lineFaulty.pair)
  .next s

/-! ### Negotiation (R238, R239) -/

/-- Interface numbers of R237. -/
def ifaces : List Nat := [0, 1, 2, 3, 4]

/-- The range of the partner on interface n. -/
def Caps.range (c : Caps) (n : Nat) : Nat × Nat := c.ifs.getD n (0, 0)

/-- The agreed version of interface n: the lower of the two OWN_MAX values. -/
def agreedVer (c : Caps) (n : Nat) : Nat := min (Config.ifOwn n).2 (c.range n).2

/-- It holds only where it is not below either OWN_MIN. -/
def agreeOk (c : Caps) (n : Nat) : Bool := decide ((Config.ifOwn n).1 ≤ agreedVer c n) && decide ((c.range n).1 ≤ agreedVer c n)

/-- Firmware major versions differ by at most 1 (R5, R238). -/
def majorOk (own : BitVec 24) (c : Caps) : Bool :=
  let a := fieldNat own 16 8
  let b := fieldNat c.fw 16 8
  decide (a ≤ b + 1) && decide (b ≤ a + 1)

/-- The versions that an active module has in use on interfaces 2 to 4 lie within the joining module's range. -/
def State.usedOk (s : State) (c : Caps) : Bool :=
  !s.isActive || [2, 3, 4].all (fun n =>
    let v := s.pair.inUse.getD n 0
    decide ((c.range n).1 ≤ v) && decide (v ≤ (c.range n).2))

/-- The negotiation of R238 with the partner's capability frame. -/
def State.negotiate (s : State) (c : Caps) : Bool := ifaces.all (agreeOk c) && majorOk s.fwVer c && s.usedOk c

/-- The outcome is kept. -/
def State.setAgreed (s : State) (c : Caps) : State :=
  let ok := s.negotiate c
  { s with pair := { s.pair with agreedOk := ok, agreed := if ok then ifaces.map (agreedVer c) else [0, 0, 0, 0, 0] } }

/-- A failed pairing on the joining module: ROLE[NEG_FAIL] is set, and each one leaves its record (R238, R247). -/
def State.pairFailed (s : State) : State :=
  let s := if s.pair.negFail then s else ({ s with pair := { s.pair with negFail := true } }).raise Page.pair 5
  s.journal Page.pair 0x0105 Reg.pair_ROLE (roleWord s.pair)

/-- A failed pairing on the active module leaves a record. -/
def State.pairRefused (s : State) : State := s.journal Page.pair 0x01FF (Reg.pair_IF_PAIR 0) (s.pair.ifPair 0)

/-- Versions in use of a module that becomes active (R239): those of the last pairing are kept; at a first start the own OWN_MAX, but of interfaces 2 to 4 beside a partner the agreed ones (DEDUCED: notes/assumptions/35.md). Interfaces 0 and 1 move with the first proof of a full resynchronisation. -/
def State.settleVersions (s : State) : State :=
  let p := s.pair
  let first := p.inUse.all (fun v => v == 0)
  let own := ifaces.map (fun n => (Config.ifOwn n).2)
  let v := if !first then p.inUse else if p.agreedOk then own.take 2 ++ p.agreed.drop 2 else own
  { s with pair := { p with inUse := v } }

/-! ### Claims (R217, R219, R220, R227, R230) -/

/-- The current pass epoch (R217, R241): the highest that this module has claimed or its partner has told since start-up. -/
def Pair.current (p : Pair) : Word := BitVec.ofNat 32 (max p.epoch.toNat p.known.toNat)

/-- The highest epoch known. -/
def Pair.highest (p : Pair) : Nat := max p.epoch.toNat (max p.stored.toNat p.known.toNat)

/-- The epoch of a claim: E + 1, none where that would be 0xFFFF_FFFF (R217). -/
def Pair.nextEpoch (p : Pair) : Option Word :=
  if p.highest + 1 < 0xFFFFFFFF then some (BitVec.ofNat 32 (p.highest + 1)) else none

/-- A claim that would produce the epoch 0xFFFF_FFFF is refused with a record. -/
def State.refuseClaim (s : State) : State := s.journal Page.pair 0x03FF Reg.pair_PASS_EPOCH s.pair.current

/-- A claim asserts both own lines; the claim window runs, and the epoch is stored in the keepsake (R217, R220). -/
def State.claimLines (s : State) (e : Word) : State :=
  { s with pair := { s.pair with
      own1 := true, own2 := true, claimWin := true, epoch := e, stored := e, detectAt := s.now, resign := 0, partnerLost := false } }

/-- The module is ACTIVE: ROLE and the registers of the change of holder (R241, R247). -/
def State.claimRole (s : State) (cause cyc : Nat) : State := ((s.setRole .active).holderChange true cause cyc).raise Page.pair 1

/-- A claim of a module that becomes ACTIVE with it. -/
def State.claim (s : State) (e : Word) (cause cyc : Nat) : State := (s.claimLines e).claimRole cause cyc

/-- The sending side of the proof starts afresh; its sequence runs on. -/
def State.freshTx (s : State) : State := { s with ptx := { seq := s.ptx.seq } }

/-- Stations learn of the new holder with its first OUTPUT (R391). -/
def State.untell (s : State) : State := { s with stns := s.stns.map (fun e => (e.1, { e.2 with told := false })) }

/-- LAST_SWO's record (R227). -/
def State.takeoverRecord (s : State) : State := s.journalReg Page.pair 0x0101 Reg.pair_LAST_SWO

/-- What a module that takes the pass does beside the claim itself: tracking starts, the gap is open, its clusters leave the exercise routine (R144), and every recipe is IDLE (R340). -/
def State.openTake (s : State) (sync freeze : Bool) : State :=
  let s := (s.dropCores true).rcpIdle
  { s with
    pair := { s.pair with gapOpen := true, freezeOpen := freeze, syncPair := sync, resyncBusy := false, swoAt := none, raiseAt := none }
    bell := { s.bell with coresStarted := false }
    dirty := { s.dirty with on := true, marked := [], swept := [], taken := [] } }

/-- The cause of a takeover in LAST_SWO: a resign notice for a failure, a planned switch-over, or the peer pass lost (R246). -/
def Pair.takeCause (p : Pair) : Nat := if p.resign = 1 then 2 else if p.resign = 2 then 3 else 1

/-- The takeover of a synchronised standby (R226, R227): it goes on after its last acknowledged cycle. -/
def State.takeover (s : State) (e : Word) : State :=
  let c := s.pair.takeCause
  let k := s.ackCyc
  let s := (s.proofDiscard.claim e c (cycNext k)).takeoverRecord
  let s := ((s.openTake (c == 3) true).freshTx.untell).olcTakeover
  { s with bell := { s.bell with cycle := k, afterTakeover := true, firstRun := false, runReq := false, cycleOpen := false, waitAck := false }
           pair := { s.pair with notice := c == 1 } }

/-- The claim of an unsynchronised standby in Stop (R230). -/
def State.unsyncTake (s : State) (e : Word) : State :=
  let s := s.resyncFail
  let s := (s.claim e 4 (cycNext s.bell.cycle)).takeoverRecord.settleVersions
  ((((s.openTake false false).freshTx.untell).olcTakeover).goRestart).stopEntry true

/-- The peer pass is lost (R223, R224, R230). -/
def State.peerLost (s : State) : State :=
  let s := ((s.readPeer 0#2).endConflict).raise Page.pair 2
  match s.pair.role, s.pair.nextEpoch with
  | .standbySync, some e => s.takeover e
  | .standbySync, none => s.refuseClaim
  | .standbyUnsync, o =>
    if s.unsyncClaim && !s.pair.suspended then
      match o with
      | some e => s.unsyncTake e
      | none => s.refuseClaim
    else s
  | _, _ => s

/-- PEER_PASS_LOST (R223). A failed module takes no notice, nor does one that saves (R573, R579). -/
def execPeerPassLost (s : State) : Res := .next (if s.alive && !s.saving then s.peerLost else s)

/-! ### The role decision (R219, R567 steps 9 and 10) -/

/-- Start-up ends: STARTUP_TIME in ms (R567, R582). -/
def State.startupDone (s : State) : State :=
  (s.setReg Page.clk Reg.clk_STARTUP_STEP 0xF#32).setReg Page.clk Reg.clk_STARTUP_TIME
    (BitVec.ofNat 32 (min 0xFFFF ((s.now - s.pwr.bootAt) / 250000)))

/-- The mode of START_MODE, unless R577 holds the module in Stop (R567 step 10). -/
def State.startMode (s : State) : State :=
  let strict := s.rbit Page.surr Reg.surr_SURR_CFG 0 && s.reg Page.surr Reg.surr_MISMATCH_MAP != 0#32
  let run := s.fld Page.bell Reg.com_CTRL 2 2 == 1 && !strict
  { s with bell := { s.bell with mode := .stop, stopTask := false, runReq := run } }

/-- The module becomes standby, in Stop with the forme of R66: resynchronisation only after a pairing that succeeded. -/
def State.joinStandby (s : State) : State :=
  let s := s.setRole .standbyUnsync
  let s := if s.bell.mode = .stop then s.stopEntry false else s
  if s.link.capsDone && s.pair.agreedOk then ({ s with pair := { s.pair with negFail := false } }).autoResync else s.pairFailed

/-- A claim at start-up holds (R219, R220): the module is ACTIVE, in Stop with the forme of R66 or on its way to Run; there is no takeover, so no gap and no freeze to record. -/
def State.coldTake (s : State) : State :=
  let s := (({ s with pair := { s.pair with cold := false } }).claimRole 5 (cycNext s.bell.cycle)).settleVersions
  let s := { s with dirty := { s.dirty with on := true } }
  let s := ((s.goRestart.untell).stopEntry false).startMode.startupDone
  if s.pair.peerPresent && s.link.gotPeer && !s.pair.agreedOk then s.pairRefused else s

/-- A claim at start-up; beside a partner it can still lose the tie of R220, and the role stays STARTING until it holds (R213). DEDUCED: notes/assumptions/35.md. -/
def State.coldClaim (s : State) : State :=
  match s.pair.nextEpoch with
  | none => s.refuseClaim
  | some e =>
    let s := s.claimLines e
    if s.pair.peerPresent then { s with pair := { s.pair with cold := true } } else s.coldTake

/-- A cold-start claim holds once its window ends, or its drivers are enabled. -/
def State.coldHeld (s : State) : State := if s.pair.cold then s.coldTake else s

/-- ROLE_DECISION (R219). The command carries the readings of the peer lines. -/
def State.roleDecision (s : State) (peer : BitVec 2) : State :=
  let s := s.readPeer peer
  if peer = 3#2 then s.joinStandby.startupDone
  else if !s.pair.peerPresent && !s.startAlone then s
  else s.coldClaim

/-- Step 9 is reached: steps 1 to 8 have ended, outside recovery (R549, R567), and no save has begun (R579). -/
def State.decides (s : State) : Bool := decide (8 ≤ s.fld Page.clk Reg.clk_STARTUP_STEP 0 4) && !s.sec.recovery && !s.saving

/-- ROLE_DECISION (R219): in STARTING only, at step 9. -/
def execRoleDecision (peer : BitVec 2) (s : State) : Res :=
  .next (match s.pair.role with | .starting => (if s.decides && !s.pair.cold then s.roleDecision peer else s) | _ => s)

/-- CLAIM_WINDOW_EXPIRY (R220): a cold-start claim that has not lost its tie holds. -/
def execClaimWindowExpiry (s : State) : Res := .next ({ s with pair := { s.pair with claimWin := false } }).coldHeld

/-- DRIVE_ENABLE (R215, R227 step 3): the gate has been true for 125 TCLK. The gap of a takeover is recorded (R241). -/
def State.driveOn (s : State) : State :=
  if s.alive && s.pair.gate then
    let s := s.coldHeld
    let s := if s.pair.gapOpen then s.setReg Page.pair Reg.pair_LAST_SWO_GAP (BitVec.ofNat 32 (s.now - s.pair.detectAt)) else s
    ({ s with pair := { s.pair with driveEn := true, gapOpen := false } }).soAll
  else s

/-- DRIVE_ENABLE (R215). The command carries the line readings. -/
def execDriveEnable (own peer : BitVec 2) (s : State) : Res := .next (s.readLines own peer).endConflict.driveOn

/-! ### Leaving ACTIVE (R218, R231, R213) -/

/-- What an active module leaves behind when it stops being active without handing over: its cycle, tracking, the proof, an online change. The mode stays (R65 lists no change). -/
def State.leaveActive (s : State) : State :=
  let s := (s.imageAbandon.reportSheds.dropCores true).freshTx
  let s := { s with
    bell := { s.bell with cycleOpen := false, coresStarted := false, stopTask := false, runReq := false, waitAck := false }
    dirty := { s.dirty with on := false, marked := [], swept := [] }
    pair := { s.pair with syncPair := false, swoAt := none, raiseAt := none, degradeReq := false } }
  s.rcpIdle.olcTakeover

/-- The pass is withdrawn after a conflict (R218); a cold-start claim that loses makes the module standby at once (R213, R220). -/
def State.withdraw (s : State) : State :=
  if s.pair.cold then (s.releaseLines.endConflict).joinStandby.startupDone
  else
    let s := (s.releaseLines.leaveActive).endConflict
    (s.setRole .standbyUnsync).autoResync

/-- PASS_STAT[CONFLICT] becomes set, with its record (R218, R247). -/
def State.setConflict (s : State) : State :=
  if s.pair.conflict then s
  else
    let s := ({ s with pair := { s.pair with conflict := true } }).raise Page.pair 4
    s.journal Page.pair 0x0104 Reg.pair_PASS_STAT (passWord s.pair)

/-- PASS_CONFLICT (R218, R220): `tie`, both asserted in the same TCLK or inside the claim window, side B withdraws; `later`, this module asserted later and withdraws. A withdrawal sets CONFLICT. -/
def State.passConflict (s : State) (tie later : Bool) : State :=
  let s := s.readPeer 3#2
  if !s.pair.clash then s
  else if tie then (if s.pair.sideB then s.setConflict.withdraw else s)
  else if later then s.setConflict.withdraw
  else s

/-- PASS_CONFLICT (R218). -/
def execPassConflict (tie later : Bool) (s : State) : Res := .next (if s.alive then s.passConflict tie later else s)

/-- CONFLICT_TIMEOUT (R218). -/
def execConflictTimeout (s : State) : Res := .next (if s.pair.clash then s.setConflict else s)

/-! ### Attendance (R221 to R225, R255) -/

/-- FLAGS of an attendance frame (R255). An active module whose pairing failed says so. -/
def State.attFlags (s : State) : Nat :=
  let p := s.pair
  let neg := p.negFail || (s.isActive && s.link.gotPeer && !p.agreedOk)
  (if p.syncPair then 1 else 0) + (if p.partnerLost then 2 else 0) + (if p.suspended then 4 else 0) + (if p.resyncBusy then 8 else 0)
    + (if neg then 16 else 0) + (if s.bell.mode == .stop then 32 else 0)

/-- Roles that send attendance: ACTIVE, both standby roles, MAINTENANCE (R221, R236). -/
def Role.attends (r : Role) : Bool := r != .starting && r != .failed

/-- The readings of the peer lines, after which a conflict may be over (R243). -/
def State.seePeer (s : State) (peer : BitVec 2) : State := (s.readPeer peer).endConflict

/-- ATTEND_SEND (R217, R221, R222): attendance goes out while the liveness strobe toggles. The command carries the readings of the peer lines of its attendance period. -/
def execAttendSend (tx : AttendTx) (s : State) : Res :=
  let s := s.seePeer tx.peer
  .next (if tx.strobe && s.pair.role.attends then
    s.linkSend .attend [s.pair.current.toNat, s.pair.role.code, s.attFlags, s.bell.cycle, s.ackCyc] else s)

/-- Attendance is declared lost (R221, R224, R225). -/
def State.attendanceLost (s : State) : State :=
  let s := ({ s with pair := { s.pair with attLost := true, notice := false } }).raise Page.pair 2
  let s := s.count Page.pair Reg.pair_ATT_LOSS_TOTAL
  match s.pair.role with
  | .active => s.partnerGone
  | .standbySync => if s.pair.peer1 || s.pair.peer2 then (s.journalReg Page.pair 0x0102 Reg.pair_ATT_LOSS_TOTAL).standbyUnsync else s
  | _ => s

/-- ATTENDANCE_LOST (R221, R224). The peer lines are as they were read at this attendance period (ATTEND_SEND) or since. DEDUCED: notes/assumptions/35.md. -/
def execAttendanceLost (s : State) : Res :=
  .next (if s.pair.role.attends && s.pair.attSeen && !s.pair.attLost then s.attendanceLost else s)

/-- PASS_KEEPER_EXPIRY (R222). -/
def execPassKeeperExpiry (s : State) : Res := .next s.releaseLines

/-- MODULE_FAILURE (R214). -/
def execModuleFailure (cause : Nat) (s : State) : Res := .next (s.moduleFail cause)

/-! ### Pair commands (R213, R231, R236, R239, R245) -/

/-- A command that is not permitted now: ignored, counted, recorded (R213, R245). -/
def State.pairRefuse (s : State) : State := (s.err Page.pair).journal Page.pair 0x03FF Reg.pair_ROLE (roleWord s.pair)

/-- MAINT_ENTER of the active: the pass is released and the drivers disabled (R213). -/
def State.maintActive (s : State) : State :=
  let s := s.linkSend .resign [3]
  let s := (s.releaseLines.leaveActive).gateOff
  s.setRole .maintenance

/-- MAINT_ENTER of a standby. -/
def State.maintStandby (s : State) : State :=
  let s := s.resyncFail.proofDiscard
  ({ s with pair := { s.pair with syncPair := false }, link := { s.link with retry := false } }).setRole .maintenance

/-- Whether a pair command is permitted now (R213, R231, R236, R239, R245). -/
def State.pairMay (s : State) : PairCmd → Bool
  | .switchover => s.synced && !s.pair.suspended && s.olc.stat.final
  | .suspend => s.isActive && s.olc.stat != .armed && s.olc.stat != .migrating
  | .resume => s.isActive
  | .maintEnter => s.pair.role == .standbySync || s.pair.role == .standbyUnsync
      || (s.isActive && s.bell.mode == .stop && !s.pair.syncPair)
  | .maintLeave => s.pair.role == .maintenance
  | .resync => s.canResync
  | .raise => s.synced

/-- What a permitted pair command does. -/
def State.pairDo (s : State) : PairCmd → State
  -- the flip of the current cycle, or of the next one
  | .switchover => { s with pair := { s.pair with swoAt := some (if s.bell.cycleOpen then s.bell.cycle else cycNext s.bell.cycle) } }
  | .suspend => { s with pair := { s.pair with suspendReq := true } }
  | .resume => { s with pair := { s.pair with suspended := false, suspendReq := false } }
  | .maintEnter => if s.isActive then s.maintActive else s.maintStandby
  | .maintLeave => (s.setRole .starting).setReg Page.clk Reg.clk_STARTUP_STEP 9#32
  | .resync => s.startResync
  | .raise => { s with pair := { s.pair with raiseAt := some ((s.bell.cycle + 4) % 2 ^ 48) } }

/-- A pair command: P0 and P1 only (R241). -/
def State.pairCmd (s : State) (c : PairCmd) (p : Priv) : State :=
  if p = .p2 then s.err Page.pair
  else if s.pairMay c then s.pairDo c else s.pairRefuse

/-- SWITCHOVER (R231). -/
def execSwitchover (priv : Priv) (s : State) : Res := .next (s.pairCmd .switchover priv)

/-- SUSPEND (R236). -/
def execSuspend (priv : Priv) (s : State) : Res := .next (s.pairCmd .suspend priv)

/-- RESUME of the pair (R236). -/
def execPairResume (priv : Priv) (s : State) : Res := .next (s.pairCmd .resume priv)

/-- MAINT_ENTER (R213). -/
def execMaintEnter (priv : Priv) (s : State) : Res := .next (s.pairCmd .maintEnter priv)

/-- MAINT_LEAVE (R213). -/
def execMaintLeave (priv : Priv) (s : State) : Res := .next (s.pairCmd .maintLeave priv)

/-- RESYNC (R245, R274). -/
def execResync (priv : Priv) (s : State) : Res := .next (s.pairCmd .resync priv)

/-- RAISE (R239). -/
def execRaise (priv : Priv) (s : State) : Res := .next (s.pairCmd .raise priv)

end Sys2Proof.Machine
end

