-- ==== Sys2Proof/Machine/Link.lean ====
section
/-! DEFINITION. The partner link as received: lanes, capability and attendance frames, the proof on the standby, repair, transfers, resynchronisation, online change (R75 to R81, R248 to R276). -/

namespace Sys2Proof.Machine

/-! ### Configuration and project take effect (R271, R274, R567 step 6) -/

/-- Streams of PROFILE 0x4 of a configuration (R369). -/
def ModCfg.fastStreams (c : ModCfg) : Nat :=
  (c.net.streams.filter (fun e => match e.2 with | some x => x.profile == .p14400 | none => false)).length

/-- 840 times the frames per second of the subscribed streams (R369): no stream names its port, so each counts on every port. DESIGN CHOICE: notes/assumptions/43.md. -/
def ModCfg.streamRate (c : ModCfg) : Nat :=
  (c.net.streams.map (fun e => match e.2 with | some x => x.profile.rate * 840 / max x.noAsdu 1 | none => 0)).sum

/-- What the module checks again when a configuration is loaded (R369, R408). -/
def ModCfg.admissible (c : ModCfg) : Bool :=
  decide (c.fastStreams ≤ 32) && decide (c.streamRate ≤ 400000 * 840) && lanesOk c.stnCfg

/-- The registers, tables and memory of a configuration, which stays in the configuration area; it ends every tool session (R163, R553). -/
def State.loadCfg (s : State) (c : ModCfg) : State :=
  let s := c.regs.foldl (fun s e => { s with regs := tset regReset s.regs e.1 e.2 }) (s.putCells c.mem)
  let s := { s with cfg := c, cfgStore := c, sec := { s.sec with sessions := [] }, net := c.net, stnCfg := c.stnCfg, stnMap := c.stnMap, pstCfg := c.pstCfg, pstProd := c.pstProd }
  { s with fab := { s.fab with pubs := c.pubs, subs := c.subs }, recd := { s.recd with sel := c.sel, expList := c.expList } }

/-- The parts of a configuration that start their monitors. -/
def State.startCfg (s : State) : State := s.stnLoad.fabLoad.canLoad

/-- Rule words go into the shadow banks. -/
def State.stageRules (s : State) (l : List (Nat × Word)) : State := l.foldl (fun s r => s.shadowWrite (r.1 / 256) (r.1 % 256) r.2) s

/-- The rules of a configuration are staged and swapped (R199). -/
def State.loadRules (s : State) (c : ModCfg) : State := (s.stageRules c.rules).swap

/-- The writing clusters that the rows of an imposition table name for output handle h. -/
def Project.writers (p : Project) (h : Nat) : List Nat := (p.rows.filter (fun r => r.1 = h)).flatMap (·.2)

/-- Every output handle of the imposition table has one writing cluster, which is its owner, and an entry of the safe-value table (R51, R66). -/
def Project.rowsOk (p : Project) : Bool :=
  p.rows.all (fun r => (p.writers r.1).length == 1 && decide (tget (fun _ => 0) p.owner r.1 = (p.writers r.1).headD 0 + 1)
    && (tget (fun _ => none) p.safe r.1).isSome)
  && p.owner.all (fun e => p.rows.any (fun r => r.1 == e.1))

/-- No barrier of the imposition table has an empty participant mask (R51). -/
def Project.barsOk (p : Project) : Bool :=
  p.bars.all (fun b => b.2 != 0#16 && tget (fun _ => 0#16) p.barMask b.1 == b.2) && p.barMask.all (fun e => p.bars.any (fun b => b.1 == e.1))

/-- Every line of an instance area, given by its first and last byte, lies in the tracked ranges of its region (R181). -/
def State.areaTracked (s : State) (r : Nat × Nat) : Bool :=
  decide (r.2 < 0x8000000) && (List.range (r.2 / 64 + 1 - r.1 / 64)).all (fun i =>
    let a := (r.1 / 64 + i) * 64
    s.trkCfg (a / 0x1000000) (a % 0x1000000 / 64))

/-- Whether the module takes a project at load (R51, R66, R181). -/
def State.projOk (s : State) (p : Project) : Bool := p.rowsOk && p.barsOk && p.inst.all s.areaTracked

/-- A project: the tables of the bell controller, code and initial data, which the region DMA engines write. -/
def State.loadProj (s : State) (p : ProjImg) : State := { s.dmaPut p.mem with projImg := p, projStore := p, proj := p.proj }

/-! ### Transfers (R271 to R273) -/

/-- XFER_STAT. -/
def Xfer.stat (x : Xfer) : Word := BitVec.ofNat 32 (x.lastOp % 16 + x.kind.code * 16 + (if x.busy then 256 else 0) + (if x.failed then 512 else 0))

/-- Replace the transfer. -/
def State.setXfer (s : State) (x : Xfer) : State := { s with link := { s.link with xfer := x } }

/-- The ID after an ID (R271). -/
def nextXferId (i : Word) : Word := if i = 0xFFFFFFFE#32 then 0#32 else i + 1#32

/-- OPEN of the transfer in progress. -/
def State.sendOpen (s : State) : State :=
  let x := s.link.xfer
  (s.setXfer { x with lastOp := 1 }).linkSend .xferOpen [x.ident.toNat, x.kind.code, x.length, x.digest.toNat]

/-- A transfer is opened by its sender; it keeps the version with which it starts (R264). -/
def State.xferOpen (s : State) (k : XferKind) (content : List Byte) : State :=
  (s.setXfer { ident := nextXferId s.link.xfer.ident, kind := k, ver := s.linkVer, sending := true, busy := true, lastOp := 1
               length := content.length, digest := Config.shake256 content, content := content }).sendOpen

/-- XFER_DATA frames from an offset on, 1,024 bytes each. -/
def State.xferData (s : State) (off : Nat) : State :=
  let x := s.link.xfer
  let rest := x.content.drop off
  ((chunks 1024 rest.length rest).foldl (fun (r : State × Nat) b =>
    (r.1.linkSend .xferData (x.ident.toNat :: r.2 :: b.map BitVec.toNat), r.2 + b.length)) (s, off)).1

/-- All bytes sent. -/
def State.xferClose (s : State) : State :=
  let x := s.link.xfer
  (s.setXfer { x with lastOp := 2 }).ctrlSend .xferClose [x.ident.toNat]

/-- A transfer ends well (R276). -/
def State.xferDone (s : State) : State :=
  (s.setXfer { s.link.xfer with busy := false, acked := s.link.xfer.length }).raise Page.link 3

/-- A transfer is abandoned: what was stored is freed; with it an online change ends in state `o`, and a resynchronisation fails (R273, R275). -/
def State.xferAbandon (s : State) (o : OlcStat) : State :=
  let x := s.link.xfer
  if !x.busy then s
  else
    let s := if s.ptx.resync = .config ∨ s.ptx.resync = .project then s.resyncDrop else s
    let s := s.xferDrop o
    if x.sending then s else s.resyncFail

/-- A module abandons its transfer with CANCEL. -/
def State.xferCancel (s : State) (o : OlcStat) : State :=
  let s := s.setXfer { s.link.xfer with lastOp := 6 }
  (s.ctrlSend .xferCancel [o.code]).xferAbandon o

/-- OLC_STAT's state of a code (R77). -/
def olcOfCode (n : Nat) : OlcStat :=
  if n = 8 then .forcedConflict else if n = 9 then .digestFail else if n = 10 then .noConfirm else if n = 11 then .gapExceeded else .cancelled

/-- Whether an address lies in an area that the running program uses (R76). -/
def Project.uses (p : Project) (a : Nat) : Bool := (p.code ++ p.inst).any (fun r => decide (r.1 ≤ a ∧ a ≤ r.2))

/-- A package is staged: its code goes into SRAM outside the areas of the running program, its rules into the shadow banks (R76, R77, R205). -/
def State.olcStage (s : State) (p : OlcPkg) : State :=
  let s := (s.dmaPut (p.code.filter (fun c => !s.proj.uses c.1))).stageRules p.rules
  { s with olc := { stat := .staged, pkg := some p } }

/-- An active module without a synchronised partner ends the staging of a package, any active module that of one whose digest is wrong (R77, R81). DESIGN CHOICE: notes/assumptions/55.md. -/
def State.olcTick (s : State) : State :=
  if s.olc.stat = .staging ∧ s.olc.bad = true then s.olcEnd .digestFail
  else match s.olc.pkg with
    | some p => if s.olc.stat = .staging ∧ s.pair.syncPair = false then s.olcStage p else s
    | none => s

/-- The sender goes on after a transfer: configuration, project, then the sweep; or the package is staged here too (R79, R274). -/
def State.xferNext (s : State) : State :=
  match s.link.xfer.kind, s.ptx.resync, s.olc.pkg with
  | .config, .config, _ => ({ s with ptx := { s.ptx with resync := .project } }).xferOpen .project s.projImg.bytes
  | .project, .project, _ => { s with ptx := { s.ptx with resync := .armed } }
  | .package, _, some p => if s.olc.stat = .staging then s.olcStage p else s
  | _, _, _ => s

/-- The digest of what the receiver holds of a kind (R274 step 1). -/
def State.ownDigest (s : State) : XferKind → BitVec 256
  | .config => Config.shake256 s.cfg.bytes
  | .project => Config.shake256 s.projImg.bytes
  | _ => 0

/-- The receiver replies STAGED with its own digest. -/
def State.sendStaged (s : State) (d : BitVec 256) : State :=
  (s.setXfer { s.link.xfer with lastOp := 3 }).ctrlSend .xferStaged [s.link.xfer.ident.toNat, d.toNat]

/-- FRAME_DISCARD of a length beyond its destination (R10, R276). -/
def State.tooLong (s : State) : State := s.frameDiscard .len

/-- Room for the content of a transfer: the configuration area, a copy of the project store, the working copy in DRAM (R10, R161, R163, R165, R166). -/
def State.xferRoom (s : State) : XferKind → Nat
  | .config => 0x800000 | .project => s.nand.projectRoom | .package => 0x80000000 | .none => 0

/-- XFER_OPEN received (R271, R274, R79): for a configuration or a project the reply holds the digest of the receiver's own copy; with a package a change starts in STAGING. A total length beyond its destination is refused (R10), a reserved kind has no effect. -/
def State.rxOpen (s : State) (ver : Nat) (ident : Word) (k : XferKind) (len : Nat) (d : BitVec 256) : State :=
  if k = .none ∨ (s.link.xfer.busy = true ∧ s.link.xfer.sending = true) then s
  else if s.xferRoom k < len then s.tooLong
  else
    let s := s.setXfer { ident := ident, kind := k, ver := ver, busy := true, lastOp := 1, length := len, digest := d }
    match k with
    | .package => { s with olc := { stat := .staging } }
    | _ =>
      let own := s.ownDigest k
      let s := s.sendStaged own
      if own = d then s.xferDone else s

/-- XFER_ACK with the bytes held. -/
def State.sendXferAck (s : State) : State :=
  let x := s.link.xfer
  (s.setXfer { x with acked := x.content.length }).linkSend .xferAck [x.ident.toNat, x.content.length]

/-- Whether this module receives transfer `ident`. -/
def Xfer.receives (x : Xfer) (ident : Word) : Bool := x.busy && !x.sending && x.ident == ident

/-- Whether this module sends transfer `ident`. -/
def Xfer.sends (x : Xfer) (ident : Word) : Bool := x.busy && x.sending && x.ident == ident

/-- XFER_DATA received: bytes that join on are held; an ACK for every 64 KiB, and on a gap. Bytes past the total length are refused with their frame (R10). -/
def State.rxData (s : State) (ident : Word) (off : Nat) (b : List Byte) : State :=
  let x := s.link.xfer
  if !x.receives ident then s
  else if x.length < off + b.length then s.tooLong
  else if x.content.length < off then s.sendXferAck
  else
    let c := x.content ++ b.drop (x.content.length - off)
    let s := s.setXfer { x with content := c }
    if x.acked + 65536 ≤ c.length then s.sendXferAck else s

/-- What was received takes effect by its kind (R79, R274); a project that the module does not take abandons the transfer (R51, R66, R181). DEDUCED: notes/assumptions/55.md. -/
def State.rxStore (s : State) : State :=
  let x := s.link.xfer
  match x.kind with
  | .config =>
    let c := Config.cfgOf x.content
    if c.admissible then (((s.loadCfg c).loadRules c).startCfg).xferDone else s.xferCancel .cancelled
  | .project =>
    let p := Config.projOf x.content
    if s.projOk p.proj then (s.loadProj p).xferDone else s.xferCancel .cancelled
  | .package => (s.olcStage (Config.pkgOf x.content)).xferDone
  | .none => s

/-- XFER_CLOSE received: with every byte held, STAGED with the digest of the content; a CLOSE repeated after the end is answered again. -/
def State.rxClose (s : State) (ident : Word) : State :=
  let x := s.link.xfer
  if x.receives ident then
    if x.content.length != x.length then (s.setXfer { x with lastOp := 2 }).sendXferAck
    else
      let d := Config.shake256 x.content
      let s := (s.setXfer { x with acked := x.length }).sendStaged d
      if d = x.digest then s.rxStore else s
  else if !x.busy && !x.sending && !x.failed && x.kind != .none && x.ident == ident then s.sendStaged x.digest
  else s

/-- The partner's digest of a configuration or a project is kept for the report of R552. -/
def State.keepStaged (s : State) (k : XferKind) (d : BitVec 256) : State :=
  match k with
  | .config => { s with link := { s.link with stagedCfg := d } }
  | .project => { s with link := { s.link with stagedProj := d } }
  | _ => s

/-- XFER_STAGED received: after the OPEN an equal digest skips the transfer; after the CLOSE a different one abandons it, a package with DIGEST_FAIL (R77, R273). -/
def State.rxStaged (s : State) (ident : Word) (d : BitVec 256) : State :=
  let x := s.link.xfer
  if !x.sends ident then s
  else
    let s := (s.setXfer { x with lastOp := 3 }).keepStaged x.kind d
    if d = x.digest then s.xferDone.xferNext
    else if x.lastOp = 1 then (s.xferData 0).xferClose
    else s.xferCancel (if x.kind = .package then .digestFail else .cancelled)

/-- A frame that fails the checks of R252 is discarded; else it acts. A failed module takes none (R214). -/
def State.rxChecked (s : State) (w : Out) (ident : Word) (args : List Nat) (tr : Trailer) (f : State → State) : State :=
  if !s.alive then s
  else match s.linkCheck w ident args tr with
    | some e => s.frameDiscard e
    | none => f s

/-- Kind and total length of an XFER_CTRL frame. -/
def XferHead.args (h : XferHead) : List Nat := [h.kind.code, h.len]

/-- XFER_OPEN (R271). -/
def execXferOpen (ident : Word) (kind : XferKind) (len : Nat) (digest : BitVec 256) (tr : Trailer) (s : State) : Res :=
  .next (s.rxChecked .xferOpen ident [ident.toNat, kind.code, len, digest.toNat] tr (fun s => s.rxOpen tr.ver ident kind len digest))

/-- XFER_DATA (R271). -/
def execXferData (ident : Word) (off : Nat) (bytes : List Byte) (tr : Trailer) (s : State) : Res :=
  .next (s.rxChecked .xferData ident (ident.toNat :: off :: bytes.map BitVec.toNat) tr (fun s => s.rxData ident off bytes))

/-- XFER_ACK received. -/
def State.rxXferAck (s : State) (ident : Word) (off : Nat) : State :=
  let x := s.link.xfer
  if x.sends ident then s.setXfer { x with acked := max x.acked (min off x.length) } else s

/-- XFER_ACK (R271). -/
def execXferAck (ident : Word) (off : Nat) (tr : Trailer) (s : State) : Res :=
  .next (s.rxChecked .xferAck ident [ident.toNat, off] tr (fun s => s.rxXferAck ident off))

/-- XFER_CLOSE (R271). -/
def execXferClose (head : XferHead) (tr : Trailer) (s : State) : Res :=
  .next (s.rxChecked .xferClose head.ident (head.ident.toNat :: head.args) tr (fun s => s.rxClose head.ident))

/-- XFER_STAGED (R271, R272, R274). -/
def execXferStaged (head : XferHead) (digest : BitVec 256) (tr : Trailer) (s : State) : Res :=
  .next (s.rxChecked .xferStaged head.ident (head.ident.toNat :: digest.toNat :: head.args) tr (fun s => s.rxStaged head.ident digest))

/-- XFER_ARM received: a staged change is armed and k_s confirmed. -/
def State.rxArm (s : State) (ks : Nat) : State :=
  let s := s.setXfer { s.link.xfer with lastOp := 4 }
  if s.olc.stat == .staged && s.pair.role == .standbySync then
    let s := { s with olc := { s.olc with stat := .armed, ks := ks, confirmed := true } }
    (s.setXfer { s.link.xfer with lastOp := 5 }).ctrlSend .xferConfirm [ks]
  else s

/-- XFER_ARM (R272). -/
def execXferArm (ks : XferValue) (tr : Trailer) (s : State) : Res :=
  .next (s.rxChecked .xferArm ks.ident (ks.value :: ks.args) tr (fun s => s.rxArm ks.value))

/-- XFER_CONFIRM received: another k_s counts as missing. -/
def State.rxConfirm (s : State) (ks : Nat) : State :=
  let s := s.setXfer { s.link.xfer with lastOp := 5 }
  if s.olc.stat == .staged && s.olc.ks == ks && ks != 0 then { s with olc := { s.olc with stat := .armed, confirmed := true } } else s

/-- XFER_CONFIRM (R79, R272). -/
def execXferConfirm (ks : XferValue) (tr : Trailer) (s : State) : Res :=
  .next (s.rxChecked .xferConfirm ks.ident (ks.value :: ks.args) tr (fun s => s.rxConfirm ks.value))

/-- CANCEL received: the transfer, the change and a resynchronisation end. A CANCEL that names another transfer than the one in progress comes too late and has no effect. -/
def State.rxCancel (s : State) (ident : Word) (o : OlcStat) : State :=
  let x := s.link.xfer
  if x.busy && x.ident != ident then s
  else
    let s := ((s.setXfer { x with lastOp := 6 }).xferAbandon o).resyncFail
    if s.olc.stat.final then s else s.olcEnd o

/-- XFER_CANCEL (R271, R273); it also ends a full resynchronisation that the active gives up (R275). -/
def execXferCancel (value : XferValue) (tr : Trailer) (s : State) : Res :=
  .next (s.rxChecked .xferCancel value.ident (value.value :: value.args) tr (fun s => s.rxCancel value.ident (olcOfCode value.value)))

/-- What a sender repeats from the acknowledged offset on: a reply to the OPEN that is missing asks for the OPEN again, and so does a package of which no byte is acknowledged. -/
def State.xferAgain (s : State) : State :=
  let x := s.link.xfer
  if x.lastOp = 1 then s.sendOpen
  else
    let s := if x.kind = .package ∧ x.acked = 0 then s.sendOpen else s
    (s.xferData x.acked).xferClose

/-- XFER_RESEND (R271): no progress for 100 µs. -/
def execXferResend (s : State) : Res := .next (if s.link.xfer.busy && s.link.xfer.sending then s.xferAgain else s)

/-- RESYNC_REQ received (R274): the configuration is offered first. -/
def State.rxResyncReq (s : State) : State :=
  let s := s.setXfer { s.link.xfer with lastOp := 7 }
  if s.isActive && !s.pair.suspended && s.pair.agreedOk && !s.link.xfer.busy then
    let s := { s with
      pair := { s.pair with syncPair := false, partnerLost := false }
      ptx := { s.ptx with resync := .config, replay := [], unacked := [] } }
    s.xferOpen .config s.cfg.bytes
  else s

/-- RESYNC_REQ (R274). -/
def execResyncReq (req : XferBare) (s : State) : Res := .next (s.rxChecked .resyncReq req.ident req.args req.tr State.rxResyncReq)

/-- RESYNC_RETRY (R275). -/
def execResyncRetry (s : State) : Res := .next (if s.link.retry then s.startResync else s)

/-! ### Lanes (R249, R250) -/

/-- The link is DOWN and retrains while LINK_EN = 1 and the partner is present; a transfer is abandoned (R273), and a full resynchronisation that the link carried ends on both modules (R275). DEDUCED: notes/assumptions/55.md. -/
def State.linkDown (s : State) (lanes : BitVec 4) : State :=
  let up := s.linkUp
  let st := if s.pair.peerPresent && s.rbit Page.link Reg.link_LINK_CFG 0 then LinkSt.training else .down
  let s := { s with link := { s.link with st := st, lanes := lanes, gotPeer := false, capsDone := false } }
  let s := if up then (s.count Page.link Reg.link_LINK_DOWN_CNT).raise Page.link 1 else s
  let s := (s.xferAbandon .cancelled).resyncFail
  if s.ptx.resync = .none then s else s.resyncDrop

/-- LINK_BLOCK_LOCK (R249, R276): training results of lanes 0 to 3 and the largest skew. -/
def execLinkBlockLock (q : List Word) (skew : BitVec 8) (s : State) : Res :=
  .next (match s.link.st with
    | .training =>
      let s := (List.range 4).foldl (fun s i => s.setReg Page.link (Reg.link_LANE_Q i) (q.getD i 0#32 &&& 0xFFFF#32)) s
      let s := s.setReg Page.link Reg.link_DESKEW (skew.zeroExtend 32)
      { s with link := { s.link with st := .aligned, lanes := 0xF#4 } }
    | _ => s)

/-- LINK_UP (R249, R264). -/
def execLinkUp (s : State) : Res :=
  .next (match s.link.st with
    | .aligned => ({ s with link := { s.link with st := .up, gotPeer := false, capsDone := false } }).raise Page.link 0
    | _ => s)

/-- LINK_LOSS (R250): `lanes` keep block lock. -/
def execLinkLoss (lanes : BitVec 4) (s : State) : Res :=
  .next (match s.link.st with
    | .down => s
    | _ => s.linkDown lanes)

/-- PEER_PRES_N (R219, R249). -/
def execPeerPresN (v : Bool) (s : State) : Res :=
  let s := { s with pair := { s.pair with peerPresent := v } }
  .next (if !v then s.linkDown 0
    else match s.link.st with
      | .down => s.linkDown 0
      | _ => s)

/-! ### Capability and attendance frames (R255, R256, R264) -/

/-- The fields of a capability frame (R256). -/
def Caps.args (c : Caps) : List Nat :=
  [c.uid.toNat, if c.sideB then 1 else 0, c.issue.toNat, c.fw.toNat, if c.gotPeer then 1 else 0, c.epoch.toNat]
    ++ ifaces.flatMap (fun n => [(c.range n).1, (c.range n).2])

/-- What this module tells of itself (R256). -/
def State.ownCaps (s : State) : Caps :=
  { uid := Config.uid, sideB := s.pair.sideB, issue := Config.hwIssue, fw := s.fwVer, gotPeer := s.link.gotPeer, epoch := s.pair.stored
    ifs := ifaces.map Config.ifOwn }

/-- CAPS_SEND (R264). -/
def execCapsSend (s : State) : Res :=
  .next (if s.linkUp && !s.link.capsDone && s.alive then s.linkSend .caps s.ownCaps.args else s)

/-- What follows the first capability frame of a link: NEG_FAIL clears at a pairing that succeeds (R242); at one that fails the active keeps a record, and the joining module sets NEG_FAIL (R238). -/
def State.paired (s : State) : State :=
  if s.pair.agreedOk then { s with pair := { s.pair with negFail := false } }
  else match s.pair.role with
    | .active => s.pairRefused
    | .standbyUnsync => s.pairFailed
    | .maintenance => s.pairFailed
    | _ => s

/-- CAPS received: the first of a link is negotiated on, and with the first that has GOT_PEER set a standby can be resynchronised (R219, R264, R274). -/
def State.rxCaps (s : State) (c : Caps) : State :=
  let first := !s.link.gotPeer
  let done := s.link.capsDone
  let s := { s with
    link := { s.link with gotPeer := true, capsDone := done || c.gotPeer }
    pair := { s.pair with peer := some c, known := BitVec.ofNat 32 (max s.pair.known.toNat c.epoch.toNat) } }
  let s := if first then (s.setAgreed c).paired else s
  -- the exchange is complete: NEG_FAIL of a role decision that came before it clears (R219, R242)
  let s := if c.gotPeer && !done && s.pair.agreedOk then { s with pair := { s.pair with negFail := false } } else s
  if c.gotPeer && !done && !s.link.retry then s.autoResync else s

/-- CAPS (R238, R256). -/
def execCaps (c : Caps) (tr : Trailer) (s : State) : Res := .next (s.rxChecked .caps 0#32 c.args tr (fun s => s.rxCaps c))

/-- The fields of an attendance frame (R255). -/
def Attend.args (a : Attend) : List Nat :=
  [a.epoch.toNat, a.role.code,
    (if a.sync then 1 else 0) + (if a.partnerLost then 2 else 0) + (if a.suspended then 4 else 0) + (if a.resyncBusy then 8 else 0)
      + (if a.negFail then 16 else 0) + (if a.stop then 32 else 0), a.cyc, a.ackCyc]

/-- What an active module takes from its partner's attendance (R213, R225, R255). -/
def State.attActive (s : State) (a : Attend) : State :=
  match a.role with
  | .standbySync => s.proofAcked a.ackCyc
  | .standbyUnsync =>
    let s := if s.pair.syncPair then s.partnerGone else s
    { s with pair := { s.pair with partnerLost := false } }
  | .maintenance | .failed => if s.pair.syncPair then s.partnerGone else s
  | _ => s

/-- The active reports a pairing that failed on its versions in use. -/
def State.attNegFail (s : State) (a : Attend) : State :=
  if a.negFail && (s.pair.agreedOk || !s.pair.negFail) then ({ s with pair := { s.pair with agreedOk := false } }).resyncFail.pairFailed else s

/-- A suspension as the active reports it (R236). -/
def State.attSuspend (s : State) (v : Bool) : State :=
  if v == s.pair.suspended then s
  else
    let s := { s with pair := { s.pair with suspended := v } }
    if v then s.resyncFail.standbyUnsync else s.startResync

/-- What a standby takes from the active's attendance (R213, R225, R236, R244, R275). -/
def State.attStandby (s : State) (a : Attend) : State :=
  match a.role with
  | .active =>
    let s := (s.attNegFail a).attSuspend a.suspended
    let s := if a.partnerLost then s.standbyUnsync else s
    let s := if s.resyncLate a.cyc then s.resyncFail else s
    if s.link.retry then s else s.autoResync
  | _ => s

/-- ATTEND received. -/
def State.rxAttend (s : State) (a : Attend) : State :=
  let s := { s with pair := { s.pair with
    attSeen := true, attAt := s.now, attLost := false, peerRole := a.role, notice := s.pair.notice && a.role == Role.active
    known := BitVec.ofNat 32 (max s.pair.known.toNat a.epoch.toNat) } }
  match s.pair.role with
  | .active => s.attActive a
  | .standbySync | .standbyUnsync => s.attStandby a
  | _ => s

/-- ATTEND (R221, R255). -/
def execAttend (a : Attend) (tr : Trailer) (s : State) : Res := .next (s.rxChecked .attend 0#32 a.args tr (fun s => s.rxAttend a))

/-- The notice of the old holder comes after its lines were seen released (R231, R246, R270): it gives the cause of the takeover, and after a planned one the pair is synchronised. -/
def State.lateNotice (s : State) (reason : Nat) : State :=
  let c := ({ s.pair with resign := reason } : Pair).takeCause
  let s := ({ s with pair := { s.pair with notice := false } }).setFld Page.pair Reg.pair_LAST_SWO 0 4 c
  if c = 3 then ({ s with pair := { s.pair with syncPair := true } }).raise Page.pair 6 else s

/-- RESIGN received (R214, R231): a module that does not hold the pass keeps the reason for the takeover; an active module whose partner failed goes on alone. -/
def State.rxResign (s : State) (reason : Nat) : State :=
  if s.isActive then
    if s.pair.notice then s.lateNotice reason else if s.pair.syncPair then s.partnerGone else s
  else { s with pair := { s.pair with resign := reason } }

/-- RESIGN (R253). -/
def execResign (reason : Nat) (tr : Trailer) (s : State) : Res := .next (s.rxChecked .resign 0#32 [reason] tr (fun s => s.rxResign reason))

/-! ### The proof on the standby (R258 to R269) -/

/-- PROOF_BEGIN (R258). -/
def execProofBegin (b : ProofBegin) (tr : Trailer) (s : State) : Res := .next (s.rxChecked .proofBegin 0#32 b.args tr (fun s => s.rxBegin b))

/-- A data, journal or control frame: one that fails a check is asked for again (R265). -/
def State.rxProof (s : State) (seq : Word) (b : ProofBody) (tr : Trailer) : State :=
  let f : ProofFrame := { seq := seq, body := b, crc := tr.crc }
  if !s.alive then s
  else match s.linkCheck b.out 0#32 f.args tr with
    | some e => s.proofFrameBad e
    | none => s.rxFrame f

/-- PROOF_DATA (R259). -/
def execProofData (seq : Word) (l : List ProofLine) (crc : Word) (tr : Seal) (s : State) : Res :=
  .next (s.rxProof seq (.lines l) { tr with crc := crc })

/-- PROOF_JOURNAL (R261). -/
def execProofJournal (seq : Word) (l : List Post) (crc : Word) (tr : Seal) (s : State) : Res :=
  .next (s.rxProof seq (.posts l) { tr with crc := crc })

/-- PROOF_CTRL (R261). -/
def execProofCtrl (seq : Word) (l : List CtrlRec) (crc : Word) (tr : Seal) (s : State) : Res :=
  .next (s.rxProof seq (.ctrls l) { tr with crc := crc })

/-- PROOF_END fields (R262). -/
def ProofEnd.args (e : ProofEnd) : List Nat :=
  [e.cyc, e.lines, e.frames, e.posts, e.ctrls, e.digest.toNat, (if e.overRun then 1 else 0) + (if e.sweep then 2 else 0), e.recCyc]

/-- PROOF_END (R262). -/
def execProofEnd (e : ProofEnd) (tr : Trailer) (s : State) : Res := .next (s.rxChecked .proofEnd 0#32 e.args tr (fun s => s.rxEnd e))

/-- STOP_MARK received (R71, R269): the cycle is dropped, the standby enters Stop and is unsynchronised. -/
def State.rxStopMark (s : State) : State :=
  if s.takesProof then s.proofDiscard.standbyStop.standbyUnsync else s

/-- STOP_MARK (R71). -/
def execStopMark (cyc : Nat) (tr : Trailer) (s : State) : Res :=
  .next (s.rxChecked .stopMark 0#32 [cyc] tr
    (fun s => if s.prx.cycles.any (fun c => decide (c.head.cyc = cyc)) || s.prx.cycles.isEmpty then s.rxStopMark else s))

/-- PROOF_ACK (R57): the body echoes CYC, LINES and FRAMES (R267). -/
def execProofAck (ack : AckBody) (tr : Trailer) (s : State) : Res :=
  .next (s.rxChecked .proofAck 0#32 [ack.cyc, ack.lines, ack.frames] tr (fun s => if s.isActive then s.proofAcked ack.cyc else s))

/-- A frame is resent from the replay store with its own sequence (R265). -/
def State.resend (s : State) (q : Word) : State :=
  match s.ptx.replay.find? (fun x => x.2.seq == q) with
  | none => s
  | some x => (s.linkSend x.2.body.out x.2.args).count Page.link Reg.link_RESENT

/-- PROOF_NAK received: the listed frames of an unacknowledged cycle are resent. -/
def State.rxNak (s : State) (cyc : Nat) (seqs : List Word) : State :=
  let s := s.count Page.link Reg.link_NAK_RX
  if s.isActive && (s.ptx.replay.any (fun x => decide (x.1 = cyc))) then seqs.foldl State.resend s else s

/-- PROOF_NAK (R265). -/
def execProofNak (cyc : Nat) (seqs : List Word) (tr : Trailer) (s : State) : Res :=
  .next (s.rxChecked .proofNak 0#32 (cyc :: seqs.map BitVec.toNat) tr (fun s => s.rxNak cyc seqs))

/-- Lines, posts and control records of a cycle, in sequence order. -/
def RxCycle.linesOf (c : RxCycle) (n : Nat) : List ProofLine := (c.sorted n).flatMap (fun f => match f.body with | .lines l => l | _ => [])
def RxCycle.postsOf (c : RxCycle) (n : Nat) : List Post := (c.sorted n).flatMap (fun f => match f.body with | .posts l => l | _ => [])
def RxCycle.ctrlsOf (c : RxCycle) (n : Nat) : List CtrlRec := (c.sorted n).flatMap (fun f => match f.body with | .ctrls l => l | _ => [])

/-- Frames of a cycle. -/
def RxCycle.count (c : RxCycle) : Nat := (c.tail.map (·.frames)).getD 0

/-- The bytes of a committed cycle that its sender counted against the budget, as the standby knows them: every line, but of a sweep cycle the proof does not tell how many were sweep lines, and the count is free up to all of them: notes/assumptions/55.md. -/
def State.rxBytes (s : State) (e : ProofEnd) : Nat :=
  if e.sweep then (Config.freeWord s.freeCtr).toNat % (e.lines + 1) * 64 else e.lines * 64

/-- Registers of a committed cycle on the standby (R277). -/
def State.commitRegs (s : State) (e : ProofEnd) : State :=
  let s := (s.setAckCyc e.cyc).setRecCyc e.recCyc
  { s.proofCommitted e.lines (s.rxBytes e) with freeCtr := s.freeCtr + 1 }

/-- A resynchronisation ends with the first commit that had WAIT = 1 (R78, R274 step 5). -/
def State.resyncEnd (s : State) (wait : Bool) : State :=
  if s.pair.resyncBusy && wait then ({ s.setRole .standbySync with olc := {} }).pairSynced.goJoin.joinStop else s

/-- Image lines of the next received cycle that arrived before this commit go into the hidden slots now (R266). -/
def State.provNext (s : State) : State :=
  match s.prx.cycles with
  | c :: _ => c.frames.foldl (fun s f => s.provLines c f) s
  | [] => s

/-- The commit (R226, R267): the acknowledgement is sent, image and forme flip, the cycle goes to the apply. -/
def State.proofCommit (s : State) (c : RxCycle) (e : ProofEnd) (rest : List RxCycle) : State :=
  let s := s.linkSend .proofAck [e.cyc, e.lines, e.frames]
  let s := (s.commitRegs e).standbyTake c.head (c.ctrlsOf e.frames)
  if !s.alive then s else
  let s := { s with prx := { s.prx with
    cycles := rest, apply := s.prx.apply ++ [{ c with cal := s.tb.calendar }], commitAt := s.now, bellTime := c.head.bellTime, flipTime := c.head.flipTime, recCyc := e.recCyc
    expect := s.prx.expect.map (fun _ => cycNext e.cyc) } }
  ((s.resyncEnd c.head.wait).olcAfterFlip e.cyc).provNext

/-- The counts do not match (R267): the frames concerned are asked for again, all of them where none is missing; a frame asked for 3 times ends it (R265). -/
def State.countMismatch (s : State) (c : RxCycle) (e : ProofEnd) : State :=
  let all := (List.range (min e.frames 65536)).map (fun i => c.head.firstSeq + BitVec.ofNat 32 i)
  if all.any c.asked || all.isEmpty then s.proofGiveUp
  else (s.mapRx e.cyc (fun (x : RxCycle) => { x with frames := [] })).sendNak e.cyc all

/-- PROOF_COMMIT (R267). -/
def execProofCommit (s : State) : Res :=
  .next (if !s.takesProof then s
    else match s.prx.cycles with
      | [] => s
      | c :: rest =>
        match c.tail with
        | none => s
        | some e =>
          if c.matches e then s.proofCommit c e rest
          else if (c.missing (s.prx.nextSeq.getD c.head.firstSeq)).isEmpty then s.countMismatch c e
          else s.nakCheck e.cyc)

/-- A line is applied: region SRAM, where the target checks the partner link writer (R196), or the staging record of a loop (R268). Image lines went to the hidden slots. -/
def State.applyLine (s : State) (l : ProofLine) : State :=
  if l.target < 8 then
    let a := l.target * 0x1000000 + l.line * 64
    match s.fixedMay 0x021 .write a 64 with
    | (s, true) => (s.cleanWords a 64).storeLE a 64 l.data.toNat
    | (s, false) => s
  else if l.target = 8 then s
  else s.stageSnap l

/-- A control record is applied (R239, R261, R268). -/
def State.applyCtrl (s : State) (r : CtrlRec) : State :=
  match r with
  | .force _ _ => s
  | .raise v => { s with pair := { s.pair with inUse := v } }
  | .olcSwitch _ => s.olcSwitch

/-- APPLY_COMPLETE (R268): the oldest committed cycle is in place. -/
def execApplyComplete (s : State) : Res :=
  .next (match s.prx.apply with
    | [] => s
    | c :: rest =>
      let s := (c.linesOf c.count).foldl State.applyLine s
      let s := s.postBlockAt c.cal (c.postsOf c.count) []
      let s := (c.ctrlsOf c.count).foldl State.applyCtrl s
      let s := { s with prx := { s.prx with apply := rest } }
      s.setReg Page.proof Reg.proof_APPLY_LAG (BitVec.ofNat 32 (s.now - s.prx.commitAt)))

/-! ### Online change commands (R75 to R80) -/

/-- A change that deletes, retypes or re-addresses a signal with an enabled force (R75). -/
def State.olcForced (s : State) (p : OlcPkg) : Bool := s.forces.any (fun e => bit e.2.attr 0 && p.idents.contains e.2.ident)

/-- OLC_STAT. -/
def State.olcWord (s : State) : Word := BitVec.ofNat 32 s.olc.stat.code

/-- A package that is turned away keeps a record (R75, R78). -/
def State.olcRecord (s : State) : State := s.journal Page.bell 0x03FF Reg.bell_OLC_STAT s.olcWord

/-- A package is submitted (R75, R77 to R79): `digestOk` is the outcome of its digest check. The change shows STAGING (R78); in a synchronised pair the package goes to the standby first, and else its staging, or its digest check that fails, ends with a tick (`olcTick`). A package whose project the module does not take is turned away (R51, R66, R181). -/
def State.olcSubmit (s : State) (p : OlcPkg) (digestOk : Bool) : State :=
  if !s.olc.stat.final || !s.isActive then (s.err Page.bell).olcRecord
  else if s.olcForced p then (s.olcEnd .forcedConflict).olcRecord
  else if !digestOk then { s with olc := { stat := .staging, bad := true } }
  else if !s.projOk p.project.proj then (s.err Page.bell).olcRecord
  else
    let s := { s with olc := { stat := .staging, pkg := some p } }
    if s.pair.syncPair then ((s.xferOpen .package p.bytes).xferData 0).xferClose else s

/-- OLC_SUBMIT (R78). -/
def execOlcSubmit (pkg : OlcPkg) (digestOk : Bool) (s : State) : Res := .next (s.olcSubmit pkg digestOk)

/-- OLC_TARGET. -/
def State.olcTarget (s : State) : Nat :=
  (s.reg Page.bell Reg.bell_OLC_TARGET_LO).toNat + 2 ^ 32 * s.fld Page.bell Reg.bell_OLC_TARGET_HI 0 16

/-- ARM (R79): k_s at least 4 cycles after the current one; alone the change is armed at once. -/
def State.olcArm (s : State) : State :=
  let k := s.olcTarget
  if s.isActive && s.olc.stat == .staged && decide (4 ≤ cycSince k s.bell.cycle ∧ cycSince k s.bell.cycle < 2 ^ 47) then
    if s.pair.syncPair then ({ s with olc := { s.olc with ks := k } }).ctrlSend .xferArm [k]
    else { s with olc := { s.olc with ks := k, stat := .armed } }
  else s.err Page.bell

/-- OLC_ARM (R79). -/
def execOlcArm (s : State) : Res := .next s.olcArm

/-- CANCEL (R78). -/
def State.olcStop (s : State) : State := if s.olc.stat.final then s.err Page.bell else s.olcCancel .cancelled

/-- OLC_CANCEL (R78). -/
def execOlcCancel (s : State) : Res := .next s.olcStop

/-- OLC_GAP_EXPIRY (R80). -/
def execOlcGapExpiry (s : State) : Res :=
  .next (if s.olc.stat == .migrating && !s.olc.migrated then s.olcCancel .gapExceeded else s)

end Sys2Proof.Machine
end

