-- ==== Sys2Proof/Machine/Startup.lean ====
section
/-! DEFINITION. Start-up: what a reset keeps, the boot chain, power domains, tests, configuration load, surroundings, own-line test (R130 to R132, R164, R176, R199, R499, R524, R544 to R551, R561 to R577, R590, R593). -/

namespace Sys2Proof.Machine

/-! ### What a reset keeps (R565, R593) -/

/-- Whether an address lies in MRAM (R156). -/
def isMram (a : Nat) : Bool := decide (0x10000000 ≤ a ∧ a < 0x11000000)

/-- The remap lists, which the keepsake holds (R175). -/
def State.remapLists (s : State) : Tab MemCorr :=
  (List.range 14).foldl (fun t m => tset (fun _ => {}) t m { remapped := (s.corr m).remapped }) []

/-- What the security block keeps: banks, fuses, trial boots, the identity key. -/
def Sec.kept (x : Sec) : Sec :=
  { ikPresent := x.ikPresent, revoked := x.revoked, fuses := x.fuses, bankA := x.bankA, bankB := x.bankB, trialUsed := x.trialUsed }

/-- The keepsake with CLEAR_CNT as it counts (R540), one more reset. -/
def State.keepNow (s : State) : Keep :=
  let k := s.pwr.keep
  { k with clears := if s.pwr.loaded then s.reg Page.jrn Reg.jrn_CLEAR_CNT else k.clears }

/-- Everything back to its reset value but MRAM, NAND and fuses. The queue and what was sent are the model's own. -/
def State.cold (s : State) : State :=
  { pending := s.pending, now := s.now, freeCtr := s.freeCtr, sent := s.sent
    mem := s.mem.filter (fun e => isMram e.1)
    upsets := s.upsets.filter (fun e => isMram e.1)
    memCorr := s.remapLists
    nand := s.nand
    cfgStore := s.cfgStore, projStore := s.projStore
    sec := s.sec.kept
    pwr := { keep := s.keepNow, bootAt := s.now, testAt := s.pwr.testAt }
    pair := { stored := s.pair.stored, inUse := s.pair.inUse }
    jrn := { seq := s.jrn.seq, archives := s.jrn.archives, nextFile := s.jrn.nextFile }
    recd := { exports := s.recd.exports }
    fab := { book := s.fab.book, addr := s.fab.addr }
    safe := { kept := s.safe.kept }
    tb := { time := s.pwr.keep.time } }

/-- The step of start-up shown (R582). -/
def State.atStep (s : State) (n : Nat) : State := s.setReg Page.clk Reg.clk_STARTUP_STEP (BitVec.ofNat 32 n)

/-- Words of the keepsake area that cannot be corrected (R163, R172). -/
def State.keepBad (s : State) : List Nat :=
  (s.upsets.filter (fun e => decide (0x10400000 ≤ e.1 ∧ e.1 < 0x10440000) && eccDecode e.2 == .uncorrectable)).map Prod.fst

/-- What the keepsake holds is lost: the registers of R593 and the hold-up history, remap lists, pass epoch, lockouts, time base, journal SEQ, trial boots, the book and the own address (R163, R175, R217, R422, R499, R520, R546, R573). -/
def State.keepLost (s : State) : State :=
  { s.cleanWords 0x10400000 0x40000 with
    pwr := { s.pwr with keep := {} }, pair := { s.pair with stored := 0#32 }, memCorr := [], jrn := { s.jrn with seq := 0#32 }
    safe := {}, tb := {}, fab := { s.fab with book := [], addr := 0#16 }, sec := { s.sec with trialUsed := 0 } }

/-- The keepsake is read; with an uncorrectable word in it the area is marked invalid, and what it held is lost (R172). DEDUCED: notes/assumptions/32.md. -/
def State.keepCheck (s : State) : State :=
  match s.keepBad with
  | [] => (s.eccRange 0x10400000 0x10440000 0).1
  | l => (l.foldl (fun s w => s.uncorrectable 9 w) s).keepLost

/-- Step 1 (R563, R565, R567, R569): the keepsake, the cause, the clocks, the seat, the charger, what the NAND has lost. -/
def State.stepReset (s : State) (cause : Nat) : State :=
  let s := s.cold.keepCheck
  let s := s.setReg (Page.mem 2) 0x080 (BitVec.ofNat 32 (min 0xFFFF s.nand.bad.length))
  let s := s.setReg (Page.mem 2) 0x084 s.nand.reserveFree
  let s := { s with pwr := { s.pwr with keep := { s.pwr.keep with resets := satInc s.pwr.keep.resets } } }
  let s := s.setReg Page.clk Reg.clk_RESET_CAUSE (BitVec.ofNat 32 cause)
  let s := s.setReg Page.clk Reg.clk_CLK_STAT 0xFF#32
  let s := s.setReg Page.pwr Reg.pwr_PWR_STAT 4#32
  s.setReg Page.hu Reg.hu_HU_STAT 0x10#32

/-- A part of start-up that runs only while no step has failed. -/
def State.goOn (s : State) (f : State → State) : State := if s.alive then f s else s

/-! ### Step 2: bank choice and boot stages (R544 to R551, R561) -/

/-- Fuse count of a class (R547). -/
def Sec.fuse (x : Sec) (cls : Nat) : Nat := tget (fun _ => 0) x.fuses cls

/-- The first check of R544 that an image of a bank fails at boot, as LAST_FAIL numbers it; an image that is missing fails its header. -/
def State.bootFail (s : State) (b : Boot) (k : Bool) (cls : Nat) : Option Nat :=
  match (s.bank k).image cls with
  | none => some 1
  | some x =>
    let l := (if bit s.sec.revoked x.slot then [3] else []) ++ (if x.svn < s.sec.fuse cls then [6] else [])
      ++ (b.bad.filter (fun e => e.1 == k && e.2.1 == cls)).map (fun e => e.2.2)
    (List.range 7).find? (fun c => l.contains c)

/-- A failed verification is counted and shown (R544). -/
def State.verifyFailed (s : State) (cls check : Nat) : State :=
  let s := (s.count Page.sec Reg.sec_VERIFY_FAIL).raise Page.sec 1
  s.setReg Page.sec Reg.sec_LAST_FAIL (BitVec.ofNat 32 (cls % 16 + check * 256))

/-- A bank is marked BAD. -/
def State.markBad (s : State) (k : Bool) : State := s.setBank k { s.bank k with st := .bad }

/-- Whether the boot ROM may take a bank. -/
def FwBank.bootable (k : FwBank) : Bool := k.st == .trial || k.st == .good

/-- Of the banks in TRIAL or GOOD, the one with the higher GEN (R546). -/
def State.candidate (s : State) : Option Bool :=
  match s.sec.bankA.bootable, s.sec.bankB.bootable with
  | true, true => some (decide (s.sec.bankA.gen.toNat < s.sec.bankB.gen.toNat))
  | true, false => some false
  | false, true => some true
  | false, false => none

/-- A TRIAL bank counts its boot. -/
def State.trialBoot (s : State) (k : Bool) : State :=
  match (s.bank k).st with
  | .trial => { s with sec := { s.sec with trialUsed := s.sec.trialUsed + 1 } }
  | _ => s

/-- Whether a bank has used up its trial boots. -/
def State.usedUp (s : State) (k : Bool) : Bool := (s.bank k).st == .trial && decide (3 < s.sec.trialUsed)

/-- The first class of a bank that fails, with its check: the directory, then LOADER, FIRMWARE, RUNTIME, FIELD (R545). -/
def State.bankFail (s : State) (b : Boot) (k : Bool) : Option (Nat × Nat) :=
  [0, 1, 2, 3, 4].findSome? (fun c => (s.bootFail b k c).map (fun x => (c, x)))

/-- BANK_CHOICE (R546), with fuel: the state, the bank, the banks marked BAD on the way. -/
def State.chooseBank (s : State) (b : Boot) : Nat → Nat → State × Option Bool × Nat
  | 0, n => (s, none, n)
  | f + 1, n =>
    match s.candidate with
    | none => (s, none, n)
    | some k =>
      let s := s.trialBoot k
      if s.usedUp k then (s.markBad k).chooseBank b f (n + 1)
      else match s.bankFail b k with
        | some (c, x) => ((s.verifyFailed c x).markBad k).chooseBank b f (n + 1)
        | none => (s, some k, n)

/-- The stages of R545 ran from bank k: identity key, session key, boot watchdog, revoke fuses that the FIRMWARE image may burn (R544, R548, R550, R551). -/
def State.booted (s : State) (b : Boot) (k : Bool) : State :=
  let slot := (((s.bank k).image 2).map (·.slot)).getD 0
  { s with
    freeCtr := s.freeCtr + 1
    sec := { s.sec with
      stage := 3, runB := k, ikPresent := true, tk := some s.freeCtr, wdg := (s.bank k).st == .trial
      revoked := s.sec.revoked ||| (b.revoke &&& BitVec.ofNat 4 (2 ^ slot - 1)) } }

/-- A fallback: FB_CNT and its interrupt (R546, R557). -/
def State.fellBack (s : State) (n : Nat) : State :=
  if n = 0 then s else (s.countN Page.fw Reg.fw_FB_CNT n).raise Page.fw 1

/-- A domain bit of DOM_STAT. -/
def State.domSet (s : State) (d : Nat) (v : Bool) : State := s.setBit Page.pwr Reg.pwr_DOM_STAT d v

/-- Domains go on one after the other; one that does not report power good is a start-up failure, cause 561 (R561). -/
def State.powerUp (s : State) (fail : Option Nat) : List Nat → State
  | [] => s
  | d :: l => if fail = some d then s.moduleFail 561 else (s.domSet d true).powerUp fail l

/-- RECOVERY (R549): AON, SEC, IOD and ETH alone. -/
def State.enterRecovery (s : State) : State :=
  { s.setReg Page.pwr Reg.pwr_DOM_STAT 0x503#32 with sec := { s.sec with recovery := true, stage := 0 } }

/-- The bank is chosen and verified, or recovery is entered. -/
def State.romBoot (s : State) (b : Boot) : State :=
  match s.chooseBank b 16 0 with
  | (s, some k, n) => (s.booted b k).fellBack n
  | (s, none, _) => s.enterRecovery

/-- The security block starts in its boot ROM, which it alone reads (R188, R191, R545). -/
def State.secBoot (s : State) (b : Boot) : State :=
  match s.fixedMay 0x040 .read 0x30000000 64 with
  | (s, true) => s.romBoot b
  | (s, false) => s

/-- Step 2 of start-up. -/
def State.step2 (s : State) (b : Boot) : State :=
  let s := (s.atStep 2).powerUp b.noPower [1]
  let s := s.goOn (fun s => s.secBoot b)
  if s.sec.recovery then s else s.goOn (fun s => s.powerUp b.noPower [8, 11, 2, 3, 4, 5, 6, 7, 9])

/-! ### Step 5: memory BIST (R176) -/

/-- The remap list is loaded, and lines found faulty are remapped (R175, R176, R185); MRAM is not tested and NAND has no spares. A region with more faulty lines than spares fails the module, cause 176. -/
def State.bistMem (s : State) (m : Nat) (faulty : List Nat) : State :=
  if m = 10 then s
  else
    let c := s.corr m
    let new := if m = 9 then [] else faulty.eraseDups
    let free := memSpares m - c.remapped.length
    let got := new.take free
    let s := s.setCorr m { c with remapped := c.remapped ++ got }
    let s := if got.isEmpty then s else s.raise (memPage m) 3
    let s := s.remapUsed m (c.remapped.length + got.length)
    if free < new.length ∧ m < 8 then s.moduleFail 176 else s

/-- MEMORY_BIST. -/
def State.step5 (s : State) (b : Boot) : State :=
  (List.range 14).foldl (fun s m => s.goOn (fun s => s.bistMem m ((b.bist.filter (fun e => e.1 = m)).flatMap (·.2)))) (s.atStep 5)

/-! ### Step 6: configuration load -/

/-- Registers that the keepsake restores (R593). -/
def State.keepRestore (s : State) : State :=
  let k := s.pwr.keep
  let s := s.setReg Page.pwr Reg.pwr_PFAIL_CNT k.pfail
  let s := s.setReg Page.clk Reg.clk_RESET_CNT k.resets
  let s := s.setReg Page.jrn Reg.jrn_CLEAR_CNT k.clears
  let s := s.setReg Page.pwr Reg.pwr_LAST_SAVE k.lastSave
  let s := s.setReg Page.pwr Reg.pwr_LAST_SAVE_CYC_LO k.cycLo
  let s := s.setReg Page.pwr Reg.pwr_LAST_SAVE_CYC_HI k.cycHi
  { s with pwr := { s.pwr with loaded := true } }

/-- JOURNAL_SCAN, then the state-change record of a fallback, which names both banks by BANK_STAT (R524, R546). -/
def State.bootJournal (s : State) (bankStat : Word) : State :=
  let s := s.jrnScan
  if s.reg Page.fw Reg.fw_FB_CNT = 0#32 then s
  else s.jrnWrite { code := 0x0400#16, source := pageSource Page.fw, cal := s.tb.calendar, p0 := s.cyc32, p1 := BitVec.ofNat 32 Reg.fw_BANK_STAT, p2 := bankStat }

/-- Code of a bank state (R546). -/
def BankSt.code : BankSt → Nat
  | .empty => 0 | .loaded => 1 | .trial => 2 | .good => 3 | .bad => 4

/-- BANK_STAT (R557); 0 until the first boot stage has completed. -/
def Sec.bankStat (x : Sec) : Word :=
  if x.stage = 0 ∧ !x.recovery then 0#32
  else BitVec.ofNat 32 ((if x.runB then 1 else 0) + x.bankA.st.code * 16 + x.bankB.st.code * 256 + x.trialUsed % 16 * 4096)

/-- Rules are staged and swapped in with no master executing; open mode ends (R199). -/
def State.bootRules (s : State) (c : ModCfg) : State :=
  ((c.rules.foldl (fun s r => s.shadowWrite (r.1 / 256) (r.1 % 256) r.2) s).swapWhole).openClear

/-- The schedule bank of an engine that the configuration fills is validated and armed with SW_CYC 0 (R306). -/
def State.bootSchedule (s : State) (e : Nat) : State :=
  if s.reg (Page.le e) Reg.le_SHADOW_LEN = 0#32 then s
  else ((s.schedValidate e .p1).validationDone e).schedSwitch e .p1

/-- Retain bytes go back into the ranges of the retain map, line by line through the region DMA engines, as far as the checks permit (R26, R194, R196). -/
def State.retainRanges (s : State) (src : Nat) : List (Nat × Nat) → State
  | [] => s
  | (a, n) :: l => (s.dmaPut (((List.range (n * 64)).map (a + ·)).zip (s.bytes src (n * 64)))).retainRanges (src + n * 64) l

/-- LEN of the retain header (R164). -/
def State.retainLen (s : State) : Nat := s.loadLE 0x10440004 4

/-- Whether the retain area, all of it readable, is valid (R164): magic, length, CRC. -/
def State.retainValid (s : State) : Bool :=
  decide (s.loadLE 0x10440000 4 = 0x52455441) && decide (s.retainLen % 64 = 0 ∧ s.retainLen ≤ 3928064)
    && decide (s.loadLE 0x10440008 4 = (crc32c (s.bytes 0x10441000 s.retainLen)).toNat)

/-- The header and the data that it spells are read: words are corrected, and one that cannot be makes the area invalid (R171, R172). -/
def State.retainRead (s : State) : State × Bool :=
  match s.eccRange 0x10440000 0x10441000 0 with
  | (s, false) => (s, false)
  | (s, true) =>
    match s.eccRange 0x10441000 (0x10441000 + min s.retainLen 3928064) 0 with
    | (s, ok) => (s, ok && s.retainValid)

/-- RETAIN_RESTORE (R574): what happens to the retain data; the record gives the case in P2: 0 restored, 1 restored although not consistent, 2 not consistent, 3 not valid. -/
def State.retainRestore (s : State) : State :=
  let (s, ok) := s.retainRead
  let cons := bit (s.byte 0x1044000C) 0
  let case := if !ok then 3 else if cons then 0 else if s.rbit Page.pwr Reg.pwr_RETAIN_CFG 0 then 1 else 2
  let s := if case < 2 then s.retainRanges 0x10441000 s.cfg.retain else s
  s.journal Page.pwr 0x04FF Reg.pwr_RETAIN_CFG (BitVec.ofNat 32 case)

/-- An enable that the configuration sets is taken as a write of it, with its checks. -/
def State.reEnable (s : State) (p off i : Nat) (f : State → State) : State :=
  if s.rbit p off i then f (s.setBit p off i false) else s

/-- The safety configuration, the reflex table and the CAN channels start (R437, R481, R489, R499). -/
def State.bootEnables (s : State) : State :=
  let s := s.setReg Page.safe Reg.safe_SAFE_CRC (Config.safeCrc s.safeRegs)
  let s := s.reEnable Page.safe Reg.safe_SAFE_CFG 0 (fun s => s.safeEnWrite true)
  let s := s.reEnable Page.rfx Reg.rfx_RFX_CFG 0 (fun s => s.rfxEnWrite true)
  (List.range 4).foldl (fun s c => s.reEnable (Page.can c) Reg.can_CAN_CFG 0 (fun s => s.canEnWrite c true)) s

/-- QUOIN reads 1 from the key write on (R589); a page without RWL fields ignores the key. -/
def State.lockQuoin (s : State) (p : Nat) : State :=
  match pageTy p with
  | some t => if t.hasRwl then s.setReg p Reg.com_QUOIN 1#32 else s
  | none => s

/-- Quoins at the end of step 6 (R590). -/
def State.bootQuoins (s : State) : State :=
  let l := s.cfg.quoins ++ if s.safeEn then [Page.safe, Page.pst, Page.dio] else []
  l.foldl State.lockQuoin s

/-- What makes step 6 fail (R24, R301): a FAILED cluster, an engine that failed with loops configured on it. -/
def State.bootChecks (s : State) : State :=
  let s := if s.anyFailed then s.moduleFail 21 else s
  let bad := (List.range 2).any (fun e => (s.eng e).st == .failed && s.reg (Page.le e) Reg.le_SHADOW_LEN != 0#32)
  if bad then s.moduleFail 24 else s

/-- An engine that failed its lane tests raises its error cause, with a record (R296, R301). -/
def State.bootLanes (s : State) (e : Nat) : State :=
  match (s.eng e).st with
  | .failed => (s.cause 4).journal (Page.le e) 0x01FF Reg.le_LANE_LASTING (s.laneLasting e)
  | _ => s

/-- CONFIGURATION_LOAD, first half: configuration and rules, then the project, which R51, R66 and R181 may reject: a start-up failure, cause 51. -/
def State.loadStored (s : State) : State :=
  let s := (s.loadCfg s.cfgStore).bootRules s.cfgStore
  if s.projOk s.projStore.proj then s.loadProj s.projStore else s.moduleFail 51

/-- CONFIGURATION_LOAD, second half: cluster start states, engines, schedules, retain data, monitors, enables, quoins. -/
def State.loadTests (s : State) : State :=
  let s := (s.unitsStart.bootLanes 0).bootLanes 1
  let s := ((s.bootSchedule 0).bootSchedule 1).retainRestore
  (s.startCfg.bootEnables).bootQuoins.bootChecks

/-- Steps 3 and 4 of start-up: comparator, voter and lane injection tests, LBIST, start-up cards (R130 to R132, R300). -/
def State.step3 (s : State) (b : Boot) : State :=
  ((((s.atStep 3).unitsTest b.inj b.sigs b.voter).laneTests 0 b.lanes0).laneTests 1 b.lanes1).atStep 4

/-- Step 6 of start-up. -/
def State.step6 (s : State) : State :=
  let s := ((s.atStep 6).bootJournal s.sec.bankStat).keepRestore
  if !s.cfgStore.admissible then s.moduleFail 369 else s.loadStored.goOn State.loadTests

/-! ### Steps 7 and 8: surroundings and own lines (R216, R570, R576, R577) -/

/-- Class of a bank test: 0 normal, 1 WARN, 2 NOT_ASSURED (R570). -/
def huClass (cap esr : Nat) : Nat :=
  if cap < 1000 ∨ 1500 < esr then 2 else if cap < 2200 ∨ 500 < esr then 1 else 0

/-- Class of the last test in the hold-up history. -/
def Keep.lastClass (k : Keep) : Nat := (k.history.getLast?.map (fun e => huClass e.1 e.2)).getD 0

/-- A bank test ends (R570, R581): results, status, interrupts, a record where a threshold is crossed; the charger refills the bank. -/
def State.huDone (s : State) (cap esr : Nat) : State :=
  let c := huClass cap esr
  let was := s.pwr.keep.lastClass
  let st := s.reg Page.hu Reg.hu_HU_STAT
  let s := s.setReg Page.hu Reg.hu_HU_CAP (BitVec.ofNat 32 (min 0xFFFF cap))
  let s := s.setReg Page.hu Reg.hu_HU_ESR (BitVec.ofNat 32 (min 0xFFFF esr))
  let s := s.setReg Page.hu Reg.hu_HU_STAT ((st &&& 1#32) ||| 0x10#32 ||| (if 1 ≤ c then 2#32 else 0#32) ||| (if c = 2 then 4#32 else 0#32))
  let s := (s.count Page.hu Reg.hu_HU_TEST_CNT).raise Page.hu 2
  let s := if 1 ≤ c ∧ !bit st 1 then s.raise Page.hu 0 else s
  let s := if c = 2 ∧ !bit st 2 then s.raise Page.hu 1 else s
  let s := { s with pwr := { s.pwr with testAt := s.now, keep := { s.pwr.keep with history := s.pwr.keep.history ++ [(cap, esr)] } } }
  if c = was then s else s.journalReg Page.hu (0x0100 + (if c = 2 then 1 else 0)) Reg.hu_HU_STAT

/-- Output channels of DIO (R462). -/
def State.dioOutputs (s : State) : List Nat := (List.range 16).filter (fun c => decide (2 ≤ s.dioMode c))

/-- Whether a backplane lane is enabled (R576): 0 to 3 PL0 to PL3, 4 and 5 S1 and S2, 6 to 9 F1 to F4. -/
def State.laneOn (s : State) (m : Surr) (i : Nat) : Bool :=
  if i < 4 then m.peerPres && s.rbit Page.link Reg.link_LINK_CFG 0
  else if i < 6 then s.rbit (Page.lane (i - 4)) Reg.lane_LANE_CFG 0
  else s.fabEn && s.rbit (Page.fport (i - 6)) Reg.fport_PORT_CFG 0

/-- The training result of an enabled lane goes to its register (R249, R276, R409, R433, R576). -/
def State.trainLane (s : State) (m : Surr) (i v : Nat) : State :=
  let w := BitVec.ofNat 32 (v % 65536)
  if !s.laneOn m i then s
  else if i < 4 then s.setReg Page.link (Reg.link_LANE_Q i) w
  else if i < 6 then s.setReg (Page.lane (i - 4)) Reg.lane_TRAIN w
  else if i < 10 then s.setReg (Page.fport (i - 6)) Reg.fport_TRAIN w
  else s

/-- The results of R576 by item × 16 + part; an item that its condition prevents has none. -/
def State.surrResults (s : State) (m : Surr) : List (Nat × Nat) :=
  let free := m.peer == 0#2
  [(0, m.feedA), (1, m.feedB), (16, m.cap), (17, m.esr)]
    ++ (if free then s.dioOutputs.map (fun c => (32 + c, if bit m.dioLoad c then 1 else 0)) else [])
    ++ (if free then m.loopR.zipIdx.map (fun e => (48 + e.2, e.1.toNat)) else [])
    ++ (m.cables.zipIdx.filter (fun e => !bit e.1 11)).flatMap (fun e => [(64 + e.2, fieldNat e.1 0 8), (68 + e.2, fieldNat e.1 8 3)])
    ++ (m.lanes.zipIdx.filter (fun e => s.laneOn m e.2)).map (fun e => (80 + e.2, e.1))
    ++ [(96, m.slot.toNat), (97, if m.side then 1 else 0), (98, if m.peerPres then 1 else 0)]

/-- Items out of their expected range. -/
def surrMisses (c : ModCfg) (l : List (Nat × Nat)) : List Nat :=
  (List.range 7).filter (fun i => l.any (fun e => e.1 / 16 == i &&
    (match tget (fun _ => none) c.expect e.1 with | some (lo, hi) => decide (e.2 < lo ∨ hi < e.2) | none => false)))

/-- The registers of the measurement. -/
def State.surrRegs (s : State) (m : Surr) : State :=
  let free := m.peer == 0#2
  let s := s.setReg Page.surr Reg.surr_FEED_START (BitVec.ofNat 32 (m.feedA / 10 % 65536 + m.feedB / 10 % 65536 * 65536))
  let s := s.setReg Page.pwr Reg.pwr_FEED_A (BitVec.ofNat 32 (min 0xFFFF m.feedA))
  let s := s.setReg Page.pwr Reg.pwr_FEED_B (BitVec.ofNat 32 (min 0xFFFF m.feedB))
  let s := (s.setBit Page.pwr Reg.pwr_PWR_STAT 0 (1920 ≤ m.feedA)).setBit Page.pwr Reg.pwr_PWR_STAT 1 (1920 ≤ m.feedB)
  let mask := s.dioOutputs.foldl (fun v c => v + 2 ^ c) 0
  let s := if free then s.setReg Page.surr Reg.surr_DIO_LOAD (BitVec.ofNat 32 ((m.dioLoad.toNat &&& mask) + mask * 65536)) else s
  let s := if free then m.loopR.zipIdx.foldl (fun s e => if e.2 < 4 then s.setReg (Page.aio e.2) Reg.aio_LOOP_R e.1 else s) s else s
  let s := (List.range 4).foldl (fun s i => s.setReg Page.surr (Reg.surr_ETH_CABLE i) (m.cables.getD i 0x8FF#32 &&& 0xFFF#32)) s
  m.lanes.zipIdx.foldl (fun s e => s.trainLane m e.2 e.1) s

/-- MEASUREMENT_OF_SURROUNDINGS (R576): SURR_STAT, MISMATCH_MAP, a record for each item out of range. -/
def State.measure (s : State) (m : Surr) : State :=
  let s := (s.surrRegs m).huDone m.cap m.esr
  let l := surrMisses s.cfg (s.surrResults m)
  let map := l.foldl (fun v i => v + 2 ^ i) 0
  let s := s.setReg Page.surr Reg.surr_MISMATCH_MAP (BitVec.ofNat 32 map)
  let s := s.setReg Page.surr Reg.surr_SURR_STAT (BitVec.ofNat 32 (1 + (if map = 0 then 0 else 2) + m.slot.toNat * 16 + (if m.side then 1024 else 0)
    + (if m.peerPres then 2048 else 0)))
  let s := l.foldl (fun s _ => (s.raise Page.surr 0).journalReg Page.surr 0x0100 Reg.surr_MISMATCH_MAP) s
  -- the partner link trains from here on (R249)
  { s with pair := { s.pair with sideB := m.side, peerPresent := m.peerPres } }.linkDown 0

/-- Step 7 of start-up. -/
def State.step7 (s : State) (b : Boot) : State :=
  let s := (s.atStep 7).powerUp b.noPower [12, 13]
  (s.goOn (fun s => s.measure b.surr)).goOn (fun s => s.powerUp b.noPower [10])

/-- Step 8: OWN_PASS_LINE_TEST, cause 216. -/
def State.step8 (s : State) (b : Boot) : State :=
  let s := s.atStep 8
  if b.linesOk then s else s.moduleFail 216

/-- STARTUP (R567), steps 1 to 8. Role decision and mode are commands of their own. -/
def State.startUp (s : State) (cause : Nat) (b : Boot) : State :=
  let s := (s.stepReset cause).step2 b
  if s.sec.recovery then s
  else ((((s.goOn (fun s => s.step3 b)).goOn (fun s => s.step5 b)).goOn State.step6).goOn (fun s => s.step7 b)).goOn (fun s => s.step8 b)

end Sys2Proof.Machine
end

