-- ==== Sys2Proof/Machine/Power.lean ====
section
/-! DEFINITION. Power, clocks, temperature, hold-up, the save sequence, restart, insertion (R29, R32, R33, R558 to R583). -/

namespace Sys2Proof.Machine

/-! ### Starts (R559, R565, R579) -/

/-- POWER_ON (R559, R565): cause 0x1. -/
def execPowerOn (boot : Boot) (s : State) : Res := .next (s.startUp 1 boot)

/-- SUPPLY_RETURN (R559, R565): after a save, with AON still powered, cause 0x2. -/
def execSupplyReturn (boot : Boot) (s : State) : Res :=
  .next (if s.pwr.save == .off && s.rbit Page.pwr Reg.pwr_DOM_STAT 0 then s.startUp 2 boot else s)

/-- SEATED (R579): the contact was open before; cause 0x3. -/
def execSeated (boot : Boot) (s : State) : Res :=
  .next (if s.rbit Page.pwr Reg.pwr_PWR_STAT 2 then s else (s.startUp 3 boot).raise Page.pwr 2)

/-- POWER_GOOD_TIMEOUT (R561): a start-up failure, cause 561. -/
def execPowerGoodTimeout (d : Fin 14) (s : State) : Res :=
  .next (match s.pair.role with | .starting => (s.domSet d.val false).moduleFail 561 | _ => s)

/-- RST_CMD is taken (R566): the pass is released, the journal closes. -/
def State.restartAsk (s : State) : State := { s.releaseLines.jrnClose with pwr := { s.pwr with restart := true } }

/-- Whether a value is the restart key. -/
def rstKey (v : Word) : Bool := decide (fieldNat v 0 16 = 0xB480) && bit v 16

/-- RST_CMD, P0 only. -/
def State.rstWrite (s : State) (v : Word) (p : Priv) : State := if p = .p0 ∧ rstKey v then s.restartAsk else s.err Page.clk

/-- RESTART (R566): 5 ms after the write, cause 0x5; it also ends a restart that a write of RST_CMD has asked for. -/
def execRestart (v : Word) (priv : Priv) (boot : Boot) (s : State) : Res :=
  let s := if s.pwr.restart then s else s.rstWrite v priv
  .next (if s.pwr.restart then s.startUp 5 boot else s)

/-! ### Temperature and clocks (R29, R32, R33, R563) -/

/-- The page of the memories of a die: CD0, CD1, IOD. -/
def diePage (d : Nat) : Nat := if d = 0 then Page.mem 4 else if d = 1 then Page.mem 5 else Page.mem 3

/-- The power domains of a die (R31). -/
def dieDomains (d : Nat) : List Nat := if d = 0 then [2, 3, 6] else if d = 1 then [4, 5, 7] else [8, 9]

/-- Core units of a compute die. -/
def dieUnits (d : Nat) : List Nat := if d = 0 then List.range 24 else if d = 1 then (List.range 24).map (· + 24) else []

/-- DIE_TEMP_WARNING (R29): the die's warning, with a record for each excursion. The STAT bit of the warning stands in `pwr.dieWarn`, since no page of a die is given: DESIGN CHOICE, notes/assumptions/48.md. -/
def execDieTempWarning (d : Fin 3) (s : State) : Res :=
  let s := { s with pwr := { s.pwr with dieWarn := setField s.pwr.dieWarn d.val 1 1 } }
  .next (s.journal (diePage d.val) 0x01FF Reg.com_STAT (ofBool 32 true))

/-- DIE_OVERTEMP_FAILURE (R29): cause 29. -/
def execDieOvertempFailure (_d : Fin 3) (s : State) : Res := .next (s.moduleFail 29)

/-- Self-tests of units are abandoned and write no card (R134). -/
def State.dropTests (s : State) (us : List Nat) : State :=
  us.foldl (fun s u => match (s.unit u).st with | .testing => s.setUnit u { s.unit u with st := .heldOut } | _ => s) s

/-- Domains go off. -/
def State.domOff (s : State) (l : List Nat) : State := l.foldl (fun s d => s.domSet d false) s

/-- The lines are released and the drivers disabled, without any divided clock (R33). -/
def State.hardStop (s : State) : State := s.releaseLines.gateOff

/-- DIE_POWER_CUTOFF (R29, R32): the domains of the die go off at once. -/
def execDiePowerCutoff (d : Fin 3) (s : State) : Res :=
  .next ((((s.domOff (dieDomains d.val)).dropTests (dieUnits d.val)).moduleFail 29).hardStop)

/-- PLL_LOSS_OF_LOCK (R33): cause 33. Every clock stops with it, and self-tests end (R134): DEDUCED, notes/assumptions/31.md. -/
def execPllLossOfLock (s : State) : Res :=
  .next ((((s.setBit Page.clk Reg.clk_CLK_STAT 0 false).dropTests (List.range 48)).moduleFail 33).hardStop)

/-- CLOCK_FAULT (R563): CCLK, BCLK, TCLK, SCLK, PCLK, KCLK; cause 563. Without CCLK no unit has a clock, and self-tests end (R134): DEDUCED, notes/assumptions/31.md. -/
def execClockFault (k : Fin 6) (s : State) : Res :=
  let s := s.setBit Page.clk Reg.clk_CLK_STAT (k.val + 1) false
  let s := if k.val = 0 then s.dropTests (List.range 48) else s
  .next (s.moduleFail 563).hardStop

/-! ### Feeds (R558) -/

/-- The monitor of a feed: its voltage in 10 mV and its OK bit. -/
def State.feed (s : State) (b : Bool) (v : Nat) (ok : Bool) : State :=
  (s.setReg Page.pwr (if b then Reg.pwr_FEED_B else Reg.pwr_FEED_A) (BitVec.ofNat 32 (min 0xFFFF v))).setBit Page.pwr Reg.pwr_PWR_STAT (if b then 1 else 0) ok

/-- FEED_LOST (R558). -/
def execFeedLost (b : Bool) (v : Nat) (s : State) : Res :=
  let s := ((s.feed b v false).setBit Page.pwr Reg.pwr_PWR_STAT 3 true).raise Page.pwr 0
  .next (s.journalReg Page.pwr 0x0100 Reg.pwr_PWR_STAT)

/-- FEED_RESTORED (R558): the bit clears when no feed is lost. -/
def execFeedRestored (b : Bool) (v : Nat) (s : State) : Res :=
  let s := s.feed b v true
  .next (if s.fld Page.pwr Reg.pwr_PWR_STAT 0 2 = 3 then s.setBit Page.pwr Reg.pwr_PWR_STAT 3 false else s)

/-! ### Hold-up (R569 to R571) -/

/-- A bank test starts; while TESTING or CHARGING a command is ignored and counted. -/
def State.huTest (s : State) (cmd : Bool) (p : Priv) : State :=
  if cmd ∧ p = .p2 then s.err Page.hu
  else if s.fld Page.hu Reg.hu_HU_STAT 3 2 ≠ 0 then (if cmd then s.err Page.hu else s)
  else s.setBit Page.hu Reg.hu_HU_STAT 3 true

/-- HU_TEST (R570): on HU_CMD[TEST], or every HU_TEST_PERIOD. -/
def execHuTest (cmd : Bool) (priv : Priv) (s : State) : Res := .next (s.huTest cmd priv)

/-- HU_TEST_DONE (R570): µF and mΩ. -/
def execHuTestDone (cap esr : Nat) (s : State) : Res := .next (if s.rbit Page.hu Reg.hu_HU_STAT 3 then s.huDone cap esr else s)

/-- CHARGING_END (R569): 36.0 V ± 0.5 V, which value is free; READY set, CHARGING clear. -/
def execChargingEnd (s : State) : Res :=
  let v := 3550 + (Config.freeWord s.freeCtr).toNat % 101
  let s := { s with freeCtr := s.freeCtr + 1 }.setReg Page.hu Reg.hu_HU_VOLT (BitVec.ofNat 32 v)
  .next ((s.setBit Page.hu Reg.hu_HU_STAT 0 true).setBit Page.hu Reg.hu_HU_STAT 4 false)

/-! ### The save sequence (R572 to R575) -/

/-- What the trigger abandons: self-tests, a bank test, an online change (R134, R571, R575). -/
def State.saveDrops (s : State) : State :=
  let s := (s.dropTests (List.range 48)).setBit Page.hu Reg.hu_HU_STAT 3 false
  if s.olc.stat.final then s else s.olcEnd .cancelled

/-- Steps 1 and 2: ETH, SRDS, DRAM, FLD, ANA, LE0 and LE1 go off; with them the link and the loop engines. -/
def State.saveSheds (s : State) : State :=
  let s := (s.domOff [10, 9, 11, 12, 13, 6, 7]).gateOff
  { s with
    link := { s.link with st := .down, lanes := 0, gotPeer := false, capsDone := false }
    engines := [], loops := [], loopFl := [], rcps := [], probes := [], rcpCmds := [], lo := [] }

/-- Step 3 has ended: the first word of the retain header is cleared before any data is copied (R164), where step 6 of start-up has been reached (R568). -/
def State.saveCopies (s : State) (consistent : Bool) : State :=
  let s := { s with pwr := { s.pwr with save := .copy, consistent := consistent } }
  if s.pwr.loaded then s.putBytes 0x10440000 (List.replicate 16 0#8) else s

/-- POWER_FAIL_TRIGGER: the save begins, in grace while a cycle is open, copying otherwise. -/
def State.saveStart (s : State) (removal : Bool) : State :=
  let open_ := s.bell.cycleOpen
  let s := s.releaseLines
  let s := { s with pwr := { s.pwr with
    save := .grace, pfail := true, removal := removal, consistent := false, saveAt := s.now } }
  let s := s.saveDrops.saveSheds
  let s := if open_ then s else s.saveCopies true
  if removal then (s.setBit Page.pwr Reg.pwr_PWR_STAT 2 false).raise Page.pwr 2 else s

/-- POWER_FAIL_TRIGGER (R572, R573); once begun, a save runs to its end. -/
def execPowerFailTrigger (removal : Bool) (s : State) : Res := .next (if s.saving then s else s.saveStart removal)

/-- SAG_RECOVERED (R572). -/
def execSagRecovered (s : State) : Res := .next ((s.count Page.pwr Reg.pwr_SAG_CNT).raise Page.pwr 1)

/-- SAVE_GRACE_EXPIRY (R573 step 3). -/
def execSaveGraceExpiry (s : State) : Res :=
  .next (match s.pwr.save with | .grace => s.abandonCycle.saveCopies false | _ => s)

/-- The local flip: image and forme, posts; nothing is sent and the engines are off. -/
def State.localFlip (s : State) : State :=
  let s := s.imageFlip
  if !s.alive then s else
  let s := { s.execRegs with bell := { s.bell with flipAt := s.now, flipTime := s.tb.time, formeCyc := s.bell.cycle, cycleOpen := false, waitAck := false } }
  s.postCommit.dropCores false

/-- LOCAL_FORME_FLIP (R573 step 3): every cluster has completed. -/
def execLocalFormeFlip (s : State) : Res :=
  .next (match s.pwr.save with
    | .grace => if s.isActive && s.bell.mode == .run && s.complete then s.localFlip.saveCopies true else s
    | _ => s)

/-- One line of a retain range, as region DMA reads it for the power-fail sequencer (R26, R573 step 5): none where the region's check refuses it, or a word cannot be corrected. The manual gives no SOURCE code for this reader; it is shown as a DMA read. DEDUCED: notes/assumptions/56.md. -/
def State.retainLine (s : State) (a : Nat) : State × Option (List Byte) :=
  match s.targetCheck (0x10 + a / 0x1000000) .p0 .read a 64 with
  | (s, false) => (s, none)
  | (s, true) =>
    match s.eccRange a (a + 64) 1 with
    | (s, false) => (s, none)
    | (s, true) => (s, some (s.bytes a 64))

/-- Lines from `a` on. -/
def State.retainRange (s : State) (a : Nat) : Nat → State × Option (List Byte)
  | 0 => (s, some [])
  | n + 1 =>
    match s.retainLine a with
    | (s, none) => (s, none)
    | (s, some l) =>
      match s.retainRange (a + 64) n with
      | (s, r) => (s, r.map (l ++ ·))

/-- The bytes of the retain map's ranges, in order. -/
def State.retainBytes (s : State) : List (Nat × Nat) → State × Option (List Byte)
  | [] => (s, some [])
  | r :: l =>
    match s.retainRange r.1 r.2 with
    | (s, none) => (s, none)
    | (s, some b) =>
      match s.retainBytes l with
      | (s, c) => (s, c.map (b ++ ·))

/-- The retain header behind its first word (R164): FLAGS is in the first word. -/
def State.retainHeader (s : State) (data : List Byte) : List Byte :=
  bytesLE 4 0x52455441 ++ bytesLE 4 data.length ++ bytesLE 4 (crc32c data).toNat ++ bytesLE 1 (if s.pwr.consistent then 1 else 0) ++ bytesLE 3 0
    ++ bytesLE 8 (s.bell.formeCyc % 2 ^ 48) ++ bytesLE 8 s.tb.calendar.toNat

/-- Steps 5 and 6: data, then the header, written by the power-fail sequencer where MRAM's check permits it (R163, R196). Without the header the area stays invalid (R164). -/
def State.retainSave (s : State) : State :=
  match s.retainBytes s.cfg.retain with
  | (s, none) => s
  | (s, some data) =>
    match s.fixedMay 0x041 .write 0x10440000 (0x1000 + data.length) with
    | (s, false) => s
    | (s, true) => (s.putBytes 0x10441000 data).putBytes 0x10440000 (s.retainHeader data)

/-- LAST_SAVE (R580): HDR_WRITTEN only where there was retain data to save and the header of step 6 stands. -/
def State.saveWord (s : State) : Word :=
  let ticks := s.now - s.pwr.saveAt
  BitVec.ofNat 32 (1 + (if s.pwr.consistent then 2 else 0) + (if s.pwr.loaded ∧ s.loadLE 0x10440000 4 = 0x52455441 then 4 else 0) + (if s.pwr.removal then 8 else 0)
    + min 0xFFFF (ticks / 2500) * 65536)

/-- Step 7: the keepsake record. -/
def State.saveKeep (s : State) : Keep :=
  let k := s.keepNow
  let cyc := s.bell.formeCyc
  { k with
    pfail := satInc k.pfail, lastSave := s.saveWord, cycLo := if s.pwr.loaded then BitVec.ofNat 32 cyc else k.cycLo
    cycHi := if s.pwr.loaded then BitVec.ofNat 32 (cyc / 2 ^ 32 % 2 ^ 16) else k.cycHi, time := s.tb.time }

/-- Step 8: every domain but AON is off. -/
def State.shutDown (s : State) : State :=
  let k := s.saveKeep
  let t := s.cold
  { t with pwr := { t.pwr with keep := k, save := .off, removal := s.pwr.removal }, tb := { time := k.time } }

/-- Steps 4 to 8: the journal is closed, retain area and keepsake are written, domains go off. -/
def State.saveEnds (s : State) : State :=
  let s := s.jrnClose
  let s := if s.pwr.loaded then s.retainSave else s
  s.shutDown

/-- RETAIN_COPY_DONE (R568, R573). -/
def execRetainCopyDone (s : State) : Res := .next (match s.pwr.save with | .copy => s.saveEnds | _ => s)

/-- BANK_BELOW_14V (R573): the AON domain stops. -/
def execBankBelow14v (s : State) : Res :=
  .next (match s.pwr.save with | .off => s.domSet 0 false | _ => s)

/-! ### Slot (R577) -/

/-- SLOT_CHG (R577): the latched values stay. -/
def execSlotChg (slot : BitVec 6) (side : Bool) (s : State) : Res :=
  let w := s.reg Page.surr Reg.surr_SURR_STAT
  let same := decide (fieldNat w 4 6 = slot.toNat) && (bit w 10 == side)
  .next (if bit w 0 && !same then (s.setBit Page.surr Reg.surr_SURR_STAT 2 true).journalReg Page.surr 0x01FF Reg.surr_SURR_STAT else s)

/-- HU_TEST_AGE (R581): seconds since the last completed test. -/
def State.huAge (s : State) : Word := BitVec.ofNat 32 (min 0xFFFFFFFE ((s.now - s.pwr.testAt) / 250000000))

end Sys2Proof.Machine
end

