-- ==== Sys2Proof/Machine/Security.lean ====
section
/-! DEFINITION. Fuses, attestation, tool sessions, the file service, firmware banks, the boot watchdog (R542 to R557). -/

namespace Sys2Proof.Machine

/-! ### Anti-rollback fuses (R547) -/

/-- SVN of the image of a class in a bank, if it holds one. -/
def FwBank.svn (k : FwBank) (cls : Nat) : Option Nat := (k.image cls).map (·.svn)

/-- Whether a bank is a GOOD one with an older image of a class. -/
def FwBank.older (k : FwBank) (cls svn : Nat) : Bool :=
  k.st == .good && (match k.svn cls with | some v => decide (v < svn) | none => false)

/-- COMMIT burns fuses in ascending order; `cut` ends it after so many (a power loss). -/
def State.commitFuses (s : State) (cls : Nat) (cut : Option Nat) : State :=
  match (s.bank s.sec.runB).svn cls with
  | none => s.err Page.sec
  | some v =>
    let old := s.sec.fuse cls
    let goal := match cut with | some n => min v (old + n) | none => v
    { s with sec := { s.sec with fuses := tset (fun _ => 0) s.sec.fuses cls (max old goal) } }

/-- Whether COMMIT is permitted: classes 1 to 4, the running bank GOOD, no GOOD bank left behind, no save begun. -/
def State.commitMay (s : State) (cls : Nat) : Bool :=
  decide (1 ≤ cls ∧ cls ≤ 4) && (s.bank s.sec.runB).st == .good
    && !(s.bank (!s.sec.runB)).older cls (((s.bank s.sec.runB).svn cls).getD 0) && !s.saving

/-- SVN_CMD[COMMIT], P0 only. -/
def State.commit (s : State) (cls : Nat) (p : Priv) (cut : Option Nat) : State :=
  if p = .p0 ∧ s.commitMay cls then s.commitFuses cls cut else s.err Page.sec

/-- COMMIT (R547). -/
def execCommit (cls : BitVec 4) (priv : Priv) (cut : Option Nat) (s : State) : Res := .next (s.commit cls.toNat priv cut)

/-! ### Attestation (R552) -/

/-- Version as patch, minor, major, 0. -/
def verBytes (v : BitVec 24) : List Byte := bytesLE 4 v.toNat

/-- STATE of the time base as a byte (R354). -/
def tbByte (s : State) : List Byte := bytesLE 1 s.tb.st.code

/-- FLAGS of the report. -/
def State.attFlagsByte (s : State) : Nat :=
  (if s.pair.syncPair then 1 else 0) + (if s.pair.peer.isSome then 2 else 0) + (if s.safeEn then 4 else 0)
    + (if (s.bank s.sec.runB).st == .trial then 8 else 0)

/-- Bytes 0x000 to 0x05F of the report. -/
def State.reportHead (s : State) : List Byte :=
  bytesLE 4 0x50424154 ++ bytesLE 1 1 ++ bytesLE 1 s.attFlagsByte ++ bytesLE 2 0 ++ bytesLE 8 Config.uid.toNat
    ++ (List.range 8).flatMap (fun i => bytesLE 4 (s.reg Page.sec (Reg.sec_NONCE i)).toNat)
    ++ bytesLE 8 s.tb.time.sec ++ bytesLE 4 s.tb.time.ns ++ tbByte s ++ bytesLE 3 0
    ++ bytesLE 1 s.pair.role.code ++ bytesLE 1 (if s.pair.sideB then 1 else 0) ++ bytesLE 1 Config.hwIssue.toNat
    ++ bytesLE 1 (if s.sec.runB then 1 else 0) ++ bytesLE 4 s.pair.current.toNat ++ bytesLE 8 (s.bell.cycle % 2 ^ 48)
    ++ verBytes s.fwVer ++ [1, 2, 3, 4].flatMap (fun c => bytesLE 1 (s.sec.fuse c)) ++ bytesLE 8 0

/-- Bytes 0x060 to 0x1A7: digests of images, configuration and project, SAFE_CRC. -/
def State.reportDigests (s : State) : List Byte :=
  [1, 2, 3, 4].flatMap (fun c => bytesLE 64 ((((s.bank s.sec.runB).image c).map (fun x => x.digest.toNat)).getD 0))
    ++ bytesLE 32 (Config.shake256 s.cfg.bytes).toNat ++ bytesLE 32 (Config.shake256 s.projImg.bytes).toNat
    ++ bytesLE 4 (s.reg Page.safe Reg.safe_SAFE_CRC).toNat ++ bytesLE 4 0

/-- Bytes 0x1A8 to 0x1FF: the partner. -/
def State.reportPeer (s : State) : List Byte :=
  bytesLE 8 ((s.pair.peer.map (fun c => c.uid.toNat)).getD 0) ++ verBytes ((s.pair.peer.map (·.fw)).getD 0)
    ++ bytesLE 1 s.pair.peerRole.code ++ bytesLE 3 0 ++ bytesLE 32 s.link.stagedCfg.toNat ++ bytesLE 32 s.link.stagedProj.toNat ++ bytesLE 8 0

/-- ATT_CMD[ATTEST], P0 and P1 only: the fields are captured. -/
def State.attest (s : State) (p : Priv) : State :=
  if p = .p2 ∨ s.sec.att = .busy then s.err Page.sec
  else { s with sec := { s.sec with att := .busy, attNext := s.reportHead ++ s.reportDigests ++ s.reportPeer } }

/-- ATTEST (R552). -/
def execAttest (priv : Priv) (s : State) : Res := .next (s.attest priv)

/-- The signed report is placed: the 114 bytes that IK made. -/
def State.attestDone (s : State) (sig : List Byte) : State :=
  let sg := (List.range 114).map (fun i => sig.getD i 0#8)
  ({ s with sec := { s.sec with att := .done, attReport := s.sec.attNext ++ sg, attNext := [] } }).raise Page.sec 0

/-- ATTEST_DONE (R552). -/
def execAttestDone (sig : List Byte) (s : State) : Res :=
  .next (match s.sec.att with | .busy => s.attestDone sig | _ => s)

/-! ### Bank commands (R548, R555) -/

/-- FW_CMD. -/
inductive FwCmd where
  | erase | activate | confirm
  deriving DecidableEq, Repr

/-- Whether a bank command is permitted (R546, R548, R555). -/
def State.fwMay (s : State) : FwCmd → Bool
  | .erase => s.sec.stage != 0
  | .activate => s.sec.stage != 0 && (s.bank (!s.sec.runB)).st == .loaded
  | .confirm => s.sec.stage != 0 && (s.bank s.sec.runB).st == .trial

/-- The inactive bank becomes EMPTY, LOAD_BYTES 0. -/
def State.eraseBank (s : State) : State := (s.setBank (!s.sec.runB) {}).setReg Page.fw Reg.fw_LOAD_BYTES 0#32

/-- The inactive bank becomes TRIAL with TRIAL_USED = 0. -/
def State.activateBank (s : State) : State :=
  let b := !s.sec.runB
  let s := s.setBank b { s.bank b with st := .trial }
  { s with sec := { s.sec with trialUsed := 0 } }

/-- What a permitted bank command does. -/
def State.fwDo (s : State) : FwCmd → State
  | .erase => s.eraseBank
  | .activate => s.activateBank
  | .confirm => s.confirmBank

/-- A bank command, P0 and P1 only (R557). -/
def State.fwCmd (s : State) (c : FwCmd) (p : Priv) : State :=
  if p = .p2 then s.err Page.fw else if s.fwMay c then s.fwDo c else s.err Page.fw

/-- ERASE (R555). -/
def execErase (priv : Priv) (s : State) : Res := .next (s.fwCmd .erase priv)

/-- ACTIVATE (R555). -/
def execActivate (priv : Priv) (s : State) : Res := .next (s.fwCmd .activate priv)

/-- CONFIRM (R548). -/
def execConfirm (priv : Priv) (s : State) : Res := .next (s.fwCmd .confirm priv)

/-- A reset by the boot watchdog (R548): cause 0x4, which does not bring a module out of FAILED (R565). -/
def State.wdgReset (s : State) (boot : Boot) : State := if s.alive then s.startUp 4 boot else (s.startUp 4 boot).moduleFail s.pair.failCause

/-- BOOT_WDG_EXPIRY (R548): the security block resets the module. -/
def execBootWdgExpiry (boot : Boot) (s : State) : Res := .next (if s.sec.wdg then s.wdgReset boot else s)

/-! ### Tool sessions (R549, R553) -/

/-- Rights of the certificate with a key digest: the owner anchors; without a configuration every right, on SVC only. -/
def State.sessionRights (s : State) (svc : Bool) (key : Nat) : Option (BitVec 4) :=
  let c := s.cfgStore
  if c.anchors.isEmpty then (if svc && c.bytes.isEmpty && !s.sec.recovery then some 15#4 else none)
  else match c.anchors.find? (fun a => a.1 == key) with
    | none => none
    | some a => if s.sec.recovery && !(svc && bit a.2 3) then none else some a.2

/-- The lowest session number that is free. -/
def Sec.freeSession (x : Sec) : Option Nat := (List.range 4).find? (fun i => !x.sessions.any (fun e => e.ident == i))

/-- The version of the tool protocol with a tool that supports up to version `tool`: the cap is the version in use of interface 4 (R237). -/
def State.toolVer (s : State) (tool : Nat) : Nat := min tool (s.verInUse 4)

/-- Whether a tool and the module have a version in common (R237). DEDUCED: notes/assumptions/55.md. -/
def State.toolOk (s : State) (tool : Nat) : Bool := decide (ifMin 4 ≤ s.toolVer tool)

/-- A session opens; without anchors it leaves a record. -/
def State.openSession (s : State) (i : Nat) (svc : Bool) (r : BitVec 4) (tool : Nat) (via : Option Half) : State :=
  let s := { s with sec := { s.sec with sessions := s.sec.sessions ++ [({ ident := i, svc := svc, rights := r, ver := s.toolVer tool, via := via } : Session)] } }
  if s.cfgStore.anchors.isEmpty then s.journal Page.sec 0x04FF Reg.sec_SESSIONS (BitVec.ofNat 32 s.sec.sessions.length) else s

/-- A refused handshake. -/
def State.tlsRefused (s : State) : State := (s.count Page.sec Reg.sec_TLS_FAIL).raise Page.sec 2

/-- A handshake: `ok` is the outcome of what TLS itself checks. -/
def State.tlsSession (s : State) (svc ok : Bool) (key tool : Nat) (via : Option Half) : State :=
  match ok && s.toolOk tool, s.sessionRights svc key, s.sec.freeSession with
  | true, some r, some i => s.openSession i svc r tool via
  | _, _, _ => s.tlsRefused

/-- TLS_SESSION (R553): before the boot chain has run, no port answers (R34). -/
def execTlsSession (svc ok : Bool) (key : TlsHello) (s : State) : Res :=
  .next (if s.sec.stage == 0 && !s.sec.recovery then s else s.tlsSession svc ok key.key key.tool key.via)

/-- SESSION_END (R553). -/
def execSessionEnd (ident : BitVec 2) (s : State) : Res :=
  .next { s with sec := { s.sec with sessions := s.sec.sessions.filter (fun e => e.ident != ident.toNat) } }

/-! ### The file service (R554) -/

/-- Whether a session holds a right: 0 READ, 1 OPERATE, 2 ENGINEER, 3 FIRMWARE. -/
def State.hasRight (s : State) (session : BitVec 2) (r : Nat) : Bool := s.sec.sessions.any (fun e => e.ident == session.toNat && bit e.rights r)

/-- The module sends the content of a file to a session; through another module of the fabric it goes in BULK frames (R554). -/
def State.sendFile (s : State) (via : Option Half) (kind : Nat) (b : List Byte) : State :=
  let s := s.send .fileData (kind :: b.map BitVec.toNat)
  match via with
  | none => s
  | some a => s.bulkSend a.toNat b

/-- The fabric address through which a session is reached. -/
def State.sessionVia (s : State) (session : BitVec 2) : Option Half := (s.sec.sessions.find? (fun e => e.ident == session.toNat)).bind (·.via)

/-- A row of an export as numbers. -/
def Export.nums (e : Export) : List Nat :=
  [e.seg, e.trigger, e.tmq, if e.leapsec then 1 else 0] ++ e.rows.flatMap (fun r => r.1 :: r.2.map BitVec.toNat)

/-- The rows of an export as the .DAT file of IEEE C37.111-2013 holds them: number, timestamp and values, least significant byte first. PRESUMED: notes/assumptions/28.md. -/
def Export.dat (e : Export) : List Byte :=
  e.rows.zipIdx.flatMap (fun r => bytesLE 4 (r.2 + 1) ++ bytesLE 4 r.1.1 ++ r.1.2.flatMap (fun w => bytesLE 4 w.toNat))

/-- A file is delivered. -/
def State.readFile (s : State) (via : Option Half) : FileName → State
  | .archive n => match s.jrn.archives.find? (fun a => a.number == n) with | some a => s.sendFile via 0 a.content | none => s
  | .export_ k =>
    match s.recd.exports.find? (fun e => e.seg == k) with
    | none => s
    | some e =>
      let s := s.send .fileData (1 :: e.nums)
      match via with
      | none => s
      | some a => s.bulkSend a.toNat e.dat
  | .certificate => s.sendFile via 2 Config.mfgCert

/-- FILE_READ (R554), with the READ right. -/
def execFileRead (session : BitVec 2) (file : FileName) (s : State) : Res := .next (if s.hasRight session 0 then s.readFile (s.sessionVia session) file else s)

/-- A file is deleted; the certificate cannot be. -/
def State.deleteFile (s : State) : FileName → State
  | .archive n => { s with jrn := { s.jrn with archives := s.jrn.archives.filter (fun a => a.number != n), archFull := false } }
  | .export_ k => { s with recd := { s.recd with exports := s.recd.exports.filter (fun e => e.seg != k) } }
  | .certificate => s

/-- FILE_DELETE (R554), with the OPERATE right. -/
def execFileDelete (session : BitVec 2) (file : FileName) (s : State) : Res := .next (if s.hasRight session 1 then s.deleteFile file else s)

/-! ### Images through the file service (R543, R544, R549, R555) -/

/-- Bytes o to o + n − 1. -/
def span (l : List Byte) (o n : Nat) : List Byte := (l.drop o).take n

/-- The class that a header names. -/
def hdrClass (l : List Byte) : Nat := natLE (span l 5 1)

/-- What the header of an image says. -/
def hdrImage (l : List Byte) : FwImage :=
  { version := BitVec.ofNat 24 (natLE (span l 8 3)), svn := natLE (span l 0xB 1), slot := natLE (span l 0x18 1), len := natLE (span l 0xC 4)
    digest := BitVec.ofNat 512 (natLE (span l 0x20 64)) }

/-- Reserved bytes of the header are 0. -/
def hdrZero (l : List Byte) : Bool := (span l 6 2 ++ span l 0x19 7 ++ span l 0xD2 46).all (fun b => b == 0#8)

/-- Every part of a version is 0 to 254 (R4). -/
def versionOk (v : BitVec 24) : Bool := (List.range 3).all (fun i => fieldNat v (8 * i) 8 != 255)

/-- MAGIC, HDR_VER, CLASS and reserved bytes (R543); class 0 is the bank directory. VERSION and SVN outside the ranges of R4 and R543 fail the same check: DESIGN CHOICE, notes/assumptions/38.md. -/
def hdrOk (l : List Byte) : Bool :=
  decide (256 ≤ l.length) && decide (natLE (span l 0 4) = 0x5042494D) && decide (natLE (span l 4 1) = 1) && decide (hdrClass l ≤ 4) && hdrZero l
    && decide ((hdrImage l).svn ≤ 64) && versionOk (hdrImage l).version

/-- BODY_LEN: its range, the bytes written, the area that the directory gives (R543, R544). -/
def lenOk (dir l : List Byte) : Bool :=
  let n := (hdrImage l).len
  decide (n = l.length - 256) && (decide (hdrClass l = 0 ∧ n ≤ 4096)
    || decide (4096 ≤ n ∧ n ≤ 402653184 ∧ n % 4096 = 0 ∧ n ≤ Config.dirArea dir (hdrClass l)))

/-- The first check of R544 that an image fails. -/
def State.imageFails (s : State) (dir l : List Byte) : Option Nat :=
  let x := hdrImage l
  if !hdrOk l then some 1
  else if !lenOk dir l then some 2
  else if 3 < x.slot ∨ bit s.sec.revoked x.slot then some 3
  else if x.digest ≠ Config.shake512 (span l 0 32 ++ l.drop 256) then some 4
  else if !Config.rootVerify x.slot (span l 0x20 64) (span l 0x60 114) then some 5
  else if x.svn < s.sec.fuse (hdrClass l) then some 6
  else none

/-- Whether an image, with the others of its bank, has room in the blocks that the bank still has (R165, R166). -/
def State.bankFits (s : State) (b : Bool) (l : List Byte) : Bool :=
  let others := (s.bank b).images.filter (fun e => e.1 != hdrClass l)
  decide (l.length + (others.map (fun e => (e.2.map (fun x => x.len + 256)).getD 0)).sum ≤ s.nand.bankRoom b)

/-- The first check of R544 that an image fails in bank b: a bank that R166 has shrunk has less room for a body. -/
def State.imageBad (s : State) (b : Bool) (l : List Byte) : Option Nat :=
  match s.imageFails (s.bank b).dir l with
  | some 1 => some 1
  | r => if s.bankFits b l then r else some 2

/-- A verified image is in its bank. -/
def FwBank.put (k : FwBank) (l : List Byte) : FwBank :=
  let c := hdrClass l
  { k with images := tset (fun _ => none) k.images c (some (hdrImage l)), dir := if c = 0 then l.drop 256 else k.dir }

/-- Whether a bank holds every class of a list. -/
def FwBank.has (k : FwBank) (cs : List Nat) : Bool := cs.all (fun c => (k.image c).isSome)

/-- The bank is complete: LOADED, GEN one above the running bank's, INT LOADED (R555 step 3). -/
def State.bankLoaded (s : State) (b : Bool) : State :=
  if (s.bank b).has [0, 1, 2, 3, 4] then
    (s.setBank b { s.bank b with st := .loaded, gen := (s.bank s.sec.runB).gen + 1#32 }).raise Page.fw 0
  else s

/-- A written image fails a check (R544); one whose BODY_LEN is all ones or larger than its area is a discarded record of R10 with its journal record. -/
def State.imageRefused (s : State) (cls check : Nat) : State :=
  let s := s.verifyFailed cls check
  if check = 2 then s.journalReg Page.sec 0x02FF Reg.sec_VERIFY_FAIL else s

/-- An image or directory is written into the inactive bank, which is EMPTY, and verified at its last byte (R555). -/
def State.writeImage (s : State) (l : List Byte) : State :=
  let b := !s.sec.runB
  if (s.bank b).st ≠ .empty then s
  else
    let s := s.countN Page.fw Reg.fw_LOAD_BYTES l.length
    match s.imageBad b l with
    | some c => (s.imageRefused (hdrClass l) c).markBad b
    | none => (s.setBank b ((s.bank b).put l)).bankLoaded b

/-- In recovery an image of classes 1 to 4 goes into bank A; with the last one the module restarts from it (R549). The bank is then GOOD. DESIGN CHOICE: notes/assumptions/38.md. -/
def State.writeRecovery (s : State) (l : List Byte) (boot : Boot) : State :=
  match s.imageBad false l with
  | some c => s.imageRefused (hdrClass l) c
  | none =>
    if hdrClass l = 0 then s
    else
      let old := s.sec.bankA
      let k : FwBank := match old.st with | .empty => old | _ => { gen := old.gen, dir := old.dir }
      let k := k.put l
      if k.has [1, 2, 3, 4] then
        (s.setBank false { k with st := .good, images := tset (fun _ => none) k.images 0 (some {}) }).startUp 6 boot
      else s.setBank false k

/-- A configuration loaded by the tool goes into the configuration area and ends every session (R163, R553); one beyond the area is refused (R10). -/
def State.writeConfig (s : State) (l : List Byte) : State := if 0x800000 < l.length then s.discard Page.fw Reg.com_ERRCNT else { s with cfgStore := Config.cfgOf l, sec := { s.sec with sessions := [] } }

/-- A project goes into both copies of the project store (R163, R165), one beyond their area (R166) is refused (R10). -/
def State.writeProject (s : State) (l : List Byte) : State := if s.nand.projectRoom < l.length then s.discard Page.fw Reg.com_ERRCNT else { s with projStore := Config.projOf l }

/-- What is written through the file service, with the right that R554 asks for. -/
def State.writeFile (s : State) (session : BitVec 2) (boot : Boot) : FileUp → State
  | .image l => if !s.hasRight session 3 then s else if s.sec.recovery then s.writeRecovery l boot else s.writeImage l
  | .config l => if s.hasRight session 2 && !s.sec.recovery then s.writeConfig l else s
  | .project l => if s.hasRight session 2 && !s.sec.recovery then s.writeProject l else s

/-- FILE_WRITE (R549, R554, R555). -/
def execFileWrite (session : BitVec 2) (file : FileUp) (boot : Boot) (s : State) : Res := .next (s.writeFile session boot file)

/-! ### Views (R556, R557) -/

/-- SEC_STAT. -/
def Sec.stat (x : Sec) : Word :=
  BitVec.ofNat 32 (x.stage + (if x.ikPresent then 16 else 0) + (if x.recovery then 32 else 0) + x.revoked.toNat * 256)

/-- ATT_STAT. -/
def AttSt.code : AttSt → Nat
  | .idle => 0 | .busy => 1 | .done => 2

/-- Word i of ATT_REPORT. -/
def Sec.reportWord (x : Sec) (i : Nat) : Word := BitVec.ofNat 32 (natLE (span x.attReport (4 * i) 4))

/-- GEN of a bank, 0 until the first boot stage has completed. -/
def State.genWord (s : State) (b : Bool) : Word := if s.sec.stage = 0 ∧ !s.sec.recovery then 0#32 else (s.bank b).gen

end Sys2Proof.Machine
end

