-- ==== Sys2Proof/Machine/RegRead.lean ====
section
/-! DEFINITION. What a register reads as: the offsets that hold a register, registers that show typed parts of the state, the common layout and the summary registers (R7, R584 to R596). -/

namespace Sys2Proof.Machine

/-! ### The registers of a page (R584, R592) -/

/-- Registers of a page beyond the common layout: first offset, stride, number (the register tables of the chapters). -/
def pageRegs : PageTy → List (Nat × Nat × Nat)
  | .sys => [(0x040, 4, 11), (0x080, 4, 10)]
  | .colophon => [(0x040, 4, 7)]
  | .cluster => [(0x040, 4, 12)]
  | .unit => [(0x040, 4, 9), (0x080, 4, 8)]
  | .region => [(0x040, 4, 13), (0x080, 4, 8), (0x0A0, 4, 3)]
  | .msCl => [(0x040, 4, 8), (0x400, 4, 256), (0x800, 4, 256)]
  | .msDma => [(0x040, 4, 8), (0x400, 4, 256), (0x800, 4, 256)]
  | .target => [(0x040, 4, 7), (0x400, 4, 128), (0x800, 4, 128)]
  | .pctrl => [(0x040, 4, 8)]
  | .bell => [(0x040, 4, 23), (0x0A0, 4, 7), (0x0C0, 4, 4)]
  | .pair => [(0x040, 4, 19), (0x0A0, 4, 10)]
  | .link => [(0x040, 4, 18)]
  | .proof => [(0x040, 4, 15)]
  | .le => [(0x040, 4, 26), (0x0C0, 4, 16)]
  | .sq => [(0x040, 4, 7), (0x100, 4, 128)]
  | .tb => [(0x040, 4, 20)]
  | .ptp => [(0x040, 4, 24)]
  | .port => [(0x040, 4, 6), (0x060, 4, 8)]
  | .svc => [(0x040, 4, 1), (0x064, 4, 7)]
  | .red => [(0x040, 4, 7)]
  | .sv => [(0x040, 4, 13), (0x080, 4, 16), (0x400, 4, 128)]
  | .lane => [(0x040, 4, 20), (0x0A0, 4, 8)]
  | .stn => [(0x040, 4, 6), (0x400, 4, 256)]
  | .fport => [(0x040, 4, 13)]
  | .fab => [(0x040, 4, 16), (0x400, 4, 256)]
  | .can => [(0x040, 4, 21), (0x100, 4, 16), (0x400, 4, 128)]
  | .canFilter => [(0x040, 4, 3), (0x400, 4, 768)]
  | .canRx => [(0x040, 4, 3), (0x050, 4, 7), (0x400, 4, 640), (0xE00, 4, 20), (0xE80, 4, 20)]
  | .dio => [(0x040, 4, 9), (0x080, 4, 48)]
  | .aio => [(0x040, 4, 9), (0x080, 4, 4), (0x0C0, 4, 15), (0x100, 4, 128)]
  | .rfx => [(0x040, 4, 10), (0x080, 16, 32), (0x084, 16, 32), (0x088, 16, 32), (0x800, 32, 64), (0x804, 32, 64), (0x808, 32, 64),
             (0x80C, 32, 64), (0x810, 32, 64), (0x814, 32, 64)]
  | .safe => [(0x040, 4, 11), (0x080, 4, 48)]
  | .pst => [(0x040, 4, 11), (0x400, 4, 64)]
  | .jrn => [(0x040, 4, 10)]
  | .recd => [(0x040, 4, 22), (0x0A0, 4, 2), (0x100, 4, 128)]
  | .sec => [(0x040, 4, 20), (0x400, 4, 157), (0x800, 4, 15)]
  | .fw => [(0x040, 4, 7)]
  | .pwr => [(0x040, 4, 12)]
  | .hu => [(0x040, 4, 8)]
  | .clk => [(0x040, 4, 6)]
  | .surr => [(0x040, 4, 9)]
  | .dram => [(0x040, 4, 13), (0x080, 4, 3)]
  | .mram => [(0x040, 4, 13)]
  | .nand => [(0x040, 4, 13), (0x080, 4, 3)]
  | .iodMem => [(0x040, 4, 13)]
  | .cdMem => [(0x040, 4, 13)]

/-- Whether an offset of a page holds a register. -/
def isReg (t : PageTy) (off : Nat) : Bool :=
  decide (off < 0x02C ∧ off % 4 = 0)
    || (pageRegs t).any (fun e => decide (e.1 ≤ off ∧ (off - e.1) % e.2.1 = 0 ∧ (off - e.1) / e.2.1 < e.2.2))

/-- The page behind a page of the range: a unit frame shows the page of the unit that UNIT_SEL selects (R153). -/
def State.shown (s : State) (p : Nat) : Nat := if 0x20 ≤ p ∧ p < 0x30 then Page.unit (s.frameUnit (p - 0x20)) else p

/-- Every page of R594 by index. -/
def allPages : List Nat := (List.range 320).filter (fun p => (pageTy p).isSome)

/-! ### Power (R31, R592, R594) -/

/-- The power domain of a page (R12, R16, R31, R594). PRESUMED where the manual does not name the block's domain: notes/assumptions/39.md. -/
def pageDomain (p : Nat) : Nat :=
  match pageTy p with
  | none => 0
  | some .sys => 0
  | some .colophon => 0
  | some .pwr => 0
  | some .clk => 0
  | some .hu => 0
  | some .surr => 0
  | some .sec => 1
  | some .fw => 1
  | some .cluster => 2 + (p - 0x10) / 4
  | some .unit => 2 + (if p < 0x400 then p - 0x20 else (p - 0x400) / 3) / 4
  | some .msCl => 2 + (p - 0x40) / 4
  | some .region => 2 + (p - 0x30) / 2
  | some .msDma => 2 + (p - 0x38) / 2
  | some .le => 6 + (p - 0x80)
  | some .sq => 6 + (p - 0x82)
  | some .cdMem => 6 + (p - 0x134)
  | some .target => if p < 0x58 then 2 + (p - 0x50) / 2 else if p = 0x5B then 1 else if p = 0x5C then 6 else if p = 0x5D then 7 else 8
  | some _ => 8

/-- Whether a page can be reached: it is one of R594 and its domain is on (R592). -/
def State.pageOn (s : State) (p : Nat) : Bool :=
  decide (p < 320) && (pageTy p).isSome && s.rbit Page.pwr Reg.pwr_DOM_STAT (pageDomain p)

/-! ### The common layout (R585 to R588) -/

/-- ID (R585). -/
def idWord (p : Nat) : Word :=
  match pageTy p with
  | none => 0#32
  | some t => BitVec.ofNat 32 (t.code * 2 ^ 16 + pageInst p * 2 ^ 8 + 1)

/-- Whether a page holds a select register (R586). -/
def PageTy.hasSelect (t : PageTy) : Bool := t == .unit || t == .fab || t == .canRx

/-- CAPS (R586). -/
def capsWord (p : Nat) : Word :=
  match pageTy p with
  | none => 0#32
  | some t => BitVec.ofNat 32 (t.intMask + (if t.hasRwl then 2 ^ 16 else 0) + (if t.hasSelect then 2 ^ 17 else 0))

/-- INT_OUT (R584). -/
def State.intOut (s : State) (p : Nat) : Word := s.reg p Reg.com_INT_RAW &&& s.reg p Reg.com_INT_EN

/-- STAT (R587). -/
def State.statWord (s : State) (p : Nat) : Word :=
  ofBool 32 (s.intOut p != 0#32) ||| (ofBool 32 (s.reg p Reg.com_ERRCNT != 0#32) <<< 1)

/-- TRACK_EN of a region (R184), OPEN (R207): the part of CTRL that is not stored. -/
def State.ctrlView (s : State) (p : Nat) : Word :=
  match pageTy p with
  | some .region => s.reg p Reg.com_CTRL ||| (ofBool 32 s.dirty.on <<< 1)
  | some .pctrl => ofBool 32 s.prot.openMode
  | _ => s.reg p Reg.com_CTRL

/-- A register of the common layout. -/
def State.commonRead (s : State) (p off : Nat) : Word :=
  if off = Reg.com_ID then idWord p
  else if off = Reg.com_CAPS then capsWord p
  else if off = Reg.com_CTRL then s.ctrlView p
  else if off = Reg.com_STAT then s.statWord p
  else if off = Reg.com_INT_OUT then s.intOut p
  else s.reg p off

/-- INT_SUMw and ERR_SUMw: bit b for the page with index 32w + b (R595). -/
def State.sumWord (s : State) (bitNo w : Nat) : Word :=
  BitVec.ofNat 32 (((List.range 32).filter (fun b => (pageTy (32 * w + b)).isSome && bit (s.statWord (s.shown (32 * w + b))) bitNo)).map (fun b => 2 ^ b)).sum

/-! ### Registers that show typed parts of the state -/

/-- SYS (R595) and colophon (R596). -/
def State.sysView (s : State) (off : Nat) : Word :=
  if 0x040 ≤ off ∧ off < 0x068 then s.sumWord 0 ((off - 0x040) / 4)
  else if 0x080 ≤ off ∧ off < 0x0A8 then s.sumWord 1 ((off - 0x080) / 4)
  else 0#32
def State.colView (s : State) (off : Nat) : Word :=
  if off = 0x040 then Config.uid.extractLsb' 0 32
  else if off = 0x044 then Config.uid.extractLsb' 32 32
  else if off = 0x048 then Config.hwIssue.zeroExtend 32
  else if off = 0x04C then s.fwVer.zeroExtend 32
  else if off = 0x050 then ofBool 32 Config.orderCode
  else if off = 0x054 then Config.mfgDate &&& 0xFFFF00FF#32
  else 0x8E#32

/-- The unit page (R155). -/
def State.unitView (s : State) (p off : Nat) : Word :=
  let x := s.unit (p - 0x400)
  if off = Reg.unit_U_STATE then BitVec.ofNat 32 x.st.code
  else if off = Reg.unit_MISM_CNT then x.count
  else if off = Reg.unit_OLDEST_SEC then x.oldestSec
  else if off = Reg.unit_OLDEST_NS then x.oldestNs
  else if off = Reg.unit_FAIL_GROUPS then x.failGroups.zeroExtend 32
  else if off = Reg.unit_INJ_STAT then x.injStat
  else if off = Reg.unit_U_MISM_TOTAL then x.mismTotal
  else if off = Reg.unit_LBIST_EXP then Config.lbistExp
  else x.card.getD ((off - 0x080) / 4) 0#32

/-- The memory a page of R182 or R186 belongs to. -/
def memOfPage (p : Nat) : Nat := if p < 0x38 then p - 0x30 else 8 + (p - 0x130)

/-- Region and memory controller pages (R182, R186). -/
def State.memView (s : State) (p off : Nat) : Word :=
  match pageTy p with
  | some .nand => s.reg p off
  | some t =>
    if off = Reg.rg_LOG_USED then BitVec.ofNat 32 (s.corr (memOfPage p)).log.length
    else if off = Reg.rg_DIRTY_COUNT ∧ t = .region then BitVec.ofNat 32 (s.dirtyCount (p - 0x30))
    else if off = Reg.rg_SCRUB_PERIOD ∧ (t = .iodMem ∨ t = .cdMem) then s.reg (Page.region 0) off
    else s.reg p off
  | none => 0#32

/-- Protection pages (R206, R208, R211). -/
def State.pctrlView (s : State) (off : Nat) : Word :=
  if off = Reg.pc_SWAP_STAT then s.swapStat else if off = Reg.pc_DRAIN_PEND then s.drainPend else s.reg Page.pctrl off
/-- The master of a master-side check page (R188, R208). -/
def pageMid (p : Nat) : Nat := if p < 0x40 then 0x10 + (p - 0x38) else p - 0x40
def State.msView (s : State) (p off : Nat) : Word :=
  if off = Reg.ms_MS_STAT then ofBool 32 (s.bankOf (pageMid p)) ||| (ofBool 32 (s.prot.pend.contains (pageMid p) && s.maySwitch (pageMid p)) <<< 1)
  else if 0x400 ≤ off ∧ off < 0x800 then s.bankWord p ((off - 0x400) / 4) false
  else if 0x800 ≤ off then s.bankWord p ((off - 0x800) / 4) true
  else s.reg p off
def State.tcView (s : State) (p off : Nat) : Word :=
  if off = Reg.tc_TC_STAT then ofBool 32 s.epochBit ||| (ofBool 32 s.swapBusy <<< 1)
  else if 0x400 ≤ off ∧ off < 0x800 then s.bankWord p ((off - 0x400) / 4) false
  else if 0x800 ≤ off then s.bankWord p ((off - 0x800) / 4) true
  else s.reg p off

/-- The bell controller page (R82). -/
def State.bellView (s : State) (off : Nat) : Word :=
  if off = Reg.bell_MODE then s.modeWord
  else if off = Reg.bell_CYCLE_LO then s.cyc32
  else if off = Reg.bell_CYCLE_HI then BitVec.ofNat 32 (s.bell.cycle / 2 ^ 32 % 2 ^ 16)
  else if off = Reg.bell_BELL_NS then BitVec.ofNat 32 s.bell.bellTime.ns
  else if off = Reg.bell_BELL_SEC_LO then BitVec.ofNat 32 s.bell.bellTime.sec
  else if off = Reg.bell_BELL_SEC_HI then BitVec.ofNat 32 (s.bell.bellTime.sec / 2 ^ 32)
  else if off = Reg.bell_FORCE_COUNT then BitVec.ofNat 32 s.forceCount
  else if off = Reg.bell_OLC_STAT then s.olcWord
  else s.reg Page.bell off

/-- The partner of the last CAPS. -/
def Pair.peerCaps (p : Pair) : Caps := p.peer.getD {}

/-- The pair page (R241). -/
def State.pairView (s : State) (off : Nat) : Word :=
  if off = Reg.pair_ROLE then roleWord s.pair
  else if off = Reg.pair_PASS_STAT then passWord s.pair
  else if off = Reg.pair_PASS_EPOCH then s.pair.current
  else if off = Reg.pair_ATT_MISS then BitVec.ofNat 32 s.attMiss
  else if off = Reg.pair_PEER_UID_LO then s.pair.peerCaps.uid.extractLsb' 0 32
  else if off = Reg.pair_PEER_UID_HI then s.pair.peerCaps.uid.extractLsb' 32 32
  else if off = Reg.pair_PEER_FW then s.pair.peerCaps.fw.zeroExtend 32
  else if off = Reg.pair_PEER_ISSUE then s.pair.peerCaps.issue.zeroExtend 32
  else if 0x0A0 ≤ off then (if off % 8 = 0 then ifOwnWord ((off - 0x0A0) / 8) else s.pair.ifPair ((off - 0x0A4) / 8))
  else s.reg Page.pair off

/-- Code of a link state (R249). -/
def LinkSt.code : LinkSt → Nat
  | .down => 0 | .training => 1 | .aligned => 2 | .up => 3

/-- The partner link and proof pages (R276, R277). -/
def State.linkView (s : State) (off : Nat) : Word :=
  if off = Reg.link_LINK_STAT then BitVec.ofNat 32 (s.link.st.code + s.link.lanes.toNat * 16 + (if s.link.capsDone then 256 else 0))
  else if off = Reg.link_XFER_STAT then s.link.xfer.stat
  else if off = Reg.link_XFER_ID then s.link.xfer.ident
  else if off = Reg.link_XFER_DONE then BitVec.ofNat 32 s.link.xfer.acked
  else s.reg Page.link off
def State.proofView (s : State) (off : Nat) : Word :=
  if off = Reg.proof_PROOF_STAT then s.proofStat
  else if off = Reg.proof_SNAP_LINES then BitVec.ofNat 32 s.snapCount
  else if off = Reg.proof_RX_STORE_USED then BitVec.ofNat 32 s.rxUsed
  else s.reg Page.proof off

/-- Code of an engine state, LE_STATE and LANE_LASTING (R314, R315). -/
def LeSt.code : LeSt → Nat
  | .idle => 0 | .running => 1 | .failed => 2
def State.leStateWord (s : State) (e : Nat) : Word :=
  let g := s.eng e
  let shadow := !s.holdsPass && (s.loopsOf e).any (fun l => (s.loop e l).shadow)
  BitVec.ofNat 32 (g.st.code + (if g.bank then 16 else 0) + (if g.switchPend then 32 else 0)
    + (if shadow then 64 else 0) + (if g.slip then 128 else 0))

/-- Loops in FALLBACK now. -/
def State.fbCount (s : State) (e : Nat) : Nat :=
  ((List.range 512).filter (fun l => (s.loop e l).mode = 6 ∧ !(s.loop e l).shadow)).length

/-- The loop engine page (R314). -/
def State.leView (s : State) (e off : Nat) : Word :=
  if off = Reg.le_LE_STATE then s.leStateWord e
  else if off = Reg.le_SCHED_STAT then s.schedStat e
  else if off = Reg.le_LANE_LASTING then s.laneLasting e
  else if off = Reg.le_FB_COUNT then BitVec.ofNat 32 (s.fbCount e)
  else if 0x0C0 ≤ off then s.fbMap e ((off - 0x0C0) / 4)
  else s.reg (Page.le e) off

/-- Code of a probe state; the setpoints and trace page (R348). -/
def ProbeSt.code : ProbeSt → Nat
  | .idle => 0 | .filling => 1 | .armed => 2 | .capturing => 3 | .done => 4
def State.sqView (s : State) (e off : Nat) : Word :=
  if off = Reg.sq_SQ_STAT then s.sqStat e
  else if off < 0x100 then s.reg (Page.sq e) off
  else
    let x := s.probe e ((off - 0x100) / 32)
    match off % 32 with
    | 0x14 => BitVec.ofNat 32 (x.st.code + (if x.wrapped then 8 else 0) + x.idx * 2 ^ 16)
    | 0x18 => BitVec.ofNat 32 x.trigSample
    | 0x1C => BitVec.ofNat 32 x.trigIdx
    | _ => s.reg (Page.sq e) off

/-- The time base page (R382); TIME_SEC shows the latched seconds. -/
def State.tbView (s : State) (off : Nat) : Word :=
  if off = Reg.tb_TB_STAT then s.tbStat
  else if off = Reg.tb_TIME_NS then BitVec.ofNat 32 s.tb.time.ns
  else if off = Reg.tb_TIME_SEC_LO then BitVec.ofNat 32 s.tb.latch
  else if off = Reg.tb_TIME_SEC_HI then BitVec.ofNat 32 (s.tb.latch / 2 ^ 32)
  else if off = Reg.tb_UTC_OFFSET then s.utcOffsetReg
  else if off = Reg.tb_HOLDOVER_TIME then BitVec.ofNat 32 s.holdoverTime
  else s.reg Page.tb off

/-- Ethernet pages (R385, R386). -/
def State.redView (s : State) (p off : Nat) : Word :=
  if off = Reg.red_NODES then BitVec.ofNat 32 (s.red (p - 0xA5)).nodes.length else s.reg p off
def State.svView (s : State) (off : Nat) : Word := if 0x400 ≤ off then s.svStat ((off - 0x400) / 4) else s.reg Page.sv off

/-- Station and fabric pages (R409, R410, R433, R434). -/
def State.laneView (s : State) (p off : Nat) : Word := if off = Reg.lane_LANE_STAT then s.laneStat (p - 0xB0) else s.reg p off
def State.stnView (s : State) (off : Nat) : Word := if 0x400 ≤ off then s.stnStat ((off - 0x400) / 4) else s.reg Page.stn off
def State.fportView (s : State) (p off : Nat) : Word :=
  if off = Reg.fport_PORT_STAT then s.fportStat (p - 0xC0)
  else if off = Reg.fport_NBR_UID_LO then (s.nbrUid (p - 0xC0)).extractLsb' 0 32
  else if off = Reg.fport_NBR_UID_HI then (s.nbrUid (p - 0xC0)).extractLsb' 32 32
  else s.reg p off
def State.fabView (s : State) (off : Nat) : Word :=
  if off = Reg.fab_FAB_STAT then s.fabStat
  else if off = Reg.fab_ROLL_NO then s.fab.roll
  else if off = Reg.fab_KEEPER_UID_LO then s.fab.keeper.extractLsb' 0 32
  else if off = Reg.fab_KEEPER_UID_HI then s.fab.keeper.extractLsb' 32 32
  else if off = Reg.fab_NODES then BitVec.ofNat 32 s.fab.nodes
  else if 0x400 ≤ off then s.routeWord ((off - 0x400) / 4)
  else s.reg Page.fab off

/-- CAN pages (R456, R460). -/
def State.canView (s : State) (p off : Nat) : Word :=
  let c := (p - 0xD0) / 4
  if off = Reg.can_CAN_STAT then s.canStat c
  else if off = Reg.can_ECR then s.canEcr c
  else if off = Reg.can_TX_RESULT then s.canResult c
  else s.reg p off

/-- Word i of the record at the head of a FIFO. -/
def fifoHead (l : List (List Word)) (i : Nat) : Word := (l.headD []).getD i 0#32
def State.canRxView (s : State) (p off : Nat) : Word :=
  let x := s.canCh ((p - 0xD0) / 4)
  if off = Reg.canrx_FIFO_STAT then BitVec.ofNat 32 (x.fifo0.length + x.fifo1.length * 2 ^ 16)
  else if off < 0x400 then s.reg p off
  else if off < 0xE00 then
    let i := (off - 0x400) / 4
    (tget (fun _ => []) x.bufs (32 * s.fld p Reg.canrx_RX_BANK 0 2 + i / 20)).getD (i % 20) 0#32
  else if off < 0xE80 then fifoHead x.fifo0 ((off - 0xE00) / 4)
  else fifoHead x.fifo1 ((off - 0xE80) / 4)

/-- DIO_IN and DIO_RB (R482). -/
def State.dioIn (s : State) : Nat := ((List.range 16).filter (fun c => (s.dio c).filt)).foldl (fun n c => n + 2 ^ c) 0
def State.dioRb (s : State) (v : Nat) : Nat := ((List.range 16).filter (fun c => (s.dio c).rb == v)).foldl (fun n c => n + 2 ^ c) 0

/-- Field pages (R482, R484, R485). -/
def State.dioView (s : State) (off : Nat) : Word :=
  if off = Reg.dio_DIO_IN then BitVec.ofNat 32 s.dioIn
  else if off = Reg.dio_DIO_RB then BitVec.ofNat 32 (s.dioRb 1 + s.dioRb 2 * 2 ^ 16)
  else s.reg Page.dio off
def State.aioView (s : State) (p off : Nat) : Word :=
  if off = Reg.aio_AIO_CMD then BitVec.ofNat 32 (s.aioCmd (p - 0xE1))
  else if off = Reg.aio_HART_STAT then s.hartStat (p - 0xE1)
  else s.reg p off
def State.rfxView (s : State) (off : Nat) : Word :=
  if off = Reg.rfx_RFX_ACT_LO then s.rfxAct.extractLsb' 0 32
  else if off = Reg.rfx_RFX_ACT_HI then s.rfxAct.extractLsb' 32 32
  else if off = Reg.rfx_RFX_IN_LO then s.rfxIn.extractLsb' 0 32
  else if off = Reg.rfx_RFX_IN_HI then s.rfxIn.extractLsb' 32 32
  else s.reg Page.rfx off

/-- Safety pages (R514, R515). -/
def State.safeView (s : State) (off : Nat) : Word :=
  if off = Reg.safe_SAFE_STAT then s.safeStat
  else if 0x0A0 ≤ off ∧ off < 0x0C0 then s.siStat ((off - 0x0A0) / 4)
  else if 0x0E0 ≤ off ∧ off < 0x100 then s.soStat ((off - 0x0E0) / 4)
  else s.reg Page.safe off
def State.pstView (s : State) (off : Nat) : Word := if 0x400 ≤ off then s.connStat ((off - 0x400) / 4) else s.reg Page.pst off

/-- JRN_STAT (R540). -/
def State.jrnView (s : State) (off : Nat) : Word :=
  let j := s.jrn
  if off = Reg.jrn_JRN_STAT then
    BitVec.ofNat 32 ((if j.full then 1 else 0) + (if j.clearing then 2 else 0) + (if j.archiving then 4 else 0)
      + (if j.closed then 8 else 0) + (if j.archFull then 16 else 0))
  else s.reg Page.jrn off

/-- Codes of the recorder, a segment and the export (R541). -/
def RecSt.code : RecSt → Nat
  | .idle => 0 | .filling => 1 | .armed => 2 | .capturing => 3 | .waitHoldoff => 4 | .stoppedOvf => 5 | .stoppedFull => 6
def SegSt.code : SegSt → Nat
  | .free => 0 | .inUse => 1 | .closed => 2 | .exporting => 3
def ExpSt.code : ExpSt → Nat
  | .idle => 0 | .busy => 1 | .done => 2 | .failed => 3

/-- The recorder page (R541). -/
def State.recView (s : State) (off : Nat) : Word :=
  let r := s.recd
  if off = Reg.rec_REC_STAT then
    BitVec.ofNat 32 (r.st.code + (if r.ovf then 8 else 0) + r.cur % 64 * 256 + (r.segs.filter (fun e => e.2.st == .closed)).length % 128 * 2 ^ 16)
  else if off = Reg.rec_EXP_STAT then BitVec.ofNat 32 (r.expSt.code + r.expSeg % 64 * 256 + r.expFiles % 65536 * 2 ^ 16)
  else if 0x100 ≤ off then
    let g := s.seg ((off - 0x100) / 8)
    if off % 8 = 0 then BitVec.ofNat 32 (g.st.code + (if g.ovf then 4 else 0) + g.code % 256 * 256) else BitVec.ofNat 32 g.used
  else s.reg Page.recd off

/-- Security and firmware pages (R556, R557). -/
def State.secView (s : State) (off : Nat) : Word :=
  if off = Reg.sec_SEC_STAT then s.sec.stat
  else if 0x048 ≤ off ∧ off < 0x058 then BitVec.ofNat 32 (s.sec.fuse ((off - 0x048) / 4 + 1))
  else if off = Reg.sec_ATT_STAT then BitVec.ofNat 32 s.sec.att.code
  else if off = Reg.sec_SESSIONS then BitVec.ofNat 32 s.sec.sessions.length
  else if 0x800 ≤ off then BitVec.ofNat 32 (natLE (span ((List.range 57).map Config.ikPub) (off - 0x800) 4))
  else if 0x400 ≤ off then s.sec.reportWord ((off - 0x400) / 4)
  else s.reg Page.sec off
def State.fwView (s : State) (off : Nat) : Word :=
  if off = Reg.fw_BANK_STAT then s.sec.bankStat
  else if off = Reg.fw_GEN_A then s.genWord false
  else if off = Reg.fw_GEN_B then s.genWord true
  else s.reg Page.fw off

/-- A register beyond the common layout, of a page that is not a unit frame. -/
def State.blockRead (s : State) (t : PageTy) (p off : Nat) : Word :=
  match t with
  | .sys => s.sysView off
  | .colophon => s.colView off
  | .cluster => if off = Reg.cl_CL_STATE then s.clState (p - 0x10) else s.reg p off
  | .unit => s.unitView p off
  | .region => s.memView p off
  | .msCl => s.msView p off
  | .msDma => s.msView p off
  | .target => s.tcView p off
  | .pctrl => s.pctrlView off
  | .bell => s.bellView off
  | .pair => s.pairView off
  | .link => s.linkView off
  | .proof => s.proofView off
  | .le => s.leView (p - 0x80) off
  | .sq => s.sqView (p - 0x82) off
  | .tb => s.tbView off
  | .red => s.redView p off
  | .sv => s.svView off
  | .lane => s.laneView p off
  | .stn => s.stnView off
  | .fport => s.fportView p off
  | .fab => s.fabView off
  | .can => s.canView p off
  | .canRx => s.canRxView p off
  | .dio => s.dioView off
  | .aio => s.aioView p off
  | .rfx => s.rfxView off
  | .safe => s.safeView off
  | .pst => s.pstView off
  | .jrn => s.jrnView off
  | .recd => s.recView off
  | .sec => s.secView off
  | .fw => s.fwView off
  | .hu => if off = Reg.hu_HU_TEST_AGE then s.huAge else s.reg p off
  | .dram => s.memView p off
  | .mram => s.memView p off
  | .nand => s.memView p off
  | .iodMem => s.memView p off
  | .cdMem => s.memView p off
  | .ptp => s.reg p off
  | .port => s.reg p off
  | .svc => s.reg p off
  | .canFilter => s.reg p off
  | .pwr => s.reg p off
  | .clk => s.reg p off
  | .surr => s.reg p off

/-- The value of the register at an offset of a page; an offset that holds none reads 0 (R592). -/
def State.regValue (s : State) (p off : Nat) : Word :=
  if 0x20 ≤ p ∧ p < 0x30 ∧ off = Reg.unit_UNIT_SEL then s.reg p off
  else
    let q := s.shown p
    match pageTy q with
    | none => 0#32
    | some t => if !isReg t off then 0#32 else if off < 0x040 then s.commonRead q off else s.blockRead t q off

/-- A read of a register with its effect: TIME_NS latches the seconds (R382). -/
def State.regRead (s : State) (p off : Nat) : State × Word :=
  (if p = Page.tb ∧ off = Reg.tb_TIME_NS then { s with tb := { s.tb with latch := s.tb.time.sec } } else s, s.regValue p off)

end Sys2Proof.Machine
end

