-- ==== Sys2Proof/Machine/Registers.lean ====
section
/-! DEFINITION. Writes of register pages: access codes, reserved values, quoins, registers that are writable in some states only, and registers whose write is a command (R7, R8, R584 to R592). -/

namespace Sys2Proof.Machine

/-! ### Fields (R7, R8, R589) -/

/-- What a write makes of a register: the new word, and whether the write counts in ERRCNT. -/
structure FieldRes where
  word : Word
  bad : Bool := false
  deriving DecidableEq, Repr

/-- Whether the value of a field is reserved beside the register's lower fields: UDP with the power profile (R383); a node's element at or above the loop's n, p or m (R344). -/
def State.relField (s : State) (p off : Nat) (word : Word) (lo x : Nat) : Bool :=
  match pageTy p with
  | some .ptp => decide (off = Reg.ptp_PTP_CFG) && lo == 2 && x == 1 && fieldNat word 0 2 == 2
  | some .sq => decide (0x100 ≤ off) && off % 32 == 0 && lo == 16
      && decide (s.nodeLen (p - 0x82) (fieldNat word 0 9) (fieldNat word 12 4) ≤ x)
  | _ => false

/-- One field of a write: reserved values leave the field and count (R8); an RWL field of a locked page keeps its value and counts when it would change (R589). `rel` judges a value beside the lower fields. -/
def writeField (locked : Bool) (rel : Word → Nat → Nat → Bool) (v : Word) (r : FieldRes) (f : Fld) : FieldRes :=
  let x := fieldNat v f.lo f.w
  let old := fieldNat r.word f.lo f.w
  let ok := f.legal.ok x && !rel r.word f.lo x
  match f.acc with
  | .w1c => { r with word := r.word &&& ~~~(setField 0#32 f.lo f.w x) }
  | .rw => if ok then { r with word := setField r.word f.lo f.w x } else { r with bad := true }
  | .rwl =>
    if !ok then { r with bad := true }
    else if locked then { r with bad := r.bad || x != old }
    else { r with word := setField r.word f.lo f.w x }

/-- A write of a register with storage. -/
def State.fieldWrite (s : State) (p off : Nat) (d : RegDesc) (v : Word) : State :=
  let r := d.flds.foldl (writeField (s.locked p) (s.relField p off) v) { word := s.reg p off }
  let s := s.setReg p off r.word
  if r.bad then s.err p else s

/-! ### Legal values that depend on other registers -/

/-- Whether a value is reserved because of another register: a TRKn_LIMIT below its BASE (R182), PRE_RECS beyond the segment (R541). -/
def State.relBad (s : State) (t : PageTy) (p off : Nat) (v : Word) : Bool :=
  match t with
  | .region => decide (0x080 ≤ off ∧ off < 0x0A0 ∧ off % 8 = 4) && decide (fieldNat v 6 18 < s.fld p (off - 4) 6 18)
  | .recd => decide (off = Reg.rec_PRE_RECS) && (decide (v.toNat % 4096 ≠ 0) || decide (s.segRecs < v.toNat + 4096))
  | _ => false

/-! ### Registers that ignore writes in some states -/

/-- Whether a write is ignored and counted as a whole in the present state: CAN registers while CAN_EN = 1 (R448), rules and comparators while RFX_EN = 1 (R481), a probe that is not IDLE or DONE (R349), the recorder outside IDLE (R541). -/
def State.writeHeld (s : State) (t : PageTy) (p off : Nat) : Bool :=
  match t with
  | .can => s.canEn ((p - 0xD0) / 4) && (decide (off = Reg.can_NBT ∨ off = Reg.can_DBT ∨ off = Reg.can_TDC_CFG) || decide (0x400 ≤ off))
  | .canFilter => s.canEn ((p - 0xD0) / 4) && (decide (off = 0x040) || decide (0x400 ≤ off))
  | .rfx => s.rfxEn && decide (0x080 ≤ off)
  | .sq =>
    let x := (s.probe (p - 0x82) ((off - 0x100) / 32)).st
    decide (0x100 ≤ off ∧ off % 32 < 0x10) && x != .idle && x != .done
  | .recd =>
    (decide (off = Reg.rec_REC_CFG ∨ off = Reg.rec_PRE_RECS) || decide (off = Reg.rec_POST_TMAX ∨ off = Reg.rec_HOLDOFF)) && s.recd.st != .idle
  | _ => false

/-! ### Command registers -/

/-- Number of the low `n` bits that are set. -/
def cmdBits (v : Word) (n : Nat) : Nat := ((List.range n).filter (fun i => bit v i)).length

/-- A command register of which a write may set one bit only: none does nothing, one acts, more are ignored and counted. -/
def State.oneCmd (s : State) (p n : Nat) (v : Word) (f : Nat → State) : State :=
  match (List.range n).filter (fun i => bit v i) with
  | [] => s
  | [i] => f i
  | _ => s.err p

/-- MODE_CMD (R83), FORCE_CMD and OLC_CMD (R82), CTRL[CLR_MAX] (R85). The reserved bits of MODE_CMD do not count towards more than one bit: DESIGN CHOICE, notes/assumptions/53.md. -/
def State.modeWrite (s : State) (v : Word) (pr : Priv) : State :=
  s.oneCmd Page.bell 4 (v &&& 0xE#32) (fun i => match i with
    | 1 => s.modeCmd .run pr
    | 2 => s.modeCmd .stop pr
    | _ => s.modeCmd .resume pr)
/-- FORCE_CMD (R82). Its reserved bits do not count as commands: DESIGN CHOICE, notes/assumptions/53.md. -/
def State.forceCmd (s : State) (v : Word) : State :=
  s.oneCmd Page.bell 3 v (fun i => match i with
    | 0 => s.forceWrite
    | 1 => s.forceRelease s.forceSel
    | _ => s.forceReleaseAll)
def State.olcCmd (s : State) (v : Word) : State :=
  let s := if bit v 0 then s.olcArm else s
  if bit v 1 then s.olcStop else s
def State.bellWrite (s : State) (off : Nat) (v : Word) (pr : Priv) : Option State :=
  if off = Reg.bell_MODE_CMD then some (s.modeWrite v pr)
  else if off = Reg.bell_FORCE_CMD then some (s.forceCmd v)
  else if off = Reg.bell_OLC_CMD then some (s.olcCmd v)
  else if off = Reg.bell_HOLD_EN then some (s.holdEn (bit v 0))
  else none

/-- UNIT_CMD, P0 only (R150). -/
def State.unitCmd (s : State) (n : Nat) (v : Word) (pr : Priv) : State :=
  if bit v 4 then s.retireCmd n (fieldNat v 0 2) pr
  else if fieldNat v 0 2 = 3 ∨ pr ≠ .p0 then s.err (Page.cluster n)
  else s

/-- PAIR_CMD (R245). -/
def pairOf : Nat → PairCmd
  | 0 => .switchover | 1 => .suspend | 2 => .resume | 3 => .maintEnter | 4 => .maintLeave | 5 => .resync | _ => .raise

/-- SCHED_CMD (R317), PR_CMD (R348). -/
def State.schedCmd (s : State) (e : Nat) (v : Word) (pr : Priv) : State :=
  s.oneCmd (Page.le e) 3 v (fun i => match i with
    | 0 => s.schedValidate e pr
    | 1 => s.schedSwitch e pr
    | _ => s.schedCancel e pr)
def State.probeCmd (s : State) (e q : Nat) (v : Word) : State :=
  s.oneCmd (Page.sq e) 3 v (fun i => match i with
    | 0 => s.probeArm e q
    | 1 => s.probeDisarm e q
    | _ => s.probeForce e q)

/-- TB_CMD (R382). -/
def State.tbCmd (s : State) (v : Word) (pr : Priv) : State :=
  s.oneCmd Page.tb 4 v (fun i => match i with
    | 0 => s.tbSet pr
    | 1 => s.tbLeap pr true false
    | 2 => s.tbLeap pr true true
    | _ => s.tbLeap pr false false)

/-- FAB_CMD (R434). -/
def State.fabCmd (s : State) (v : Word) (pr : Priv) : State :=
  s.oneCmd Page.fab 2 v (fun i => match i with
    | 0 => s.fabRaise pr
    | _ => s.fabRenew pr)

/-- Command registers of a CAN channel (R456). -/
def State.canWrite (s : State) (c off : Nat) (v : Word) (pr : Priv) : Option State :=
  if off = Reg.can_CAN_CMD then some (s.oneCmd (Page.can c) 3 v (fun i => s.canCmd c i pr))
  else if off = Reg.can_TX_PUSH then some (if bit v 0 then s.txPush c pr else s)
  else if off = Reg.can_TX_POP then some (if bit v 0 then s.txPop c else s)
  else none

/-- HART_CMD (R484). -/
def State.hartCmd (s : State) (a : Nat) (v : Word) (pr : Priv) : State :=
  s.oneCmd (Page.aio a) 2 v (fun i => match i with
    | 0 => s.hartSend a pr
    | _ => s.hartAbort a pr)

/-- Command registers of the reflex page (R485). -/
def State.rfxWrite (s : State) (off : Nat) (v : Word) (pr : Priv) : Option State :=
  if off = Reg.rfx_RFX_CLR_LO then some (s.rfxClr (v.zeroExtend 64))
  else if off = Reg.rfx_RFX_CLR_HI then some (s.rfxClr (v.zeroExtend 64 <<< 32))
  else if off = Reg.rfx_RFX_ARM then some (s.rfxArm (v.extractLsb' 0 8) pr)
  else none

/-- JRN_CMD (R540). -/
def State.jrnCmd (s : State) (v : Word) (pr : Priv) : State :=
  s.oneCmd Page.jrn 3 v (fun i => match i with
    | 0 => s.jrnCommand .clear pr
    | 1 => s.jrnCommand .archive pr
    | _ => s.jrnCommand .archiveClear pr)

/-- REC_CMD and EXP_CMD (R541). -/
def State.recCmd (s : State) (v : Word) (pr : Priv) : State :=
  s.oneCmd Page.recd 4 v (fun i => match i with
    | 0 => s.recArm pr
    | 1 => s.recDisarm pr
    | 2 => s.recForce pr
    | _ => s.segFree (fieldNat v 8 6) pr)
def State.expCmd (s : State) (v : Word) (pr : Priv) : State :=
  let s := if bit v 0 then s.expStart (fieldNat v 8 6) pr else s
  if bit v 1 then s.expAbort pr else s
def State.recWrite (s : State) (off : Nat) (v : Word) (pr : Priv) : Option State :=
  if off = Reg.rec_REC_CMD then some (s.recCmd v pr)
  else if off = Reg.rec_EXP_CMD then some (s.expCmd v pr)
  else none

/-- Command registers of the security and firmware pages (R556, R557). -/
def State.secWrite (s : State) (off : Nat) (v : Word) (pr : Priv) : Option State :=
  if off = Reg.sec_SVN_CMD then some (if bit v 0 then s.commit (fieldNat v 8 4) pr none else s)
  else if off = Reg.sec_ATT_CMD then some (if bit v 0 then s.attest pr else s)
  else none
def State.fwWrite (s : State) (v : Word) (pr : Priv) : State :=
  s.oneCmd Page.fw 3 v (fun i => match i with
    | 0 => s.fwCmd .erase pr
    | 1 => s.fwCmd .activate pr
    | _ => s.fwCmd .confirm pr)

/-- CLR_ERRCNT, P0 only (R591, R595): every page's ERRCNT is 0. -/
def State.clrErrcnt (s : State) (pr : Priv) : State :=
  match pr with
  | .p0 => { s with regs := s.regs.filter (fun e => e.1 % 0x1000 != Reg.com_ERRCNT) }
  | _ => s.err Page.sys

/-! ### Configuration registers whose write acts -/

/-- The state after the rest of a configuration register has been written, with an enable bit that has a meaning of its own: the bit is written last, unless the register's other fields leave it. -/
def State.withEnable (s : State) (p off i : Nat) (d : RegDesc) (v : Word) (f : State → Bool → State) : State :=
  if s.locked p then s.fieldWrite p off d v
  else
  let was := s.rbit p off i
  let s := s.fieldWrite p off { d with flds := d.flds.filter (fun x => x.lo != i) } v
  if bit v i = was then s else f s (bit v i)

/-- LINK_EN acts on the link at once (R249). -/
def State.linkCfg (s : State) (d : RegDesc) (v : Word) : State :=
  let was := s.rbit Page.link Reg.link_LINK_CFG 0
  let s := s.fieldWrite Page.link Reg.link_LINK_CFG d v
  if s.rbit Page.link Reg.link_LINK_CFG 0 = was then s else s.linkDown 0

/-- A channel that enters another mode starts afresh (R464, R465). -/
def State.dioCfgWrite (s : State) (off : Nat) (d : RegDesc) (v : Word) : State :=
  let c := (off - 0x080) / 4
  let was := s.dioMode c
  let s := s.fieldWrite Page.dio off d v
  if s.dioMode c = was then s else s.setDio c {}

/-- A write of PTP_CFG: UDP with the power profile is reserved, and the field keeps its value (R8, R383). -/
def State.ptpCfgWrite (s : State) (d : RegDesc) (v : Word) : State :=
  let prof := if fieldNat v 0 2 = 3 then s.fld Page.ptp Reg.ptp_PTP_CFG 0 2 else fieldNat v 0 2
  if bit v 2 && prof == 2 && !s.locked Page.ptp then
    (s.fieldWrite Page.ptp Reg.ptp_PTP_CFG { d with flds := d.flds.filter (fun x => x.lo != 2) } v).err Page.ptp
  else s.fieldWrite Page.ptp Reg.ptp_PTP_CFG d v

/-- A write of a register with storage, with what the write sets off. -/
def State.storedWrite (s : State) (t : PageTy) (p off : Nat) (d : RegDesc) (v : Word) : State :=
  match t with
  | .le =>
    if off = Reg.le_LE_CFG then s.withEnable p off 0 d v (fun s b => s.leEnable (p - 0x80) b)
    else if off = Reg.le_SHADOW_LEN then (s.schedInvalid (p - 0x80)).fieldWrite p off d v
    else s.fieldWrite p off d v
  | .sq => if off = Reg.sq_SQ_CFG then s.withEnable p off 0 d v (fun s b => s.ssuEn (p - 0x82) b) else s.fieldWrite p off d v
  | .can => if off = Reg.can_CAN_CFG then s.withEnable p off 0 d v (fun s b => s.canEnWrite ((p - 0xD0) / 4) b) else s.fieldWrite p off d v
  | .rfx => if off = Reg.rfx_RFX_CFG then s.withEnable p off 0 d v State.rfxEnWrite else s.fieldWrite p off d v
  | .safe => if off = Reg.safe_SAFE_CFG then s.withEnable p off 0 d v State.safeEnWrite else s.fieldWrite p off d v
  | .link => s.linkCfg d v
  | .ptp => if off = Reg.ptp_PTP_CFG then s.ptpCfgWrite d v else s.fieldWrite p off d v
  | .dio => if 0x080 ≤ off ∧ off < 0x0C0 then s.dioCfgWrite off d v else s.fieldWrite p off d v
  | .tb => if off = Reg.tb_UTC_OFFSET then s.tbUtc (v.extractLsb' 0 16) else s.fieldWrite p off d v
  | _ => s.fieldWrite p off d v

/-! ### A write beyond the common layout -/

/-- A register whose write is a command; none where the register has none. -/
def State.cmdWrite (s : State) (t : PageTy) (p off : Nat) (v : Word) (pr : Priv) : Option State :=
  match t with
  | .sys => if off = Reg.sys_SYS_CMD then some (if bit v 0 then s.clrErrcnt pr else s) else none
  | .cluster => if off = Reg.cl_UNIT_CMD then some (s.unitCmd (p - 0x10) v pr) else none
  | .msCl => if 0x400 ≤ off ∧ off < 0x800 then some (s.shadowWrite p ((off - 0x400) / 4) v) else none
  | .msDma => if 0x400 ≤ off ∧ off < 0x800 then some (s.shadowWrite p ((off - 0x400) / 4) v) else none
  | .target => if 0x400 ≤ off ∧ off < 0x600 then some (s.shadowWrite p ((off - 0x400) / 4) v) else none
  | .pctrl => if off = Reg.pc_SWAP_CMD then some (if bit v 0 then s.swap else s) else none
  | .bell => s.bellWrite off v pr
  | .pair => if off = Reg.pair_PAIR_CMD then some (s.oneCmd p 7 v (fun i => s.pairCmd (pairOf i) pr)) else none
  | .le => if off = Reg.le_SCHED_CMD then some (s.schedCmd (p - 0x80) v pr) else none
  | .sq => if 0x100 ≤ off ∧ off % 32 = 0x10 then some (s.probeCmd (p - 0x82) ((off - 0x100) / 32) v) else none
  | .tb => if off = Reg.tb_TB_CMD then some (s.tbCmd v pr) else none
  | .stn => if off = Reg.stn_STN_CMD then some (s.stnCmd pr (fieldNat v 8 2) (fieldNat v 0 8)) else none
  | .fab => if off = Reg.fab_FAB_CMD then some (s.fabCmd v pr) else none
  | .can => s.canWrite ((p - 0xD0) / 4) off v pr
  | .canRx => if off = Reg.canrx_FIFO_POP then some (s.canPop ((p - 0xD0) / 4) (bit v 0) (bit v 1)) else none
  | .dio => if off = Reg.dio_RETRY_CMD then some (s.retryMask (v.extractLsb' 0 16)) else none
  | .aio => if off = Reg.aio_HART_CMD then some (s.hartCmd (p - 0xE1) v pr) else none
  | .rfx => s.rfxWrite off v pr
  | .safe => if off = Reg.safe_SAFE_CMD then some (if bit v 0 then (if pr = .p2 then s.err p else s.rstAck) else s) else none
  | .jrn => if off = Reg.jrn_JRN_CMD then some (s.jrnCmd v pr) else none
  | .recd => s.recWrite off v pr
  | .sec => s.secWrite off v pr
  | .fw => if off = Reg.fw_FW_CMD then some (s.fwWrite v pr) else none
  | .hu => if off = Reg.hu_HU_CMD then some (if bit v 0 then s.huTest true pr else s) else none
  | .clk => if off = Reg.clk_RST_CMD then some (s.rstWrite v pr) else none
  | _ => none

/-- W1C bits of registers that show typed state: FAULT_INFO and TFAULT_INFO [15], SV_SSTAT [3]. -/
def State.flagWrite (s : State) (t : PageTy) (p off : Nat) (v : Word) : Option State :=
  match t with
  | .msCl => if off = Reg.ms_FAULT_INFO then some (if bit v 15 then s.setBit p off 15 false else s) else none
  | .msDma => if off = Reg.ms_FAULT_INFO then some (if bit v 15 then s.setBit p off 15 false else s) else none
  | .target => if off = Reg.tc_TFAULT_INFO then some (if bit v 15 then s.setBit p off 15 false else s) else none
  | .sv => if 0x400 ≤ off then some (if bit v 3 then s.svClear ((off - 0x400) / 4) else s) else none
  | _ => none

/-- A write of a register beyond the common layout, of a page that is not a unit frame. -/
def State.blockWrite (s : State) (t : PageTy) (p off : Nat) (v : Word) (pr : Priv) : State :=
  if !isReg t off then s.err p
  else if s.writeHeld t p off || s.relBad t p off v then s.err p
  else match s.cmdWrite t p off v pr with
    | some s => s
    | none => match s.flagWrite t p off v with
      | some s => s
      | none => match regDesc p off with
        | some d => s.storedWrite t p off d v
        | none => s

/-! ### The common layout -/

/-- INT_RAW bits cleared by writing 1 (R588). -/
def State.intClear (s : State) (p : Nat) (v : Word) : State := s.setReg p Reg.com_INT_RAW (s.reg p Reg.com_INT_RAW &&& ~~~v)

/-- INT_SET: bits outside INT_MASK have no effect (R588). -/
def State.intSet (s : State) (p : Nat) (v : Word) : State :=
  s.setReg p Reg.com_INT_RAW (s.reg p Reg.com_INT_RAW ||| (v &&& BitVec.ofNat 32 (intMaskOf p)))

/-- A write of QUOIN (R589): the key locks a page that holds RWL fields, any other value counts. -/
def State.quoin (s : State) (p : Nat) (v : Word) : State := if v = 0x9A7E#32 then s.lockQuoin p else s.err p

/-- A write of CTRL (R85, R184, R207, R277). -/
def State.ctrlWrite (s : State) (t : PageTy) (p : Nat) (v : Word) : State :=
  let s := match regDesc p Reg.com_CTRL with
    | some d => s.fieldWrite p Reg.com_CTRL d v
    | none => s
  match t with
  | .bell => if bit v 4 then s.clrMax else s
  | .region => if bit v 2 then s.clrStats (p - 0x30) else s
  | .proof => if bit v 0 then s.clrPeak else s
  | .pctrl => if bit v 0 then s.openClear else s
  | _ => s

/-- A write of a register of the common layout; RO registers keep their value. -/
def State.commonWrite (s : State) (t : PageTy) (p off : Nat) (v : Word) : State :=
  if off = Reg.com_CTRL then s.ctrlWrite t p v
  else if off = Reg.com_INT_RAW then s.intClear p v
  else if off = Reg.com_INT_EN then s.setReg p off (v &&& BitVec.ofNat 32 t.intMask)
  else if off = Reg.com_INT_SET then s.intSet p v
  else if off = Reg.com_QUOIN then s.quoin p v
  else if off = Reg.com_SCRATCH then s.setReg p off v
  else if isReg t off then s
  else s.err p

/-! ### Register accesses -/

/-- A 32-bit write at an offset of a page (R592). -/
def State.regWrite (s : State) (p off : Nat) (v : Word) (pr : Priv) : State :=
  if 0x20 ≤ p ∧ p < 0x30 ∧ off = Reg.unit_UNIT_SEL then s.unitSel (p - 0x20) (fieldNat v 0 2)
  else
    let q := s.shown p
    match pageTy q with
    | none => s
    | some t => if off < 0x040 then s.commonWrite t q off v else s.blockWrite t q off v pr

/-! ### Commands -/

/-- A command to a page that cannot be reached does nothing (R157, R592). -/
def State.onPage (s : State) (p : Nat) (f : Nat → State) : Res := .next (if s.pageOn p then f (s.shown p) else s)

/-- QUOIN (R589). -/
def execQuoin (page : Nat) (v : Word) (s : State) : Res := s.onPage page (fun q => s.quoin q v)

/-- INT_RAW (R588). -/
def execIntRaw (page : Nat) (v : Word) (s : State) : Res := s.onPage page (fun q => s.intClear q v)

/-- INT_SET (R588). -/
def execIntSet (page : Nat) (v : Word) (s : State) : Res := s.onPage page (fun q => s.intSet q v)

/-- CLR_ERRCNT (R591). -/
def execClrErrcnt (priv : Priv) (s : State) : Res := .next (s.clrErrcnt priv)

/-- Pages that take writes at P0 only (R191): the pages of protection and of the DMA checks. -/
def fixedPage (page : Nat) : Bool := decide (0x38 ≤ page ∧ page < 0x60)

/-- A write below P0 to a page that takes writes at P0 only is refused at the register pages with reason FIXED (R191, R197). Which cluster or DMA engine carried it the command does not say: a free value, notes/assumptions/57.md. -/
def State.fixedRefusal (s : State) (page off : Nat) (pr : Priv) : State :=
  let mid := (Config.freeWord s.freeCtr).toNat % 24
  ({ s with freeCtr := s.freeCtr + 1 }).targetRefusal 10 mid (s.bankOf mid) 5 0 (0x20000000 + page * 0x1000 + off) pr .write

/-- REGISTER_WRITE (R592): 8 bits (size 0), 16 (1), 32 (2) or 64 (3, two writes, lower offset first). -/
def execRegisterWrite (page off : Nat) (v : DWord) (size : BitVec 2) (priv : Priv) (s : State) : Res :=
  s.onPage page (fun q =>
    if priv ≠ .p0 ∧ fixedPage page = true then s.fixedRefusal page off priv
    else match size.toNat with
    | 2 => s.regWrite page off (v.extractLsb' 0 32) priv
    | 3 => (s.regWrite page off (v.extractLsb' 0 32) priv).regWrite page (off + 4) (v.extractLsb' 32 32) priv
    | _ => s.err q)

end Sys2Proof.Machine
end

