-- ==== Sys2Proof/Machine/Bus.lean ====
section
/-! DEFINITION. What an access that the checks have permitted does at its target: image windows, register pages, loop engine SRAM and stored words (R41, R43, R160, R171, R288, R592). -/

namespace Sys2Proof.Machine

/-- An entry of a window as its eight bytes spell it: value, status word, age (R43). -/
def entryNum (v : Word) (st : Half) (age : Nat) : Nat := v.toNat + st.toNat * 2 ^ 32 + age * 2 ^ 48

/-- The entry of the output working image that a master other than a cluster reads: a value written in this cycle from 16 CCLK after its issue, which is 6.4 TCLK, before that the previous one (R41, R107). -/
def State.workNow (s : State) (h : Nat) : Slot :=
  match s.imgLog.find? (fun w => w.handle == h && decide (32 ≤ 5 * (s.now - w.time))) with
  | some w => { value := w.value, status := w.status, since := some (cycNext s.bell.cycle) }
  | none => s.outCom h

/-- The entry at an offset of the image windows (R41). -/
def State.windowEntry (s : State) (off : Nat) : Nat :=
  let h := off % 0x80000 / 8
  match off / 0x80000 with
  | 0 => let e := s.inRead h; entryNum e.1 e.2.1 e.2.2
  | 1 => let x := s.workNow h; entryNum x.value x.status (outAge s.bell.cycle x)
  | _ => let x := s.formeSlot h; entryNum x.value x.status (ageOf s.bell.cycle x.since)

/-- `n` bytes of the image windows from offset `off`. -/
def State.windowBytes (s : State) (off : Nat) : Nat → List Byte
  | 0 => []
  | n + 1 => BitVec.ofNat 8 (s.windowEntry off >>> (off % 8 * 8)) :: s.windowBytes (off + 1) n

/-- Whether an address lies in the image windows, the register pages, the SRAM of a loop engine. -/
def inWindow (a : Nat) : Bool := decide (0x80000000 ≤ a ∧ a < 0x80180000)
def inPages (a : Nat) : Bool := decide (0x20000000 ≤ a ∧ a < 0x20140000)
def inLe (a : Nat) : Option Nat :=
  if 0x40000000 ≤ a ∧ a < 0x40200000 then some 0 else if 0x41000000 ≤ a ∧ a < 0x41200000 then some 1 else none

/-- Page and offset of an address of the register pages. -/
def pageOf (a : Nat) : Nat := (a - 0x20000000) / 0x1000

/-- Whether an address is populated (R157): a target holds it, and the power domain of its page is on (R592). -/
def State.populated (s : State) (a : Nat) : Bool := (targetOf a).isSome && !(inPages a && !s.pageOn (pageOf a))

/-- A read of `n` bytes within one register (R592): the state after its read effect and the bytes as a number. -/
def State.pageRead (s : State) (a n : Nat) : State × Nat :=
  let (s, v) := s.regRead (pageOf a) (a % 0x1000 / 4 * 4)
  (s, (v.toNat >>> (a % 4 * 8)) % 2 ^ (8 * n))

/-- A write of `n` bytes within one register: 8 and 16 bits have no effect and count (R592). -/
def State.pageWrite (s : State) (a n v : Nat) (pr : Priv) : State :=
  if n = 4 then s.regWrite (pageOf a) (a % 0x1000) (BitVec.ofNat 32 v) pr else s.err (s.shown (pageOf a))

/-- A read of `k` registers in a row, lower offset first (R592). -/
def State.pageReads (s : State) (a : Nat) : Nat → State × Nat
  | 0 => (s, 0)
  | k + 1 =>
    let (s, lo) := s.pageRead a 4
    let (s, hi) := s.pageReads (a + 4) k
    (s, lo + hi * 2 ^ 32)

/-- A write of `k` registers in a row, lower offset first (R592). -/
def State.pageWrites (s : State) (a v : Nat) (pr : Priv) : Nat → State
  | 0 => s
  | k + 1 => (s.pageWrite a 4 (v % 2 ^ 32) pr).pageWrites (a + 4) (v / 2 ^ 32) pr k

/-- A read of at most 16 bytes within a stored word, from any target; `src` is the source code of R183. The flag is false where the word cannot be returned (R172). -/
def State.busRead (s : State) (a n src : Nat) : State × Option Nat :=
  if inWindow a then
    let (s, ok) := s.eccRead a src
    (s, if ok then some (natLE (s.windowBytes (a - 0x80000000) n)) else none)
  else if inPages a then
    let (s, v) := if n < 4 then s.pageRead a n else s.pageReads a (n / 4)
    (s, some v)
  else
    let (s, ok) := s.eccRead a src
    (s, if ok then some (s.loadLE a n) else none)

/-- A write of at most 16 bytes within a stored word. `mark` is false for the writes of a migration map (R178). The flag is false where an uncorrectable word was left unchanged. -/
def State.busWrite (s : State) (a n v : Nat) (pr : Priv) (mark : Bool) : State × Bool :=
  if inPages a then
    (if n < 4 then s.pageWrite a n v pr else s.pageWrites a v pr (n / 4), true)
  else match inLe a with
    | some e =>
      let (s, ok) := s.leWrite e (a - leBase e) pr
      if ok then s.storeRaw a n v else (s, true)
    | none => if mark then s.store a n v else s.storeRaw a n v

end Sys2Proof.Machine
end

