-- ==== Sys2Proof/Machine/DmaOps.lean ====
section
/-! DEFINITION. The region DMA engines (R162, R178, R193 to R197). -/

namespace Sys2Proof.Machine

/-- DMA engine g. -/
def State.dmaEng (s : State) (g : Nat) : Dma := tget (fun _ => {}) s.dma g

/-- Replace a DMA engine. -/
def State.setDma (s : State) (g : Nat) (d : Dma) : State := { s with dma := tset (fun _ => {}) s.dma g d }

/-- The first address of a range, in steps of 64 bytes from its first line, that is unpopulated (R157, R592). -/
def State.firstHole (s : State) (a len : Nat) : Option Nat :=
  ((List.range ((a + len - 1) / 64 - a / 64 + 1)).map (fun i => max a ((a / 64 + i) * 64))).find? (fun x => !s.populated x)

/-- Whether a range keeps the line rule of DRAM (R162). -/
def dramOk (a len : Nat) : Bool := a < 0x400000000 || (a % 64 == 0 && len % 64 == 0)

/-- One range of a descriptor is checked at the master (R157, R193 to R195): the state after it and whether it is permitted. -/
def State.dmaCheck (s : State) (g : Nat) (pr : Priv) (o : AccOp) (a len : Nat) : State × Bool :=
  let p := Page.msDma g
  let mid := 0x10 + g
  let bank := s.bankOf mid
  match s.firstHole a len with
  | some x => (s.masterDenial p bank 4 0 (x / 64) a len pr o, false)
  | none =>
    match s.checkAccess p bank false 32 mid pr o a len with
    | some (reason, rule, line) => (s.masterDenial p bank reason rule line a len pr o, false)
    | none => (s, dramOk a len)

/-- The length of the next piece of a burst on one side: it stays in its 16-byte word, and in register pages in its register. -/
def pieceLen (a left : Nat) : Nat := min left (if inPages a then 4 - a % 4 else 16 - a % 16)

/-- The bytes of a burst are read, none where a word cannot be returned. -/
def State.dmaRead (s : State) (a : Nat) : Nat → Nat → State × Option (List Byte)
  | _, 0 => (s, some [])
  | 0, _ => (s, some [])
  | fuel + 1, left =>
    let n := pieceLen a left
    match s.busRead a n 1 with
    | (s, none) => (s, none)
    | (s, some v) =>
      match s.dmaRead (a + n) fuel (left - n) with
      | (s, l) => (s, l.map (bytesLE n v ++ ·))

/-- The bytes of a burst are written; the flag is false where a word that is written in part cannot be corrected. -/
def State.dmaWrite (s : State) (b : Nat) (pr : Priv) (mark : Bool) : Nat → List Byte → State × Bool
  | _, [] => (s, true)
  | 0, _ => (s, true)
  | fuel + 1, l =>
    let n := pieceLen b l.length
    match s.busWrite b n (natLE (l.take n)) pr mark with
    | (s, false) => (s, false)
    | (s, true) => s.dmaWrite (b + n) pr mark fuel (l.drop n)

/-- A burst moves: it is read as a whole before any byte is written, so a line of DRAM is never written in part (R162). The flag is false where a word cannot be returned. -/
def State.dmaMove (s : State) (a b : Nat) (pr : Priv) (mark : Bool) (n : Nat) : State × Bool :=
  match s.dmaRead a n n with
  | (s, none) => (s, false)
  | (s, some l) => s.dmaWrite b pr mark n l

/-- The bytes of the next burst: neither side leaves its 64-byte line, but a side in DRAM moves whole lines, which `dramOk` makes possible (R162): the other side may then cross a line (notes/assumptions/41.md). DESIGN CHOICE. -/
def burstLen (a b left : Nat) : Nat :=
  if 0x400000000 ≤ a ∨ 0x400000000 ≤ b then min left 64 else min left (min (64 - a % 64) (64 - b % 64))

/-- A descriptor's bursts (R194, R197): `done` bytes have moved. -/
def State.dmaBursts (s : State) (g : Nat) (pr : Priv) (mark : Bool) (a b done : Nat) : Nat → Nat → State
  | _, 0 => s.setDma g { stat := .done, moved := done }
  | 0, _ => s.setDma g { stat := .done, moved := done }
  | fuel + 1, left =>
    let n := burstLen a b left
    match s.targetCheck (0x10 + g) pr .read a n with
    | (s, false) => s.setDma g { stat := .targetAbort, moved := done }
    | (s, true) =>
      match s.targetCheck (0x10 + g) pr .write b n with
      | (s, false) => s.setDma g { stat := .targetAbort, moved := done }
      | (s, true) =>
        match s.dmaMove a b pr mark n with
        | (s, false) => s.setDma g { stat := .targetAbort, moved := done }
        | (s, true) => s.dmaBursts g pr mark (a + n) (b + n) (done + n) fuel (left - n)

/-- A descriptor (R194): both ranges are checked before any byte moves, under the new bank where a swap waits for this engine (R202); a length beyond 65,536 bytes fails it (R10). Where both ranges are denied, only the denial of the source counts and is latched: the manual does not say. DESIGN CHOICE: notes/assumptions/41.md. -/
def State.dmaRun (s : State) (g : Nat) (pr : Priv) (a b len : Nat) (mark : Bool) : State :=
  let s := s.drainAck (0x10 + g)
  if len = 0 then s.setDma g { stat := .done }
  else if 65536 < len then (s.discard (Page.region g) Reg.com_ERRCNT).setDma g { stat := .failed }
  else
    match s.dmaCheck g pr .read a len with
    | (s, false) => s.setDma g { stat := .failed }
    | (s, true) =>
      match s.dmaCheck g pr .write b len with
      | (s, false) => s.setDma g { stat := .failed }
      | (s, true) => s.dmaBursts g pr mark a b 0 len len

/-- DMA_DESCRIPTOR (R194) of engine g: source, destination, bytes, the privilege of the access that started it, and whether it belongs to a migration map (R178). -/
def execDmaDescriptor (g : Fin 8) (src dst : BitVec 40) (len : Word) (priv : Priv) (migr : Bool) (s : State) : Res :=
  .next (s.dmaRun g.val priv src.toNat dst.toNat len.toNat (!migr))

end Sys2Proof.Machine
end

