-- ==== Sys2Proof/Machine/Flags.lean ====
section
/-! DEFINITION. The flags of fl: VI of the integer rules (R100) and the IEEE 754 conditions (R92, R101). -/

namespace Sys2Proof.Machine

/-- VI set, sticky (R92). -/
def Core.setVI (c : Core) (v : Bool) : Core := if v then { c with fl := c.fl ||| 0x100#32 } else c

/-- The floating-point conditions set, sticky (R92, R101). -/
def Core.setFF (c : Core) (f : FFlags) : Core := { c with fl := c.fl ||| f.toWord }

/-- Whether a signed value does not fit w bits. -/
def overflows (w : Nat) (v : Int) : Bool := decide (v < -(2 ^ (w - 1)) ∨ 2 ^ (w - 1) ≤ v)

/-- Signed quotient truncated toward zero; the smallest value by −1 gives itself (R100). -/
def quotS {w : Nat} (a b : BitVec w) : BitVec w := BitVec.ofInt w (a.toInt.tdiv b.toInt)

/-- Signed remainder with the sign of the dividend; the smallest value by −1 gives 0 (R100). -/
def remS {w : Nat} (a b : BitVec w) : BitVec w := BitVec.ofInt w (a.toInt.tmod b.toInt)

/-- Count of leading zeros of the low k bits, by bits from the top. -/
def leadingZeros (v : Word) : Nat → Nat
  | 0 => 0
  | k + 1 => if bit v k then 0 else 1 + leadingZeros v k

/-- Count of ones in the low k bits. -/
def popCount (v : Word) : Nat → Nat
  | 0 => 0
  | k + 1 => (if bit v k then 1 else 0) + popCount v k

end Sys2Proof.Machine
end

