-- ==== Sys2Proof/Machine/IsaFloat.lean ====
section
/-! DEFINITION. Floating-point operations of chapter 3 (R99, R101). -/

namespace Sys2Proof.Machine

/-- The format of .S and .D. -/
def fmtOf (dbl : Bool) : FFmt := if dbl then f64 else f32

/-- An operand: a binary32 operation ignores bits [63:32] (R90). -/
def Core.fop (c : Core) (dbl : Bool) (r : BitVec 5) : Nat := if dbl then (c.freg r).toNat else fieldNat (c.freg r) 0 32

/-- A result with its flags: a binary32 operation writes 0 to bits [63:32] (R90). -/
def Core.setFRes (c : Core) (d : BitVec 5) (r : Nat × FFlags) : Core := (c.setF d (BitVec.ofNat 64 r.1)).setFF r.2

/-- The frame of a floating-point operation: fn even for .S, odd for .D. -/
def State.fpu (s : State) (n fn : Nat) (dbl : Bool) (d a b : BitVec 5) (legal : Bool) (cs cd : Nat) (f : FFmt → Core → Core) : Res :=
  s.isaReg n legal (wordR 2 d a b (fn + if dbl then 1 else 0)) (if dbl then cd else cs) (f (fmtOf dbl))

/-- fd from fa and fb. -/
def State.fpu2 (s : State) (n fn : Nat) (dbl : Bool) (d a b : BitVec 5) (cs cd : Nat) (f : FFmt → Nat → Nat → Nat × FFlags) : Res :=
  s.fpu n fn dbl d a b true cs cd (fun m c => c.setFRes d (f m (c.fop dbl a) (c.fop dbl b)))

/-- fd from fa; the b field is not used. -/
def State.fpu1 (s : State) (n fn : Nat) (dbl : Bool) (d a b : BitVec 5) (cs cd : Nat) (f : FFmt → Nat → Nat × FFlags) : Res :=
  s.fpu n fn dbl d a b (b == 0#5) cs cd (fun m c => c.setFRes d (f m (c.fop dbl a)))

/-- A compare: 1 or 0 to gd. -/
def State.fcompare (s : State) (n fn : Nat) (dbl : Bool) (d a b : BitVec 5) (f : FFmt → Nat → Nat → Bool × FFlags) : Res :=
  s.fpu n fn dbl d a b true 2 2 (fun m c =>
    let r := f m (c.fop dbl a) (c.fop dbl b)
    (c.setG d (ofBool 32 r.1)).setFF r.2)

/-- FADD: fa + fb, rounded to nearest, ties to even (R101). -/
def execFadd (n : Fin 16) (dbl : Bool) (d a b : BitVec 5) (s : State) : Res :=
  s.fpu2 n 0 dbl d a b 3 4 fadd

/-- FSUB: fa − fb, rounded to nearest, ties to even (R101). -/
def execFsub (n : Fin 16) (dbl : Bool) (d a b : BitVec 5) (s : State) : Res :=
  s.fpu2 n 2 dbl d a b 3 4 fsub

/-- FMUL: fa × fb, rounded to nearest, ties to even (R101). -/
def execFmul (n : Fin 16) (dbl : Bool) (d a b : BitVec 5) (s : State) : Res :=
  s.fpu2 n 4 dbl d a b 3 4 fmul

/-- FDIV: fa ÷ fb, rounded to nearest, ties to even (R101). -/
def execFdiv (n : Fin 16) (dbl : Bool) (d a b : BitVec 5) (s : State) : Res :=
  s.fpu2 n 6 dbl d a b 12 22 fdiv

/-- FSQRT: square root; the b field is not used. -/
def execFsqrt (n : Fin 16) (dbl : Bool) (d a b : BitVec 5) (s : State) : Res :=
  s.fpu1 n 0x008 dbl d a b 14 26 fsqrt

/-- FMADD: fd = fa × fb + fd with one rounding (R101). -/
def execFmadd (n : Fin 16) (dbl : Bool) (d a b : BitVec 5) (s : State) : Res :=
  s.fpu n 0x00A dbl d a b true 4 5 (fun m c => c.setFRes d (ffma m (c.fop dbl a) (c.fop dbl b) (c.fop dbl d)))

/-- FMIN: smaller operand (R101). -/
def execFmin (n : Fin 16) (dbl : Bool) (d a b : BitVec 5) (s : State) : Res :=
  s.fpu2 n 0x00C dbl d a b 1 1 (fun m => fminmax m true)

/-- FMAX: larger operand (R101). -/
def execFmax (n : Fin 16) (dbl : Bool) (d a b : BitVec 5) (s : State) : Res :=
  s.fpu2 n 0x00E dbl d a b 1 1 (fun m => fminmax m false)

/-- FABS: clears the sign bit, no flag (R101). -/
def execFabs (n : Fin 16) (dbl : Bool) (d a b : BitVec 5) (s : State) : Res :=
  s.fpu1 n 0x010 dbl d a b 1 1 (fun m x => (x % 2 ^ m.signPos, FFlags.none))

/-- FNEG: inverts the sign bit, no flag (R101). -/
def execFneg (n : Fin 16) (dbl : Bool) (d a b : BitVec 5) (s : State) : Res :=
  s.fpu1 n 0x012 dbl d a b 1 1 (fun m x => (x ^^^ 2 ^ m.signPos, FFlags.none))

/-- FEQ: gd = 1 if fa = fb. -/
def execFeq (n : Fin 16) (dbl : Bool) (d a b : BitVec 5) (s : State) : Res :=
  s.fcompare n 0x014 dbl d a b feq

/-- FLT: gd = 1 if fa < fb. -/
def execFlt (n : Fin 16) (dbl : Bool) (d a b : BitVec 5) (s : State) : Res :=
  s.fcompare n 0x016 dbl d a b (fun m => fcmp m false)

/-- FLE: gd = 1 if fa ≤ fb. -/
def execFle (n : Fin 16) (dbl : Bool) (d a b : BitVec 5) (s : State) : Res :=
  s.fcompare n 0x018 dbl d a b (fun m => fcmp m true)

/-- FCVT.S.D: binary64 to binary32. -/
def execFcvtSD (n : Fin 16) (d a b : BitVec 5) (s : State) : Res :=
  s.isaReg n (b == 0#5) (wordR 2 d a b 0x040) 3 (fun c => c.setFRes d (fcvt f64 f32 (c.fop true a)))

/-- FCVT.D.S: binary32 to binary64. -/
def execFcvtDS (n : Fin 16) (d a b : BitVec 5) (s : State) : Res :=
  s.isaReg n (b == 0#5) (wordR 2 d a b 0x041) 3 (fun c => c.setFRes d (fcvt f32 f64 (c.fop false a)))

/-- FCVT.F.W: signed 32-bit integer to float. -/
def execFcvtFW (n : Fin 16) (dbl : Bool) (d a b : BitVec 5) (s : State) : Res :=
  s.fpu n 0x042 dbl d a b (b == 0#5) 3 3 (fun m c => c.setFRes d (fOfInt m (c.greg a).toInt))

/-- FCVT.W.F: float to signed 32-bit integer, nearest. -/
def execFcvtWF (n : Fin 16) (dbl : Bool) (d a b : BitVec 5) (s : State) : Res :=
  s.fpu n 0x044 dbl d a b (b == 0#5) 3 3 (fun m c =>
    let r := fToInt m 32 false (c.fop dbl a)
    (c.setG d (BitVec.ofInt 32 r.1)).setFF r.2)

/-- FTRNC.W.F: float to signed 32-bit integer, toward zero. -/
def execFtrncWF (n : Fin 16) (dbl : Bool) (d a b : BitVec 5) (s : State) : Res :=
  s.fpu n 0x046 dbl d a b (b == 0#5) 3 3 (fun m c =>
    let r := fToInt m 32 true (c.fop dbl a)
    (c.setG d (BitVec.ofInt 32 r.1)).setFF r.2)

/-- FCVT.F.L: signed 64-bit pair to float. -/
def execFcvtFL (n : Fin 16) (dbl : Bool) (d a b : BitVec 5) (s : State) : Res :=
  s.fpu n 0x048 dbl d a b (b == 0#5 && evenReg a) 4 4 (fun m c => c.setFRes d (fOfInt m (c.pair a).toInt))

/-- FCVT.L.F: float to signed 64-bit pair, nearest. -/
def execFcvtLF (n : Fin 16) (dbl : Bool) (d a b : BitVec 5) (s : State) : Res :=
  s.fpu n 0x04A dbl d a b (b == 0#5 && evenReg d) 4 4 (fun m c =>
    let r := fToInt m 64 false (c.fop dbl a)
    (c.setPair d (BitVec.ofInt 64 r.1)).setFF r.2)

/-- FMV.F.G: fd[31:0] = ga, fd[63:32] = 0. -/
def execFmvFG (n : Fin 16) (d a b : BitVec 5) (s : State) : Res :=
  s.isaReg n (b == 0#5) (wordR 2 d a b 0x060) 1 (fun c => c.setF d ((c.greg a).zeroExtend 64))

/-- FMV.G.F: gd = fa[31:0]. -/
def execFmvGF (n : Fin 16) (d a b : BitVec 5) (s : State) : Res :=
  s.isaReg n (b == 0#5) (wordR 2 d a b 0x061) 1 (fun c => c.setG d ((c.freg a).extractLsb' 0 32))

/-- FMV.F.P: fd = pair ga. -/
def execFmvFP (n : Fin 16) (d a b : BitVec 5) (s : State) : Res :=
  s.isaReg n (b == 0#5 && evenReg a) (wordR 2 d a b 0x062) 1 (fun c => c.setF d (c.pair a))

/-- FMV.P.F: pair gd = fa. -/
def execFmvPF (n : Fin 16) (d a b : BitVec 5) (s : State) : Res :=
  s.isaReg n (b == 0#5 && evenReg d) (wordR 2 d a b 0x063) 1 (fun c => c.setPair d (c.freg a))

end Sys2Proof.Machine
end

