-- ==== Sys2Proof/Machine/IsaFlow.lean ====
section
/-! DEFINITION. Branches, jumps, address formation and the stack pointer of chapter 3 (R97, R99, R102, R117). -/

namespace Sys2Proof.Machine

/-- A branch of format B: 2 CCLK whether or not it is taken. -/
def State.branch (s : State) (n : Nat) (disp : Half) (taken : Core → Bool) : Res :=
  s.isa n id (fun s c => .jump s c (if taken c then target c.ip disp else c.ip + 4#32) 2)

/-- The base of an address (R102). -/
def Core.base (c : Core) (bs : BitVec 2) : Word :=
  if bs = 0#2 then 0#32 else if bs = 1#2 then c.ib else if bs = 2#2 then c.lb else c.sp

/-- base + ga + off14 × size modulo 2³² (R102). -/
def Core.ea (c : Core) (a : BitVec 5) (bs : BitVec 2) (off : BitVec 14) (size : Nat) : Word :=
  c.base bs + c.greg a + BitVec.ofNat 32 (off.toNat * size)

/-- Whether sp may become sp − k: the exact difference is at least stklim (R115, R117). -/
def Core.stackOk (c : Core) (k : Nat) : Bool := decide (c.stklim.toNat + k ≤ c.sp.toNat)

/-- BEQ: branch if ga = gb. -/
def execBeq (n : Fin 16) (a b : BitVec 5) (disp : BitVec 16) (s : State) : Res :=
  s.branch n disp (fun c => c.greg a == c.greg b)

/-- BNE: branch if ga ≠ gb. -/
def execBne (n : Fin 16) (a b : BitVec 5) (disp : BitVec 16) (s : State) : Res :=
  s.branch n disp (fun c => c.greg a != c.greg b)

/-- BLT: branch if ga < gb signed. -/
def execBlt (n : Fin 16) (a b : BitVec 5) (disp : BitVec 16) (s : State) : Res :=
  s.branch n disp (fun c => decide ((c.greg a).toInt < (c.greg b).toInt))

/-- BGE: branch if ga ≥ gb signed. -/
def execBge (n : Fin 16) (a b : BitVec 5) (disp : BitVec 16) (s : State) : Res :=
  s.branch n disp (fun c => decide ((c.greg b).toInt ≤ (c.greg a).toInt))

/-- BLTU: branch if ga < gb unsigned. -/
def execBltu (n : Fin 16) (a b : BitVec 5) (disp : BitVec 16) (s : State) : Res :=
  s.branch n disp (fun c => decide ((c.greg a).toNat < (c.greg b).toNat))

/-- BGEU: branch if ga ≥ gb unsigned. -/
def execBgeu (n : Fin 16) (a b : BitVec 5) (disp : BitVec 16) (s : State) : Res :=
  s.branch n disp (fun c => decide ((c.greg b).toNat ≤ (c.greg a).toNat))

/-- BBS: branch if ga[k] = 1, k the b field. -/
def execBbs (n : Fin 16) (a b : BitVec 5) (disp : BitVec 16) (s : State) : Res :=
  s.branch n disp (fun c => bit (c.greg a) b.toNat)

/-- BBC: branch if ga[k] = 0, k the b field. -/
def execBbc (n : Fin 16) (a b : BitVec 5) (disp : BitVec 16) (s : State) : Res :=
  s.branch n disp (fun c => !bit (c.greg a) b.toNat)

/-- JMP: jump to the address of the instruction plus disp × 4 (R97). -/
def execJmp (n : Fin 16) (disp : BitVec 26) (s : State) : Res :=
  s.isa n id (fun s c => .jump s c (target c.ip disp) 2)

/-- JR: ip = ga; the other fields are not used (R98). A target that is not a multiple of 4 faults at its fetch (R122). -/
def execJr (n : Fin 16) (d a b : BitVec 5) (fn : BitVec 11) (s : State) : Res :=
  s.isa n id (fun s c =>
    if d == 0#5 && b == 0#5 && fn == 0#11 then .jump s c (c.greg a) 2 else .exc s .illegal (wordR 0x29 d a b fn.toNat))

/-- LEAI: gd = base + ga + off14 × 64, no access (R102). -/
def execLeai (n : Fin 16) (d a : BitVec 5) (bs : BitVec 2) (off : BitVec 14) (s : State) : Res :=
  s.isaReg n true (wordM 0x1E d a bs off) 1 (fun c => c.setG d (c.ea a bs off 64))

/-- ENTER n: sp = sp − n × 16; n = 0xFFFF is illegal; STACK with sp unchanged below stklim (R117). -/
def execEnter (n : Fin 16) (d a : BitVec 5) (imm : BitVec 16) (s : State) : Res :=
  s.isa n id (fun s c =>
    if d ≠ 0#5 ∨ a ≠ 0#5 ∨ imm = 0xFFFF#16 then .exc s .illegal (wordI 0x30 d a imm)
    else
      let sp := c.sp - BitVec.ofNat 32 (imm.toNat * 16)
      if c.stackOk (imm.toNat * 16) then .ok s { c with sp := sp } 1 else .exc s .stack sp)

end Sys2Proof.Machine
end

