-- ==== Sys2Proof/Machine/IsaInt.lean ====
section
/-! DEFINITION. Integer, immediate, pair, bit and edge operations of chapter 3 (R99, R100). -/

namespace Sys2Proof.Machine

/-- An operation of format R on general registers: the result and whether VI is set. `b` is a register. -/
def State.alu (s : State) (n : Nat) (op fn : Nat) (d a b : BitVec 5) (legal : Bool) (cclk : Nat) (f : Word → Word → Word × Bool) : Res :=
  s.isaReg n legal (wordR op d a b fn) cclk (fun c => let r := f (c.greg a) (c.greg b); (c.setG d r.1).setVI r.2)

/-- As `alu` without a flag. -/
def State.alu' (s : State) (n : Nat) (op fn : Nat) (d a b : BitVec 5) (legal : Bool) (cclk : Nat) (f : Word → Word → Word) : Res :=
  s.alu n op fn d a b legal cclk (fun x y => (f x y, false))

/-- A shift by a count in the b field. -/
def State.shiftImm (s : State) (n : Nat) (fn : Nat) (d a b : BitVec 5) (f : Word → Nat → Word) : Res :=
  s.isaReg n true (wordR 0 d a b fn) 1 (fun c => c.setG d (f (c.greg a) b.toNat))

/-- A division: DIVZ for a divisor of 0, the destination unchanged (R100). -/
def State.divide (s : State) (n : Nat) (fn : Nat) (d a b : BitVec 5) (f : Word → Word → Word × Bool) : Res :=
  let w := wordR 0 d a b fn
  s.isa n (fun c => c.setG d 0#32) (fun s c =>
    if c.greg b = 0#32 then .exc s .divz w
    else let r := f (c.greg a) (c.greg b); .ok s ((c.setG d r.1).setVI r.2) 18)

/-- An immediate operation of format I. -/
def State.aluImm (s : State) (n : Nat) (op : Nat) (d a : BitVec 5) (imm : Half) (legal : Bool) (f : Word → Half → Word × Bool) : Res :=
  s.isaReg n legal (wordI op d a imm) 1 (fun c => let r := f (c.greg a) imm; (c.setG d r.1).setVI r.2)

/-- Whether the three register fields of a pair operation name pairs (R90). -/
def pairs3 (d a b : BitVec 5) : Bool := evenReg d && evenReg a && evenReg b

/-- An operation on pairs. -/
def State.aluPair (s : State) (n : Nat) (fn : Nat) (d a b : BitVec 5) (cclk : Nat) (f : DWord → DWord → DWord × Bool) : Res :=
  s.isaReg n (pairs3 d a b) (wordR 1 d a b fn) cclk (fun c => let r := f (c.pair a) (c.pair b); (c.setPair d r.1).setVI r.2)

/-- A pair operation whose b field is a register with a shift count in [5:0]. -/
def State.shiftPair (s : State) (n : Nat) (fn : Nat) (d a b : BitVec 5) (f : DWord → Nat → DWord) : Res :=
  s.aluPair n fn d a b 2 (fun x y => (f x (fieldNat y 0 6), false))

/-- A division of pairs. -/
def State.dividePair (s : State) (n : Nat) (fn : Nat) (d a b : BitVec 5) (f : DWord → DWord → DWord × Bool) : Res :=
  let w := wordR 1 d a b fn
  s.isa n (fun c => c.setPair d 0#64) (fun s c =>
    if !pairs3 d a b then .exc s .illegal w
    else if c.pair b = 0#64 then .exc s .divz w
    else let r := f (c.pair a) (c.pair b); .ok s ((c.setPair d r.1).setVI r.2) 36)

/-- 1 or 0. -/
def truth {w : Nat} (p : Prop) [Decidable p] : BitVec w := if p then 1 else 0

/-- VI of a quotient: the smallest value by −1 (R100). -/
def quotVI {w : Nat} (a b : BitVec w) : Bool := overflows w (a.toInt.tdiv b.toInt)

/-- ADD: gd = ga + gb, VI when the signed result does not fit (R100). -/
def execAdd (n : Fin 16) (d a b : BitVec 5) (s : State) : Res :=
  s.alu n 0 0 d a b true 1 (fun x y => (x + y, overflows 32 (x.toInt + y.toInt)))

/-- SUB: gd = ga - gb, VI when the signed result does not fit (R100). -/
def execSub (n : Fin 16) (d a b : BitVec 5) (s : State) : Res :=
  s.alu n 0 1 d a b true 1 (fun x y => (x - y, overflows 32 (x.toInt - y.toInt)))

/-- AND: bitwise and (R99). -/
def execAnd (n : Fin 16) (d a b : BitVec 5) (s : State) : Res :=
  s.alu' n 0 2 d a b true 1 (fun x y => x &&& y)

/-- OR: bitwise or (R99). -/
def execOr (n : Fin 16) (d a b : BitVec 5) (s : State) : Res :=
  s.alu' n 0 3 d a b true 1 (fun x y => x ||| y)

/-- XOR: bitwise exclusive or (R99). -/
def execXor (n : Fin 16) (d a b : BitVec 5) (s : State) : Res :=
  s.alu' n 0 4 d a b true 1 (fun x y => x ^^^ y)

/-- SHL: shift left by gb[4:0] (R99). -/
def execShl (n : Fin 16) (d a b : BitVec 5) (s : State) : Res :=
  s.alu' n 0 5 d a b true 1 (fun x y => x <<< fieldNat y 0 5)

/-- SHR: logical shift right by gb[4:0] (R99). -/
def execShr (n : Fin 16) (d a b : BitVec 5) (s : State) : Res :=
  s.alu' n 0 6 d a b true 1 (fun x y => x >>> fieldNat y 0 5)

/-- SAR: arithmetic shift right by gb[4:0] (R99). -/
def execSar (n : Fin 16) (d a b : BitVec 5) (s : State) : Res :=
  s.alu' n 0 7 d a b true 1 (fun x y => x.sshiftRight (fieldNat y 0 5))

/-- SLT: 1 if ga < gb signed, else 0 (R99). -/
def execSlt (n : Fin 16) (d a b : BitVec 5) (s : State) : Res :=
  s.alu' n 0 8 d a b true 1 (fun x y => truth (x.toInt < y.toInt))

/-- SLTU: 1 if ga < gb unsigned, else 0 (R99). -/
def execSltu (n : Fin 16) (d a b : BitVec 5) (s : State) : Res :=
  s.alu' n 0 9 d a b true 1 (fun x y => truth (x.toNat < y.toNat))

/-- MUL: low 32 bits of the product, VI when the signed product does not fit (R100). -/
def execMul (n : Fin 16) (d a b : BitVec 5) (s : State) : Res :=
  s.alu n 0 0x00A d a b true 3 (fun x y => (x * y, overflows 32 (x.toInt * y.toInt)))

/-- MULH: high 32 bits of the signed product. -/
def execMulh (n : Fin 16) (d a b : BitVec 5) (s : State) : Res :=
  s.alu' n 0 0x00B d a b true 3 (fun x y => BitVec.ofInt 32 ((x.toInt * y.toInt) / 2 ^ 32))

/-- MULHU: high 32 bits of the unsigned product. -/
def execMulhu (n : Fin 16) (d a b : BitVec 5) (s : State) : Res :=
  s.alu' n 0 0x00C d a b true 3 (fun x y => BitVec.ofNat 32 (x.toNat * y.toNat / 2 ^ 32))

/-- DIV: signed quotient, truncated toward zero (R100). -/
def execDiv (n : Fin 16) (d a b : BitVec 5) (s : State) : Res :=
  s.divide n 0x00D d a b (fun x y => (quotS x y, quotVI x y))

/-- DIVU: unsigned quotient. -/
def execDivu (n : Fin 16) (d a b : BitVec 5) (s : State) : Res :=
  s.divide n 0x00E d a b (fun x y => (x / y, false))

/-- MOD: signed remainder with the sign of ga. -/
def execMod (n : Fin 16) (d a b : BitVec 5) (s : State) : Res :=
  s.divide n 0x00F d a b (fun x y => (remS x y, false))

/-- MODU: unsigned remainder. -/
def execModu (n : Fin 16) (d a b : BitVec 5) (s : State) : Res :=
  s.divide n 0x010 d a b (fun x y => (x % y, false))

/-- SEXB: ga[7:0] sign-extended; the b field is not used (R98). -/
def execSexb (n : Fin 16) (d a b : BitVec 5) (s : State) : Res :=
  s.alu' n 0 0x011 d a b (b == 0#5) 1 (fun x _ => (x.extractLsb' 0 8).signExtend 32)

/-- SEXH: ga[15:0] sign-extended. -/
def execSexh (n : Fin 16) (d a b : BitVec 5) (s : State) : Res :=
  s.alu' n 0 0x012 d a b (b == 0#5) 1 (fun x _ => (x.extractLsb' 0 16).signExtend 32)

/-- SHLI: shift left by the b field. -/
def execShli (n : Fin 16) (d a b : BitVec 5) (s : State) : Res :=
  s.shiftImm n 0x020 d a b (fun x k => x <<< k)

/-- SHRI: logical shift right by the b field. -/
def execShri (n : Fin 16) (d a b : BitVec 5) (s : State) : Res :=
  s.shiftImm n 0x021 d a b (fun x k => x >>> k)

/-- SARI: arithmetic shift right by the b field. -/
def execSari (n : Fin 16) (d a b : BitVec 5) (s : State) : Res :=
  s.shiftImm n 0x022 d a b (fun x k => x.sshiftRight k)

/-- ADDI: gd = ga + imm sign-extended, with VI. -/
def execAddi (n : Fin 16) (d a : BitVec 5) (imm : BitVec 16) (s : State) : Res :=
  s.aluImm n 0x08 d a imm true (fun x i => (x + i.signExtend 32, overflows 32 (x.toInt + i.toInt)))

/-- ANDI: gd = ga and imm zero-extended. -/
def execAndi (n : Fin 16) (d a : BitVec 5) (imm : BitVec 16) (s : State) : Res :=
  s.aluImm n 0x09 d a imm true (fun x i => (x &&& i.zeroExtend 32, false))

/-- ORI: gd = ga or imm zero-extended. -/
def execOri (n : Fin 16) (d a : BitVec 5) (imm : BitVec 16) (s : State) : Res :=
  s.aluImm n 0x0A d a imm true (fun x i => (x ||| i.zeroExtend 32, false))

/-- XORI: gd = ga xor imm zero-extended. -/
def execXori (n : Fin 16) (d a : BitVec 5) (imm : BitVec 16) (s : State) : Res :=
  s.aluImm n 0x0B d a imm true (fun x i => (x ^^^ i.zeroExtend 32, false))

/-- SLTI: 1 if ga < imm signed. -/
def execSlti (n : Fin 16) (d a : BitVec 5) (imm : BitVec 16) (s : State) : Res :=
  s.aluImm n 0x0C d a imm true (fun x i => (truth (x.toInt < i.toInt), false))

/-- SLTIU: 1 if ga < the sign-extended imm as unsigned. -/
def execSltiu (n : Fin 16) (d a : BitVec 5) (imm : BitVec 16) (s : State) : Res :=
  s.aluImm n 0x0D d a imm true (fun x i => (truth (x.toNat < (i.signExtend 32 : Word).toNat), false))

/-- LUI: gd = imm × 65,536; the a field is not used (R98). -/
def execLui (n : Fin 16) (d a : BitVec 5) (imm : BitVec 16) (s : State) : Res :=
  s.aluImm n 0x0E d a imm (a == 0#5) (fun _ i => (i.zeroExtend 32 <<< 16, false))

/-- ADDL: 64-bit add of pairs, with VI (R100). -/
def execAddl (n : Fin 16) (d a b : BitVec 5) (s : State) : Res :=
  s.aluPair n 0 d a b 2 (fun x y => (x + y, overflows 64 (x.toInt + y.toInt)))

/-- SUBL: 64-bit subtract of pairs, with VI (R100). -/
def execSubl (n : Fin 16) (d a b : BitVec 5) (s : State) : Res :=
  s.aluPair n 1 d a b 2 (fun x y => (x - y, overflows 64 (x.toInt - y.toInt)))

/-- MULL: low 64 bits of the product, with VI. -/
def execMull (n : Fin 16) (d a b : BitVec 5) (s : State) : Res :=
  s.aluPair n 2 d a b 6 (fun x y => (x * y, overflows 64 (x.toInt * y.toInt)))

/-- DIVL: signed quotient of pairs. -/
def execDivl (n : Fin 16) (d a b : BitVec 5) (s : State) : Res :=
  s.dividePair n 3 d a b (fun x y => (quotS x y, quotVI x y))

/-- DIVLU: unsigned quotient of pairs. -/
def execDivlu (n : Fin 16) (d a b : BitVec 5) (s : State) : Res :=
  s.dividePair n 4 d a b (fun x y => (x / y, false))

/-- MODL: signed remainder of pairs, with the sign of the dividend. -/
def execModl (n : Fin 16) (d a b : BitVec 5) (s : State) : Res :=
  s.dividePair n 5 d a b (fun x y => (remS x y, false))

/-- MODLU: unsigned remainder of pairs. -/
def execModlu (n : Fin 16) (d a b : BitVec 5) (s : State) : Res :=
  s.dividePair n 6 d a b (fun x y => (x % y, false))

/-- SHLL: shift left by gb[5:0]. -/
def execShll (n : Fin 16) (d a b : BitVec 5) (s : State) : Res :=
  s.shiftPair n 7 d a b (fun x k => x <<< k)

/-- SHRL: logical shift right by gb[5:0]. -/
def execShrl (n : Fin 16) (d a b : BitVec 5) (s : State) : Res :=
  s.shiftPair n 8 d a b (fun x k => x >>> k)

/-- SARL: arithmetic shift right by gb[5:0]. -/
def execSarl (n : Fin 16) (d a b : BitVec 5) (s : State) : Res :=
  s.shiftPair n 9 d a b (fun x k => x.sshiftRight k)

/-- SLTL: pair gd = 1 if ga < gb signed, else 0. -/
def execSltl (n : Fin 16) (d a b : BitVec 5) (s : State) : Res :=
  s.aluPair n 0x00A d a b 2 (fun x y => (truth (x.toInt < y.toInt), false))

/-- SLTLU: as SLTL, unsigned. -/
def execSltlu (n : Fin 16) (d a b : BitVec 5) (s : State) : Res :=
  s.aluPair n 0x00B d a b 2 (fun x y => (truth (x.toNat < y.toNat), false))

/-- Whether fn of BEXT and BINS is legal: fn[10] is 0 and p + n does not exceed 32. -/
def bitFieldOk (fn : BitVec 11) : Bool := !bit fn 10 && decide (fieldNat fn 0 5 + (fieldNat fn 5 5 + 1) ≤ 32)

/-- BEXT: gd = ga[p+n−1:p], zero-extended; the b field is not used. -/
def execBext (n : Fin 16) (d a b : BitVec 5) (fn : BitVec 11) (s : State) : Res :=
  s.isaReg n (b == 0#5 && bitFieldOk fn) (wordR 3 d a b fn.toNat) 1
    (fun c => c.setG d (BitVec.ofNat 32 (fieldNat (c.greg a) (fieldNat fn 0 5) (fieldNat fn 5 5 + 1))))

/-- BINS: gd[p+n−1:p] = ga[n−1:0], other bits of gd kept. -/
def execBins (n : Fin 16) (d a b : BitVec 5) (fn : BitVec 11) (s : State) : Res :=
  s.isaReg n (b == 0#5 && bitFieldOk fn) (wordR 4 d a b fn.toNat) 1
    (fun c => c.setG d (setField (c.greg d) (fieldNat fn 0 5) (fieldNat fn 5 5 + 1) (c.greg a).toNat))

/-- BSETI: ga with bit k, the b field, set. -/
def execBseti (n : Fin 16) (d a b : BitVec 5) (s : State) : Res :=
  s.isaReg n true (wordR 5 d a b 0) 1 (fun c => c.setG d (c.greg a ||| (1#32 <<< b.toNat)))

/-- BCLRI: ga with bit k cleared. -/
def execBclri (n : Fin 16) (d a b : BitVec 5) (s : State) : Res :=
  s.isaReg n true (wordR 5 d a b 1) 1 (fun c => c.setG d (c.greg a &&& ~~~(1#32 <<< b.toNat)))

/-- CLZ: count of leading zeros of ga. -/
def execClz (n : Fin 16) (d a b : BitVec 5) (s : State) : Res :=
  s.alu' n 5 2 d a b (b == 0#5) 1 (fun x _ => BitVec.ofNat 32 (leadingZeros x 32))

/-- POPC: count of ones of ga. -/
def execPopc (n : Fin 16) (d a b : BitVec 5) (s : State) : Res :=
  s.alu' n 5 3 d a b (b == 0#5) 1 (fun x _ => BitVec.ofNat 32 (popCount x 32))

/-- RISE: ga and not gb. -/
def execRise (n : Fin 16) (d a b : BitVec 5) (s : State) : Res :=
  s.alu' n 5 4 d a b true 1 (fun x y => x &&& ~~~y)

/-- FALL: not ga and gb. -/
def execFall (n : Fin 16) (d a b : BitVec 5) (s : State) : Res :=
  s.alu' n 5 5 d a b true 1 (fun x y => ~~~x &&& y)

end Sys2Proof.Machine
end

