-- ==== Sys2Proof/Machine/IsaSys.lean ====
section
/-! DEFINITION. Image, journal, mailbox, barrier, time and special-register instructions of chapter 3 (R91, R95, R105 to R114). -/

namespace Sys2Proof.Machine

/-! ### The image (R105 to R107) -/

/-- The handle ga + imm16, imm16 unsigned; the sum is not wrapped at 2^32, and an exception takes its low 32 bits: DESIGN CHOICE, notes/assumptions/59.md. -/
def imgHandle (c : Core) (a : BitVec 5) (imm : Half) : Nat := (c.greg a).toNat + imm.toNat

/-- The registers after a read of an entry: value in gd, age and status in g(d+1); with d = 0 the value is discarded (R105). -/
def Core.setEntry (c : Core) (d : BitVec 5) (v : Word) (st : Half) (age : Nat) : Core :=
  (c.setG d v).setG (d + 1#5) (BitVec.ofNat 32 (age * 2 ^ 16 + st.toNat))

/-- A read of the image window at `win`: 40 CCLK. Where a check denies it, it raises ACCESS with the address (R122, R192): DEDUCED, notes/assumptions/56.md. The stored word is corrected on its way; one that cannot be stops the module (R171, R172). -/
def State.imgRead (s : State) (n win : Nat) (op : Nat) (d a : BitVec 5) (imm : Half) (f : State → Core → Nat → Word × Half × Nat) : Res :=
  s.isa n id (fun s c =>
    if !evenReg d then .exc s .illegal (wordI op d a imm)
    else if 0xFFFF < imgHandle c a imm then .exc s .imghandle (BitVec.ofNat 32 (imgHandle c a imm))
    else
      match s.imgAccess n c.priv .read (win + imgHandle c a imm * 8) with
      | (s, false) => .exc s .access (BitVec.ofNat 32 (win + imgHandle c a imm * 8))
      | (s, true) =>
        match s.eccRead (win + imgHandle c a imm * 8) 0 with
        | (s, false) => .halt s
        | (s, true) =>
          let (v, st, age) := f s c (imgHandle c a imm)
          .ok s (c.setEntry d v st age) 40)

/-- What a cluster reads of an output in the working window: its own write at once, another cluster's 16 CCLK after its issue, else the entry's previous value (R107). -/
def State.workSlot (s : State) (n ct h : Nat) : Slot :=
  match s.imgLog.find? (fun w => w.handle == h && (w.cluster == n || decide (w.ct + 16 ≤ ct))) with
  | some w => { value := w.value, status := w.status, since := some (cycNext s.bell.cycle) }
  | none => s.outCom h

/-- IMGRDI (R105). -/
def execImgrdi (n : Fin 16) (d a : BitVec 5) (imm : BitVec 16) (s : State) : Res :=
  s.imgRead n 0x80000000 0x34 d a imm (fun s _ h => s.inRead h)

/-- IMGRDW (R105, R107). -/
def execImgrdw (n : Fin 16) (d a : BitVec 5) (imm : BitVec 16) (s : State) : Res :=
  s.imgRead n 0x80080000 0x35 d a imm (fun s c h =>
    let x := s.workSlot n c.ct.toNat h
    (x.value, x.status, outAge s.bell.cycle x))

/-- IMGRDF (R105). -/
def execImgrdf (n : Fin 16) (d a : BitVec 5) (imm : BitVec 16) (s : State) : Res :=
  s.imgRead n 0x80100000 0x36 d a imm (fun s _ h =>
    let x := s.formeSlot h
    (x.value, x.status, ageOf s.bell.cycle x.since))

/-- The status word that IMGWR stores of gq [15:0]: CLASS 0x7, FORCED clear, QUAL 0b11 as 0b10 (R106). -/
def imgwrStatus (q : Word) : Half :=
  let st : Half := ((q.extractLsb' 0 16) &&& 0xEF0F#16) ||| 0x0070#16
  if stQual st = 3 then st &&& 0xBFFF#16 else st

/-- IMGWR's effect: the entry, the time of the write, its dirty line (R46, R107, R177). -/
def State.imgWrite (s : State) (n ct h : Nat) (v : Word) (st : Half) : State :=
  let s := s.outPut h v st
  ({ s with imgLog := { handle := h, cluster := n, ct := ct, value := v, status := st, time := s.now } :: s.imgLog }).mark (0x80080000 + h * 8)

/-- IMGWR gv, gq, gh, off (R50, R106); ACCESS where a check denies it (R122, R192). gh + off is not wrapped at 2³², on which the manual is silent: a sum beyond it raises IMGHANDLE with its low 32 bits. DESIGN CHOICE: notes/assumptions/59.md. The entry is half a stored word, whose other half is corrected first (R160). -/
def execImgwr (n : Fin 16) (d a b : BitVec 5) (fn : BitVec 11) (s : State) : Res :=
  s.isa n id (fun s c =>
    let h := (c.greg b).toNat + fn.toNat
    if 0xFFFF < h then .exc s .imghandle (BitVec.ofNat 32 h)
    else if tget (fun _ => 0) s.proj.owner h ≠ n.val + 1 then .exc s .imgwrite (BitVec.ofNat 32 h)
    else
      match s.imgAccess n c.priv .write (0x80080000 + h * 8) with
      | (s, false) => .exc s .access (BitVec.ofNat 32 (0x80080000 + h * 8))
      | (s, true) =>
        match s.eccRead (0x80080000 + h * 8) 4 with
        | (s, false) => .halt s
        | (s, true) => .ok (s.imgWrite n c.ct.toNat h (c.greg d) (imgwrStatus (c.greg a))) c 8)

/-! ### Journal posts (R61, R108) -/

/-- The source of a post: cluster and privilege (R517). -/
def postSource (n : Nat) (p : Priv) : Half := BitVec.ofNat 16 ((0x80 + p.code.toNat) * 256 + n)

/-- One more shed post of a source. -/
def addShed (l : List (Half × Nat)) (src : Half) : List (Half × Nat) :=
  match l with
  | [] => [(src, 1)]
  | (q, k) :: t => if q = src then (q, k + 1) :: t else (q, k) :: addShed t src

/-- A post is staged; beyond 32 in a cycle it is shed (R108). -/
def Core.post (c : Core) (p : Post) : Core :=
  if c.posts.length < 32 then { c with posts := c.posts ++ [p] } else { c with shed := addShed c.shed p.source }

/-- JPOST ga, code (R108). -/
def execJpost (n : Fin 16) (d a : BitVec 5) (imm : BitVec 16) (s : State) : Res :=
  s.isa n id (fun s c =>
    if d ≠ 0#5 ∨ 29 < a.toNat then .exc s .illegal (wordI 0x38 d a imm)
    else .ok s (c.post { code := imm, source := postSource n c.priv, p0 := c.greg a, p1 := c.greg (a + 1#5), p2 := c.greg (a + 2#5) }) 8)

/-! ### The loop mailbox (R109, R110) -/

/-- The slot ga + imm16, imm16 signed. -/
def mbSlot (c : Core) (a : BitVec 5) (imm : Half) : Word := c.greg a + imm.signExtend 32

/-- LEPUT (R109, R110): held until the forme flip. -/
def execLeput (n : Fin 16) (d a : BitVec 5) (imm : BitVec 16) (s : State) : Res :=
  s.isa n id (fun s c =>
    let k := mbSlot c a imm
    if 0x3FFF < k.toNat ∨ 256 ≤ c.puts.length then .exc s .mailbox k
    else .ok s { c with puts := c.puts ++ [(k.toNat, c.greg d)] } 8)

/-- LEGET (R109, R110): the value as captured at the bell. -/
def execLeget (n : Fin 16) (d a : BitVec 5) (imm : BitVec 16) (s : State) : Res :=
  s.isa n id (fun s c =>
    let k := mbSlot c a imm
    if 0x3FFF < k.toNat then .exc s .mailbox k
    else .ok s (c.setG d (s.mbGet k.toNat)) 40)

/-! ### Barriers (R54, R55, R111) -/

/-- Whether a cluster has arrived at barrier b or a higher one in this cycle. -/
def Core.passed (c : Core) (b : Nat) : Bool := decide (2 ^ b ≤ c.arrived.toNat)

/-- BAR b (R54, R111): the arrival; the wait ends at BARRIER_RELEASE, 24 CCLK after the last arrival. -/
def execBar (n : Fin 16) (d a : BitVec 5) (imm : BitVec 16) (s : State) : Res :=
  s.isa n id (fun s c =>
    let b := imm.toNat
    if d ≠ 0#5 ∨ a ≠ 0#5 ∨ 7 < b then .exc s .illegal (wordI 0x3C d a imm)
    else if !s.participant b n || c.passed b then .exc s .barrier (BitVec.ofNat 32 b)
    else .ok s { c with status := .atBarrier, arrived := c.arrived ||| (1#8 <<< b) } 0)

/-- Key of a mailbox word. -/
def bmKey (b c w : Nat) : Nat := b * 256 + c * 16 + w

/-- BMW gv, b, w (R55, R111): only before the cluster arrives. -/
def execBmw (n : Fin 16) (d a b : BitVec 5) (fn : BitVec 11) (s : State) : Res :=
  s.isa n id (fun s c =>
    if b ≠ 0#5 ∨ 7 < a.toNat ∨ 15 < fn.toNat then .exc s .illegal (wordR 0x3D d a b fn.toNat)
    else if bit c.arrived a.toNat then .exc s .barrier (a.zeroExtend 32)
    else .ok { s with bmail := tset (fun _ => 0#32) s.bmail (bmKey a.toNat n fn.toNat) (c.greg d) } c 8)

/-- BMR gd, b, c, w (R55, R111): 0 for a cluster outside the barrier's mask, and for c 16 to 31, which name no cluster: DESIGN CHOICE, notes/assumptions/59.md. -/
def execBmr (n : Fin 16) (d a b : BitVec 5) (fn : BitVec 11) (s : State) : Res :=
  s.isa n id (fun s c =>
    if 7 < a.toNat ∨ 15 < fn.toNat then .exc s .illegal (wordR 0x3E d a b fn.toNat)
    else if !bit c.released a.toNat then .exc s .barrier (a.zeroExtend 32)
    else
      let v := if b.toNat < 16 && s.participant a.toNat b.toNat
        then tget (fun _ => 0#32) s.bmail (bmKey a.toNat b.toNat fn.toNat) else 0#32
      .ok s (c.setG d v) 40)

/-! ### Time (R112) -/

/-- TRD gd, sel. -/
def execTrd (n : Fin 16) (d a : BitVec 5) (imm : BitVec 16) (s : State) : Res :=
  s.isa n id (fun s c =>
    let t := s.bell.bellTime
    if a ≠ 0#5 then .exc s .illegal (wordI 0x07 d a imm)
    else match imm.toNat with
      | 0 => .ok s (c.setG d (BitVec.ofNat 32 t.ns)) 4
      | 1 => .ok s (c.setG d (BitVec.ofNat 32 t.sec)) 4
      | 2 => .ok s (c.setG d (BitVec.ofNat 32 (t.sec / 2 ^ 32))) 4
      | 3 => .ok s ({ c with trd := s.tb.time }.setG d (BitVec.ofNat 32 s.tb.time.ns)) 40
      | 4 => .ok s (c.setG d (BitVec.ofNat 32 c.trd.sec)) 4
      | 5 => .ok s (c.setG d (BitVec.ofNat 32 (c.trd.sec / 2 ^ 32))) 4
      | _ => .exc s .illegal (wordI 0x07 d a imm))

/-! ### Special registers (R91) -/

/-- Lowest privilege that may read, and that may write, a special register; none where R91 gives no such access. -/
def srAccess (k : Nat) : Option Priv × Option Priv :=
  if k = 0 ∨ k = 5 ∨ k = 6 ∨ k = 7 ∨ k = 8 ∨ k = 9 then (some .p2, none)
  else if k = 1 ∨ k = 2 then (some .p2, some .p1)
  else if k = 3 ∨ k = 4 then (some .p2, some .p2)
  else if k = 16 ∨ k = 17 ∨ k = 26 then (some .p1, some .p0)
  else if k = 18 ∨ k = 20 ∨ k = 22 ∨ k = 24 ∨ k = 28 then (some .p0, some .p0)
  else if k = 19 ∨ k = 21 ∨ k = 23 ∨ k = 25 ∨ k = 27 then (some .p1, some .p1)
  else (none, none)

/-- Whether code at a privilege may make an access that asks for the lowest privilege `least`. -/
def privMay (p least : Priv) : Bool := decide (p.code.toNat ≤ least.code.toNat)

/-- The value of a special register. -/
def State.srRead (s : State) (n : Nat) (c : Core) (k : Nat) : Word :=
  match k with
  | 0 => c.ip | 1 => c.ib | 2 => c.lb | 3 => c.sp | 4 => c.fl
  | 5 => c.ct.extractLsb' 0 32 | 6 => c.ctHi | 7 => BitVec.ofNat 32 n
  | 8 => BitVec.ofNat 32 s.bell.cycle | 9 => BitVec.ofNat 32 (s.bell.cycle / 2 ^ 32 % 2 ^ 16)
  | 16 => c.ps.zeroExtend 32 | 17 => c.ev1 | 18 => c.ev0 | 19 => c.epc1 | 20 => c.epc0
  | 21 => c.ecause1 | 22 => c.ecause0 | 23 => c.eaddr1 | 24 => c.eaddr0 | 25 => c.stklim | 26 => c.cyvec | 27 => c.scr1 | 28 => c.scr0
  | _ => 0#32

/-- A write of a special register; fields that are 0 or reserved stay 0 (R8, R91, R92). -/
def Core.srWrite (c : Core) (k : Nat) (v : Word) : Core :=
  match k with
  | 1 => { c with ib := v } | 2 => { c with lb := v } | 3 => { c with sp := v } | 4 => { c with fl := v &&& 0x11F#32 }
  | 16 => { c with ps := (c.ps &&& 3#8) ||| (v.extractLsb' 0 8 &&& 0xFC#8) }
  | 17 => { c with ev1 := v &&& 0xFFFFFC00#32 } | 18 => { c with ev0 := v &&& 0xFFFFFC00#32 }
  | 19 => { c with epc1 := v } | 20 => { c with epc0 := v } | 21 => { c with ecause1 := v &&& 0xFF#32 } | 22 => { c with ecause0 := v &&& 0xFF#32 }
  | 23 => { c with eaddr1 := v } | 24 => { c with eaddr0 := v } | 25 => { c with stklim := v &&& 0xFFFFFFF0#32 } | 26 => { c with cyvec := v }
  | 27 => { c with scr1 := v } | 28 => { c with scr0 := v }
  | _ => c

/-- MFS gd, s (R91). A read of ct_lo latches ct [63:32]. -/
def execMfs (n : Fin 16) (d a b : BitVec 5) (s : State) : Res :=
  s.isa n id (fun s c =>
    match a == 0#5, (srAccess b.toNat).1 with
    | true, some p =>
      if privMay c.priv p then
        let c' := if b = 5#5 then { c with ctHi := c.ct.extractLsb' 32 32 } else c
        .ok s (c'.setG d (s.srRead n c b.toNat)) 1
      else .exc s .privilege (wordR 0x06 d a b 0)
    | _, _ => .exc s .illegal (wordR 0x06 d a b 0))

/-- Whether a value written to ps holds 0b11 in [3:2] or [5:4] (R91). -/
def psBad (v : Word) : Bool := fieldNat v 2 2 == 3 || fieldNat v 4 2 == 3

/-- MTS s, ga (R91, R123). A write of sp below stklim raises no STACK, which R91 does not name for it: DESIGN CHOICE, notes/assumptions/59.md. -/
def execMts (n : Fin 16) (d a b : BitVec 5) (s : State) : Res :=
  s.isa n id (fun s c =>
    let v := c.greg a
    match d == 0#5, (srAccess b.toNat).2 with
    | true, some p =>
      if b == 16#5 && psBad v then .exc s .illegal (wordR 0x06 d a b 1)
      else if !privMay c.priv p then .exc s .privilege (wordR 0x06 d a b 1)
      else if b == 3#5 && fieldNat v 0 4 != 0 then .exc s .align v
      else .ok s (c.srWrite b.toNat v) 1
    | _, _ => .exc s .illegal (wordR 0x06 d a b 1))

/-- ERET (R94, R95): 4 CCLK. -/
def execEret (n : Fin 16) (d a b : BitVec 5) (s : State) : Res :=
  s.isa n id (fun s c =>
    if d ≠ 0#5 ∨ a ≠ 0#5 ∨ b ≠ 0#5 then .exc s .illegal (wordR 0x06 d a b 2)
    else match c.priv with
      | .p2 => .exc s .privilege (wordR 0x06 d a b 2)
      | .p1 => .jump s c.return1 c.return1.ip 4
      | .p0 => .jump s c.return0 c.return0.ip 4)

/-- CYEND (R113): completion of the cycle; nothing more until the next core start. -/
def execCyend (n : Fin 16) (d a b : BitVec 5) (s : State) : Res :=
  s.isa n id (fun s c =>
    if d ≠ 0#5 ∨ a ≠ 0#5 ∨ b ≠ 0#5 then .exc s .illegal (wordR 0x06 d a b 3)
    else match c.priv with
      | .p2 => .exc s .privilege (wordR 0x06 d a b 3)
      | _ => .ok (s.clusterDone n) { c with status := .completed, parts := [] } 1)

/-- A cluster that reaches a BKPT in the CCLK in which the module enters Hold stops before it as well (R114). -/
def State.bkptHeld (s : State) (n : Nat) : State :=
  let c := s.core n
  if s.bell.mode == .hold && c.status == .running then s.setCore n { c with atBkpt := true } else s

/-- BKPT (R68, R69, R114): HOLD_ENTRY where permitted; after a resume, and where not permitted, a no-operation of 1 CCLK. -/
def execBkpt (n : Fin 16) (d a b : BitVec 5) (s : State) : Res :=
  (s.bkptHeld n).isa n id (fun s c =>
    if d ≠ 0#5 ∨ a ≠ 0#5 ∨ b ≠ 0#5 then .exc s .illegal (wordR 0x06 d a b 4)
    else if c.atBkpt then .ok s { c with atBkpt := false } 1
    else match s.breakpoint with
      | (t, true) => .halt (t.setCore n { c with atBkpt := true })
      | (t, false) => .ok t c 1)

end Sys2Proof.Machine
end

