-- ==== Sys2Proof/Machine/IsaMem.lean ====
section
/-! DEFINITION. Loads and stores, function block calls and system calls of chapter 3 (R102 to R104, R115, R116, R124) and the CAN services (R442). -/

namespace Sys2Proof.Machine

/-! ### Data accesses of a cluster -/

/-- What a data access of a cluster comes to: done, denied, or a word that stopped the module. -/
inductive AccRes where
  | done (v : Nat) | denied | dead
  deriving DecidableEq, Repr

/-- Whether a cluster's data access may proceed: the address is populated (R157, R592), both checks permit it, and R103 lets a core reach it. -/
def State.coreMay (s : State) (n : Nat) (pr : Priv) (o : AccOp) (a len : Nat) : State × Bool :=
  if !s.populated a then (s.masterDenial (Page.msCl n) (s.bankOf n) 4 0 (a / 64) a len pr o, false)
  else match s.coreAccess n pr o a len with
    | (s, ok) => (s, ok && coreReach a)

/-- A load of `len` bytes at a privilege. -/
def State.coreLoad (s : State) (n : Nat) (pr : Priv) (a len : Nat) : State × AccRes :=
  match s.coreMay n pr .read a len with
  | (s, false) => (s, .denied)
  | (s, true) =>
    match s.busRead a len 0 with
    | (s, some v) => (s, .done v)
    | (s, none) => (s, .dead)

/-- A store of `len` bytes. -/
def State.coreStore (s : State) (n : Nat) (pr : Priv) (a len v : Nat) : State × AccRes :=
  match s.coreMay n pr .write a len with
  | (s, false) => (s, .denied)
  | (s, true) =>
    match s.busWrite a len v pr true with
    | (s, true) => (s, .done 0)
    | (s, false) => (s, .dead)

/-- The count of an access: fixed in the own region, else the least count and a wait that the spec does not fix (R103). -/
def State.accCount (s : State) (n a fixed least : Nat) : State × Nat :=
  if ownRegion n a then (s, fixed) else ({ s with freeCtr := s.freeCtr + 1 }, least + Config.accessWait s.freeCtr)

/-- A load in an instruction: ALIGN, ACCESS, or the value handed on. -/
def State.withLoad (s : State) (n : Nat) (c : Core) (ea : Word) (len fixed : Nat) (k : State → Nat → Nat → IsaRes) : IsaRes :=
  if ea.toNat % len ≠ 0 then .exc s .align ea
  else match s.coreLoad n c.priv ea.toNat len with
    | (s, .denied) => .exc s .access ea
    | (s, .dead) => .halt s
    | (s, .done v) =>
      let (s, t) := s.accCount n ea.toNat fixed 24
      k s v t

/-- A store in an instruction. -/
def State.withStore (s : State) (n : Nat) (c : Core) (ea : Word) (len fixed v : Nat) (k : State → Nat → IsaRes) : IsaRes :=
  if ea.toNat % len ≠ 0 then .exc s .align ea
  else match s.coreStore n c.priv ea.toNat len v with
    | (s, .denied) => .exc s .access ea
    | (s, .dead) => .halt s
    | (s, .done _) =>
      let (s, t) := s.accCount n ea.toNat fixed 8
      k s t

/-! ### Loads and stores (R102) -/

/-- A load instruction: `wr` writes the destination. -/
def State.loadI (s : State) (n op cclk len : Nat) (legal : Bool) (d a : BitVec 5) (bs : BitVec 2) (off : BitVec 14)
    (wr : Core → Nat → Core) : Res :=
  s.isa n id (fun s c =>
    if !legal then .exc s .illegal (wordM op d a bs off)
    else s.withLoad n c (c.ea a bs off len) len cclk (fun s v t => .ok s (wr (s.core n) v) t))

/-- A store instruction: `v` is the value stored. -/
def State.storeI (s : State) (n op cclk len : Nat) (legal : Bool) (d a : BitVec 5) (bs : BitVec 2) (off : BitVec 14) (v : Core → Nat) : Res :=
  s.isa n id (fun s c =>
    if !legal then .exc s .illegal (wordM op d a bs off)
    else s.withStore n c (c.ea a bs off len) len cclk (v c) (fun s t => .ok s (s.core n) t))

/-- LDB: load byte, sign-extended. -/
def execLdb (n : Fin 16) (d a : BitVec 5) (bs : BitVec 2) (off : BitVec 14) (s : State) : Res :=
  s.loadI n 0x10 3 1 true d a bs off (fun c v => c.setG d ((BitVec.ofNat 8 v).signExtend 32))

/-- LDBU: load byte, zero-extended. -/
def execLdbu (n : Fin 16) (d a : BitVec 5) (bs : BitVec 2) (off : BitVec 14) (s : State) : Res :=
  s.loadI n 0x11 3 1 true d a bs off (fun c v => c.setG d ((BitVec.ofNat 8 v).zeroExtend 32))

/-- LDH: load 16 bits, sign-extended. -/
def execLdh (n : Fin 16) (d a : BitVec 5) (bs : BitVec 2) (off : BitVec 14) (s : State) : Res :=
  s.loadI n 0x12 3 2 true d a bs off (fun c v => c.setG d ((BitVec.ofNat 16 v).signExtend 32))

/-- LDHU: load 16 bits, zero-extended. -/
def execLdhu (n : Fin 16) (d a : BitVec 5) (bs : BitVec 2) (off : BitVec 14) (s : State) : Res :=
  s.loadI n 0x13 3 2 true d a bs off (fun c v => c.setG d ((BitVec.ofNat 16 v).zeroExtend 32))

/-- LDW: load 32 bits. -/
def execLdw (n : Fin 16) (d a : BitVec 5) (bs : BitVec 2) (off : BitVec 14) (s : State) : Res :=
  s.loadI n 0x14 3 4 true d a bs off (fun c v => c.setG d (BitVec.ofNat 32 v))

/-- LDD: load 64 bits to a pair. -/
def execLdd (n : Fin 16) (d a : BitVec 5) (bs : BitVec 2) (off : BitVec 14) (s : State) : Res :=
  s.loadI n 0x15 4 8 (evenReg d) d a bs off (fun c v => c.setPair d (BitVec.ofNat 64 v))

/-- FLDS: load binary32 to fd [31:0]; bits [63:32] become 0 (R90). -/
def execFlds (n : Fin 16) (d a : BitVec 5) (bs : BitVec 2) (off : BitVec 14) (s : State) : Res :=
  s.loadI n 0x16 3 4 true d a bs off (fun c v => c.setF d ((BitVec.ofNat 32 v).zeroExtend 64))

/-- FLDD: load binary64. -/
def execFldd (n : Fin 16) (d a : BitVec 5) (bs : BitVec 2) (off : BitVec 14) (s : State) : Res :=
  s.loadI n 0x17 4 8 true d a bs off (fun c v => c.setF d (BitVec.ofNat 64 v))

/-- STB: store byte. -/
def execStb (n : Fin 16) (d a : BitVec 5) (bs : BitVec 2) (off : BitVec 14) (s : State) : Res :=
  s.storeI n 0x18 2 1 true d a bs off (fun c => fieldNat (c.greg d) 0 8)

/-- STH: store 16 bits. -/
def execSth (n : Fin 16) (d a : BitVec 5) (bs : BitVec 2) (off : BitVec 14) (s : State) : Res :=
  s.storeI n 0x19 2 2 true d a bs off (fun c => fieldNat (c.greg d) 0 16)

/-- STW: store 32 bits. -/
def execStw (n : Fin 16) (d a : BitVec 5) (bs : BitVec 2) (off : BitVec 14) (s : State) : Res :=
  s.storeI n 0x1A 2 4 true d a bs off (fun c => (c.greg d).toNat)

/-- STD: store a pair. -/
def execStd (n : Fin 16) (d a : BitVec 5) (bs : BitVec 2) (off : BitVec 14) (s : State) : Res :=
  s.storeI n 0x1B 3 8 (evenReg d) d a bs off (fun c => (c.pair d).toNat)

/-- FSTS: store fd [31:0]. -/
def execFsts (n : Fin 16) (d a : BitVec 5) (bs : BitVec 2) (off : BitVec 14) (s : State) : Res :=
  s.storeI n 0x1C 2 4 true d a bs off (fun c => fieldNat (c.freg d) 0 32)

/-- FSTD: store fd. -/
def execFstd (n : Fin 16) (d a : BitVec 5) (bs : BitVec 2) (off : BitVec 14) (s : State) : Res :=
  s.storeI n 0x1D 3 8 true d a bs off (fun c => (c.freg d).toNat)

/-! ### Calls (R115, R116) -/

/-- The link record (R116). -/
def Core.linkRecord (c : Core) : Nat := (c.ip + 4#32).toNat + c.ib.toNat * 2 ^ 32 + c.lb.toNat * 2 ^ 64

/-- Steps 1 to 6 of a call: `inst` the instance, none for CALL; `dest` the target. -/
def State.call (s : State) (n : Nat) (c : Core) (inst : Option Word) (dest : Word) : IsaRes :=
  let ib := inst.getD c.ib
  let sp := c.sp - 16#32
  if inst.isSome && ib.toNat % 64 != 0 then .exc s .align ib
  else if !c.stackOk 16 then .exc s .stack sp
  else s.withStore n c sp 16 6 c.linkRecord (fun s t => .jump s { s.core n with sp := sp, lb := sp, ib := ib } dest t)

/-- CALLFB ga, disp (R115). -/
def execCallfb (n : Fin 16) (a : BitVec 5) (disp : BitVec 21) (s : State) : Res :=
  s.isa n id (fun s c => s.call n c (some (c.greg a)) (target c.ip disp))

/-- CALL disp (R115): ib unchanged. -/
def execCall (n : Fin 16) (disp : BitVec 26) (s : State) : Res :=
  s.isa n id (fun s c => s.call n c none (target c.ip disp))

/-- CALLFBI ga, gb (R115); d and fn are not used (R98). -/
def execCallfbi (n : Fin 16) (d a b : BitVec 5) (fn : BitVec 11) (s : State) : Res :=
  s.isa n id (fun s c =>
    if d == 0#5 && fn == 0#11 then s.call n c (some (c.greg a)) (c.greg b) else .exc s .illegal (wordR 0x2E d a b fn.toNat))

/-- The registers after RETFB: sp = lb + 16, ib and lb from the record (R115). -/
def Core.unlink (c : Core) (v : Nat) : Core :=
  { c with sp := c.lb + 16#32, ib := BitVec.ofNat 32 (v / 2 ^ 32), lb := BitVec.ofNat 32 (v / 2 ^ 64) }

/-- RETFB (R115); no field is used (R98). -/
def execRetfb (n : Fin 16) (d a b : BitVec 5) (fn : BitVec 11) (s : State) : Res :=
  s.isa n id (fun s c =>
    if d == 0#5 && a == 0#5 && b == 0#5 && fn == 0#11 then
      s.withLoad n c c.lb 16 6 (fun s v t => .jump s ((s.core n).unlink v) (BitVec.ofNat 32 v) t)
    else .exc s .illegal (wordR 0x2F d a b fn.toNat))

/-! ### System calls (R94, R124, R442) -/

/-- The runtime reads `k` words of P2's memory: none where a read is denied; the flag is false where the module stopped. -/
def State.p2Words (s : State) (n a : Nat) : Nat → State × Option (List Byte) × Bool
  | 0 => (s, some [], true)
  | k + 1 =>
    match s.coreLoad n .p2 a 4 with
    | (s, .denied) => (s, none, true)
    | (s, .dead) => (s, none, false)
    | (s, .done v) =>
      match s.p2Words n (a + 4) k with
      | (s, r, ok) => (s, r.map (fun l => bytesLE 4 v ++ l), ok)

/-- Bytes of a frame that the program stages. -/
def stageLen (ctrl : Word) : Nat := canBytes (bit ctrl 4) false (fieldNat ctrl 0 4)

/-- Whether a stage request keeps every condition that can be judged before the data is read (R442). -/
def State.stageOk (s : State) (c : Core) (ch : Nat) : Bool :=
  s.canFieldsOk ch (c.greg 1#5) (c.greg 2#5) && bit s.bell.canOk ch && decide ((c.greg 3#5).toNat % 4 = 0)
    && decide ((c.canStage.filter (fun f => f.chan == ch)).length < 32)

/-- The entry of a request. -/
def stageEntry (c : Core) (ch : Nat) (l : List Byte) : CanStage :=
  let ctrl := c.greg 2#5
  { chan := ch, ident := c.greg 1#5 &&& 0x3FFFFFFF#32, ctrl := ctrl &&& 0xFF3F#32, data := l.take (stageLen ctrl), tag := fieldNat ctrl 8 8 }

/-- Services 16 to 19: a frame is staged, g1 = 1, or refused, g1 = 0 (R442). The flag is false where the module stopped. -/
def State.canService (s : State) (n ch : Nat) : State × Bool :=
  let c := s.core n
  let no (s : State) : State := s.setCore n ((s.core n).setG 1#5 0#32)
  if !s.stageOk c ch then (no s, true)
  else
    match s.p2Words n (c.greg 3#5).toNat ((stageLen (c.greg 2#5) + 3) / 4) with
    | (s, _, false) => (s, false)
    | (s, none, true) => (no s, true)
    | (s, some l, true) =>
      let k := s.core n
      (s.setCore n ({ k with canStage := k.canStage ++ [stageEntry c ch l] }.setG 1#5 1#32), true)

/-- Service 20: the oldest result of the cluster's list for channel g1 is returned and removed (R442). -/
def State.canTake (s : State) (n : Nat) : State :=
  let c := s.core n
  let ch := (c.greg 1#5).toNat
  let l := tget (fun _ => []) c.canResults ch
  s.setCore n ({ c with canResults := tset (fun _ => []) c.canResults ch (l.drop 1) }.setG 1#5 (l.headD 0#32))

/-- Service 0: the next partition, or CYEND (R124). -/
def State.nextPart (s : State) (n : Nat) : State :=
  let c := s.core n
  match c.parts.drop 1 with
  | [] => (s.setCore n { c.return1 with status := .completed, parts := [] }).clusterDone n
  | p :: l =>
    match s.partEntry n p with
    | some e => s.setCore n { c with epc1 := e, parts := p :: l }.return1
    | none => (s.setCore n { c.return1 with status := .completed, parts := [] }).clusterDone n

/-- After a service the program goes on behind its SYSC. -/
def State.served (s : State) (n : Nat) : State := s.setCore n (s.core n).return1

/-- What the runtime does with a SYSC of P2 that has entered P1 (R124, R442). -/
def State.runtime (s : State) (n num : Nat) : State :=
  if num = 0 then (s.runtimeWait n).nextPart n
  else if 16 ≤ num ∧ num ≤ 19 then
    match s.canService n (num - 16) with
    | (s, true) => (s.runtimeWait n).served n
    | (s, false) => s
  else if num = 20 then ((s.canTake n).runtimeWait n).served n
  else s.park n .sysc

/-- SYSC num (R94, R124): the entry saves the address of the next instruction (R121); illegal at P0. -/
def execSysc (n : Fin 16) (d a : BitVec 5) (imm : BitVec 16) (s : State) : Res :=
  s.isa n id (fun s c =>
    if !(d == 0#5 && a == 0#5) then .exc s .illegal (wordI 0x3B d a imm)
    else match c.priv with
      | .p0 => .exc s .illegal (wordI 0x3B d a imm)
      | .p1 => .halt (s.setCore n (c.enter .sysc (imm.zeroExtend 32) (c.ip + 4#32)))
      | .p2 => .halt ((s.setCore n (c.enter .sysc (imm.zeroExtend 32) (c.ip + 4#32))).runtime n imm.toNat))

end Sys2Proof.Machine
end

