-- ==== Sys2Proof/Machine/Migrate.lean ====
section
/-! DEFINITION. The migration map of an online change, and the tick of an idle module (R76, R80, R178, R562). -/

namespace Sys2Proof.Machine

/-- The target's check of each burst of a range, line by line (R196). -/
def State.burstsMay (s : State) (g : Nat) (o : AccOp) (a : Nat) : Nat → Nat → State × Bool
  | _, 0 => (s, true)
  | 0, _ => (s, true)
  | fuel + 1, left =>
    let n := min left (64 - a % 64)
    match s.targetCheck (0x10 + g) .p0 o a n with
    | (s, false) => (s, false)
    | (s, true) => s.burstsMay g o (a + n) fuel (left - n)

/-- The old bytes that an entry of a migration map converts, read by DMA engine g (R76, R193, R196): none where a check refuses them or a word cannot be returned. -/
def State.migRead (s : State) (g : Nat) (m : MigStep) : State × Option (List Byte) :=
  match s.dmaCheck g .p0 .read m.src m.len with
  | (s, false) => (s, none)
  | (s, true) =>
    match s.burstsMay g .read m.src m.len m.len with
    | (s, false) => (s, none)
    | (s, true) =>
      match s.eccRange (m.src / 16 * 16) (m.src + m.len) 1 with
      | (s, false) => (s, none)
      | (s, true) => (s, some (s.bytes m.src m.len))

/-- The converted bytes go into the new area, never into an area of the running program, and set no dirty bit (R76, R178). The flag is false where a check refuses them. -/
def State.migWrite (s : State) (g dst : Nat) (l : List Byte) : State × Bool :=
  match s.dmaCheck g .p0 .write dst l.length with
  | (s, false) => (s, false)
  | (s, true) =>
    match s.burstsMay g .write dst l.length l.length with
    | (s, false) => (s, false)
    | (s, true) =>
      match s.eccRange (dst / 16 * 16) (dst + l.length) 4 with
      | (s, false) => (s, false)
      | (s, true) => (s.setCells ((((List.range l.length).map (dst + ·)).zip l).filter (fun c => !s.proj.uses c.1)), true)

/-- One entry of a migration map, on the DMA engine of the region of its new area (R80). -/
def State.migStep (s : State) (m : MigStep) : State × Bool :=
  let g := m.dst / 0x1000000
  if 8 ≤ g then (s, false)
  else match s.migRead g m with
    | (s, none) => (s, false)
    | (s, some l) => s.migWrite g m.dst (Config.migConv m.conv l)

/-- The migration map, entry by entry; it ends at the first entry that is refused. -/
def State.migrate (s : State) : List MigStep → State × Bool
  | [] => (s, true)
  | m :: l =>
    match s.migStep m with
    | (s, false) => (s, false)
    | (s, true) => s.migrate l

/-- MIGRATION_COMPLETE (R76, R80): the map has been run; `partner` says that the partner's has finished as well. Bell k_s waits for both maps of a synchronised pair: the command comes again when the partner's ends. A map that the checks refuse never completes, and the change ends with OLC_GAP_EXPIRY. DEDUCED: notes/assumptions/55.md. -/
def execMigrationComplete (partner : Bool) (s : State) : Res :=
  .next (match s.olc.stat, s.olc.pkg with
    | .migrating, some p =>
      if s.olc.migrated then s
      else match s.migrate p.map with
        | (s, false) => s
        | (s, true) => { s with olc := { s.olc with migrated := partner || !s.pair.syncPair } }
    | _, _ => s)

/-- One tick of TCLK with no command waiting: 4 ns (R562; notes/assumptions/1.md), in which a lone module ends the staging of a package. DESIGN CHOICE. -/
def State.tick (s : State) : State :=
  ({ s with now := s.now + 1, tb := { s.tb with time := Time.ofNs (s.tb.time.toNs + 4) } }).olcTick.freeTick.fabTick

end Sys2Proof.Machine
end

