-- ==== Sys2Proof/Machine/Dispatch.lean ====
section
/-! DEFINITION. The meaning of every command: one arm per constructor. -/

namespace Sys2Proof.Machine

def exec (i : Instr) (s : State) : Host.Outcome State Fault Refusal :=
  match i with
  | .powerOn boot => Sys2Proof.Machine.execPowerOn boot s
  | .supplyReturn boot => Sys2Proof.Machine.execSupplyReturn boot s
  | .powerGoodTimeout d => Sys2Proof.Machine.execPowerGoodTimeout d s
  | .roleDecision peer => Sys2Proof.Machine.execRoleDecision peer s
  | .claimWindowExpiry => Sys2Proof.Machine.execClaimWindowExpiry s
  | .passConflict tie later => Sys2Proof.Machine.execPassConflict tie later s
  | .conflictTimeout => Sys2Proof.Machine.execConflictTimeout s
  | .lineDisagreement own peer => Sys2Proof.Machine.execLineDisagreement own peer s
  | .driveEnable own peer => Sys2Proof.Machine.execDriveEnable own peer s
  | .passGateFalse own peer => Sys2Proof.Machine.execPassGateFalse own peer s
  | .peerPassLost => Sys2Proof.Machine.execPeerPassLost s
  | .attendSend tx => Sys2Proof.Machine.execAttendSend tx s
  | .attendanceLost => Sys2Proof.Machine.execAttendanceLost s
  | .passKeeperExpiry => Sys2Proof.Machine.execPassKeeperExpiry s
  | .moduleFailure cause => Sys2Proof.Machine.execModuleFailure cause s
  | .dieTempWarning d => Sys2Proof.Machine.execDieTempWarning d s
  | .dieOvertempFailure d => Sys2Proof.Machine.execDieOvertempFailure d s
  | .diePowerCutoff d => Sys2Proof.Machine.execDiePowerCutoff d s
  | .pllLossOfLock => Sys2Proof.Machine.execPllLossOfLock s
  | .clockFault k => Sys2Proof.Machine.execClockFault k s
  | .bell => Sys2Proof.Machine.execBell s
  | .coreStart => Sys2Proof.Machine.execCoreStart s
  | .barrierRelease b => Sys2Proof.Machine.execBarrierRelease b s
  | .proofTake line => Sys2Proof.Machine.execProofTake line s
  | .proofEndDecision => Sys2Proof.Machine.execProofEndDecision s
  | .formeFlip => Sys2Proof.Machine.execFormeFlip s
  | .ackTimeout => Sys2Proof.Machine.execAckTimeout s
  | .errBudgetOverrun => Sys2Proof.Machine.execErrBudgetOverrun s
  | .cycleWatchdogExpiry => Sys2Proof.Machine.execCycleWatchdogExpiry s
  | .run priv => Sys2Proof.Machine.execRun priv s
  | .stop priv => Sys2Proof.Machine.execStop priv s
  | .resume priv => Sys2Proof.Machine.execResume priv s
  | .holdLimitExpiry => Sys2Proof.Machine.execHoldLimitExpiry s
  | .holdEn v => Sys2Proof.Machine.execHoldEn v s
  | .forceWrite => Sys2Proof.Machine.execForceWrite s
  | .forceRelease => Sys2Proof.Machine.execForceRelease s
  | .forceReleaseAll => Sys2Proof.Machine.execForceReleaseAll s
  | .olcSubmit pkg digestOk => Sys2Proof.Machine.execOlcSubmit pkg digestOk s
  | .olcArm => Sys2Proof.Machine.execOlcArm s
  | .olcCancel => Sys2Proof.Machine.execOlcCancel s
  | .migrationComplete partner => Sys2Proof.Machine.execMigrationComplete partner s
  | .olcGapExpiry => Sys2Proof.Machine.execOlcGapExpiry s
  | .clrMax => Sys2Proof.Machine.execClrMax s
  | .add n d a b => Sys2Proof.Machine.execAdd n d a b s
  | .sub n d a b => Sys2Proof.Machine.execSub n d a b s
  | .and n d a b => Sys2Proof.Machine.execAnd n d a b s
  | .or n d a b => Sys2Proof.Machine.execOr n d a b s
  | .xor n d a b => Sys2Proof.Machine.execXor n d a b s
  | .shl n d a b => Sys2Proof.Machine.execShl n d a b s
  | .shr n d a b => Sys2Proof.Machine.execShr n d a b s
  | .sar n d a b => Sys2Proof.Machine.execSar n d a b s
  | .slt n d a b => Sys2Proof.Machine.execSlt n d a b s
  | .sltu n d a b => Sys2Proof.Machine.execSltu n d a b s
  | .mul n d a b => Sys2Proof.Machine.execMul n d a b s
  | .mulh n d a b => Sys2Proof.Machine.execMulh n d a b s
  | .mulhu n d a b => Sys2Proof.Machine.execMulhu n d a b s
  | .div n d a b => Sys2Proof.Machine.execDiv n d a b s
  | .divu n d a b => Sys2Proof.Machine.execDivu n d a b s
  | .mod n d a b => Sys2Proof.Machine.execMod n d a b s
  | .modu n d a b => Sys2Proof.Machine.execModu n d a b s
  | .sexb n d a b => Sys2Proof.Machine.execSexb n d a b s
  | .sexh n d a b => Sys2Proof.Machine.execSexh n d a b s
  | .shli n d a b => Sys2Proof.Machine.execShli n d a b s
  | .shri n d a b => Sys2Proof.Machine.execShri n d a b s
  | .sari n d a b => Sys2Proof.Machine.execSari n d a b s
  | .addi n d a imm => Sys2Proof.Machine.execAddi n d a imm s
  | .andi n d a imm => Sys2Proof.Machine.execAndi n d a imm s
  | .ori n d a imm => Sys2Proof.Machine.execOri n d a imm s
  | .xori n d a imm => Sys2Proof.Machine.execXori n d a imm s
  | .slti n d a imm => Sys2Proof.Machine.execSlti n d a imm s
  | .sltiu n d a imm => Sys2Proof.Machine.execSltiu n d a imm s
  | .lui n d a imm => Sys2Proof.Machine.execLui n d a imm s
  | .addl n d a b => Sys2Proof.Machine.execAddl n d a b s
  | .subl n d a b => Sys2Proof.Machine.execSubl n d a b s
  | .mull n d a b => Sys2Proof.Machine.execMull n d a b s
  | .divl n d a b => Sys2Proof.Machine.execDivl n d a b s
  | .divlu n d a b => Sys2Proof.Machine.execDivlu n d a b s
  | .modl n d a b => Sys2Proof.Machine.execModl n d a b s
  | .modlu n d a b => Sys2Proof.Machine.execModlu n d a b s
  | .shll n d a b => Sys2Proof.Machine.execShll n d a b s
  | .shrl n d a b => Sys2Proof.Machine.execShrl n d a b s
  | .sarl n d a b => Sys2Proof.Machine.execSarl n d a b s
  | .sltl n d a b => Sys2Proof.Machine.execSltl n d a b s
  | .sltlu n d a b => Sys2Proof.Machine.execSltlu n d a b s
  | .fadd n dbl d a b => Sys2Proof.Machine.execFadd n dbl d a b s
  | .fsub n dbl d a b => Sys2Proof.Machine.execFsub n dbl d a b s
  | .fmul n dbl d a b => Sys2Proof.Machine.execFmul n dbl d a b s
  | .fdiv n dbl d a b => Sys2Proof.Machine.execFdiv n dbl d a b s
  | .fsqrt n dbl d a b => Sys2Proof.Machine.execFsqrt n dbl d a b s
  | .fmadd n dbl d a b => Sys2Proof.Machine.execFmadd n dbl d a b s
  | .fmin n dbl d a b => Sys2Proof.Machine.execFmin n dbl d a b s
  | .fmax n dbl d a b => Sys2Proof.Machine.execFmax n dbl d a b s
  | .fabs n dbl d a b => Sys2Proof.Machine.execFabs n dbl d a b s
  | .fneg n dbl d a b => Sys2Proof.Machine.execFneg n dbl d a b s
  | .feq n dbl d a b => Sys2Proof.Machine.execFeq n dbl d a b s
  | .flt n dbl d a b => Sys2Proof.Machine.execFlt n dbl d a b s
  | .fle n dbl d a b => Sys2Proof.Machine.execFle n dbl d a b s
  | .fcvtSD n d a b => Sys2Proof.Machine.execFcvtSD n d a b s
  | .fcvtDS n d a b => Sys2Proof.Machine.execFcvtDS n d a b s
  | .fcvtFW n dbl d a b => Sys2Proof.Machine.execFcvtFW n dbl d a b s
  | .fcvtWF n dbl d a b => Sys2Proof.Machine.execFcvtWF n dbl d a b s
  | .ftrncWF n dbl d a b => Sys2Proof.Machine.execFtrncWF n dbl d a b s
  | .fcvtFL n dbl d a b => Sys2Proof.Machine.execFcvtFL n dbl d a b s
  | .fcvtLF n dbl d a b => Sys2Proof.Machine.execFcvtLF n dbl d a b s
  | .fmvFG n d a b => Sys2Proof.Machine.execFmvFG n d a b s
  | .fmvGF n d a b => Sys2Proof.Machine.execFmvGF n d a b s
  | .fmvFP n d a b => Sys2Proof.Machine.execFmvFP n d a b s
  | .fmvPF n d a b => Sys2Proof.Machine.execFmvPF n d a b s
  | .bext n d a b fn => Sys2Proof.Machine.execBext n d a b fn s
  | .bins n d a b fn => Sys2Proof.Machine.execBins n d a b fn s
  | .bseti n d a b => Sys2Proof.Machine.execBseti n d a b s
  | .bclri n d a b => Sys2Proof.Machine.execBclri n d a b s
  | .clz n d a b => Sys2Proof.Machine.execClz n d a b s
  | .popc n d a b => Sys2Proof.Machine.execPopc n d a b s
  | .rise n d a b => Sys2Proof.Machine.execRise n d a b s
  | .fall n d a b => Sys2Proof.Machine.execFall n d a b s
  | .ldb n d a bs off => Sys2Proof.Machine.execLdb n d a bs off s
  | .ldbu n d a bs off => Sys2Proof.Machine.execLdbu n d a bs off s
  | .ldh n d a bs off => Sys2Proof.Machine.execLdh n d a bs off s
  | .ldhu n d a bs off => Sys2Proof.Machine.execLdhu n d a bs off s
  | .ldw n d a bs off => Sys2Proof.Machine.execLdw n d a bs off s
  | .ldd n d a bs off => Sys2Proof.Machine.execLdd n d a bs off s
  | .flds n d a bs off => Sys2Proof.Machine.execFlds n d a bs off s
  | .fldd n d a bs off => Sys2Proof.Machine.execFldd n d a bs off s
  | .stb n d a bs off => Sys2Proof.Machine.execStb n d a bs off s
  | .sth n d a bs off => Sys2Proof.Machine.execSth n d a bs off s
  | .stw n d a bs off => Sys2Proof.Machine.execStw n d a bs off s
  | .std n d a bs off => Sys2Proof.Machine.execStd n d a bs off s
  | .fsts n d a bs off => Sys2Proof.Machine.execFsts n d a bs off s
  | .fstd n d a bs off => Sys2Proof.Machine.execFstd n d a bs off s
  | .leai n d a bs off => Sys2Proof.Machine.execLeai n d a bs off s
  | .beq n a b disp => Sys2Proof.Machine.execBeq n a b disp s
  | .bne n a b disp => Sys2Proof.Machine.execBne n a b disp s
  | .blt n a b disp => Sys2Proof.Machine.execBlt n a b disp s
  | .bge n a b disp => Sys2Proof.Machine.execBge n a b disp s
  | .bltu n a b disp => Sys2Proof.Machine.execBltu n a b disp s
  | .bgeu n a b disp => Sys2Proof.Machine.execBgeu n a b disp s
  | .bbs n a b disp => Sys2Proof.Machine.execBbs n a b disp s
  | .bbc n a b disp => Sys2Proof.Machine.execBbc n a b disp s
  | .jmp n disp => Sys2Proof.Machine.execJmp n disp s
  | .jr n d a b fn => Sys2Proof.Machine.execJr n d a b fn s
  | .callfb n a disp => Sys2Proof.Machine.execCallfb n a disp s
  | .call n disp => Sys2Proof.Machine.execCall n disp s
  | .callfbi n d a b fn => Sys2Proof.Machine.execCallfbi n d a b fn s
  | .retfb n d a b fn => Sys2Proof.Machine.execRetfb n d a b fn s
  | .enter n d a imm => Sys2Proof.Machine.execEnter n d a imm s
  | .imgrdi n d a imm => Sys2Proof.Machine.execImgrdi n d a imm s
  | .imgrdw n d a imm => Sys2Proof.Machine.execImgrdw n d a imm s
  | .imgrdf n d a imm => Sys2Proof.Machine.execImgrdf n d a imm s
  | .imgwr n d a b fn => Sys2Proof.Machine.execImgwr n d a b fn s
  | .jpost n d a imm => Sys2Proof.Machine.execJpost n d a imm s
  | .leput n d a imm => Sys2Proof.Machine.execLeput n d a imm s
  | .leget n d a imm => Sys2Proof.Machine.execLeget n d a imm s
  | .sysc n d a imm => Sys2Proof.Machine.execSysc n d a imm s
  | .bar n d a imm => Sys2Proof.Machine.execBar n d a imm s
  | .bmw n d a b fn => Sys2Proof.Machine.execBmw n d a b fn s
  | .bmr n d a b fn => Sys2Proof.Machine.execBmr n d a b fn s
  | .trd n d a imm => Sys2Proof.Machine.execTrd n d a imm s
  | .mfs n d a b => Sys2Proof.Machine.execMfs n d a b s
  | .mts n d a b => Sys2Proof.Machine.execMts n d a b s
  | .eret n d a b => Sys2Proof.Machine.execEret n d a b s
  | .cyend n d a b => Sys2Proof.Machine.execCyend n d a b s
  | .bkpt n d a b => Sys2Proof.Machine.execBkpt n d a b s
  | .comparatorMismatch n units g0 g1 g2 disagree => Sys2Proof.Machine.execComparatorMismatch n units g0 g1 g2 disagree s
  | .outvote n k groups => Sys2Proof.Machine.execOutvote n k groups s
  | .selfTestEnd u sigLead sigCheck => Sys2Proof.Machine.execSelfTestEnd u sigLead sigCheck s
  | .retire n k priv => Sys2Proof.Machine.execRetire n k priv s
  | .unitSel n k => Sys2Proof.Machine.execUnitSel n k s
  | .scrubRead m err => Sys2Proof.Machine.execScrubRead m err s
  | .remapCopy m => Sys2Proof.Machine.execRemapCopy m s
  | .nandReadRetry read bad => Sys2Proof.Machine.execNandReadRetry read bad s
  | .clrStats g => Sys2Proof.Machine.execClrStats g s
  | .dmaDescriptor g src dst len priv migr => Sys2Proof.Machine.execDmaDescriptor g src dst len priv migr s
  | .swap => Sys2Proof.Machine.execSwap s
  | .drainAck mid => Sys2Proof.Machine.execDrainAck mid s
  | .shadowBankWrite page idx v => Sys2Proof.Machine.execShadowBankWrite page idx v s
  | .openEnd => Sys2Proof.Machine.execOpenEnd s
  | .switchover priv => Sys2Proof.Machine.execSwitchover priv s
  | .suspend priv => Sys2Proof.Machine.execSuspend priv s
  | .pairResume priv => Sys2Proof.Machine.execPairResume priv s
  | .maintEnter priv => Sys2Proof.Machine.execMaintEnter priv s
  | .maintLeave priv => Sys2Proof.Machine.execMaintLeave priv s
  | .resync priv => Sys2Proof.Machine.execResync priv s
  | .raise priv => Sys2Proof.Machine.execRaise priv s
  | .linkBlockLock q skew => Sys2Proof.Machine.execLinkBlockLock q skew s
  | .linkUp => Sys2Proof.Machine.execLinkUp s
  | .linkLoss lanes => Sys2Proof.Machine.execLinkLoss lanes s
  | .capsSend => Sys2Proof.Machine.execCapsSend s
  | .caps c tr => Sys2Proof.Machine.execCaps c tr s
  | .attend a tr => Sys2Proof.Machine.execAttend a tr s
  | .resign reason tr => Sys2Proof.Machine.execResign reason tr s
  | .proofBegin b tr => Sys2Proof.Machine.execProofBegin b tr s
  | .proofData seq l crc tr => Sys2Proof.Machine.execProofData seq l crc tr s
  | .proofJournal seq l crc tr => Sys2Proof.Machine.execProofJournal seq l crc tr s
  | .proofCtrl seq l crc tr => Sys2Proof.Machine.execProofCtrl seq l crc tr s
  | .proofEnd e tr => Sys2Proof.Machine.execProofEnd e tr s
  | .stopMark cyc tr => Sys2Proof.Machine.execStopMark cyc tr s
  | .proofAck ack tr => Sys2Proof.Machine.execProofAck ack tr s
  | .proofNak cyc seqs tr => Sys2Proof.Machine.execProofNak cyc seqs tr s
  | .proofCommit => Sys2Proof.Machine.execProofCommit s
  | .applyComplete => Sys2Proof.Machine.execApplyComplete s
  | .xferOpen ident kind len digest tr => Sys2Proof.Machine.execXferOpen ident kind len digest tr s
  | .xferData ident off bytes tr => Sys2Proof.Machine.execXferData ident off bytes tr s
  | .xferAck ident off tr => Sys2Proof.Machine.execXferAck ident off tr s
  | .xferClose ident tr => Sys2Proof.Machine.execXferClose ident tr s
  | .xferStaged ident digest tr => Sys2Proof.Machine.execXferStaged ident digest tr s
  | .xferArm ks tr => Sys2Proof.Machine.execXferArm ks tr s
  | .xferConfirm ks tr => Sys2Proof.Machine.execXferConfirm ks tr s
  | .xferCancel value tr => Sys2Proof.Machine.execXferCancel value tr s
  | .xferResend => Sys2Proof.Machine.execXferResend s
  | .resyncReq req => Sys2Proof.Machine.execResyncReq req s
  | .resyncRetry => Sys2Proof.Machine.execResyncRetry s
  | .clrPeak => Sys2Proof.Machine.execClrPeak s
  | .loopSample e l j => Sys2Proof.Machine.execLoopSample e l j s
  | .loopEvaluation e l => Sys2Proof.Machine.execLoopEvaluation e l s
  | .loopOutputInstant e l => Sys2Proof.Machine.execLoopOutputInstant e l s
  | .laneMismatch e l lanes => Sys2Proof.Machine.execLaneMismatch e l lanes s
  | .frameStart e => Sys2Proof.Machine.execFrameStart e s
  | .validate e priv => Sys2Proof.Machine.execValidate e priv s
  | .validationDone e => Sys2Proof.Machine.execValidationDone e s
  | .switch e priv => Sys2Proof.Machine.execSwitch e priv s
  | .schedCancel e priv => Sys2Proof.Machine.execSchedCancel e priv s
  | .leEnable e v => Sys2Proof.Machine.execLeEnable e v s
  | .ssuTick e tick => Sys2Proof.Machine.execSsuTick e tick s
  | .recipeStart e l k tick => Sys2Proof.Machine.execRecipeStart e l k tick s
  | .recipeHold e l k => Sys2Proof.Machine.execRecipeHold e l k s
  | .recipeResume e l k tick => Sys2Proof.Machine.execRecipeResume e l k tick s
  | .recipeAbort e l k => Sys2Proof.Machine.execRecipeAbort e l k s
  | .recipeContinue e l k tick => Sys2Proof.Machine.execRecipeContinue e l k tick s
  | .resumeAt e l k step tick => Sys2Proof.Machine.execResumeAt e l k step tick s
  | .ssuEn e v => Sys2Proof.Machine.execSsuEn e v s
  | .probeArm e q => Sys2Proof.Machine.execProbeArm e q s
  | .probeDisarm e q => Sys2Proof.Machine.execProbeDisarm e q s
  | .probeForce e q => Sys2Proof.Machine.execProbeForce e q s
  | .sync port h twoStep t1 corr t2 => Sys2Proof.Machine.execSync port h twoStep t1 corr t2 s
  | .followUp port h t1 corr => Sys2Proof.Machine.execFollowUp port h t1 corr s
  | .announce port h a => Sys2Proof.Machine.execAnnounce port h a s
  | .delayReq port h t4 => Sys2Proof.Machine.execDelayReq port h t4 s
  | .delayResp port h t4 corr => Sys2Proof.Machine.execDelayResp port h t4 corr s
  | .pdelayReq port h t2 t3 => Sys2Proof.Machine.execPdelayReq port h t2 t3 s
  | .pdelayResp port h turn t4 => Sys2Proof.Machine.execPdelayResp port h turn t4 s
  | .ptpMessageSend port k t fail => Sys2Proof.Machine.execPtpMessageSend port k t fail s
  | .announceReceiptTimeout port => Sys2Proof.Machine.execAnnounceReceiptTimeout port s
  | .syncLoss port => Sys2Proof.Machine.execSyncLoss port s
  | .ppsIn sub => Sys2Proof.Machine.execPpsIn sub s
  | .ppsInLoss => Sys2Proof.Machine.execPpsInLoss s
  | .holdoverExpiry => Sys2Proof.Machine.execHoldoverExpiry s
  | .ppsOut => Sys2Proof.Machine.execPpsOut s
  | .leapSecond => Sys2Proof.Machine.execLeapSecond s
  | .set priv => Sys2Proof.Machine.execSet priv s
  | .leapIns priv => Sys2Proof.Machine.execLeapIns priv s
  | .leapDel priv => Sys2Proof.Machine.execLeapDel priv s
  | .leapCancel priv => Sys2Proof.Machine.execLeapCancel priv s
  | .utcOffset v => Sys2Proof.Machine.execUtcOffset v s
  | .frameLaunch port => Sys2Proof.Machine.execFrameLaunch port s
  | .supervisionFrame pair => Sys2Proof.Machine.execSupervisionFrame pair s
  | .peerLanFail pair => Sys2Proof.Machine.execPeerLanFail pair s
  | .svFrame port tag f => Sys2Proof.Machine.execSvFrame port tag f s
  | .groupPublish g sec c => Sys2Proof.Machine.execGroupPublish g sec c s
  | .svUnstableClear st => Sys2Proof.Machine.execSvUnstableClear st s
  | .svPublish p => Sys2Proof.Machine.execSvPublish p s
  | .gooseMessage port tag m => Sys2Proof.Machine.execGooseMessage port tag m s
  | .gooseTalExpiry gi => Sys2Proof.Machine.execGooseTalExpiry gi s
  | .gooseRetransmit gi => Sys2Proof.Machine.execGooseRetransmit gi s
  | .joinReq lane f => Sys2Proof.Machine.execJoinReq lane f s
  | .input lane f => Sys2Proof.Machine.execInput lane f s
  | .outputBuild x j => Sys2Proof.Machine.execOutputBuild x j s
  | .inputDeadline x j => Sys2Proof.Machine.execInputDeadline x j s
  | .leave x priv => Sys2Proof.Machine.execLeave x priv s
  | .inhibit x priv => Sys2Proof.Machine.execInhibit x priv s
  | .allow x priv => Sys2Proof.Machine.execAllow x priv s
  | .fabricPortDown port => Sys2Proof.Machine.execFabricPortDown port s
  | .helloSend port => Sys2Proof.Machine.execHelloSend port s
  | .hello port h m => Sys2Proof.Machine.execHello port h m s
  | .neighbourTimeout port => Sys2Proof.Machine.execNeighbourTimeout port s
  | .roll port h keeper roll fver entries => Sys2Proof.Machine.execRoll port h keeper roll fver entries s
  | .rollSend => Sys2Proof.Machine.execRollSend s
  | .addrReq port h uid ask vmin vmax => Sys2Proof.Machine.execAddrReq port h uid ask vmin vmax s
  | .addrGrant port h uid addr result => Sys2Proof.Machine.execAddrGrant port h uid addr result s
  | .addrReqRepeat => Sys2Proof.Machine.execAddrReqRepeat s
  | .lsa port h m => Sys2Proof.Machine.execLsa port h m s
  | .lsaSend => Sys2Proof.Machine.execLsaSend s
  | .lsaExpiry uid => Sys2Proof.Machine.execLsaExpiry uid s
  | .routeComputation => Sys2Proof.Machine.execRouteComputation s
  | .bookKeepExpiry uid => Sys2Proof.Machine.execBookKeepExpiry uid s
  | .versionGraceEnd => Sys2Proof.Machine.execVersionGraceEnd s
  | .fabRaise priv => Sys2Proof.Machine.execFabRaise priv s
  | .renew priv => Sys2Proof.Machine.execRenew priv s
  | .gv port h m => Sys2Proof.Machine.execGv port h m s
  | .gvTimeout gi => Sys2Proof.Machine.execGvTimeout gi s
  | .bulk port h bytes => Sys2Proof.Machine.execBulk port h bytes s
  | .txPush c priv => Sys2Proof.Machine.execTxPush c priv s
  | .canAttemptStart c => Sys2Proof.Machine.execCanAttemptStart c s
  | .canAttemptEnd c r pos tdcv exempt => Sys2Proof.Machine.execCanAttemptEnd c r pos tdcv exempt s
  | .txPop c => Sys2Proof.Machine.execTxPop c s
  | .galleyFlush c priv => Sys2Proof.Machine.execGalleyFlush c priv s
  | .recover c priv => Sys2Proof.Machine.execRecover c priv s
  | .clearClash c priv => Sys2Proof.Machine.execClearClash c priv s
  | .canFrameReceived c f => Sys2Proof.Machine.execCanFrameReceived c f s
  | .busOff c => Sys2Proof.Machine.execBusOff c s
  | .busOffRecovery c => Sys2Proof.Machine.execBusOffRecovery c s
  | .normalEntry c => Sys2Proof.Machine.execNormalEntry c s
  | .canBufferTimeout c b => Sys2Proof.Machine.execCanBufferTimeout c b s
  | .fifoPop c f0 f1 => Sys2Proof.Machine.execFifoPop c f0 f1 s
  | .ndClear c gi v => Sys2Proof.Machine.execNdClear c gi v s
  | .rxBank c v => Sys2Proof.Machine.execRxBank c v s
  | .canEn c v => Sys2Proof.Machine.execCanEn c v s
  | .fsMeasure l0 l1 => Sys2Proof.Machine.execFsMeasure l0 l1 s
  | .dioSample c mv => Sys2Proof.Machine.execDioSample c mv s
  | .readbackSample c mv ma limit open_ groupMa => Sys2Proof.Machine.execReadbackSample c mv ma limit open_ groupMa s
  | .overload c => Sys2Proof.Machine.execOverload c s
  | .offOvl c => Sys2Proof.Machine.execOffOvl c s
  | .openWire c => Sys2Proof.Machine.execOpenWire c s
  | .groupOff g => Sys2Proof.Machine.execGroupOff g s
  | .overtemp c => Sys2Proof.Machine.execOvertemp c s
  | .outputRetry c cool => Sys2Proof.Machine.execOutputRetry c cool s
  | .retry mask => Sys2Proof.Machine.execRetry mask s
  | .testPulseStart c => Sys2Proof.Machine.execTestPulseStart c s
  | .testPulseEnd c mv => Sys2Proof.Machine.execTestPulseEnd c mv s
  | .aiSample a ua mv => Sys2Proof.Machine.execAiSample a ua mv s
  | .compWarn a => Sys2Proof.Machine.execCompWarn a s
  | .compFault a => Sys2Proof.Machine.execCompFault a s
  | .loopRCompute a => Sys2Proof.Machine.execLoopRCompute a s
  | .hartResponse a m code => Sys2Proof.Machine.execHartResponse a m code s
  | .hartTimeout a => Sys2Proof.Machine.execHartTimeout a s
  | .hartSend a priv => Sys2Proof.Machine.execHartSend a priv s
  | .hartAbort a priv => Sys2Proof.Machine.execHartAbort a priv s
  | .reflexFire => Sys2Proof.Machine.execReflexFire s
  | .rfxClr rules => Sys2Proof.Machine.execRfxClr rules s
  | .rfxArm v priv => Sys2Proof.Machine.execRfxArm v priv s
  | .rfxEn v => Sys2Proof.Machine.execRfxEn v s
  | .discrepancyExpiry k => Sys2Proof.Machine.execDiscrepancyExpiry k s
  | .safetyWatchdogExpiry => Sys2Proof.Machine.execSafetyWatchdogExpiry s
  | .srstSample mv => Sys2Proof.Machine.execSrstSample mv s
  | .srstStuck => Sys2Proof.Machine.execSrstStuck s
  | .rstAck priv => Sys2Proof.Machine.execRstAck priv s
  | .rstWinExpiry => Sys2Proof.Machine.execRstWinExpiry s
  | .safeEn v => Sys2Proof.Machine.execSafeEn v s
  | .pst copy bytes => Sys2Proof.Machine.execPst copy bytes s
  | .pairWinExpiry gi => Sys2Proof.Machine.execPairWinExpiry gi s
  | .pstTimeout gi => Sys2Proof.Machine.execPstTimeout gi s
  | .degMaxExpiry gi => Sys2Proof.Machine.execDegMaxExpiry gi s
  | .journalWrite => Sys2Proof.Machine.execJournalWrite s
  | .stagingOverflow r => Sys2Proof.Machine.execStagingOverflow r s
  | .rateLimitSecond => Sys2Proof.Machine.execRateLimitSecond s
  | .clear priv => Sys2Proof.Machine.execClear priv s
  | .archive priv => Sys2Proof.Machine.execArchive priv s
  | .archiveClear priv => Sys2Proof.Machine.execArchiveClear priv s
  | .clearComplete => Sys2Proof.Machine.execClearComplete s
  | .archiveComplete => Sys2Proof.Machine.execArchiveComplete s
  | .journalClose => Sys2Proof.Machine.execJournalClose s
  | .recorderIntake sig value bufferFull => Sys2Proof.Machine.execRecorderIntake sig value bufferFull s
  | .refresh capacity => Sys2Proof.Machine.execRefresh capacity s
  | .trigger codes => Sys2Proof.Machine.execTrigger codes s
  | .trgInput n => Sys2Proof.Machine.execTrgInput n s
  | .holdoffExpiry => Sys2Proof.Machine.execHoldoffExpiry s
  | .postTmaxExpiry => Sys2Proof.Machine.execPostTmaxExpiry s
  | .recArm priv => Sys2Proof.Machine.execRecArm priv s
  | .recDisarm priv => Sys2Proof.Machine.execRecDisarm priv s
  | .recForce priv => Sys2Proof.Machine.execRecForce priv s
  | .segFree seg priv => Sys2Proof.Machine.execSegFree seg priv s
  | .expStart seg priv => Sys2Proof.Machine.execExpStart seg priv s
  | .expAbort priv => Sys2Proof.Machine.execExpAbort priv s
  | .exportComplete ok files => Sys2Proof.Machine.execExportComplete ok files s
  | .commit cls priv cut => Sys2Proof.Machine.execCommit cls priv cut s
  | .attest priv => Sys2Proof.Machine.execAttest priv s
  | .attestDone sig => Sys2Proof.Machine.execAttestDone sig s
  | .erase priv => Sys2Proof.Machine.execErase priv s
  | .activate priv => Sys2Proof.Machine.execActivate priv s
  | .confirm priv => Sys2Proof.Machine.execConfirm priv s
  | .bootWdgExpiry boot => Sys2Proof.Machine.execBootWdgExpiry boot s
  | .tlsSession svc ok key => Sys2Proof.Machine.execTlsSession svc ok key s
  | .fileRead session file => Sys2Proof.Machine.execFileRead session file s
  | .fileDelete session file => Sys2Proof.Machine.execFileDelete session file s
  | .fileWrite session file boot => Sys2Proof.Machine.execFileWrite session file boot s
  | .feedLost b v => Sys2Proof.Machine.execFeedLost b v s
  | .feedRestored b v => Sys2Proof.Machine.execFeedRestored b v s
  | .restart v priv boot => Sys2Proof.Machine.execRestart v priv boot s
  | .huTest cmd priv => Sys2Proof.Machine.execHuTest cmd priv s
  | .huTestDone cap esr => Sys2Proof.Machine.execHuTestDone cap esr s
  | .powerFailTrigger removal => Sys2Proof.Machine.execPowerFailTrigger removal s
  | .sagRecovered => Sys2Proof.Machine.execSagRecovered s
  | .saveGraceExpiry => Sys2Proof.Machine.execSaveGraceExpiry s
  | .localFormeFlip => Sys2Proof.Machine.execLocalFormeFlip s
  | .retainCopyDone => Sys2Proof.Machine.execRetainCopyDone s
  | .seated boot => Sys2Proof.Machine.execSeated boot s
  | .slotChg slot side => Sys2Proof.Machine.execSlotChg slot side s
  | .quoin page v => Sys2Proof.Machine.execQuoin page v s
  | .intRaw page v => Sys2Proof.Machine.execIntRaw page v s
  | .intSet page v => Sys2Proof.Machine.execIntSet page v s
  | .clrErrcnt priv => Sys2Proof.Machine.execClrErrcnt priv s
  | .registerWrite page off v size priv => Sys2Proof.Machine.execRegisterWrite page off v size priv s
  | .peerPresN v => Sys2Proof.Machine.execPeerPresN v s
  | .portLinkChg port up gig full => Sys2Proof.Machine.execPortLinkChg port up gig full s
  | .laneLinkChg lane evt => Sys2Proof.Machine.execLaneLinkChg lane evt s
  | .fabricPortUp up => Sys2Proof.Machine.execFabricPortUp up s
  | .canBusError c f => Sys2Proof.Machine.execCanBusError c f s
  | .bankBelow14v => Sys2Proof.Machine.execBankBelow14v s
  | .chargingEnd => Sys2Proof.Machine.execChargingEnd s
  | .nodeForgetTime pair src => Sys2Proof.Machine.execNodeForgetTime pair src s
  | .supervisionReceipt pair second tag => Sys2Proof.Machine.execSupervisionReceipt pair second tag s
  | .trgPulseEnd => Sys2Proof.Machine.execTrgPulseEnd s
  | .ppsOutFall => Sys2Proof.Machine.execPpsOutFall s
  | .sessionEnd ident => Sys2Proof.Machine.execSessionEnd ident s
  | .doubledRefresh temp => Sys2Proof.Machine.execDoubledRefresh temp s

end Sys2Proof.Machine
end

