-- ==== Sys2Proof/Machine/Leds.lean ====
section
/-! DEFINITION. The status LEDs as views of the state (R601, R549). Blinking is phase-locked to the TAI second; patterns are named, not their phase. -/

namespace Sys2Proof.Machine

/-- The eight status LEDs. -/
inductive Led where
  | pwr | role | run | pair | time | net | safe | fault
  deriving DecidableEq, Repr

/-- Colours of the LEDs. -/
inductive LedColour where
  | green | yellow | red
  deriving DecidableEq, Repr

/-- What an LED shows: off, steady, blinking at a rate in Hz, or two LEDs alternately at 2 Hz. -/
inductive LedShow where
  | off | on (c : LedColour) | blink (c : LedColour) (hz : Nat) | alternate (c : LedColour)
  deriving DecidableEq, Repr

/-- PWR. -/
def State.ledPwr (s : State) : LedShow := if s.rbit Page.pwr Reg.pwr_PWR_STAT 3 then .blink .green 1 else .on .green

/-- ROLE. -/
def State.ledRole (s : State) : LedShow :=
  match s.pair.role with
  | .active => .on .green | .standbySync => .on .yellow | .standbyUnsync => .blink .yellow 1
  | .maintenance => .blink .green 1 | .starting => .blink .yellow 4 | .failed => .off

/-- RUN. A standby has a mode from the proof while it is synchronised (notes/assumptions/42.md). DEDUCED. -/
def State.ledRun (s : State) : LedShow :=
  match s.pair.role, s.bell.mode with
  | .starting, _ => .off | .failed, _ => .off | .standbyUnsync, _ => .off
  | _, .run => .on .green | _, .stop => .blink .green 1 | _, .hold => .blink .green 4

/-- PAIR. -/
def State.ledPair (s : State) : LedShow :=
  if s.pair.syncPair then .on .green else if s.pair.peerPresent || s.pair.negFail then .blink .yellow 1 else .off

/-- TIME. -/
def State.ledTime (s : State) : LedShow :=
  match s.tb.st with
  | .locked => .on .green | .holdover => .on .yellow | .acquiring => .blink .yellow 1 | .freerun => .blink .yellow 1 | .unset => .off

/-- Whether every configured link is up: P1 to P4, station lanes and fabric ports with their enable (notes/assumptions/42.md). DESIGN CHOICE. -/
def State.netUp (s : State) : Bool :=
  (List.range 4).all (fun p => s.rbit (Page.port p) Reg.port_PORT_STAT 0)
    && (List.range 2).all (fun l => !s.rbit (Page.lane l) Reg.lane_LANE_CFG 0 || tget (fun _ => LaneSt.down) s.lanes l == .up)
    && (List.range 4).all (fun i => !(s.fabEn && s.rbit (Page.fport i) Reg.fport_PORT_CFG 0) || s.fportUp i)

/-- NET. -/
def State.ledNet (s : State) : LedShow := if s.netUp then .on .green else .on .yellow

/-- SAFE: where SAFE_EN is set and no row applies, for example with a disabled output alone, the LED is green, as every enabled output is then READY. -/
def State.ledSafe (s : State) : LedShow :=
  if (List.range 8).any (fun j => (s.so j).st == .lockout) then .on .red
  else if (List.range 8).any (fun j => (s.so j).st == .tripped) then .on .yellow
  else if s.safeEn then .on .green else .off

/-- Degraded (R601): a cluster not TRIPLE, a unit or engine retired, hold-up WARN, spares LOW, LINE_FAULT. -/
def State.ledDegraded (s : State) : Bool :=
  (List.range 16).any (fun n => s.cluster n != .triple)
    || (List.range 48).any (fun u => (s.unit u).st == .retired || (s.unit u).st == .notEnabled)
    || (List.range 2).any (fun e => (s.eng e).st == .failed)
    || s.rbit Page.hu Reg.hu_HU_STAT 1
    || (List.range 14).any (fun m => s.rbit (memPage m) Reg.rg_REMAP_STAT 16)
    || s.pair.lineFault

/-- FAULT. -/
def State.ledFault (s : State) : LedShow :=
  match s.pair.role with
  | .failed => .on .red
  | _ => if s.ledDegraded then .blink .red 1 else .off

/-- What a status LED shows (R601); in recovery the pattern of R549 overrides the table. -/
def State.led (s : State) (l : Led) : LedShow :=
  if s.sec.recovery then
    match l with
    | .pwr => .on .green | .fault => .alternate .red | .role => .alternate .yellow | _ => .off
  else match l with
    | .pwr => s.ledPwr | .role => s.ledRole | .run => s.ledRun | .pair => s.ledPair
    | .time => s.ledTime | .net => s.ledNet | .safe => s.ledSafe | .fault => s.ledFault

end Sys2Proof.Machine
end

