-- ==== Sys2Proof/Machine/Step.lean ====
section
/-! DEFINITION. One step: the command at the front of the queue, or one tick of TCLK. -/

namespace Sys2Proof.Machine

/-- The command at the front of the queue is taken and executed on the state with the rest of the queue; with an empty queue time passes. -/
def step (s : State) : Host.Outcome State Fault Refusal :=
  match s.pending with
  | [] => .next s.tick
  | c :: rest => exec c { s with pending := rest }

/-- The state with a command put in front of its queue. -/
def State.front (s : State) (c : Instr) : State := { s with pending := c :: s.pending }

/-- The state with the command that a word spells in front of its queue; unchanged where the word spells none. -/
def State.withFetchWord (s : State) (nbits w : Nat) : State :=
  match decodeTableWord nbits w with
  | some c => s.front c
  | none => s

end Sys2Proof.Machine
end

