-- ==== Sys2Proof/Safety.lean ====
section
/-! DEFINITION. What claims say of states: when a cluster runs its next instruction, the state after it, permitted accesses, the canonical form of memory. -/

namespace Sys2Proof

open Sys2Proof.Machine

/-- The memory is in its canonical form. -/
abbrev MemOk (s : State) : Prop := Memory.wf s.mem = true

/-- The sparse tables that claims read by key are in their canonical form: memory, the handles written in this cycle, the force table. -/
abbrev TablesOk (s : State) : Prop :=
  MemOk s ∧ twf (fun _ => false) s.outDirty = true ∧ twf (fun _ => ({} : ForceEntry)) s.forces = true

/-- The stored word that holds an address carries no error (R167). -/
abbrev Sound (s : State) (a : Nat) : Prop := s.upset (a / 16 * 16) = 0#144

/-- Cluster n executes its next instruction: it is running (R69, R93, R212), its fetch is permitted (R103, R122, R192), and the word fetched carries no error (R171). -/
abbrev Runs (s : State) (n : Fin 16) : Prop :=
  s.executing n.val = true ∧ (s.fetchCheck n.val).2 = true ∧ Sound s (s.core n.val).ip.toNat

/-- The state after an instruction that changes nothing but the registers of cluster n: the registers `c`, execution at `dest`, `k` CCLK later. -/
def After (s : State) (n : Fin 16) (c : Core) (dest : Word) (k : Nat) : State :=
  s.setCore n.val { c with ip := dest, ct := c.ct + BitVec.ofNat 64 k }

/-- A data access of cluster n to its own region that both checks permit. -/
abbrev MayAccess (s : State) (n : Fin 16) (o : AccOp) (a len : Nat) : Prop :=
  ownRegion n.val a = true ∧ (s.coreAccess n.val (s.core n.val).priv o a len).2 = true

/-- A command completes on a state: exec answers a next state, and that state has the property. -/
def Gives (c : Instr) (s : State) (P : State → Prop) : Prop := ∃ t, exec c s = .next t ∧ P t

end Sys2Proof
end

