-- ==== Sys2Proof/WellFormed.lean ====
section
/-! DEFINITION. Which commands name something that exists: operands whose range a type does not give. -/

namespace Sys2Proof

open Sys2Proof.Machine

/-- Whether an offset of a page is aligned for an access of size code 0 to 3 (R592). -/
def alignedFor (off : Nat) (size : BitVec 2) : Bool := decide (off % 2 ^ size.toNat = 0)

/-- Whether the operands of a command lie in the ranges that its rule gives them. -/
def wellFormed (i : Instr) : Bool :=
  match i with
  | .registerWrite page off _ size _ => decide (page < 320) && decide (off < 0x1000) && alignedFor off size
  | .quoin page _ => decide (page < 320)
  | .intRaw page _ => decide (page < 320)
  | .intSet page _ => decide (page < 320)
  | .shadowBankWrite page i _ => decide (i < rulesOf page * 8)
  | .comparatorMismatch _ units _ _ _ _ => units != 0#3
  | .proofTake line => decide (line % 64 = 0)
  | .proofData _ l _ _ => decide (1 ≤ l.length ∧ l.length ≤ 16)
  | .proofJournal _ l _ _ => decide (1 ≤ l.length ∧ l.length ≤ 32)
  | .proofCtrl _ l _ _ => decide (1 ≤ l.length ∧ l.length ≤ 16)
  | .stopMark cyc _ => decide (cyc < 2 ^ 48)
  | .proofAck a _ => decide (a.cyc < 2 ^ 48)
  | .proofNak cyc _ _ => decide (cyc < 2 ^ 48)
  | .xferData _ _ bytes _ => decide (bytes.length ≤ 1024)
  | .xferArm x _ => decide (x.value < 2 ^ 48)
  | .xferConfirm x _ => decide (x.value < 2 ^ 48)
  | .xferCancel x _ => decide (x.value < 2 ^ 48)
  | .linkBlockLock q _ => decide (q.length = 4)
  | .attestDone sig => decide (sig.length = 114)
  | _ => true

end Sys2Proof
end

