-- ==== Sys2Proof/Certificates/Slice0/Obligations.lean ====
section
/-! DEFINITION. The statements for the provers. -/

open Sys2Proof Sys2Proof.Machine

/-! ### The machine -/

/-- The command at the front of the queue is executed on the state with the rest of the queue. -/
def Obligations.StepRunsFront : Prop := ∀ (c : Instr) (s : State), step (s.front c) = exec c s

/-- Every command goes on: no meaning ends in a fault or a refusal. -/
def EveryCommandAnswers : Prop := ∀ (c : Instr) (s : State), ∃ t, exec c s = .next t

/-- Every step keeps the canonical form of the memory, of the set of handles written in the cycle and of the force table: no key stands twice, and no entry equals what an unlisted key reads as. -/
def Obligations.MemoryFormKept : Prop := ∀ (s t : State), TablesOk s → step s = .next t → TablesOk t

/-- The tables of the reset state are in their canonical form, and its memory lists nothing. -/
def Obligations.MemoryFormAtReset : Prop := TablesOk State.reset ∧ State.reset.mem = []

/-- Commands are taken first in, first out: a step takes the front of the queue and leaves the rest as it is. On an empty queue a tick of 4 ns passes; with no frame waiting for a port it changes nothing else but that it ends the staging of a package whose digest is wrong, or that of a module without a synchronised partner (the model's choices: notes/assumptions/1.md and 55.md; R562). -/
def QueueOrder : Prop :=
  (∀ (c : Instr) (rest : List Instr) (s t : State), s.pending = c :: rest → step s = .next t → t.pending = rest) ∧
  (∀ s : State, s.pending = [] → s.freeTx = [] → s.fab.queues = [] →
    s.olc.stat ≠ .staging ∨ (s.olc.bad = false ∧ (s.pair.syncPair = true ∨ s.olc.pkg = none)) →
    step s = .next { s with now := s.now + 1, tb := { s.tb with time := Time.ofNs (s.tb.time.toNs + 4) } }) ∧
  (∀ (s : State) (p : OlcPkg), s.pending = [] → s.olc.stat = .staging → s.olc.bad = false → s.pair.syncPair = false → s.olc.pkg = some p →
    ∃ t, step s = .next t ∧ t.pending = [] ∧ t.now = s.now + 1 ∧ t.olc = { stat := .staged, pkg := some p } ∧ t.cores = s.cores ∧
      t.forme = s.forme ∧ ∀ x, s.proj.uses x = true → t.byte x = s.byte x) ∧
  (∀ s : State, s.pending = [] → s.olc.stat = .staging → s.olc.bad = true →
    ∃ t, step s = .next t ∧ t.pending = [] ∧ t.now = s.now + 1 ∧ t.olc.stat = .digestFail ∧ t.olc.pkg = none ∧ t.cores = s.cores ∧
      t.forme = s.forme ∧ t.mem = s.mem)

/-- Every command completes, and commands are taken in the order of the queue. -/
def Obligations.CommandsComplete : Prop := EveryCommandAnswers ∧ QueueOrder
/-! ### Instructions of chapter 3 on the registers of a cluster -/

/-- A constructor of format R with its result, its VI condition and its count of CCLK. -/
structure AluForm where
  form : Fin 16 → BitVec 5 → BitVec 5 → BitVec 5 → Instr
  res : Word → Word → Word
  vi : Word → Word → Bool := fun _ _ => false
  cclk : Nat := 1

/-- Integer and edge operations on two registers (R99, R100). -/
def aluForms : List AluForm :=
  [{ form := .add, res := fun x y => x + y, vi := BitVec.saddOverflow }, { form := .sub, res := fun x y => x - y, vi := BitVec.ssubOverflow },
   { form := .and, res := fun x y => x &&& y }, { form := .or, res := fun x y => x ||| y }, { form := .xor, res := fun x y => x ^^^ y },
   { form := .shl, res := fun x y => x <<< (y.toNat % 32) }, { form := .shr, res := fun x y => x >>> (y.toNat % 32) },
   { form := .sar, res := fun x y => x.sshiftRight (y.toNat % 32) },
   { form := .slt, res := fun x y => if x.slt y then 1#32 else 0#32 }, { form := .sltu, res := fun x y => if x.ult y then 1#32 else 0#32 }]
  ++ [{ form := .mul, res := fun x y => x * y, vi := BitVec.smulOverflow, cclk := 3 },
   { form := .mulh, res := fun x y => (x.signExtend 64 * y.signExtend 64).extractLsb' 32 32, cclk := 3 },
   { form := .mulhu, res := fun x y => (x.zeroExtend 64 * y.zeroExtend 64).extractLsb' 32 32, cclk := 3 },
   { form := .rise, res := fun x y => x &&& ~~~y }, { form := .fall, res := fun x y => ~~~x &&& y }]

/-- R99, R100: gd takes the result, VI is set where the signed result does not fit and is kept otherwise, and nothing else of the state changes but ip and ct of the cluster. -/
def AluResults : Prop :=
  ∀ e ∈ aluForms, ∀ (n : Fin 16) (d a b : BitVec 5) (s : State), Runs s n →
    exec (e.form n d a b) s = .next (After s n
      (((s.core n.val).setG d (e.res ((s.core n.val).greg a) ((s.core n.val).greg b))).setVI (e.vi ((s.core n.val).greg a) ((s.core n.val).greg b)))
      ((s.core n.val).ip + 4#32) e.cclk)

/-- Operations on one register whose b field is unused: constructor and result (R98, R99). -/
def unaryForms : List ((Fin 16 → BitVec 5 → BitVec 5 → BitVec 5 → Instr) × Nat × Nat × (Word → Word)) :=
  [(.sexb, 0, 0x011, fun x => (x.extractLsb' 0 8).signExtend 32), (.sexh, 0, 0x012, fun x => (x.extractLsb' 0 16).signExtend 32),
   (.clz, 5, 2, fun x => x.clz), (.popc, 5, 3, fun x => x.cpop)]

/-- R98, R99: an operation on one register gives its result where the unused field is 0, and enters ILLEGAL with the instruction word otherwise. -/
def UnaryResults : Prop :=
  ∀ e ∈ unaryForms, ∀ (n : Fin 16) (d a b : BitVec 5) (s : State), Runs s n →
    exec (e.1 n d a b) s = .next (if b = 0#5
      then After s n ((s.core n.val).setG d (e.2.2.2 ((s.core n.val).greg a))) ((s.core n.val).ip + 4#32) 1
      else s.except n.val .illegal (wordR e.2.1 d a b e.2.2.1) id)

/-- Operations with a bit number or a shift count in the b field (R99). -/
def countForms : List ((Fin 16 → BitVec 5 → BitVec 5 → BitVec 5 → Instr) × (Word → Nat → Word)) :=
  [(.shli, fun x k => x <<< k), (.shri, fun x k => x >>> k), (.sari, fun x k => x.sshiftRight k),
   (.bseti, fun x k => x ||| BitVec.twoPow 32 k), (.bclri, fun x k => x &&& ~~~BitVec.twoPow 32 k)]

/-- R99: shifts by a count and operations on one bit. -/
def CountResults : Prop :=
  ∀ e ∈ countForms, ∀ (n : Fin 16) (d a b : BitVec 5) (s : State), Runs s n →
    exec (e.1 n d a b) s = .next (After s n ((s.core n.val).setG d (e.2 ((s.core n.val).greg a) b.toNat)) ((s.core n.val).ip + 4#32) 1)

/-- Immediate operations (R99, R100): constructor, result, VI. -/
def immForms : List ((Fin 16 → BitVec 5 → BitVec 5 → BitVec 16 → Instr) × (Word → Half → Word) × (Word → Half → Bool)) :=
  [(.addi, fun x i => x + i.signExtend 32, fun x i => x.saddOverflow (i.signExtend 32)), (.andi, fun x i => x &&& i.zeroExtend 32, fun _ _ => false),
   (.ori, fun x i => x ||| i.zeroExtend 32, fun _ _ => false), (.xori, fun x i => x ^^^ i.zeroExtend 32, fun _ _ => false),
   (.slti, fun x i => if x.slt (i.signExtend 32) then 1#32 else 0#32, fun _ _ => false),
   (.sltiu, fun x i => if x.ult (i.signExtend 32) then 1#32 else 0#32, fun _ _ => false)]

/-- R99, R100: immediate operations; LUI loads imm × 65,536 and asks for a = 0. -/
def ImmediateForms : Prop :=
  (∀ e ∈ immForms, ∀ (n : Fin 16) (d a : BitVec 5) (imm : BitVec 16) (s : State), Runs s n →
    exec (e.1 n d a imm) s = .next (After s n
      (((s.core n.val).setG d (e.2.1 ((s.core n.val).greg a) imm)).setVI (e.2.2 ((s.core n.val).greg a) imm)) ((s.core n.val).ip + 4#32) 1)) ∧
  (∀ (n : Fin 16) (d a : BitVec 5) (imm : BitVec 16) (s : State), Runs s n →
    exec (.lui n d a imm) s = .next (if a = 0#5 then After s n ((s.core n.val).setG d (imm ++ 0#16)) ((s.core n.val).ip + 4#32) 1
      else s.except n.val .illegal (wordI 0x0E d a imm) id))

/-- R99: BEXT takes bits [p+len−1:p] of ga, zero-extended, and BINS puts ga [len−1:0] there and keeps the other bits of gd; another b field, fn[10] set or p + len above 32 raises ILLEGAL. -/
def BitFieldResults : Prop :=
  ∀ (n : Fin 16) (d a b : BitVec 5) (fn : BitVec 11) (s : State), Runs s n →
    let c := s.core n.val
    let p := fn.toNat % 32
    let len := fn.toNat / 32 % 32 + 1
    let legal := b = 0#5 ∧ fn.toNat < 1024 ∧ p + len ≤ 32
    exec (.bext n d a b fn) s = .next (if legal
      then After s n (c.setG d (BitVec.ofNat 32 ((c.greg a).toNat / 2 ^ p % 2 ^ len))) (c.ip + 4#32) 1
      else s.except n.val .illegal (wordR 3 d a b fn.toNat) id) ∧
    ∃ v, (∀ i : Nat, i < 32 → v.getLsbD i = if p ≤ i ∧ i < p + len then (c.greg a).getLsbD (i - p) else (c.greg d).getLsbD i) ∧
      exec (.bins n d a b fn) s = .next (if legal then After s n (c.setG d v) (c.ip + 4#32) 1
        else s.except n.val .illegal (wordR 4 d a b fn.toNat) id)

/-- Divisions (R100): constructor, fn, quotient or remainder, VI. -/
def divForms : List ((Fin 16 → BitVec 5 → BitVec 5 → BitVec 5 → Instr) × Nat × (Word → Word → Word) × (Word → Word → Bool)) :=
  [(.div, 0x00D, fun x y => x.sdiv y, fun x y => x == 0x80000000#32 && y == 0xFFFFFFFF#32), (.divu, 0x00E, fun x y => x / y, fun _ _ => false),
   (.mod, 0x00F, fun x y => x.srem y, fun _ _ => false), (.modu, 0x010, fun x y => x % y, fun _ _ => false)]

/-- R100: the quotient truncates toward zero, the remainder has the sign of ga, 0x8000_0000 by −1 gives itself and sets VI; a divisor of 0 raises DIVZ with the instruction word. -/
def Obligations.DivisionResults : Prop :=
  ∀ e ∈ divForms, ∀ (n : Fin 16) (d a b : BitVec 5) (s : State), Runs s n →
    let x := (s.core n.val).greg a
    let y := (s.core n.val).greg b
    exec (e.1 n d a b) s = .next (if y = 0#32 then s.except n.val .divz (wordR 0 d a b e.2.1) (fun c => c.setG d 0#32)
      else After s n (((s.core n.val).setG d (e.2.2.1 x y)).setVI (e.2.2.2 x y)) ((s.core n.val).ip + 4#32) 18)

/-- Pair operations (R99, R100): constructor, fn, result, VI, count. -/
def pairForms : List ((Fin 16 → BitVec 5 → BitVec 5 → BitVec 5 → Instr) × Nat × (DWord → DWord → DWord) × (DWord → DWord → Bool) × Nat) :=
  [(.addl, 0, fun x y => x + y, fun x y => x.saddOverflow y, 2), (.subl, 1, fun x y => x - y, fun x y => x.ssubOverflow y, 2),
   (.mull, 2, fun x y => x * y, fun x y => x.smulOverflow y, 6), (.shll, 7, fun x y => x <<< (y.toNat % 64), fun _ _ => false, 2),
   (.shrl, 8, fun x y => x >>> (y.toNat % 64), fun _ _ => false, 2), (.sarl, 9, fun x y => x.sshiftRight (y.toNat % 64), fun _ _ => false, 2),
   (.sltl, 0x00A, fun x y => if x.slt y then 1#64 else 0#64, fun _ _ => false, 2), (.sltlu, 0x00B, fun x y => if x.ult y then 1#64 else 0#64, fun _ _ => false, 2)]

/-- Divisions of pairs (R100). -/
def pairDivForms : List ((Fin 16 → BitVec 5 → BitVec 5 → BitVec 5 → Instr) × Nat × (DWord → DWord → DWord) × (DWord → DWord → Bool)) :=
  [(.divl, 3, fun x y => x.sdiv y, fun x y => x == 0x8000000000000000#64 && y == 0xFFFFFFFFFFFFFFFF#64), (.divlu, 4, fun x y => x / y, fun _ _ => false),
   (.modl, 5, fun x y => x.srem y, fun _ _ => false), (.modlu, 6, fun x y => x % y, fun _ _ => false)]

/-- R90, R99, R100: pair operations on even registers; an odd register raises ILLEGAL, a divisor of 0 DIVZ. -/
def PairResults : Prop :=
  (∀ e ∈ pairForms, ∀ (n : Fin 16) (d a b : BitVec 5) (s : State), Runs s n →
    exec (e.1 n d a b) s = .next (if d.toNat % 2 = 0 ∧ a.toNat % 2 = 0 ∧ b.toNat % 2 = 0
      then After s n (((s.core n.val).setPair d (e.2.2.1 ((s.core n.val).pair a) ((s.core n.val).pair b))).setVI
        (e.2.2.2.1 ((s.core n.val).pair a) ((s.core n.val).pair b))) ((s.core n.val).ip + 4#32) e.2.2.2.2
      else s.except n.val .illegal (wordR 1 d a b e.2.1) id)) ∧
  (∀ e ∈ pairDivForms, ∀ (n : Fin 16) (d a b : BitVec 5) (s : State), Runs s n →
    exec (e.1 n d a b) s = .next (if d.toNat % 2 = 0 ∧ a.toNat % 2 = 0 ∧ b.toNat % 2 = 0
      then (if (s.core n.val).pair b = 0#64 then s.except n.val .divz (wordR 1 d a b e.2.1) (fun c => c.setPair d 0#64)
        else After s n (((s.core n.val).setPair d (e.2.2.1 ((s.core n.val).pair a) ((s.core n.val).pair b))).setVI
          (e.2.2.2 ((s.core n.val).pair a) ((s.core n.val).pair b))) ((s.core n.val).ip + 4#32) 36)
      else s.except n.val .illegal (wordR 1 d a b e.2.1) (fun c => c.setPair d 0#64)))

/-- R90: g0 reads 0 and discards writes, every other general register reads what was last written to it and no write reaches another one, and a pair reads its two registers, pair g0:g1 as 0. -/
def RegisterFile : Prop :=
  ∀ (c : Core) (r q : BitVec 5) (v : Word) (w : DWord) (k : BitVec 5), k.toNat % 2 = 0 →
    c.greg 0#5 = 0#32 ∧ (c.setG 0#5 v) = c ∧ (c.setG r v).greg q = (if q = r ∧ r ≠ 0#5 then v else c.greg q) ∧
    (c.setF r w).freg q = (if q = r then w else c.freg q) ∧ (c.setG r v).freg q = c.freg q ∧
    (c.setPair k w).pair k = (if k = 0#5 then 0#64 else w) ∧ c.pair 0#5 = 0#64 ∧
    (k ≠ 0#5 → c.pair k = c.greg (k + 1#5) ++ c.greg k)

/-- Integer operations on one and two registers (R98 to R100). -/
def Obligations.IntegerResults : Prop := AluResults ∧ UnaryResults ∧ CountResults

/-- Immediate operations and bit fields (R99, R100). -/
def Obligations.ImmediateResults : Prop := ImmediateForms ∧ BitFieldResults

/-- Pair operations and the register file (R90, R99, R100). -/
def Obligations.RegisterPairs : Prop := PairResults ∧ RegisterFile

/-! ### Floating point -/

/-- Arithmetic on two floating-point registers (R101): constructor, result and flags of a format, counts of .S and .D. -/
def fpuForms : List ((Fin 16 → Bool → BitVec 5 → BitVec 5 → BitVec 5 → Instr) × (FFmt → Nat → Nat → Nat × FFlags) × Nat × Nat) :=
  [(.fadd, fadd, 3, 4), (.fsub, fsub, 3, 4), (.fmul, fmul, 3, 4), (.fdiv, fdiv, 12, 22),
   (.fmin, fun f => fminmax f true, 1, 1), (.fmax, fun f => fminmax f false, 1, 1)]

/-- Compares into a general register (R101). -/
def cmpForms : List ((Fin 16 → Bool → BitVec 5 → BitVec 5 → BitVec 5 → Instr) × (FFmt → Nat → Nat → Bool × FFlags)) :=
  [(.feq, feq), (.flt, fun f => fcmp f false), (.fle, fun f => fcmp f true)]

/-- R90, R99, R101: a binary32 operation ignores bits [63:32] of its operands and writes 0 there, flags are sticky in fl, and the operations take their counts whatever the operands; FSQRT asks for b = 0, and FMADD adds its destination with one rounding. -/
def Obligations.FloatResults : Prop :=
  (∀ e ∈ fpuForms, ∀ (n : Fin 16) (dbl : Bool) (d a b : BitVec 5) (s : State), Runs s n →
    let c := s.core n.val
    let x (r : BitVec 5) : Nat := if dbl then (c.freg r).toNat else (c.freg r).toNat % 2 ^ 32
    let r := e.2.1 (if dbl then f64 else f32) (x a) (x b)
    exec (e.1 n dbl d a b) s = .next (After s n ((c.setF d (BitVec.ofNat 64 r.1)).setFF r.2) (c.ip + 4#32) (if dbl then e.2.2.2 else e.2.2.1))) ∧
  (∀ e ∈ cmpForms, ∀ (n : Fin 16) (dbl : Bool) (d a b : BitVec 5) (s : State), Runs s n →
    let c := s.core n.val
    let x (r : BitVec 5) : Nat := if dbl then (c.freg r).toNat else (c.freg r).toNat % 2 ^ 32
    let r := e.2 (if dbl then f64 else f32) (x a) (x b)
    exec (e.1 n dbl d a b) s = .next (After s n ((c.setG d (if r.1 then 1#32 else 0#32)).setFF r.2) (c.ip + 4#32) 2)) ∧
  (∀ (n : Fin 16) (dbl : Bool) (d a b : BitVec 5) (s : State), Runs s n →
    let c := s.core n.val
    let m := if dbl then f64 else f32
    let x (r : BitVec 5) : Nat := if dbl then (c.freg r).toNat else (c.freg r).toNat % 2 ^ 32
    exec (.fsqrt n dbl d a 0#5) s = .next (After s n ((c.setF d (BitVec.ofNat 64 (fsqrt m (x a)).1)).setFF (fsqrt m (x a)).2)
      (c.ip + 4#32) (if dbl then 26 else 14)) ∧
    exec (.fmadd n dbl d a b) s = .next (After s n ((c.setF d (BitVec.ofNat 64 (ffma m (x a) (x b) (x d)).1)).setFF (ffma m (x a) (x b) (x d)).2)
      (c.ip + 4#32) (if dbl then 5 else 4)))

/-- R90, R101: FABS and FNEG change the sign bit alone and set no flag, moves carry bits unchanged, and none of them sets a flag. -/
def FloatMoves : Prop :=
  ∀ (n : Fin 16) (d a : BitVec 5) (s : State), Runs s n →
    let c := s.core n.val
    let go (c' : Core) : Host.Outcome State Fault Refusal := .next (After s n c' (c.ip + 4#32) 1)
    let lo := (c.freg a).extractLsb' 0 32
    exec (.fabs n true d a 0#5) s = go (c.setF d (c.freg a &&& 0x7FFFFFFFFFFFFFFF#64)) ∧
    exec (.fabs n false d a 0#5) s = go (c.setF d ((lo &&& 0x7FFFFFFF#32).zeroExtend 64)) ∧
    exec (.fneg n true d a 0#5) s = go (c.setF d (c.freg a ^^^ 0x8000000000000000#64)) ∧
    exec (.fneg n false d a 0#5) s = go (c.setF d ((lo ^^^ 0x80000000#32).zeroExtend 64)) ∧
    exec (.fmvFG n d a 0#5) s = go (c.setF d ((c.greg a).zeroExtend 64)) ∧
    exec (.fmvGF n d a 0#5) s = go (c.setG d lo) ∧
    (a.toNat % 2 = 0 → exec (.fmvFP n d a 0#5) s = go (c.setF d (c.pair a))) ∧
    (d.toNat % 2 = 0 → exec (.fmvPF n d a 0#5) s = go (c.setPair d (c.freg a)))

/-- R101: conversions between the formats and integers, with their flags; out-of-range results saturate with NV and without NX, and a NaN gives 0. -/
def FloatConverts : Prop :=
  ∀ (n : Fin 16) (dbl : Bool) (d a : BitVec 5) (s : State), Runs s n →
    let c := s.core n.val
    let m := if dbl then f64 else f32
    let x : Nat := if dbl then (c.freg a).toNat else (c.freg a).toNat % 2 ^ 32
    let go (c' : Core) (k : Nat) : Host.Outcome State Fault Refusal := .next (After s n c' (c.ip + 4#32) k)
    let toF (r : Nat × FFlags) : Core := (c.setF d (BitVec.ofNat 64 r.1)).setFF r.2
    let toG (r : Int × FFlags) : Core := (c.setG d (BitVec.ofInt 32 r.1)).setFF r.2
    exec (.fcvtSD n d a 0#5) s = go (toF (fcvt f64 f32 (c.freg a).toNat)) 3 ∧
    exec (.fcvtDS n d a 0#5) s = go (toF (fcvt f32 f64 ((c.freg a).toNat % 2 ^ 32))) 3 ∧
    exec (.fcvtFW n dbl d a 0#5) s = go (toF (fOfInt m (c.greg a).toInt)) 3 ∧
    exec (.fcvtWF n dbl d a 0#5) s = go (toG (fToInt m 32 false x)) 3 ∧
    exec (.ftrncWF n dbl d a 0#5) s = go (toG (fToInt m 32 true x)) 3 ∧
    (a.toNat % 2 = 0 → exec (.fcvtFL n dbl d a 0#5) s = go (toF (fOfInt m (c.pair a).toInt)) 4) ∧
    (d.toNat % 2 = 0 → exec (.fcvtLF n dbl d a 0#5) s = go ((c.setPair d (BitVec.ofInt 64 (fToInt m 64 false x).1)).setFF (fToInt m 64 false x).2) 4)

/-- R101: what the conversions to integers give: saturation and a NaN set NV alone, an in-range result that differs from the operand sets NX alone, and no flag is set otherwise. -/
def ConversionFlags : Prop :=
  ∀ (m : FFmt) (w : Nat) (trunc : Bool) (x : Nat), 0 < w →
    let r := fToInt m w trunc x
    (-(2 ^ (w - 1) : Int) ≤ r.1 ∧ r.1 ≤ 2 ^ (w - 1) - 1) ∧ (r.2.nv = true → r.2.nx = false) ∧
    r.2.dz = false ∧ r.2.of = false ∧ r.2.uf = false ∧
    (∀ q, unpackF m x = .nan q → r.1 = 0 ∧ r.2.nv = true) ∧
    (∀ g, unpackF m x = .inf g → r.2.nv = true ∧ r.1 = if g then -(2 ^ (w - 1)) else 2 ^ (w - 1) - 1)

/-! ### Loads and stores -/

/-- A load: constructor, primary opcode, whether d names a pair, bytes, count, and the registers after the load of a number (R102). -/
structure LoadForm where
  form : Fin 16 → BitVec 5 → BitVec 5 → BitVec 2 → BitVec 14 → Instr
  op : Nat
  paired : Bool := false
  size : Nat
  cclk : Nat
  res : Core → BitVec 5 → Nat → Core

/-- The loads. -/
def loadForms : List LoadForm :=
  [{ form := .ldb, op := 0x10, size := 1, cclk := 3, res := fun c d v => c.setG d ((BitVec.ofNat 8 v).signExtend 32) },
   { form := .ldbu, op := 0x11, size := 1, cclk := 3, res := fun c d v => c.setG d (BitVec.ofNat 32 (v % 2 ^ 8)) },
   { form := .ldh, op := 0x12, size := 2, cclk := 3, res := fun c d v => c.setG d ((BitVec.ofNat 16 v).signExtend 32) },
   { form := .ldhu, op := 0x13, size := 2, cclk := 3, res := fun c d v => c.setG d (BitVec.ofNat 32 (v % 2 ^ 16)) },
   { form := .ldw, op := 0x14, size := 4, cclk := 3, res := fun c d v => c.setG d (BitVec.ofNat 32 v) },
   { form := .ldd, op := 0x15, paired := true, size := 8, cclk := 4, res := fun c d v => c.setPair d (BitVec.ofNat 64 v) },
   { form := .flds, op := 0x16, size := 4, cclk := 3, res := fun c d v => c.setF d (BitVec.ofNat 64 (v % 2 ^ 32)) },
   { form := .fldd, op := 0x17, size := 8, cclk := 4, res := fun c d v => c.setF d (BitVec.ofNat 64 v) }]

/-- base + ga + off14 × size modulo 2³² (R102). -/
def dataAddress (c : Core) (a : BitVec 5) (bs : BitVec 2) (off : BitVec 14) (size : Nat) : Word :=
  (if bs = 0#2 then 0#32 else if bs = 1#2 then c.ib else if bs = 2#2 then c.lb else c.sp) + c.greg a + BitVec.ofNat 32 (off.toNat * size)

/-- R102, R103, R6: a permitted load from the own region of a word without error takes the little-endian bytes at base + ga + off14 × size into its destination, in the fixed count, and changes nothing else but ip and ct. LDD with an odd d raises ILLEGAL. -/
def Loads : Prop :=
  ∀ e ∈ loadForms, ∀ (n : Fin 16) (d a : BitVec 5) (bs : BitVec 2) (off : BitVec 14) (s : State), Runs s n →
    let c := s.core n.val
    let ea := (dataAddress c a bs off e.size).toNat
    ((e.paired = true → d.toNat % 2 = 0) → ea % e.size = 0 → MayAccess s n .read ea e.size → Sound s ea →
      exec (e.form n d a bs off) s =
        .next (After s n (e.res c d (natLE ((List.range e.size).map (fun i => s.byte (ea + i))))) (c.ip + 4#32) e.cclk)) ∧
    (e.paired = true → d.toNat % 2 = 1 → exec (e.form n d a bs off) s = .next (s.except n.val .illegal (wordM e.op d a bs off) id))

/-- A store: constructor, primary opcode, whether d names a pair, bytes, count, and the number whose low bytes are stored (R102). -/
structure StoreForm where
  form : Fin 16 → BitVec 5 → BitVec 5 → BitVec 2 → BitVec 14 → Instr
  op : Nat
  paired : Bool := false
  size : Nat
  cclk : Nat
  src : Core → BitVec 5 → Nat

/-- The stores. -/
def storeForms : List StoreForm :=
  [{ form := .stb, op := 0x18, size := 1, cclk := 2, src := fun c d => (c.greg d).toNat },
   { form := .sth, op := 0x19, size := 2, cclk := 2, src := fun c d => (c.greg d).toNat },
   { form := .stw, op := 0x1A, size := 4, cclk := 2, src := fun c d => (c.greg d).toNat },
   { form := .std, op := 0x1B, paired := true, size := 8, cclk := 3, src := fun c d => (c.pair d).toNat },
   { form := .fsts, op := 0x1C, size := 4, cclk := 2, src := fun c d => (c.freg d).toNat },
   { form := .fstd, op := 0x1D, size := 8, cclk := 3, src := fun c d => (c.freg d).toNat }]

/-- R102, R103, R160, R6: a permitted store to the own region writes the low bytes of its source, little-endian, at base + ga + off14 × size; every other byte of memory, every register of every page but DIRTY_PEAK of the region (R182) and the registers of the cluster other than ip and ct keep their value. STD with an odd d raises ILLEGAL. -/
def Stores : Prop :=
  ∀ e ∈ storeForms, ∀ (n : Fin 16) (d a : BitVec 5) (bs : BitVec 2) (off : BitVec 14) (s : State), Runs s n →
    let c := s.core n.val
    let ea := (dataAddress c a bs off e.size).toNat
    ((e.paired = true → d.toNat % 2 = 0) → ea % e.size = 0 → MayAccess s n .write ea e.size → Sound s ea →
      ∃ t, exec (e.form n d a bs off) s = .next t ∧
        (∀ x, t.byte x = if ea ≤ x ∧ x < ea + e.size then BitVec.ofNat 8 (e.src c d / 256 ^ (x - ea)) else s.byte x) ∧
        t.core n.val = { c with ip := c.ip + 4#32, ct := c.ct + BitVec.ofNat 64 e.cclk } ∧
        (∀ m, m ≠ n.val → t.core m = s.core m) ∧
        (∀ p o, p * 0x1000 + o ≠ Page.region (ea / 0x1000000) * 0x1000 + Reg.rg_DIRTY_PEAK → t.reg p o = s.reg p o) ∧ t.inImg = s.inImg ∧ t.outImg = s.outImg ∧ t.forme = s.forme ∧
        t.sent = s.sent ∧ t.jrn = s.jrn) ∧
    (e.paired = true → d.toNat % 2 = 1 → exec (e.form n d a bs off) s = .next (s.except n.val .illegal (wordM e.op d a bs off) id))

/-- R103: an aligned access to memory outside the own region that both checks permit and whose word carries no error completes as well: a load writes the same destination, a store the same bytes, after at least 24 CCLK for a load and 8 for a store (how many more is free: notes/assumptions/16.md). The register pages are not among these targets here. -/
def RemoteAccess : Prop :=
  (∀ e ∈ loadForms, ∀ (n : Fin 16) (d a : BitVec 5) (bs : BitVec 2) (off : BitVec 14) (s : State), Runs s n →
    let c := s.core n.val
    let ea := (dataAddress c a bs off e.size).toNat
    (e.paired = true → d.toNat % 2 = 0) → ea % e.size = 0 → coreReach ea = true → inPages ea = false → ownRegion n.val ea = false →
    (s.coreAccess n.val c.priv .read ea e.size).2 = true → Sound s ea →
    ∃ k, 24 ≤ k ∧ exec (e.form n d a bs off) s =
      .next (After { s with freeCtr := s.freeCtr + 1 } n (e.res c d (natLE ((List.range e.size).map (fun i => s.byte (ea + i))))) (c.ip + 4#32) k)) ∧
  (∀ e ∈ storeForms, ∀ (n : Fin 16) (d a : BitVec 5) (bs : BitVec 2) (off : BitVec 14) (s : State), Runs s n →
    let c := s.core n.val
    let ea := (dataAddress c a bs off e.size).toNat
    (e.paired = true → d.toNat % 2 = 0) → ea % e.size = 0 → coreReach ea = true → inPages ea = false → inLe ea = none → ownRegion n.val ea = false →
    (s.coreAccess n.val c.priv .write ea e.size).2 = true → Sound s ea →
    ∃ k t, 8 ≤ k ∧ exec (e.form n d a bs off) s = .next t ∧
      (∀ x, t.byte x = if ea ≤ x ∧ x < ea + e.size then BitVec.ofNat 8 (e.src c d / 256 ^ (x - ea)) else s.byte x) ∧
      t.core n.val = { c with ip := c.ip + 4#32, ct := c.ct + BitVec.ofNat 64 k })

/-- R104: stores to the own region complete in program order, and a load of the stored size after a store to the same address returns the stored value, whichever registers the two name. -/
def Obligations.LoadAfterStore : Prop :=
  ∀ e ∈ storeForms, ∀ f ∈ loadForms, f.size = e.size →
    ∀ (n : Fin 16) (d d2 a a2 : BitVec 5) (bs bs2 : BitVec 2) (off off2 : BitVec 14) (s t : State),
      let ea := (dataAddress (s.core n.val) a bs off e.size).toNat
      Runs s n → (e.paired = true → d.toNat % 2 = 0) → ea % e.size = 0 → MayAccess s n .write ea e.size → Sound s ea →
      exec (e.form n d a bs off) s = .next t →
      Runs t n → (f.paired = true → d2.toNat % 2 = 0) → (dataAddress (t.core n.val) a2 bs2 off2 f.size).toNat = ea → MayAccess t n .read ea f.size →
      exec (f.form n d2 a2 bs2 off2) t =
        .next (After t n (f.res (t.core n.val) d2 (e.src (s.core n.val) d % 256 ^ e.size)) ((t.core n.val).ip + 4#32) f.cclk)

/-- R102, R103, R122, R123: an address that is not a multiple of the size raises ALIGN; an aligned access to the upper 4 MiB of a region window, to the image windows, to the boot ROM or to an unpopulated address raises ACCESS; eaddr holds the address, and before the entry only fault registers and the journal change. -/
def DataFaults : Prop :=
  (∀ e ∈ loadForms, ∀ (n : Fin 16) (d a : BitVec 5) (bs : BitVec 2) (off : BitVec 14) (s : State), Runs s n → (e.paired = true → d.toNat % 2 = 0) →
    let ea := dataAddress (s.core n.val) a bs off e.size
    (ea.toNat % e.size ≠ 0 → exec (e.form n d a bs off) s = .next (s.except n.val .align ea id)) ∧
    (ea.toNat % e.size = 0 → coreReach ea.toNat = false → ∃ u : State, u = { s with regs := u.regs, jrn := u.jrn } ∧
      exec (e.form n d a bs off) s = .next (u.except n.val .access ea id))) ∧
  (∀ e ∈ storeForms, ∀ (n : Fin 16) (d a : BitVec 5) (bs : BitVec 2) (off : BitVec 14) (s : State), Runs s n → (e.paired = true → d.toNat % 2 = 0) →
    let ea := dataAddress (s.core n.val) a bs off e.size
    (ea.toNat % e.size ≠ 0 → exec (e.form n d a bs off) s = .next (s.except n.val .align ea id)) ∧
    (ea.toNat % e.size = 0 → coreReach ea.toNat = false → ∃ u : State, u = { s with regs := u.regs, jrn := u.jrn } ∧
      exec (e.form n d a bs off) s = .next (u.except n.val .access ea id))) ∧
  (∀ x : Nat, coreReach x = true ↔
    (x < 0x8000000 ∧ x % 0x1000000 < 0xC00000) ∨ (0x10000000 ≤ x ∧ x < 0x11000000) ∨
    (0x20000000 ≤ x ∧ x < 0x20140000 ∧ (pageTy ((x - 0x20000000) / 0x1000)).isSome = true) ∨
    (0x40000000 ≤ x ∧ x < 0x40200000) ∨ (0x41000000 ≤ x ∧ x < 0x41200000))

/-! ### Flow, calls, exceptions -/

/-- Compare branches (R99). -/
def branchForms : List ((Fin 16 → BitVec 5 → BitVec 5 → BitVec 16 → Instr) × (Core → BitVec 5 → BitVec 5 → Bool)) :=
  [(.beq, fun c a b => c.greg a == c.greg b), (.bne, fun c a b => c.greg a != c.greg b), (.blt, fun c a b => (c.greg a).slt (c.greg b)),
   (.bge, fun c a b => (c.greg b).sle (c.greg a)), (.bltu, fun c a b => (c.greg a).ult (c.greg b)), (.bgeu, fun c a b => (c.greg b).ule (c.greg a)),
   (.bbs, fun c a k => (c.greg a).getLsbD k.toNat), (.bbc, fun c a k => !(c.greg a).getLsbD k.toNat)]

/-- R97, R99, R102: a branch takes 2 CCLK whether or not it is taken, a target is the instruction's address plus disp × 4, JR takes ga, LEAI forms base + ga + off14 × 64 without an access. -/
def Jumps : Prop :=
  (∀ e ∈ branchForms, ∀ (n : Fin 16) (a b : BitVec 5) (disp : BitVec 16) (s : State), Runs s n →
    let c := s.core n.val
    exec (e.1 n a b disp) s = .next (After s n c (if e.2 c a b then c.ip + disp.signExtend 32 * 4#32 else c.ip + 4#32) 2)) ∧
  (∀ (n : Fin 16) (disp : BitVec 26) (s : State), Runs s n →
    exec (.jmp n disp) s = .next (After s n (s.core n.val) ((s.core n.val).ip + disp.signExtend 32 * 4#32) 2)) ∧
  (∀ (n : Fin 16) (a : BitVec 5) (s : State), Runs s n →
    exec (.jr n 0#5 a 0#5 0#11) s = .next (After s n (s.core n.val) ((s.core n.val).greg a) 2)) ∧
  (∀ (n : Fin 16) (d a : BitVec 5) (bs : BitVec 2) (off : BitVec 14) (s : State), Runs s n →
    exec (.leai n d a bs off) s = .next (After s n ((s.core n.val).setG d (dataAddress (s.core n.val) a bs off 64)) ((s.core n.val).ip + 4#32) 1))

/-- R117: ENTER n lowers sp by n × 16; it raises STACK, with sp unchanged, when the result would be below stklim, and ILLEGAL for n = 0xFFFF. -/
def EnterFrame : Prop :=
  ∀ (n : Fin 16) (k : BitVec 16) (s : State), Runs s n →
    let c := s.core n.val
    exec (.enter n 0#5 0#5 k) s = .next (
      if k = 0xFFFF#16 then s.except n.val .illegal (wordI 0x30 0#5 0#5 k) id
      else if (c.sp.toNat : Int) - k.toNat * 16 < c.stklim.toNat then s.except n.val .stack (c.sp - BitVec.ofNat 32 (k.toNat * 16)) id
      else After s n { c with sp := c.sp - BitVec.ofNat 32 (k.toNat * 16) } (c.ip + 4#32) 1)

/-- The registers after a call: the link record's address in sp and lb (R115). -/
def called (c : Core) (ib : Word) : Core := { c with sp := c.sp - 16#32, lb := c.sp - 16#32, ib := ib }

/-- R115, R116: the calls store the return address, ib, lb and 0 at sp − 16, move sp and lb there and jump in 6 CCLK; every other byte and every register of every page but DIRTY_PEAK of the region (R182) keeps its value. CALLFB and CALLFBI take ga, a multiple of 64, as ib. -/
def Calls : Prop :=
  ∀ (n : Fin 16) (a b : BitVec 5) (disp : BitVec 21) (disp26 : BitVec 26) (s : State), Runs s n →
    let c := s.core n.val
    let sp := (c.sp - 16#32).toNat
    c.stklim.toNat + 16 ≤ c.sp.toNat → sp % 16 = 0 → MayAccess s n .write sp 16 →
    let record : List Byte := bytesLE 4 (c.ip + 4#32).toNat ++ bytesLE 4 c.ib.toNat ++ bytesLE 4 c.lb.toNat ++ bytesLE 4 0
    let done (t : State) (ib dest : Word) : Prop :=
      t.core n.val = { called c ib with ip := dest, ct := c.ct + 6#64 } ∧ (∀ m, m ≠ n.val → t.core m = s.core m) ∧
      (∀ p o, p * 0x1000 + o ≠ Page.region (sp / 0x1000000) * 0x1000 + Reg.rg_DIRTY_PEAK → t.reg p o = s.reg p o) ∧
      (∀ x, t.byte x = if sp ≤ x ∧ x < sp + 16 then record.getD (x - sp) 0#8 else s.byte x)
    (∃ t, exec (.call n disp26) s = .next t ∧ done t c.ib (c.ip + disp26.signExtend 32 * 4#32)) ∧
    ((c.greg a).toNat % 64 = 0 →
      (∃ t, exec (.callfb n a disp) s = .next t ∧ done t (c.greg a) (c.ip + disp.signExtend 32 * 4#32)) ∧
      (∃ t, exec (.callfbi n 0#5 a b 0#11) s = .next t ∧ done t (c.greg a) (c.greg b)))

/-- R115: RETFB takes ip, ib and lb from the link record at lb, sets sp = lb + 16 and ignores the last word. -/
def ReturnFb : Prop :=
  ∀ (n : Fin 16) (s : State), Runs s n →
    let c := s.core n.val
    let w (i : Nat) : Word := BitVec.ofNat 32 (natLE ((List.range 4).map (fun k => s.byte (c.lb.toNat + 4 * i + k))))
    c.lb.toNat % 16 = 0 → MayAccess s n .read c.lb.toNat 16 → Sound s c.lb.toNat →
    exec (.retfb n 0#5 0#5 0#5 0#11) s = .next (After s n { c with sp := c.lb + 16#32, ib := w 1, lb := w 2 } (w 0) 6)

/-- R115, R122, R123: the steps of a call are judged in order: ALIGN for an instance that is not a multiple of 64, then STACK with the sp it would have taken, then ACCESS. -/
def CallFaults : Prop :=
  ∀ (n : Fin 16) (a b : BitVec 5) (disp : BitVec 21) (disp26 : BitVec 26) (s : State), Runs s n →
    let c := s.core n.val
    ((c.greg a).toNat % 64 ≠ 0 →
      exec (.callfb n a disp) s = .next (s.except n.val .align (c.greg a) id) ∧
      exec (.callfbi n 0#5 a b 0#11) s = .next (s.except n.val .align (c.greg a) id)) ∧
    (c.sp.toNat < c.stklim.toNat + 16 →
      exec (.call n disp26) s = .next (s.except n.val .stack (c.sp - 16#32) id) ∧
      ((c.greg a).toNat % 64 = 0 → exec (.callfb n a disp) s = .next (s.except n.val .stack (c.sp - 16#32) id) ∧
        exec (.callfbi n 0#5 a b 0#11) s = .next (s.except n.val .stack (c.sp - 16#32) id)))

/-- R95, R96, R121: an exception raised at P1 or P0 enters P0: epc0 takes the address of the instruction, ecause0 the code, eaddr0 the detail, ps [5:4] the privilege, EXL0 is set, ip is ev0 + code × 64 and 8 CCLK pass; at P0 with EXL0 set the cluster stops instead. Nothing else of the state changes at an entry. -/
def ExceptionEntry : Prop :=
  ∀ (n : Nat) (e : Exc) (eaddr : Word) (clear : Core → Core) (s : State),
    let c := s.core n
    ((c.priv = .p1 ∨ c.priv = .p0 ∧ c.ps.getLsbD 7 = false) →
      ∃ c', s.except n e eaddr clear = s.setCore n c' ∧ c'.epc0 = c.ip ∧ c'.ecause0.toNat = e.code ∧ c'.eaddr0 = eaddr ∧
        c'.priv = .p0 ∧ c'.ps.getLsbD 7 = true ∧ fieldNat c'.ps 4 2 = c.priv.code.toNat ∧ fieldNat c'.ps 2 2 = fieldNat c.ps 2 2 ∧
        c'.ip = c.ev0 + BitVec.ofNat 32 (e.code * 64) ∧ c'.ct = c.ct + 8#64 ∧ c'.g = c.g ∧ c'.f = c.f ∧ c'.fl = c.fl ∧
        c'.sp = c.sp ∧ c'.lb = c.lb ∧ c'.ib = c.ib ∧ c'.epc1 = c.epc1) ∧
    (c.priv = .p0 ∧ c.ps.getLsbD 7 = true →
      let t := s.except n e eaddr clear
      (t.core n).status = .stopped ∧ (t.core n).ip = c.ip ∧ (t.core n).g = c.g ∧ t.mem = s.mem)

/-- R95: ERET at P1 returns to epc1 with the privilege of ps [3:2] and EXL1 cleared, at P0 to epc0 with ps [5:4] and EXL0 cleared, in 4 CCLK; at P2 it raises PRIVILEGE. -/
def Eret : Prop :=
  ∀ (n : Fin 16) (s : State), Runs s n →
    let c := s.core n.val
    exec (.eret n 0#5 0#5 0#5) s = .next (match c.priv with
      | .p2 => s.except n.val .privilege (wordR 0x06 0#5 0#5 0#5 2) id
      | .p1 => After s n { c with ps := setField (setField c.ps 6 1 0) 0 2 (fieldNat c.ps 2 2) } c.epc1 4
      | .p0 => After s n { c with ps := setField (setField c.ps 7 1 0) 0 2 (fieldNat c.ps 4 2) } c.epc0 4)

/-- Moves and conversions of floating-point registers (R90, R99, R101). -/
def Obligations.FloatConversions : Prop := FloatMoves ∧ FloatConverts ∧ ConversionFlags

/-- Loads and stores of the own region (R102, R103). -/
def Obligations.LoadsAndStores : Prop := Loads ∧ Stores

/-- Accesses outside the own region, and the exceptions of accesses (R103, R122). -/
def Obligations.RemoteAccesses : Prop := RemoteAccess ∧ DataFaults

/-- Jumps, branches and the return from a block (R97, R99, R102, R115). -/
def Obligations.ControlFlow : Prop := Jumps ∧ ReturnFb

/-- ENTER, calls of blocks and functions, and their faults (R115 to R117). -/
def Obligations.BlockCalls : Prop := EnterFrame ∧ Calls ∧ CallFaults

/-- Taking an exception and returning from it (R95, R96, R121). -/
def Obligations.Exceptions : Prop := ExceptionEntry ∧ Eret

/-! ### Image, journal, mailboxes, time, system -/

/-- An entry of an image window as a cluster reads it: value in gd, age and status in g(d+1) (R105). -/
def entryTo (c : Core) (d : BitVec 5) (v : Word) (st : Half) (age : Nat) : Core :=
  (c.setG d v).setG (d + 1#5) (BitVec.ofNat 32 (age * 65536 + st.toNat))

/-- The reads of the image: constructor, primary opcode, first address of the window, entry read by the cluster (R41, R105, R107). -/
def imageReads : List ((Fin 16 → BitVec 5 → BitVec 5 → BitVec 16 → Instr) × Nat × Nat × (State → Fin 16 → Nat → Word × Half × Nat)) :=
  [(.imgrdi, 0x34, 0x80000000, fun s _ h => s.inRead h),
   (.imgrdw, 0x35, 0x80080000, fun s n h =>
      let x := s.workSlot n.val (s.core n.val).ct.toNat h
      (x.value, x.status, ageOf (cycNext s.bell.cycle) x.since)),
   (.imgrdf, 0x36, 0x80100000, fun s _ h => ((s.formeSlot h).value, (s.formeSlot h).status, ageOf s.bell.cycle (s.formeSlot h).since))]

/-- Both checks permit the access of cluster n to an entry of an image window (R191, R192, R196). -/
abbrev ImgMay (s : State) (n : Fin 16) (o : AccOp) (a : Nat) : Prop := (s.imgAccess n.val (s.core n.val).priv o a).2 = true

/-- R105, R122, R172, R192: the image reads of a stored word without error write value, age and status in 40 CCLK; an odd d raises ILLEGAL and a handle above 65,535 IMGHANDLE with the handle (that the sum of the handle is not wrapped is the model's choice: notes/assumptions/59.md); a read that a check denies raises ACCESS with the address (notes/assumptions/56.md). -/
def ImageReads : Prop :=
  ∀ e ∈ imageReads, ∀ (n : Fin 16) (d a : BitVec 5) (imm : BitVec 16) (s : State), Runs s n →
    let c := s.core n.val
    let h := (c.greg a).toNat + imm.toNat
    let x := e.2.2.2 s n h
    (d.toNat % 2 = 0 → h ≤ 65535 → (s.imgAccess n.val c.priv .read (e.2.2.1 + h * 8)).2 = false → exec (e.1 n d a imm) s =
      .next ((s.imgAccess n.val c.priv .read (e.2.2.1 + h * 8)).1.except n.val .access (BitVec.ofNat 32 (e.2.2.1 + h * 8)) id)) ∧
    ((d.toNat % 2 = 0 → h ≤ 65535 → ImgMay s n .read (e.2.2.1 + h * 8) ∧ Sound s (e.2.2.1 + h * 8)) → exec (e.1 n d a imm) s = .next (
      if d.toNat % 2 = 1 then s.except n.val .illegal (wordI e.2.1 d a imm) id
      else if 65535 < h then s.except n.val .imghandle (BitVec.ofNat 32 h) id
      else After s n (entryTo c d x.1 x.2.1 x.2.2) (c.ip + 4#32) 40))

/-- R50, R106, R107: a handle above 65,535 raises IMGHANDLE (the sum is not wrapped, the model's choice: notes/assumptions/59.md), a handle of another owner IMGWRITE, a write that a check denies ACCESS (notes/assumptions/56.md); else the cluster's own later reads of the working image return the value with CLASS 0x7, FORCED clear and QUAL 0b11 as 0b10, in 8 CCLK, and neither memory nor the input image nor the forme changes. -/
def ImageWrite : Prop :=
  ∀ (n : Fin 16) (d a b : BitVec 5) (fn : BitVec 11) (s : State), Runs s n →
    let c := s.core n.val
    let h := (c.greg b).toNat + fn.toNat
    (65535 < h → exec (.imgwr n d a b fn) s = .next (s.except n.val .imghandle (BitVec.ofNat 32 h) id)) ∧
    (h ≤ 65535 → tget (fun _ => 0) s.proj.owner h ≠ n.val + 1 →
      exec (.imgwr n d a b fn) s = .next (s.except n.val .imgwrite (BitVec.ofNat 32 h) id)) ∧
    (h ≤ 65535 → tget (fun _ => 0) s.proj.owner h = n.val + 1 → (s.imgAccess n.val c.priv .write (0x80080000 + h * 8)).2 = false →
      exec (.imgwr n d a b fn) s =
        .next ((s.imgAccess n.val c.priv .write (0x80080000 + h * 8)).1.except n.val .access (BitVec.ofNat 32 (0x80080000 + h * 8)) id)) ∧
    (h ≤ 65535 → tget (fun _ => 0) s.proj.owner h = n.val + 1 → ImgMay s n .write (0x80080000 + h * 8) → Sound s (0x80080000 + h * 8) →
      ∃ t, exec (.imgwr n d a b fn) s = .next t ∧ t.core n.val = { c with ip := c.ip + 4#32, ct := c.ct + 8#64 } ∧
        (∀ k, (t.workSlot n.val k h).value = c.greg d ∧
          (let st := (t.workSlot n.val k h).status
           let q := c.greg a
           fieldNat st 4 4 = 7 ∧ st.getLsbD 12 = false ∧ fieldNat st 14 2 = (if fieldNat q 14 2 = 3 then 2 else fieldNat q 14 2) ∧
           fieldNat st 0 4 = fieldNat q 0 4 ∧ fieldNat st 8 4 = fieldNat q 8 4 ∧ st.getLsbD 13 = q.getLsbD 13)) ∧
        (∀ x, t.byte x = s.byte x) ∧ t.inImg = s.inImg ∧ t.forme = s.forme ∧ t.regs = s.regs ∧ ∀ m, m ≠ n.val → t.core m = s.core m)

/-- R108: a post is staged with its code, its source and three registers, and from the 33rd post of a cycle on it is shed and counted by source; a above 29 raises ILLEGAL. -/
def JournalPost : Prop :=
  ∀ (n : Fin 16) (a : BitVec 5) (code : BitVec 16) (s : State), Runs s n →
    let c := s.core n.val
    let p : Post := { code := code, source := postSource n.val c.priv, p0 := c.greg a, p1 := c.greg (a + 1#5), p2 := c.greg (a + 2#5) }
    exec (.jpost n 0#5 a code) s = .next (
      if 29 < a.toNat then s.except n.val .illegal (wordI 0x38 0#5 a code) id
      else if c.posts.length < 32 then After s n { c with posts := c.posts ++ [p] } (c.ip + 4#32) 8
      else After s n { c with shed := addShed c.shed p.source } (c.ip + 4#32) 8)

/-- R109, R110: a put is held, a get returns the value captured at the bell; a slot above 0x3FFF and the 257th put of a cycle raise MAILBOX with the slot number. -/
def LoopMailbox : Prop :=
  ∀ (n : Fin 16) (d a : BitVec 5) (imm : BitVec 16) (s : State), Runs s n →
    let c := s.core n.val
    let k := c.greg a + imm.signExtend 32
    exec (.leput n d a imm) s = .next (
      if 0x3FFF < k.toNat ∨ 256 ≤ c.puts.length then s.except n.val .mailbox k id
      else After s n { c with puts := c.puts ++ [(k.toNat, c.greg d)] } (c.ip + 4#32) 8) ∧
    exec (.leget n d a imm) s = .next (
      if 0x3FFF < k.toNat then s.except n.val .mailbox k id else After s n (c.setG d (s.mbGet k.toNat)) (c.ip + 4#32) 40)

/-- R54, R55, R111: BAR marks the cluster's arrival and leaves it waiting; BMW writes a word of its own mailbox before it arrives; BMR reads a word after the release, 0 for a cluster outside the mask and, the model's choice (notes/assumptions/59.md), for a number above 15; otherwise BARRIER is raised, and ILLEGAL for a number out of range. -/
def BarrierInstructions : Prop :=
  ∀ (n : Fin 16) (b w : Nat) (d q : BitVec 5) (s : State), Runs s n → b < 8 → w < 16 →
    let c := s.core n.val
    exec (.bar n 0#5 0#5 (BitVec.ofNat 16 b)) s = .next (
      if s.participant b n.val = false ∨ 2 ^ b ≤ c.arrived.toNat then s.except n.val .barrier (BitVec.ofNat 32 b) id
      else After s n { c with status := .atBarrier, arrived := c.arrived ||| BitVec.twoPow 8 b } (c.ip + 4#32) 0) ∧
    (c.arrived.getLsbD b = true → exec (.bmw n d (BitVec.ofNat 5 b) 0#5 (BitVec.ofNat 11 w)) s = .next (s.except n.val .barrier (BitVec.ofNat 32 b) id)) ∧
    (c.arrived.getLsbD b = false → ∃ t, exec (.bmw n d (BitVec.ofNat 5 b) 0#5 (BitVec.ofNat 11 w)) s = .next t ∧
      t.core n.val = { c with ip := c.ip + 4#32, ct := c.ct + 8#64 } ∧ t.mem = s.mem ∧ t.regs = s.regs ∧
      ∀ k, tget (fun _ => 0#32) t.bmail k = if k = bmKey b n.val w then c.greg d else tget (fun _ => 0#32) s.bmail k) ∧
    exec (.bmr n d (BitVec.ofNat 5 b) q (BitVec.ofNat 11 w)) s = .next (
      if c.released.getLsbD b = false then s.except n.val .barrier (BitVec.ofNat 32 b) id
      else After s n (c.setG d (if q.toNat < 16 ∧ s.participant b q.toNat = true then tget (fun _ => 0#32) s.bmail (bmKey b q.toNat w) else 0#32))
        (c.ip + 4#32) 40)

/-- R112: TRD reads the bell time and, by selector 3, the current time, which it latches for selectors 4 and 5; another selector raises ILLEGAL. -/
def ReadTime : Prop :=
  ∀ (n : Fin 16) (d : BitVec 5) (sel : BitVec 16) (s : State), Runs s n →
    let c := s.core n.val
    let bell := s.bell.bellTime
    let time := s.tb.time
    let go (c' : Core) (k : Nat) : Host.Outcome State Fault Refusal := .next (After s n c' (c.ip + 4#32) k)
    (sel = 0#16 → exec (.trd n d 0#5 sel) s = go (c.setG d (BitVec.ofNat 32 bell.ns)) 4) ∧
    (sel = 1#16 → exec (.trd n d 0#5 sel) s = go (c.setG d (BitVec.ofNat 32 bell.sec)) 4) ∧
    (sel = 2#16 → exec (.trd n d 0#5 sel) s = go (c.setG d (BitVec.ofNat 32 (bell.sec / 2 ^ 32))) 4) ∧
    (sel = 3#16 → exec (.trd n d 0#5 sel) s = go ({ c with trd := time }.setG d (BitVec.ofNat 32 time.ns)) 40) ∧
    (sel = 4#16 → exec (.trd n d 0#5 sel) s = go (c.setG d (BitVec.ofNat 32 c.trd.sec)) 4) ∧
    (sel = 5#16 → exec (.trd n d 0#5 sel) s = go (c.setG d (BitVec.ofNat 32 (c.trd.sec / 2 ^ 32))) 4) ∧
    (5 < sel.toNat → exec (.trd n d 0#5 sel) s = .next (s.except n.val .illegal (wordI 0x07 d 0#5 sel) id))

/-- The special registers of R91 that MFS reads: number, least privilege, value. -/
def readable : List (Nat × Priv × (State → Fin 16 → Core → Word)) :=
  [(0, .p2, fun _ _ c => c.ip), (1, .p2, fun _ _ c => c.ib), (2, .p2, fun _ _ c => c.lb), (3, .p2, fun _ _ c => c.sp), (4, .p2, fun _ _ c => c.fl),
   (6, .p2, fun _ _ c => c.ctHi), (7, .p2, fun _ n _ => BitVec.ofNat 32 n.val), (8, .p2, fun s _ _ => BitVec.ofNat 32 s.bell.cycle),
   (9, .p2, fun s _ _ => BitVec.ofNat 32 (s.bell.cycle / 2 ^ 32 % 2 ^ 16)), (16, .p1, fun _ _ c => c.ps.zeroExtend 32)]
  ++ [(17, .p1, fun _ _ c => c.ev1), (18, .p0, fun _ _ c => c.ev0), (19, .p1, fun _ _ c => c.epc1), (20, .p0, fun _ _ c => c.epc0),
   (21, .p1, fun _ _ c => c.ecause1), (22, .p0, fun _ _ c => c.ecause0), (23, .p1, fun _ _ c => c.eaddr1), (24, .p0, fun _ _ c => c.eaddr0),
   (25, .p1, fun _ _ c => c.stklim), (26, .p1, fun _ _ c => c.cyvec), (27, .p1, fun _ _ c => c.scr1), (28, .p0, fun _ _ c => c.scr0)]

/-- R91: MFS reads each special register at its privilege and raises PRIVILEGE below it; a read of ct_lo latches ct [63:32]; a number not listed raises ILLEGAL. -/
def SpecialReads : Prop :=
  (∀ e ∈ readable, ∀ (n : Fin 16) (d : BitVec 5) (s : State), Runs s n →
    let c := s.core n.val
    let k := BitVec.ofNat 5 e.1
    exec (.mfs n d 0#5 k) s = .next (if c.priv.code.toNat ≤ e.2.1.code.toNat then After s n (c.setG d (e.2.2 s n c)) (c.ip + 4#32) 1
      else s.except n.val .privilege (wordR 0x06 d 0#5 k 0) id)) ∧
  (∀ (n : Fin 16) (d : BitVec 5) (s : State), Runs s n →
    let c := s.core n.val
    exec (.mfs n d 0#5 5#5) s = .next (After s n ({ c with ctHi := c.ct.extractLsb' 32 32 }.setG d (c.ct.extractLsb' 0 32)) (c.ip + 4#32) 1)) ∧
  (∀ (n : Fin 16) (d k : BitVec 5) (s : State), Runs s n → (9 < k.toNat ∧ k.toNat < 16 ∨ 28 < k.toNat) →
    exec (.mfs n d 0#5 k) s = .next (s.except n.val .illegal (wordR 0x06 d 0#5 k 0) id))

/-- The special registers of R91 that MTS writes: number, least privilege, registers after the write. -/
def writable : List (Nat × Priv × (Core → Word → Core)) :=
  [(1, .p1, fun c v => { c with ib := v }), (2, .p1, fun c v => { c with lb := v }), (4, .p2, fun c v => { c with fl := v &&& 0x11F#32 }),
   (17, .p0, fun c v => { c with ev1 := v &&& 0xFFFFFC00#32 }), (18, .p0, fun c v => { c with ev0 := v &&& 0xFFFFFC00#32 }),
   (19, .p1, fun c v => { c with epc1 := v }), (20, .p0, fun c v => { c with epc0 := v }), (21, .p1, fun c v => { c with ecause1 := v &&& 0xFF#32 }),
   (22, .p0, fun c v => { c with ecause0 := v &&& 0xFF#32 }), (23, .p1, fun c v => { c with eaddr1 := v })]
  ++ [(24, .p0, fun c v => { c with eaddr0 := v }), (25, .p1, fun c v => { c with stklim := v &&& 0xFFFFFFF0#32 }),
   (26, .p0, fun c v => { c with cyvec := v }), (27, .p1, fun c v => { c with scr1 := v }), (28, .p0, fun c v => { c with scr0 := v })]

/-- R91, R92: MTS writes each special register at its privilege, its fixed bits kept 0, and raises PRIVILEGE below it; sp raises ALIGN unless its low four bits are 0; ps keeps the current privilege and raises ILLEGAL for 0b11 in a saved one; ip, ct, cid and cyc cannot be written. -/
def SpecialWrites : Prop :=
  (∀ e ∈ writable, ∀ (n : Fin 16) (a : BitVec 5) (s : State), Runs s n →
    let c := s.core n.val
    let k := BitVec.ofNat 5 e.1
    exec (.mts n 0#5 a k) s = .next (if c.priv.code.toNat ≤ e.2.1.code.toNat then After s n (e.2.2 c (c.greg a)) (c.ip + 4#32) 1
      else s.except n.val .privilege (wordR 0x06 0#5 a k 1) id)) ∧
  (∀ (n : Fin 16) (a : BitVec 5) (s : State), Runs s n →
    let c := s.core n.val
    let v := c.greg a
    exec (.mts n 0#5 a 3#5) s = .next (if v.toNat % 16 ≠ 0 then s.except n.val .align v id else After s n { c with sp := v } (c.ip + 4#32) 1) ∧
    exec (.mts n 0#5 a 16#5) s = .next (
      if fieldNat v 2 2 = 3 ∨ fieldNat v 4 2 = 3 then s.except n.val .illegal (wordR 0x06 0#5 a 16#5 1) id
      else if c.priv ≠ .p0 then s.except n.val .privilege (wordR 0x06 0#5 a 16#5 1) id
      else After s n { c with ps := v.extractLsb' 2 6 ++ c.ps.extractLsb' 0 2 } (c.ip + 4#32) 1)) ∧
  (∀ (n : Fin 16) (a k : BitVec 5) (s : State), Runs s n → (k = 0#5 ∨ 5 ≤ k.toNat ∧ k.toNat < 16 ∨ 28 < k.toNat) →
    exec (.mts n 0#5 a k) s = .next (s.except n.val .illegal (wordR 0x06 0#5 a k 1) id))

/-- R113: CYEND at P1 or P0 reports completion in DONE and the cluster executes nothing more until the next core start; at P2 it raises PRIVILEGE. -/
def CycleEnd : Prop :=
  ∀ (n : Fin 16) (s : State), Runs s n →
    let c := s.core n.val
    (c.priv = .p2 → exec (.cyend n 0#5 0#5 0#5) s = .next (s.except n.val .privilege (wordR 0x06 0#5 0#5 0#5 3) id)) ∧
    (c.priv ≠ .p2 → ∃ t, exec (.cyend n 0#5 0#5 0#5) s = .next t ∧
      t.reg Page.bell Reg.bell_DONE = s.reg Page.bell Reg.bell_DONE ||| BitVec.twoPow 32 n.val ∧
      t.core n.val = { c with ip := c.ip + 4#32, ct := c.ct + 1#64, status := .completed, parts := [] } ∧
      (∀ m, m ≠ n.val → t.core m = s.core m) ∧ t.mem = s.mem ∧
      ∀ i : Instr, (isaEncode i).map Prod.fst = some n → exec i t = .next t)

/-- R68, R69, R114: where Hold is permitted BKPT stops the module before it with mode Hold; elsewhere it is a no-operation of 1 CCLK that BKPT_IGN counts; a BKPT at which the cluster was stopped is a no-operation when it goes on. -/
def Breakpoint : Prop :=
  ∀ (n : Fin 16) (s : State), Runs s n →
    let c := s.core n.val
    (c.atBkpt = true → exec (.bkpt n 0#5 0#5 0#5) s = .next (After s n { c with atBkpt := false } (c.ip + 4#32) 1)) ∧
    (c.atBkpt = false → s.holdOk = true → s.bell.mode = .run →
      exec (.bkpt n 0#5 0#5 0#5) s =
        .next ({ s with bell := { s.bell with mode := .hold, heldAt := s.now } }.setCore n.val { c with atBkpt := true })) ∧
    (c.atBkpt = false → s.holdOk = false → ∃ t, exec (.bkpt n 0#5 0#5 0#5) s = .next t ∧
      t.core n.val = { c with ip := c.ip + 4#32, ct := c.ct + 1#64 } ∧ t.mem = s.mem ∧ t.bell = s.bell ∧
      t.reg Page.bell Reg.bell_BKPT_IGN = satInc (s.reg Page.bell Reg.bell_BKPT_IGN))

/-- R94, R95, R121, R124: SYSC at P1 enters P0 with code 12, its number in eaddr0 and the next instruction's address in epc0; at P0 it raises ILLEGAL; at P2 a number that the runtime does not serve parks the cluster with epc1, ecause1 and eaddr1 of the entry; number 0 goes on to the next partition at P2. That the runtime acts within the same command is the model's reading (notes/assumptions/15.md). -/
def SystemCall : Prop :=
  ∀ (n : Fin 16) (num : BitVec 16) (s : State), Runs s n →
    let c := s.core n.val
    (c.priv = .p0 → exec (.sysc n 0#5 0#5 num) s = .next (s.except n.val .illegal (wordI 0x3B 0#5 0#5 num) id)) ∧
    (c.priv = .p1 → ∃ c', exec (.sysc n 0#5 0#5 num) s = .next (s.setCore n.val c') ∧ c'.epc0 = c.ip + 4#32 ∧ c'.ecause0 = 12#32 ∧
      c'.eaddr0 = num.zeroExtend 32 ∧ c'.priv = .p0 ∧ c'.ip = c.ev0 + 0x300#32 ∧ c'.ct = c.ct + 8#64 ∧ c'.g = c.g ∧ c'.f = c.f) ∧
    (c.priv = .p2 → num ≠ 0#16 → ¬ (16 ≤ num.toNat ∧ num.toNat ≤ 20) → ∃ t, exec (.sysc n 0#5 0#5 num) s = .next t ∧
      (t.core n.val).status = .parked ∧ (t.core n.val).epc1 = c.ip + 4#32 ∧ (t.core n.val).ecause1 = 12#32 ∧
      (t.core n.val).eaddr1 = num.zeroExtend 32 ∧ (t.core n.val).g = c.g ∧ t.mem = s.mem) ∧
    (∀ p q l e, c.priv = .p2 → num = 0#16 → c.parts = p :: q :: l → s.partEntry n.val q = some e →
      ∃ t, exec (.sysc n 0#5 0#5 num) s = .next t ∧ (t.core n.val).ip = e ∧ (t.core n.val).parts = q :: l ∧ (t.core n.val).priv = .p2 ∧ t.mem = s.mem)

/-- R124 (within one command: notes/assumptions/15.md): an exception raised at P2 other than SYSC parks the cluster with the entry of R95, except DIVZ by default, where the destination takes 0, the record is written and the program resumes at the next instruction. -/
def RuntimeActions : Prop :=
  ∀ (n : Nat) (e : Exc) (eaddr : Word) (clear : Core → Core) (s : State),
    let c := s.core n
    c.priv = .p2 →
    (e ≠ .divz ∨ s.proj.divzDefault = false →
      let t := (s.except n e eaddr clear).core n
      t.status = .parked ∧ t.epc1 = c.ip ∧ t.ecause1.toNat = e.code ∧ t.eaddr1 = eaddr ∧ t.g = c.g ∧ t.f = c.f ∧ (s.except n e eaddr clear).mem = s.mem) ∧
    (∀ r v, e = .divz → s.proj.divzDefault = true → (∀ x, clear x = x.setG r v) →
      let t := (s.except n e eaddr clear).core n
      t.status = c.status ∧ t.ip = c.ip + 4#32 ∧ t.priv = .p2 ∧ t.g = (c.setG r v).g ∧ (s.except n e eaddr clear).mem = s.mem)

/-- R97, R98, R99: the word of every instruction of chapter 3, with every value of its fields, decodes to that instruction. -/
def Obligations.IsaRoundTrip : Prop :=
  ∀ (i : Instr) (n : Fin 16) (w : Word), isaEncode i = some (n, w) → isaDecode n w = some i

/-- R97, R98, R99: words written out from the tables: ADD g1, g2, g3; ADDI g5, g6, −1; LDW g4, [ib + g0 + 2 × 4]; BEQ g1, g2, +3; CALLFB g9, −1; JMP −2; FADD.D f1, f2, f3; and a primary opcode that is not listed. -/
def Obligations.IsaWords : Prop :=
  isaDecode 0 0x00221800#32 = some (.add 0 1 2 3) ∧ isaDecode 1 0x20A6FFFF#32 = some (.addi 1 5 6 0xFFFF#16) ∧
  isaDecode 2 0x50804002#32 = some (.ldw 2 4 0 1 2) ∧ isaDecode 3 0x80220003#32 = some (.beq 3 1 2 3) ∧
  isaDecode 4 0xB13FFFFF#32 = some (.callfb 4 9 0x1FFFFF#21) ∧ isaDecode 5 0xA3FFFFFE#32 = some (.jmp 5 0x3FFFFFE#26) ∧
  isaDecode 6 0x08221801#32 = some (.fadd 6 true 1 2 3) ∧ isaDecode 7 0xFC000000#32 = none

/-- R69, R93, R212: while a cluster does not execute (before core start, at a barrier, after completion, parked, stopped, in Hold, failed), no instruction changes the state, but for a BKPT that the cluster reaches as the module enters Hold. -/
def NotExecuting : Prop :=
  ∀ (i : Instr) (n : Fin 16) (w : Word) (s : State), isaEncode i = some (n, w) → s.executing n.val = false →
    (s.bell.mode ≠ .hold ∨ (∀ d a b, i ≠ .bkpt n d a b)) → exec i s = .next s

/-- The image instructions (R105 to R107). -/
def Obligations.ImageInstructions : Prop := ImageReads ∧ ImageWrite

/-- Posts, loop mailboxes and barriers (R54, R108 to R111). -/
def Obligations.MailInstructions : Prop := JournalPost ∧ LoopMailbox ∧ BarrierInstructions

/-- Special registers and the time (R91, R92, R112). -/
def Obligations.SpecialRegisters : Prop := SpecialReads ∧ SpecialWrites ∧ ReadTime

/-- Breakpoints, system calls and the runtime (R94, R95, R114, R121, R124). -/
def Obligations.SystemInstructions : Prop := Breakpoint ∧ SystemCall ∧ RuntimeActions

/-- The end of a cycle on a cluster, and clusters that execute nothing (R69, R93, R113). -/
def Obligations.CycleEnds : Prop := CycleEnd ∧ NotExecuting

/-! ### The bell controller -/

/-- R47, R49, R52, R54, R62, R73: where no stored word holds an error, a bell that may ring opens the next cycle: the cycle number rises by one, the bell time is captured, the pending causes move into ERR_CAUSE, DONE and BAR_STAT clear, every region gate opens, the barrier mailboxes empty, no cluster executes or has arrived at a barrier, every input reads as fixed by the bell or as its force says; the forme and the output working image keep every entry. -/
def BellRings : Prop :=
  ∀ s : State, s.bellMay = true → (s.pair.degradeReq && s.synced) = false → s.upsets = [] →
    Gives .bell s fun t =>
      t.bell.cycle = (if s.bell.cycle + 1 = 2 ^ 48 then 0 else s.bell.cycle + 1) ∧ t.bell.bellAt = s.now ∧ t.bell.bellTime = s.tb.time ∧ t.bell.gates = 0xFF#8 ∧
      t.bell.mode = (if s.bell.mode = .stop ∧ s.bell.runReq = true then .run else s.bell.mode) ∧
      t.bell.finalCycle = (s.bell.mode == .run && s.bell.stopTask) ∧ t.bell.cycleOpen = true ∧ t.bell.coresStarted = false ∧
      t.reg Page.bell Reg.bell_ERR_CAUSE = s.reg Page.bell Reg.bell_ERR_PEND ∧ t.reg Page.bell Reg.bell_ERR_PEND = 0#32 ∧
      t.reg Page.bell Reg.bell_DONE = 0#32 ∧ t.reg Page.bell Reg.bell_BAR_STAT = 0#32 ∧ t.bmail = [] ∧
      (∀ n : Fin 16, (t.core n.val).status = .idle ∧ (t.core n.val).arrived = 0 ∧ (t.core n.val).released = 0) ∧
      (∀ h, s.forceOf false h = none →
        (t.inRead h).1 = ((s.inEnt h).readAt (cycNext s.bell.cycle)).value ∧ (t.inRead h).2.1 = ((s.inEnt h).readAt (cycNext s.bell.cycle)).status) ∧
      (∀ h v q, s.forceOf false h = some (v, q) → (t.inRead h).1 = v ∧
        (t.inRead h).2.1 = forcedStatus q ((s.inEnt h).readAt (cycNext s.bell.cycle)).status) ∧
      t.inImg = s.inImg ∧ t.forme = s.forme ∧ t.outImg = s.outImg

/-- R64, R85, R139, R143, R144: elsewhere a bell changes no cycle, image or forme: on a standby or in maintenance it opens the gates, clears DONE, shows the pending causes in ERR_CAUSE and makes the clusters wait for the core start of the exercise routine, where bells do not ring it does nothing, and a degraded module with a synchronised partner fails instead. -/
def BellElsewhere : Prop :=
  (∀ s : State, s.isActive = false → s.exercises = true → s.bellsOn = true → Gives .bell s fun t =>
    t.bell = { s.bell with bellAt := s.now, bellTime := s.tb.time, gates := 0xFF#8, coresStarted := false, timing := t.bell.timing } ∧
    t.reg Page.bell Reg.bell_DONE = 0#32 ∧ t.reg Page.bell Reg.bell_BAR_STAT = 0#32 ∧
    t.reg Page.bell Reg.bell_ERR_CAUSE = s.reg Page.bell Reg.bell_ERR_PEND ∧ t.reg Page.bell Reg.bell_ERR_PEND = 0#32 ∧ t.pair = s.pair ∧ t.inImg = s.inImg ∧ t.outImg = s.outImg ∧ t.forme = s.forme ∧ t.mem = s.mem ∧
    ∀ n : Fin 16, (t.core n.val).status = .idle) ∧
  (∀ s : State, s.isActive = false → s.exercises = false ∨ s.bellsOn = false → exec .bell s = .next s) ∧
  (∀ s : State, s.isActive = true → s.bellMay = false → exec .bell s = .next s) ∧
  (∀ s : State, s.bellMay = true → s.pair.degradeReq = true → s.synced = true → Gives .bell s fun t =>
    t.pair.role = .failed ∧ t.pair.failCause = 143 ∧ t.bell.cycle = s.bell.cycle)

/-- R93, R140, R144, R609: at core start the units that resynchronised are in the vote, and in a Run cycle every cluster that has not failed runs at P1 from cyvec with its general and floating-point registers, fl, ib, lb and sp at 0 and ct at 20, and the partitions of the cycle in order; the registers that R140 names persist; in a Stop cycle no cluster executes (said where no stored word holds an error). On a standby or in maintenance the clusters start the exercise routine at P0. -/
def CoresStart : Prop :=
  (∀ (s : State) (n : Fin 16), s.isActive = true → s.bell.cycleOpen = true → s.bell.coresStarted = false → s.bell.mode = .run →
    s.cluster n.val ≠ .failed →
    Gives .coreStart s fun t =>
      t.bell.coresStarted = true ∧ t.forme = s.forme ∧ t.mem = s.mem ∧
      (∀ u, u / 3 = n.val → (s.unit u).joining = true → (t.unit u).st = .inVote ∧ (t.unit u).joining = false) ∧
      (let c := t.core n.val
       (∀ r, c.greg r = 0#32) ∧ (∀ r, c.freg r = 0#64) ∧ c.fl = 0#32 ∧ c.ib = 0#32 ∧ c.lb = 0#32 ∧ c.sp = 0#32 ∧
       c.ip = (s.core n.val).cyvec ∧ c.priv = .p1 ∧ c.ct = 20#64 ∧ c.status = .running ∧ c.parts = s.cycleParts n.val ∧
       c.ev1 = (s.core n.val).ev1 ∧ c.stklim = (s.core n.val).stklim ∧ c.scr1 = (s.core n.val).scr1 ∧ c.cyvec = (s.core n.val).cyvec)) ∧
  (∀ (s : State) (n : Fin 16), s.isActive = true → s.bell.cycleOpen = true → s.bell.coresStarted = false → s.bell.mode = .stop → s.upsets = [] →
    Gives .coreStart s fun t => t.bell.coresStarted = true ∧ t.forme = s.forme ∧ t.mem = s.mem ∧ t.core n.val = s.core n.val) ∧
  (∀ (s : State) (n : Fin 16), s.exercises = true → s.bellsOn = true → s.bell.coresStarted = false → s.cluster n.val ≠ .failed →
    Gives .coreStart s fun t => t.bell.coresStarted = true ∧ t.forme = s.forme ∧ t.mem = s.mem ∧
      (t.core n.val).priv = .p0 ∧ (t.core n.val).status = .running ∧ ∀ r, (t.core n.val).greg r = 0#32)

/-- R54: once every participant has arrived, all of them go on in the same CCLK, 24 CCLK after the last arrival, and BAR_STAT shows the barrier; nothing else changes. -/
def BarrierReleases : Prop :=
  ∀ (s : State) (b : Fin 8) (n : Fin 16), s.bell.mode = .run → s.participant b.val n.val = true →
    (∀ m : Fin 16, s.participant b.val m.val = true → bit (s.core m.val).arrived b.val = true ∧ bit (s.core m.val).released b.val = false) →
    Gives (.barrierRelease b) s fun t =>
      t = { s with cores := t.cores, regs := t.regs } ∧
      t.reg Page.bell Reg.bell_BAR_STAT = s.reg Page.bell Reg.bell_BAR_STAT ||| (1#32 <<< b.val) ∧
      (∀ m : Fin 16, s.participant b.val m.val = false → t.core m.val = s.core m.val) ∧
      (∀ m : Fin 16, s.participant b.val m.val = true → (t.core m.val).ct = (t.core n.val).ct ∧ bit (t.core m.val).released b.val = true ∧
        (t.core m.val).status ≠ .atBarrier ∧ (t.core m.val).g = (s.core m.val).g ∧ (t.core m.val).ip = (s.core m.val).ip) ∧
      ((∀ m : Fin 16, s.participant b.val m.val = true → (s.core m.val).ct.toNat ≤ (s.core n.val).ct.toNat) →
        (t.core n.val).ct = BitVec.ofNat 64 ((s.core n.val).ct.toNat + 24))

/-- The targets let the bell controller write the forme entries of a list, and their stored words hold no error. -/
abbrev FormeFree (s : State) (l : List Nat) : Prop := l.all s.formeMay = true

/-- The forme entries that a flip writes or the output engines read after it. -/
def flipHandles (s : State) : List Nat :=
  (if s.bell.rebuild then s.outHandles else s.outDirty.map Prod.fst ++ s.outForce.map Prod.fst) ++ s.forcedHandles true ++ s.outputs

/-- The state in which the forme of the cycle in progress flips, as R57 asks, with every forme entry it writes free to be written. -/
abbrev FlipReady (s : State) : Prop :=
  FormeFree s (flipHandles s) ∧ s.isActive = true ∧ s.saving = false ∧ s.bell.mode = .run ∧ s.complete = true ∧
  (s.bell.waitAck = false ∨ (s.bell.proofEndSent = true ∧ s.bell.ackRcvd = true))

/-- R58: the forme of a cycle that is not the final one after the flip: each output written in it shows its new value or its force, each other entry stands. -/
def FormeShows (s t : State) : Prop :=
  (∀ h, tmem s.outDirty h = true → s.forceOf true h = none →
    (t.formeSlot h).value = (s.outEnt h).newer.value ∧ (t.formeSlot h).status = (s.outEnt h).newer.status) ∧
  (∀ h v q, s.forceOf true h = some (v, q) → (t.formeSlot h).value = v ∧ (t.formeSlot h).status.getLsbD 12 = true) ∧
  (∀ h, s.bell.rebuild = false → h ∉ s.outDirty.map Prod.fst → s.forceOf true h = none → h ∉ s.outForce.map Prod.fst →
    t.formeSlot h = s.formeSlot h)

/-- R57, R58, R59: the forme flips when every cluster has completed and no acknowledgement is missing, all outputs of the cycle at once, and LAST_EXEC takes its length; after the final cycle the module is in Stop; when ACK_TMO passes first, the module goes on without the partner and flips as soon as the cycle is complete. -/
def FormeFlips : Prop :=
  (∀ s : State, FlipReady s → s.bell.finalCycle = false →
    Gives .formeFlip s fun t =>
      t.bell.formeCyc = s.bell.cycle ∧ t.bell.cycle = s.bell.cycle ∧ t.bell.flipAt = s.now ∧ t.bell.cycleOpen = false ∧ t.outDirty = [] ∧
      t.reg Page.bell Reg.bell_LAST_EXEC = BitVec.ofNat 32 (s.now - s.bell.bellAt) ∧ t.outImg = s.outImg ∧ t.inImg = s.inImg ∧ FormeShows s t) ∧
  (∀ s : State, FlipReady s → s.bell.finalCycle = true → Gives .formeFlip s fun t =>
    t.bell.mode = .stop ∧ t.bell.formeCyc = s.bell.cycle ∧ t.bell.cycle = s.bell.cycle ∧ t.bell.cycleOpen = false ∧ t.outDirty = [] ∧
    (∀ h v, h ∈ s.outputs → tget (fun _ => none) s.proj.safe h = some (.subst v) → (t.formeSlot h).value = v) ∧
    (∀ h, h ∈ s.outputs → tget (fun _ => none) s.proj.safe h = some .off → (t.formeSlot h).value = 0#32)) ∧
  (∀ s : State, s.isActive = true → s.bell.mode = .run → s.complete = false → s.bell.waitAck = true → s.bell.proofEndSent = true →
    s.bell.ackRcvd = false → Gives .ackTimeout s fun t =>
      t.pair.syncPair = false ∧ t.bell.waitAck = false ∧ t.bell.formeCyc = s.bell.formeCyc ∧ t.bell.cycleOpen = s.bell.cycleOpen ∧ t.forme = s.forme) ∧
  (∀ s : State, FormeFree s (flipHandles s) → s.isActive = true → s.saving = false → s.bell.mode = .run → s.complete = true → s.bell.waitAck = true →
    s.bell.proofEndSent = true → s.bell.ackRcvd = false → s.bell.finalCycle = false →
    Gives .ackTimeout s fun t =>
      t.pair.syncPair = false ∧ t.bell.formeCyc = s.bell.cycle ∧ t.bell.cycleOpen = false ∧ t.outImg = s.outImg ∧ FormeShows s t)

/-- The cycle from the bell to the forme flip: BELL, CORE_START, BARRIER_RELEASE, FORME_FLIP, ACK_TIMEOUT. -/
def Obligations.CycleCommands : Prop := BellRings ∧ BellElsewhere ∧ CoresStart ∧ BarrierReleases ∧ FormeFlips

/-- R66, R70, R71: the module is in Stop with safe values: the cycle is abandoned, no cluster executes, outputs written in it return to their committed slots, and the forme holds the table's actions, each entry free to be written. -/
def StoppedFrom (s t : State) : Prop :=
  t.bell.mode = .stop ∧ t.bell.cycleOpen = false ∧ t.bell.cycle = s.bell.cycle ∧ t.bell.formeCyc = s.bell.formeCyc ∧ t.outDirty = [] ∧
  (∀ n : Fin 16, (t.core n.val).status = .idle ∧ (t.core n.val).posts = [] ∧ (t.core n.val).puts = []) ∧
  (twf (fun _ => false) s.outDirty = true → ∀ h, t.outCom h = s.outCom h) ∧
  (FormeFree s s.outputs →
    (∀ h v, h ∈ s.outputs → tget (fun _ => none) s.proj.safe h = some (.subst v) → (t.formeSlot h).value = v ∧ (t.formeSlot h).status = 0x6070#16) ∧
    (∀ h, h ∈ s.outputs → tget (fun _ => none) s.proj.safe h = some .off → (t.formeSlot h).value = 0#32 ∧ (t.formeSlot h).status = 0x8070#16) ∧
    (∀ h, h ∈ s.outputs → tget (fun _ => none) s.proj.safe h = some .hold → t.formeSlot h = s.formeSlot h))

/-- R63, R65, R67 to R70, R592: mode commands at P0 or P1 on the active module act as the table of R65 says and count an error otherwise; the watchdog, an Error partition beyond its budget and the end of Hold abandon the cycle and enter Stop; the other commands of the page change one register. -/
def Obligations.ModeCommands : Prop :=
  (∀ (s : State) (p : Priv), p ≠ .p2 → s.isActive = true → s.bell.stopTask = false →
    (s.bell.mode = .stop → Gives (.run p) s fun t => t = { s with bell := { s.bell with runReq := true } }) ∧
    (s.bell.mode = .run → Gives (.stop p) s fun t => t = { s with bell := { s.bell with stopTask := true } }) ∧
    (s.bell.mode = .hold → Gives (.stop p) s (StoppedFrom s)) ∧
    (s.bell.mode = .hold → Gives (.resume p) s fun t => t = { s with bell := { s.bell with mode := .run } }) ∧
    (s.bell.mode ≠ .stop → exec (.run p) s = .next (s.err Page.bell)) ∧
    (s.bell.mode = .stop → exec (.stop p) s = .next (s.err Page.bell)) ∧
    (s.bell.mode ≠ .hold → exec (.resume p) s = .next (s.err Page.bell))) ∧
  (∀ s : State, exec (.run .p2) s = .next (s.err Page.bell) ∧ exec (.stop .p2) s = .next (s.err Page.bell) ∧ exec (.resume .p2) s = .next (s.err Page.bell)) ∧
  (∀ (s : State) (p : Priv), p ≠ .p2 → s.isActive = false → ∀ e ∈ [Instr.run, .stop, .resume],
    Gives (e p) s fun t => t = { s with regs := t.regs, jrn := t.jrn } ∧ t.reg Page.bell Reg.com_ERRCNT = satInc (s.reg Page.bell Reg.com_ERRCNT)) ∧
  (∀ s : State, s.bell.mode = .hold → Gives .holdLimitExpiry s (StoppedFrom s)) ∧
  (∀ s : State, s.isActive = true → s.bell.mode = .run → s.bell.cycleOpen = true → Gives .cycleWatchdogExpiry s (StoppedFrom s)) ∧
  (∀ (s : State) (n : Fin 16), s.isActive = true → s.bell.mode = .run → s.bell.cycleOpen = true → s.bell.coresStarted = true →
    Part.error ∈ (s.core n.val).parts → Gives .errBudgetOverrun s (StoppedFrom s)) ∧
  (∀ (s : State) (v : Bool), s.holdFree = true → Gives (.holdEn v) s fun t =>
    t = { s with regs := t.regs } ∧ (t.reg Page.bell Reg.bell_HOLD_EN).getLsbD 0 = v) ∧
  (∀ (s : State) (v : Bool), s.holdFree = false → exec (.holdEn v) s = .next s) ∧
  (∀ s : State, Gives .clrMax s fun t => t = { s with regs := t.regs } ∧ t.reg Page.bell Reg.bell_MAX_EXEC = 0#32)

/-- Entry n of the force table. -/
def forceEntry (s : State) (n : Nat) : ForceEntry := tget (fun _ => {}) s.forces n

/-- R72, R74: WRITE takes the addressed entry from the FORCE registers unless another enabled entry names the handle in that direction, which counts an error; RELEASE and RELEASE_ALL disable entries and leave the rest of each as it is; no value shown in an image window changes before the next bell or flip. -/
def Obligations.ForceTable : Prop :=
  (∀ s : State, s.forceClash s.forceSel s.forceRegs = false →
    Gives .forceWrite s fun t => t = { s with forces := t.forces, ptx := t.ptx } ∧
      ∀ n, forceEntry t n = if n = s.forceSel then s.forceRegs else forceEntry s n) ∧
  (∀ s : State, s.forceClash s.forceSel s.forceRegs = true → exec .forceWrite s = .next (s.err Page.bell)) ∧
  (∀ s : State, Gives .forceRelease s fun t => t = { s with forces := t.forces, ptx := t.ptx } ∧
    ∀ n, forceEntry t n = if n = s.forceSel then { forceEntry s n with attr := (forceEntry s n).attr &&& 0xE#4 } else forceEntry s n) ∧
  (∀ s : State, twf (fun _ => ({} : ForceEntry)) s.forces = true →
    Gives .forceReleaseAll s fun t => t = { s with forces := t.forces, ptx := t.ptx } ∧
      ∀ n, forceEntry t n = { forceEntry s n with attr := (forceEntry s n).attr &&& 0xE#4 })

/-- R51, R66, R75 to R80, R181: a package is turned away while a change runs, a force stands against it, or its project fails the checks of a load, and is otherwise in STAGING, which a wrong digest ends with the next tick; ARM sets a switch cycle at least 4 cycles ahead, CANCEL and the end of the migration gap end the change, and the migration map converts the old data into the new area and leaves every byte of the running program as it is, and the change waits until the partner's map has ended too (MIGRATION_COMPLETE of this module comes again then: the model's choice, notes/assumptions/55.md). -/
def Obligations.OnlineChange : Prop :=
  (∀ (s : State) (p : OlcPkg) (ok : Bool),
    (s.olc.stat.final = false ∨ s.isActive = false → Gives (.olcSubmit p ok) s fun t => t = { s with regs := t.regs, jrn := t.jrn }) ∧
    (s.olc.stat.final = true → s.isActive = true → s.olcForced p = true →
      Gives (.olcSubmit p ok) s fun t => t = { s with regs := t.regs, jrn := t.jrn, olc := t.olc } ∧ t.olc.stat = .forcedConflict ∧ t.olc.pkg = none) ∧
    (s.olc.stat.final = true → s.isActive = true → s.olcForced p = false → ok = false →
      exec (.olcSubmit p ok) s = .next { s with olc := { stat := .staging, bad := true } }) ∧
    (s.olc.stat.final = true → s.isActive = true → s.olcForced p = false → ok = true → s.projOk p.project.proj = false →
      Gives (.olcSubmit p ok) s fun t => t = { s with regs := t.regs, jrn := t.jrn }) ∧
    (s.olc.stat.final = true → s.isActive = true → s.olcForced p = false → ok = true → s.projOk p.project.proj = true → s.pair.syncPair = false →
      exec (.olcSubmit p ok) s = .next { s with olc := { stat := .staging, pkg := some p } }) ∧
    (s.olc.stat.final = true → s.isActive = true → s.olcForced p = false → ok = true → s.projOk p.project.proj = true → s.pair.syncPair = true →
      Gives (.olcSubmit p ok) s fun t => t = { s with olc := { stat := .staging, pkg := some p }, link := t.link, sent := t.sent, wire := t.wire } ∧
        t.link.xfer.busy = true ∧ t.link.xfer.sending = true ∧ t.link.xfer.kind = .package ∧ t.link.xfer.content = p.bytes)) ∧
  (∀ s : State, s.isActive = true → s.olc.stat = .staged → 4 ≤ cycSince s.olcTarget s.bell.cycle → cycSince s.olcTarget s.bell.cycle < 2 ^ 47 → s.pair.syncPair = false →
    Gives .olcArm s fun t => t = { s with olc := t.olc } ∧ t.olc.stat = .armed ∧ t.olc.ks = s.olcTarget) ∧
  (∀ s : State, s.isActive = true → s.olc.stat = .staged → 4 ≤ cycSince s.olcTarget s.bell.cycle → cycSince s.olcTarget s.bell.cycle < 2 ^ 47 → s.pair.syncPair = true →
    Gives .olcArm s fun t => t = { s with olc := t.olc, link := t.link, sent := t.sent, wire := t.wire } ∧ t.olc.stat = .staged ∧ t.olc.ks = s.olcTarget ∧
      (s.linkMay .xferArm = true → t.link.xfer.lastOp = 4)) ∧
  (∀ s : State, s.isActive = false ∨ s.olc.stat ≠ .staged ∨ cycSince s.olcTarget s.bell.cycle < 4 → exec .olcArm s = .next (s.err Page.bell)) ∧
  (∀ s : State, s.olc.stat.final = true → exec .olcCancel s = .next (s.err Page.bell)) ∧
  (∀ s : State, s.olc.stat.final = false → Gives .olcCancel s fun t => t.olc.stat = .cancelled ∧ t.olc.pkg = none ∧ t.proj = s.proj ∧ t.mem = s.mem) ∧
  (∀ s : State, s.olc.stat = .migrating → s.olc.migrated = false →
    Gives .olcGapExpiry s fun t => t.olc.stat = .gapExceeded ∧ t.olc.pkg = none ∧ t.proj = s.proj ∧ t.mem = s.mem) ∧
  (∀ (s : State) (p : OlcPkg) (partner : Bool), s.olc.stat = .migrating → s.olc.migrated = false → s.olc.pkg = some p → s.upsets = [] → (s.migrate p.map).2 = true →
    Gives (.migrationComplete partner) s fun t => t = { s with mem := t.mem, olc := t.olc } ∧ t.olc = { s.olc with migrated := partner || !s.pair.syncPair } ∧
      ∀ x, s.proj.uses x = true → t.byte x = s.byte x) ∧
  (∀ (s : State) (p : OlcPkg) (m : MigStep) (partner : Bool), s.olc.stat = .migrating → s.olc.migrated = false → s.olc.pkg = some p → s.upsets = [] → p.map = [m] →
    (s.migrate p.map).2 = true →
    let l := Config.migConv m.conv (s.bytes m.src m.len)
    Gives (.migrationComplete partner) s fun t => (∀ i, i < l.length → s.proj.uses (m.dst + i) = false → t.byte (m.dst + i) = l.getD i 0#8) ∧
      ∀ x, x < m.dst ∨ m.dst + l.length ≤ x → t.byte x = s.byte x)

/-! ### The CAN FD channels -/

/-- R437, R439, R440, R443 to R445: a push that keeps the conditions enters the tail of the galley, with the gate false it ends at once as GATED; any other push is refused and counted; the head starts its one attempt in NORMAL, and its end frees the place with a result, TEC following the standard; a bit sent recessive and read dominant is a clash in the content and an error elsewhere; with TDC_EN the data phase is sampled at TDCV + TDCO; a pop and a flush act on results and on entries that have not started. -/
def CanSends : Prop :=
  (∀ (s : State) (c : Fin 4) (p : Priv), p ≠ .p2 →
    let ident := s.reg (Page.can c.val) Reg.can_TX_ID
    let ctrl := s.reg (Page.can c.val) Reg.can_TX_CTRL
    let x := s.canCh c.val
    let ent : CanEntry := { ident := ident, ctrl := ctrl, data := (List.range 16).map (fun i => s.reg (Page.can c.val) (Reg.can_TX_DATA i)), owner := none }
    (x.galley.length < 32 → s.canMayPush c.val ident ctrl = true → s.pair.gate = true → Gives (.txPush c p) s fun t =>
      t = { s with cans := t.cans } ∧ t.canCh c.val = { x with galley := x.galley ++ [ent] } ∧ ∀ d : Fin 4, d ≠ c → t.canCh d.val = s.canCh d.val) ∧
    (x.galley = [] → x.busy = false → x.results.length < 32 → s.canMayPush c.val ident ctrl = true → s.pair.gate = false → Gives (.txPush c p) s fun t =>
      (t.canCh c.val).galley = [] ∧ (t.canCh c.val).results = x.results ++ [(canWord (fieldNat ctrl 8 8) 4 0, none)] ∧
      bit (t.reg (Page.can c.val) Reg.com_INT_RAW) 0 = true) ∧
    (32 ≤ x.galley.length ∨ s.canMayPush c.val ident ctrl = false → exec (.txPush c p) s = .next (s.count (Page.can c.val) Reg.can_TX_REFUSED))) ∧
  (∀ (s : State) (c : Fin 4), exec (.txPush c .p2) s = .next (s.err (Page.can c.val))) ∧
  (∀ (s : State) (c : Fin 4), s.canMode c.val = 1 → (s.canCh c.val).off = false → (s.canCh c.val).busy = false → (s.canCh c.val).galley ≠ [] →
    (s.canCh c.val).results.length < 32 → Gives (.canAttemptStart c) s fun t => t = { s with cans := t.cans } ∧
      t.canCh c.val = { s.canCh c.val with busy := true }) ∧
  (∀ (s : State) (c : Fin 4), s.canMode c.val ≠ 1 ∨ 32 ≤ (s.canCh c.val).results.length → exec (.canAttemptStart c) s = .next s) ∧
  (∀ (s : State) (c : Fin 4) (r : CanEnd) (pos : BitVec 8) (exempt : Bool) (e : CanEntry) (l : List CanEntry) (o : Nat),
    (s.canCh c.val).galley = e :: l → (s.canCh c.val).busy = true → s.canMode c.val = 1 → s.canOutcome c.val e r = some o →
    Gives (.canAttemptEnd c r pos none exempt) s fun t =>
      let x := s.canCh c.val
      let y := t.canCh c.val
      y.galley = l ∧ y.busy = false ∧ y.results = x.results ++ [(canWord e.tag o (if o = 1 then 0 else pos.toNat), e.owner)] ∧
      y.tec = (if o = 1 then x.tec - 1 else if o = 2 ∨ exempt = true then x.tec else x.tec + 8) ∧
      y.rec_ = x.rec_ ∧ y.clash = (x.clash || o == 7) ∧
      (r = .done → o = 1) ∧ (r = .lost → o = 2) ∧ (r = .error → o = 3) ∧ (r = .bitError true .content → o = 7) ∧
      (∀ part, r = .bitError false part → o = 3) ∧ (∀ w, r = .bitError w .tail → o = 3) ∧
      (r = .done → t.sent = { what := .canFrame, args := [c.val, e.ident.toNat, e.ctrl.toNat] ++ e.data.map BitVec.toNat } :: s.sent ∧
        t.reg (Page.can c.val) Reg.can_TX_DONE = satInc (s.reg (Page.can c.val) Reg.can_TX_DONE)) ∧
      (r ≠ .done → t.sent = s.sent) ∧
      (r = .lost → t.reg (Page.can c.val) Reg.can_TX_LOST = satInc (s.reg (Page.can c.val) Reg.can_TX_LOST)) ∧
      (r = .bitError true .content → t.reg (Page.can c.val) Reg.can_CLASH_CNT = satInc (s.reg (Page.can c.val) Reg.can_CLASH_CNT) ∧
        bit (t.reg (Page.can c.val) Reg.com_INT_RAW) 6 = true)) ∧
  (∀ (s : State) (c : Fin 4) (r : CanEnd) (pos : BitVec 8) (tdcv : Option (BitVec 7)) (exempt : Bool), (s.canCh c.val).busy = false ∨ s.canMode c.val ≠ 1 →
    exec (.canAttemptEnd c r pos tdcv exempt) s = .next s) ∧
  (∀ (s : State) (c : Fin 4) (w : Bool) (a b : Nat) (pos : BitVec 8) (v : BitVec 7) (exempt : Bool) (e : CanEntry) (l : List CanEntry),
    (s.canCh c.val).galley = e :: l → (s.canCh c.val).busy = true → s.canMode c.val = 1 → e.fdf = true → e.brs = true → s.rbit (Page.can c.val) Reg.can_TDC_CFG 0 = true →
    let at_ := v.toNat + s.fld (Page.can c.val) Reg.can_TDC_CFG 8 7
    Gives (.canAttemptEnd c (.bitLevel w .content a b) pos (some v) exempt) s fun t =>
      t.reg (Page.can c.val) Reg.can_TDCV = v.zeroExtend 32 ∧ (t.canCh c.val).tdcValid = true ∧
      (t.canCh c.val).busy = !(decide (a ≤ at_ ∧ at_ < b)) ∧
      (a ≤ at_ ∧ at_ < b → (t.canCh c.val).results = (s.canCh c.val).results ++ [(canWord e.tag (if w then 7 else 3) pos.toNat, e.owner)])) ∧
  (∀ (s : State) (c : Fin 4), s.pair.gate = true → Gives (.txPop c) s fun t => t = { s with cans := t.cans } ∧
    t.canCh c.val = { s.canCh c.val with results := (s.canCh c.val).results.drop 1 }) ∧
  (∀ (s : State) (c : Fin 4) (p : Priv), p ≠ .p2 → Gives (.galleyFlush c p) s fun t =>
    let x := s.canCh c.val
    t = { s with cans := t.cans, regs := t.regs } ∧ (t.canCh c.val).galley = (if x.busy then x.galley.take 1 else []) ∧
    (t.canCh c.val).results = x.results ++ (if x.busy then x.galley.drop 1 else x.galley).map (fun e => (canWord e.tag 6 0, e.owner)))

/-- R446, R447, R449 to R452, R460: the first element that matches a frame received without error decides: its record enters the dedicated buffer with its new-data bit and its bound handle, or a FIFO, which keeps its older records when it is full; without a match the frame is counted and discarded. -/
def CanReceives : Prop :=
  (∀ (s : State) (c : Fin 4) (f : CanFrame), s.alive = false ∨ s.canEn c.val = false ∨ (s.canCh c.val).off = true → exec (.canFrameReceived c f) s = .next s) ∧
  (∀ (s : State) (c : Fin 4) (f : CanFrame), s.alive = true → s.canEn c.val = true → (s.canCh c.val).off = false →
    ((List.range (s.filtLen c.val)).find? (fun i => s.filtHit c.val i f) = none → Gives (.canFrameReceived c f) s fun t =>
      t.reg (Page.canFilter c.val) 0x048 = satInc (s.reg (Page.canFilter c.val) 0x048) ∧ (t.canCh c.val).bufs = (s.canCh c.val).bufs ∧
      (t.canCh c.val).fifo0 = (s.canCh c.val).fifo0 ∧ (t.canCh c.val).fifo1 = (s.canCh c.val).fifo1 ∧ t.inImg = s.inImg) ∧
    (∀ i, (List.range (s.filtLen c.val)).find? (fun i => s.filtHit c.val i f) = some i →
      let r := canRecord f i ((s.canCh c.val).rxCount + 1#32)
      let dest := fieldNat (s.filt c.val i 2) 8 2
      let b := fieldNat (s.filt c.val i 2) 0 7
      (dest = 0 → Gives (.canFrameReceived c f) s fun t => (t.canCh c.val).bufs = (s.canCh c.val).bufs ∧
        (t.canCh c.val).fifo0 = (s.canCh c.val).fifo0 ∧ (t.canCh c.val).fifo1 = (s.canCh c.val).fifo1 ∧ t.inImg = s.inImg) ∧
      (dest = 1 → Gives (.canFrameReceived c f) s fun t => tget (fun _ => []) (t.canCh c.val).bufs b = r ∧
        bit (t.reg (Page.canRx c.val) (Reg.canrx_ND (b / 32))) (b % 32) = true ∧ bit (t.reg (Page.can c.val) Reg.com_INT_RAW) 1 = true ∧
        (bit (s.reg (Page.canRx c.val) (Reg.canrx_ND (b / 32))) (b % 32) = true →
          t.reg (Page.canRx c.val) Reg.canrx_BUF_OVERWRITE = satInc (s.reg (Page.canRx c.val) Reg.canrx_BUF_OVERWRITE)) ∧
        (s.bindF c.val b 16 5 = 1 → s.inMay (s.bindF c.val b 0 16) = true → (t.inEnt (s.bindF c.val b 0 16)).newer =
          { value := r.getD 4 0#32, status := 0x0040#16, since := some (cycNext s.bell.cycle) })) ∧
      (dest = 2 → (s.canCh c.val).fifo0.length < 64 → Gives (.canFrameReceived c f) s fun t => (t.canCh c.val).fifo0 = (s.canCh c.val).fifo0 ++ [r] ∧
        bit (t.reg (Page.can c.val) Reg.com_INT_RAW) 2 = true) ∧
      (dest = 3 → (s.canCh c.val).fifo1.length < 64 → Gives (.canFrameReceived c f) s fun t => (t.canCh c.val).fifo1 = (s.canCh c.val).fifo1 ++ [r] ∧
        bit (t.reg (Page.can c.val) Reg.com_INT_RAW) 3 = true) ∧
      (dest = 2 → 64 ≤ (s.canCh c.val).fifo0.length → Gives (.canFrameReceived c f) s fun t => (t.canCh c.val).fifo0 = (s.canCh c.val).fifo0 ∧
        t.reg (Page.canRx c.val) Reg.canrx_FIFO0_OVF = satInc (s.reg (Page.canRx c.val) Reg.canrx_FIFO0_OVF)))) ∧
  (∀ (s : State) (c : Fin 4), (s.canCh c.val).fifo0 ≠ [] → Gives (.fifoPop c true false) s fun t => t = { s with cans := t.cans } ∧
    t.canCh c.val = { s.canCh c.val with fifo0 := (s.canCh c.val).fifo0.drop 1 }) ∧
  (∀ (s : State) (c : Fin 4), (s.canCh c.val).fifo0 = [] → Gives (.fifoPop c true false) s fun t => t.canCh c.val = s.canCh c.val ∧
    t.reg (Page.canRx c.val) Reg.com_ERRCNT = satInc (s.reg (Page.canRx c.val) Reg.com_ERRCNT)) ∧
  (∀ (s : State) (c i : Fin 4) (v : Word), Gives (.ndClear c i v) s fun t => t = { s with regs := t.regs } ∧
    t.reg (Page.canRx c.val) (Reg.canrx_ND i.val) = s.reg (Page.canRx c.val) (Reg.canrx_ND i.val) &&& ~~~v) ∧
  (∀ (s : State) (c : Fin 4) (v : BitVec 2), Gives (.rxBank c v) s fun t => t = { s with regs := t.regs } ∧
    t.reg (Page.canRx c.val) Reg.canrx_RX_BANK = v.zeroExtend 32) ∧
  (∀ (s : State) (c : Fin 4) (b : BitVec 7), s.bindF c.val b.toNat 24 8 ≠ 0 → (s.canCh c.val).busOff = false →
    b.toNat ∈ (s.canCh c.val).had → s.bindF c.val b.toNat 16 5 = 1 → s.inMay (s.bindF c.val b.toNat 0 16) = true → Gives (.canBufferTimeout c b) s fun t =>
      t = { s with inImg := t.inImg } ∧ (t.inEnt (s.bindF c.val b.toNat 0 16)).newer =
        { value := (s.inLast (s.bindF c.val b.toNat 0 16)).value, status := 0x8843#16, since := some (cycNext s.bell.cycle) })

/-- R435, R437, R438, R445, R448, R453, R454: CAN_EN, NORMAL and error confinement: an enable that breaks a rule is refused, REC and TEC rise in NORMAL only, a recessive res bit being no error with PEX_EN, a channel whose TEC has passed 255 goes bus-off with every entry ended and recovers with counters at 0, by itself only with BO_AUTO and without BO_LASTING; the commands are refused at P2. -/
def CanStates : Prop :=
  (∀ (s : State) (c : Fin 4), s.locked (Page.can c.val) = false → s.canEn c.val = false →
    ((List.range (s.filtLen c.val)).find? (s.filtBad c.val) = none → s.canTimingOk c.val = true → s.pair.gate = true → Gives (.canEn c true) s fun t =>
      t.canEn c.val = true ∧ t.canCh c.val = { s.canCh c.val with normal := false } ∧ t.canMode c.val = 2) ∧
    ((List.range (s.filtLen c.val)).find? (s.filtBad c.val) = none → s.canTimingOk c.val = false →
      exec (.canEn c true) s = .next (s.err (Page.can c.val))) ∧
    (∀ i, (List.range (s.filtLen c.val)).find? (s.filtBad c.val) = some i → Gives (.canEn c true) s fun t => t = { s with regs := t.regs } ∧
      t.canEn c.val = false ∧ t.reg (Page.canFilter c.val) 0x044 = BitVec.ofNat 32 (i + 256) ∧
      t.reg (Page.can c.val) Reg.com_ERRCNT = satInc (s.reg (Page.can c.val) Reg.com_ERRCNT))) ∧
  (∀ (s : State) (c : Fin 4), s.locked (Page.can c.val) = false → Gives (.canEn c false) s fun t => t.canEn c.val = false ∧ t.canMode c.val = 0) ∧
  (∀ (s : State) (c : Fin 4), s.canEn c.val = true → s.pair.gate = true → Gives (.normalEntry c) s fun t => t = { s with cans := t.cans } ∧ t.canMode c.val = 1) ∧
  (∀ (s : State) (c : Fin 4), s.canEn c.val = false ∨ s.pair.gate = false → exec (.normalEntry c) s = .next s) ∧
  (∀ (s : State) (c : Fin 4) (f : CanFault), s.canMode c.val = 1 → (s.canCh c.val).off = false → Gives (.canBusError c f) s fun t =>
    let x := s.canCh c.val
    t = { s with cans := t.cans, regs := t.regs } ∧ t.canCh c.val = { x with
      rec_ := x.rec_ + (match f with | .rec1 => 1 | .rec8 => 8 | .tec8 => 0 | .res => if s.rbit (Page.can c.val) Reg.can_CAN_CFG 4 then 0 else 1)
      tec := x.tec + if f = .tec8 then 8 else 0 }) ∧
  (∀ (s : State) (c : Fin 4) (f : CanFault), s.canMode c.val ≠ 1 → exec (.canBusError c f) s = .next s) ∧
  (∀ (s : State) (c : Fin 4), (s.canCh c.val).busOff = false → 255 < (s.canCh c.val).tec → Gives (.busOff c) s fun t =>
    let x := s.canCh c.val
    let ev := x.events.filter (fun e => decide (s.now ≤ e + (s.reg (Page.can c.val) Reg.can_BO_WINDOW).toNat * 250000000)) ++ [s.now]
    (t.canCh c.val).busOff = true ∧ (t.canCh c.val).galley = [] ∧ (t.canCh c.val).events = ev ∧
    (t.canCh c.val).lasting = (x.lasting || decide (s.canCfg c.val 8 4 ≤ ev.length)) ∧
    (t.canCh c.val).results = x.results ++ x.galley.map (fun e => (canWord e.tag 5 0, e.owner)) ∧
    t.reg (Page.can c.val) Reg.can_BUS_OFF_CNT = satInc (s.reg (Page.can c.val) Reg.can_BUS_OFF_CNT) ∧ bit (t.reg (Page.can c.val) Reg.com_INT_RAW) 5 = true) ∧
  (∀ (s : State) (c : Fin 4), (s.canCh c.val).busOff = true →
    ((s.canCh c.val).recover = true ∨ (s.canCfg c.val 2 1 = 1 ∧ (s.canCh c.val).lasting = false) → Gives (.busOffRecovery c) s fun t =>
      t = { s with cans := t.cans, regs := t.regs } ∧ t.canCh c.val = { s.canCh c.val with busOff := false, recover := false, tec := 0, rec_ := 0 }) ∧
    ((s.canCh c.val).recover = false → (s.canCfg c.val 2 1 ≠ 1 ∨ (s.canCh c.val).lasting = true) → exec (.busOffRecovery c) s = .next s)) ∧
  (∀ (s : State) (c : Fin 4) (p : Priv), p ≠ .p2 →
    (Gives (.recover c p) s fun t => t = { s with cans := t.cans } ∧
      t.canCh c.val = { s.canCh c.val with lasting := false, events := [], recover := (s.canCh c.val).recover || (s.canCh c.val).busOff }) ∧
    (Gives (.clearClash c p) s fun t => t = { s with cans := t.cans } ∧ t.canCh c.val = { s.canCh c.val with clash := false })) ∧
  (∀ (s : State) (c : Fin 4), exec (.recover c .p2) s = .next (s.err (Page.can c.val)) ∧ exec (.galleyFlush c .p2) s = .next (s.err (Page.can c.val)) ∧
    exec (.clearClash c .p2) s = .next (s.err (Page.can c.val)))

/-- The CAN FD channels. -/
def Obligations.CanChannels : Prop := CanSends ∧ CanReceives ∧ CanStates

/-! ### The field channels -/

/-- The input image takes a write of the handle bound to channel k, if there is one: the target lets the input engines write it, and its word carries no error (R160, R196). -/
abbrev ChMay (s : State) (k : Nat) : Prop := (s.chHandle k).all s.inMay = true

/-- R461: 100 measurements in a row below 18.0 V set FS_LOW of a group, 100 above 18.5 V clear it, each group on its own; a written input of the group then reads bad with DETAIL 0x7 and keeps its value. -/
def FieldSupply : Prop :=
  (∀ (s : State) (l0 l1 : Nat), s.alive = false → exec (.fsMeasure l0 l1) s = .next s) ∧
  ∀ (s : State) (l0 l1 : Nat), s.alive = true → (∀ c : Fin 16, ChMay s (16 + c.val) ∧ ChMay s (48 + c.val)) → Gives (.fsMeasure l0 l1) s fun t =>
    (∀ g : Fin 2,
      let v := if g = 0 then l0 else l1
      let x := s.dioGroup g.val
      let lo := if v < 1800 then x.low + 1 else 0
      let hi := if 1850 < v then x.high + 1 else 0
      let off := if g = 0 then Reg.dio_FS_STAT else Reg.dio_FS_STAT1
      t.dioGroup g.val = { x with low := min lo 100, high := min hi 100, fsLow := if x.fsLow then decide (hi < 100) else decide (100 ≤ lo) } ∧
      t.fld Page.dio off 0 16 = min v 0xFFFF ∧
      (s.rbit Page.dio off 16 = x.fsLow → t.rbit Page.dio off 16 = (t.dioGroup g.val).fsLow) ∧
      (x.fsLow = false → 100 ≤ lo → bit (t.reg Page.dio Reg.com_INT_RAW) 1 = true) ∧
      (∀ c : Fin 16, c.val / 8 = g.val →
        (x.fsLow = false → 100 ≤ lo → s.dioMode c.val = 1 → (s.dio c.val).written = true →
          t.chan (16 + c.val) = { s.chan (16 + c.val) with status := 0x8007#16 } ∧
          ∀ h, s.chHandle (16 + c.val) = some h → (∀ k, k ≠ 16 + c.val → s.chHandle k ≠ some h) →
            (t.inEnt h).newer.value = (s.inLast h).value ∧ (t.inEnt h).newer.status = 0x8007#16) ∧
        (x.fsLow = decide (¬ (if x.fsLow then hi < 100 else 100 ≤ lo)) ∨ t.chan (16 + c.val) = s.chan (16 + c.val)))) ∧
    t.dios = s.dios ∧ t.forme = s.forme ∧ t.pair = s.pair ∧ t.bell.cycle = s.bell.cycle

/-- R463, R464: an input sample: thresholds of its type, the previous state between them; FILT_N samples in a row change the filter output; handle and channel are written once at the FILT_N-th sample and then at each change only. -/
def FieldInputs : Prop :=
  ∀ (s : State) (c : Fin 16) (mv : Int),
    (s.alive = false ∨ s.dioMode c.val ≠ 1 → exec (.dioSample c mv) s = .next s) ∧
    (s.alive = true → s.dioMode c.val = 1 → ChMay s (16 + c.val) →
      let x := s.dio c.val
      let raw := if (if s.dioCfg c.val 2 1 = 1 then 11000 else 15000) ≤ mv then true else if mv ≤ 5000 then false else x.prev
      let n := s.filtN c.val
      let flip := decide (raw ≠ x.filt) && decide (n ≤ x.run + 1)
      let first := !x.written && decide (n ≤ min 16 (x.count + 1))
      Gives (.dioSample c mv) s fun t =>
        t.dio c.val = { x with prev := raw, run := if raw = x.filt ∨ flip = true then 0 else x.run + 1, filt := if flip then raw else x.filt,
                               count := min 16 (x.count + 1), written := x.written || first, rawOff := x.rawOff || !raw } ∧
        (∀ d : Fin 16, d ≠ c → t.dio d.val = s.dio d.val) ∧
        (first = true ∨ (flip = true ∧ x.written = true) →
          t.chan (16 + c.val) = { value := if (t.dio c.val).filt then 0x3F800000#32 else 0#32, status := s.dioStatus c.val, time := s.tb.time.toNs } ∧
          ∀ h, s.chHandle (16 + c.val) = some h →
            (t.inEnt h).newer = { value := if (t.dio c.val).filt then 1#32 else 0#32, status := s.dioStatus c.val, since := some (cycNext s.bell.cycle) }) ∧
        (first = false → (flip = false ∨ x.written = false) → t.inImg = s.inImg ∧ t.mp = s.mp) ∧
        (flip = false → t.sis = s.sis ∧ t.sos = s.sos))

/-- What a diagnosis of DIO channel c may change. -/
def DiagFrame (s t : State) : Prop :=
  t = { s with dios := t.dios, inImg := t.inImg, jrn := t.jrn, regs := t.regs, safe := t.safe, sos := t.sos }

/-- A new live bit of DIO_DIAG or AIO_DIAG sets its latched copy, DIAG where that copy was clear, and for a channel with CAUSE_EN error cause 7 (R466, R476). -/
def Reported (s t : State) (p off k : Nat) (causeEn : Bool) : Prop :=
  bit (s.reg p off) k = false → bit (t.reg p off) (8 + k) = true ∧
    (bit (s.reg p off) (8 + k) = false → bit (t.reg p Reg.com_INT_RAW) 0 = true) ∧
    (causeEn = true → bit (t.reg Page.bell Reg.bell_ERR_PEND) 7 = true)

/-- R497: an output of the safety block on channel c enters LOCKOUT with cause 2. -/
def LocksOut (s t : State) (c : Nat) : Prop :=
  ∀ j : Fin 8, s.soOn j.val = true → s.soCfg j.val 0 4 = c → (s.so j.val).st ≠ .lockout → (t.so j.val).st = .lockout ∧ (t.so j.val).lockCause = 2

/-- R465, R466, R475, R476, R497: readback samples, and the faults of a DIO output: each sets its live and latched bits and reacts as the table says; OVERLOAD alone and OPEN_WIRE lock nothing out. -/
def FieldOutputs : Prop :=
  (∀ (s : State) (c : Fin 16) (mv ma : Int) (limit open_ : Bool) (gm : Nat),
    (s.alive = false ∨ s.dioMode c.val < 2 → exec (.readbackSample c mv ma limit open_ gm) s = .next s) ∧
    (s.alive = true → 2 ≤ s.dioMode c.val → ChMay s (48 + c.val) →
      let rb := if 15000 < mv then 1 else if mv < 5000 then 0 else 2
      let x := s.dio c.val
      Gives (.readbackSample c mv ma limit open_ gm) s fun t => DiagFrame s t ∧ (t.dio c.val).rb = rb ∧ (t.dio c.val).rbWritten = true ∧
        t.reg Page.dio (Reg.dio_DIO_CUR c.val) = (BitVec.ofInt 16 ma).zeroExtend 32 ∧
        (x.rbWritten = false ∨ x.rb ≠ rb → ∀ h, s.chHandle (48 + c.val) = some h →
          (t.inEnt h).newer = { value := BitVec.ofNat 32 rb, status := t.dioStatus c.val, since := some (cycNext s.bell.cycle) }) ∧
        (s.dioDrives c.val = true → s.dioLevel c.val ≠ .high → x.pulse = false → rb = 1 → (t.dioLive c.val).testBit 2 = true) ∧
        (s.dioDrives c.val = true → x.tpShort = false → s.dioLevel c.val = .high → (t.dioLive c.val).testBit 2 = false) ∧
        (s.dioDrives c.val = true → (t.dioLive c.val).testBit 0 = ((s.dioLive c.val).testBit 0 && limit) ∧
          (t.dioLive c.val).testBit 3 = ((s.dioLive c.val).testBit 3 && open_)) ∧
        (s.dioDrives c.val = false → t.dioLive c.val = s.dioLive c.val))) ∧
  (∀ (s : State) (c : Fin 16), s.dioDrives c.val = true → ChMay s (48 + c.val) →
    let en := s.rbit Page.dio Reg.dio_CAUSE_EN c.val
    ((s.dio c.val).pulse = false → (s.dio c.val).rb ≠ 2 → Gives (.overload c) s fun t => DiagFrame s t ∧ t.dios = s.dios ∧ t.sos = s.sos ∧
      t.dioLive c.val = s.dioLive c.val ||| 1 ∧ Reported s t Page.dio (Reg.dio_DIO_DIAG c.val) 0 en) ∧
    ((s.dio c.val).pulse = false → (s.dio c.val).rb = 2 → Gives (.overload c) s fun t => DiagFrame s t ∧ t.dioLive c.val = s.dioLive c.val ||| 17 ∧
      ((s.dioLive c.val).testBit 4 = false → LocksOut s t c.val)) ∧
    (Gives (.offOvl c) s fun t => DiagFrame s t ∧ t.dio c.val = { s.dio c.val with held := true } ∧ t.dioLive c.val = s.dioLive c.val ||| 2 ∧
      t.dioLevel c.val = .off ∧ Reported s t Page.dio (Reg.dio_DIO_DIAG c.val) 1 en ∧ ((s.dioLive c.val).testBit 1 = false → LocksOut s t c.val)) ∧
    (s.dioCfg c.val 18 1 = 1 → s.dioLevel c.val = (if s.dioMode c.val = 2 then .high else .off) → Gives (.openWire c) s fun t => DiagFrame s t ∧
      t.dios = s.dios ∧ t.sos = s.sos ∧ t.dioLive c.val = s.dioLive c.val ||| 8 ∧ Reported s t Page.dio (Reg.dio_DIO_DIAG c.val) 3 en) ∧
    (Gives (.overtemp c) s fun t => DiagFrame s t ∧ t.dio c.val = { s.dio c.val with held := true } ∧ t.dioLive c.val = s.dioLive c.val ||| 32 ∧
      t.dioLevel c.val = .off ∧ Reported s t Page.dio (Reg.dio_DIO_DIAG c.val) 5 en ∧ ((s.dioLive c.val).testBit 5 = false → LocksOut s t c.val))) ∧
  (∀ (s : State) (c : Fin 16), s.dioDrives c.val = false →
    exec (.overload c) s = .next s ∧ exec (.offOvl c) s = .next s ∧ exec (.openWire c) s = .next s ∧ exec (.overtemp c) s = .next s) ∧
  (∀ (s : State) (g : Fin 2),
    (∀ c : Fin 16, c.val / 8 = g.val → s.dioDrives c.val = true → (∀ d : Fin 16, ChMay s (48 + d.val)) → Gives (.groupOff g) s fun t => (t.dioGroup g.val).off = true ∧
      t.rbit Page.dio Reg.dio_GROUP_STAT (16 + g.val) = true ∧ bit (t.reg Page.dio Reg.com_INT_RAW) 2 = true ∧
      (t.dio c.val).held = true ∧ (t.dioLive c.val).testBit 6 = true ∧ t.dioLevel c.val = .off ∧
      ∀ d : Fin 16, d.val / 8 ≠ g.val → t.dio d.val = s.dio d.val ∧ t.dioLive d.val = s.dioLive d.val) ∧
    ((∀ c : Fin 16, c.val / 8 = g.val → s.dioDrives c.val = false) → exec (.groupOff g) s = .next s))

/-- R466, R467, R492: a retry gives a held channel its command again, except where the driver has not cooled; a test pulse drives a TRUE output FALSE, and at its end SHORT_LP and the cross-shorts are judged. -/
def FieldPulses : Prop :=
  (∀ (s : State) (c : Fin 16) (cool : Bool),
    ((s.dio c.val).held = false → exec (.outputRetry c cool) s = .next s) ∧
    ((s.dio c.val).held = true → ChMay s (48 + c.val) → Gives (.outputRetry c cool) s fun t =>
      t.dioLive c.val = s.dioLive c.val &&& (if cool then 0x9D else 0xBD) ∧
      t.dio c.val = { s.dio c.val with held := !cool && (s.dioLive c.val).testBit 5 } ∧
      ∀ d : Fin 16, d ≠ c → t.dio d.val = s.dio d.val ∧ t.dioLive d.val = s.dioLive d.val)) ∧
  (∀ (s : State) (m : BitVec 16), (∀ c : Fin 16, ChMay s (48 + c.val)) → Gives (.retry m) s fun t => t.forme = s.forme ∧ t.pair = s.pair ∧ ∀ c : Fin 16,
    t.dio c.val = (if bit m c.val then { s.dio c.val with held := (s.dio c.val).held && (s.dioLive c.val).testBit 5 } else s.dio c.val)) ∧
  (∀ (s : State) (c : Fin 16),
    (s.dioDrives c.val = true → s.tpEn c.val = true → s.dioLevel c.val = .high → s.ruleOn c.val = none → Gives (.testPulseStart c) s fun t =>
      t = { s with dios := t.dios } ∧ (t.dio c.val).pulse = true ∧ t.dioLevel c.val = levelOf (s.dioMode c.val) false ∧
      ∀ d : Fin 16, d ≠ c → (t.dio d.val).pulse = (s.dio d.val).pulse ∧ (t.dio d.val).filt = (s.dio d.val).filt) ∧
    (s.dioDrives c.val = false ∨ s.tpEn c.val = false ∨ s.dioLevel c.val ≠ .high → exec (.testPulseStart c) s = .next s)) ∧
  (∀ (s : State) (c : Fin 16) (mv : Int),
    ((s.dio c.val).pulse = false → exec (.testPulseEnd c mv) s = .next s) ∧
    ((s.dio c.val).pulse = true → ChMay s (48 + c.val) → Gives (.testPulseEnd c mv) s fun t =>
      t.dio c.val = { s.dio c.val with pulse := false, tpShort := decide (15000 < mv) } ∧ (t.dioLive c.val).testBit 2 = decide (15000 < mv) ∧
      ∀ k : Fin 8, s.siOn k.val = true → s.siCfg k.val 2 1 = 1 → (s.si k.val).st ≠ .fault →
        (s.siCfg k.val 4 4 = c.val → (s.dio k.val).rawOff = false → t.si k.val = { st := .fault, cause := 2 }) ∧
        (s.siCfg k.val 8 4 = c.val → (s.dio (k.val + 8)).rawOff = false → (s.siCfg k.val 4 4 ≠ c.val ∨ (s.dio k.val).rawOff = true) →
          t.si k.val = { st := .fault, cause := 3 })))

/-- What a measurement or diagnosis of an analogue channel may change. -/
def AioFrame (s t : State) : Prop :=
  t = { s with aios := t.aios, inImg := t.inImg, jrn := t.jrn, mem := t.mem, mp := t.mp, recd := t.recd, regs := t.regs, sent := t.sent, upsets := t.upsets }

/-- R469, R470, R472, R475, R476: a measurement shows its current, voltage and headroom, its NE 43 class, and reaches channel and handle; COMP_WARN, COMP_FAULT, LOOP_R and ALARM_UNACH of a channel that drives. -/
def FieldAnalogue : Prop :=
  (∀ (s : State) (a : Fin 4) (ua mv : Nat),
    (s.alive = false ∨ s.aioMode a.val = 0 → exec (.aiSample a ua mv) s = .next s) ∧
    (s.alive = true → s.aioMode a.val ≠ 0 → ChMay s (40 + a.val) → Gives (.aiSample a ua mv) s fun t => AioFrame s t ∧
      t.reg (Page.aio a.val) Reg.aio_AIO_MEAS = BitVec.ofNat 32 ua ∧ t.reg (Page.aio a.val) Reg.aio_TERM_V = BitVec.ofNat 32 mv ∧
      t.reg (Page.aio a.val) Reg.aio_HEADROOM = BitVec.ofInt 32 (if s.aioMode a.val = 2 then (mv : Int) - 2000 else vComp ua - mv) ∧
      t.chan a.val = { value := maWord ua, status := t.aioStatus a.val, time := s.tb.time.toNs } ∧
      (s.aioMode a.val = 3 → s.multidrop a.val = false →
        (t.aioLive a.val).testBit 3 = decide (ne43 ua = 1) ∧ (t.aioLive a.val).testBit 4 = decide (ne43 ua = 2)) ∧
      (∀ h, s.chHandle (40 + a.val) = some h → (∀ l, (s.aio a.val).last = some l → 1 < ((ua : Int) - l).natAbs) →
        (t.inEnt h).newer = { value := maWord ua, status := t.aioStatus a.val, since := some (cycNext s.bell.cycle) } ∧ (t.aio a.val).last = some ua))) ∧
  (∀ ua : Nat, ne43 ua = (if 3800 ≤ ua ∧ ua ≤ 20500 then 0 else if (3600 ≤ ua ∧ ua < 3800) ∨ (20500 < ua ∧ ua ≤ 21000) then 1 else 2)) ∧
  (∀ (s : State) (a : Fin 4), s.aioMode a.val = 1 ∨ s.aioMode a.val = 2 → s.gateOpen = true →
    (Gives (.compWarn a) s fun t => t = { s with regs := t.regs, jrn := t.jrn } ∧ t.aioLive a.val = s.aioLive a.val ||| 1 ∧
      Reported s t (Page.aio a.val) Reg.aio_AIO_DIAG 0 (s.aioCfg a.val 8 1 == 1)) ∧
    (Gives (.compFault a) s fun t => t = { s with regs := t.regs, jrn := t.jrn } ∧ t.aioLive a.val = s.aioLive a.val ||| 2 ∧
      Reported s t (Page.aio a.val) Reg.aio_AIO_DIAG 1 (s.aioCfg a.val 8 1 == 1))) ∧
  (∀ (s : State) (a : Fin 4), s.gateOpen = false → exec (.compWarn a) s = .next s ∧ exec (.compFault a) s = .next s) ∧
  (∀ (s : State) (a : Fin 4),
    let ua := (s.reg (Page.aio a.val) Reg.aio_AIO_MEAS).toNat
    let mv := (s.reg (Page.aio a.val) Reg.aio_TERM_V).toNat
    let hi := s.alarmHi a.val
    (ua < 3500 → exec (.loopRCompute a) s = .next s) ∧
    (3500 ≤ ua → s.aioMode a.val = 1 → Gives (.loopRCompute a) s fun t => t = { s with regs := t.regs, jrn := t.jrn } ∧
      (t.reg (Page.aio a.val) Reg.aio_LOOP_R).toNat = mv * 1000 / ua ∧
      (t.aioLive a.val).testBit 2 = (s.aioCfg a.val 4 1 == 1 && decide (vComp hi * 1000 < ((mv * 1000 / ua * hi : Nat) : Int)))) ∧
    (3500 ≤ ua → s.aioMode a.val = 2 → Gives (.loopRCompute a) s fun t =>
      t.reg (Page.aio a.val) Reg.aio_LOOP_R = s.reg (Page.aio a.val) Reg.aio_LOOP_R ∧
      (t.aioLive a.val).testBit 2 =
        decide ((mv : Int) * 1000 - (s.reg (Page.aio a.val) Reg.aio_LOOP_R).toNat * ((hi : Int) - ua) < 2000000)))

/-- R473, R474, R484: a response of a poll entry writes its five handles; an answer to the request buffer enters the response buffer; the third missed exchange in a row makes the device's handles bad; SEND and ABORT are refused at P2; the reserved byte count is discarded (R10). -/
def FieldHart : Prop :=
  (∀ (s : State) (a : Fin 4) (m : HartMsg) (code : BitVec 8), s.alive = false ∨ s.aioCfg a.val 6 1 = 0 →
    exec (.hartResponse a m code) s = .next s ∧ exec (.hartTimeout a) s = .next s) ∧
  (∀ (s : State) (a : Fin 4) (i : Nat) (vals : List Word) (bad unc : Bool) (code : BitVec 8), s.alive = true → s.aioCfg a.val 6 1 = 1 → i < s.pollLen a.val →
    (∀ k : Fin 5, s.inMay (s.pollHandle a.val i + k.val) = true) → vals.length = 5 → Gives (.hartResponse a (.poll i vals bad unc) code) s fun t => AioFrame s t ∧
      (∀ k, k < 5 → vals[k]? = some (t.inEnt (s.pollHandle a.val i + k)).newer.value ∧
        (t.inEnt (s.pollHandle a.val i + k)).newer.status = (if bad then 0x800D#16 else if unc then 0x400D#16 else 0#16)) ∧
      (t.aio a.val).dev i = { answered := true } ∧ t.fld (Page.aio a.val) Reg.aio_HART_STAT 16 8 = code.toNat) ∧
  (∀ (s : State) (a : Fin 4) (f : List Byte) (code : BitVec 8), s.alive = true → s.aioCfg a.val 6 1 = 1 → f.length < 255 → (s.aio a.val).reqRun = true →
    Gives (.hartResponse a (.reply f) code) s fun t => AioFrame s t ∧ t.inImg = s.inImg ∧ bit (t.reg (Page.aio a.val) Reg.com_INT_RAW) 1 = true ∧
      (t.aio a.val).reqRun = (s.aio a.val).reqWait ∧ (t.aio a.val).reqWait = false ∧
      ∀ w, w < 64 → (wordsLE (BitVec.ofNat 8 f.length :: f) 64)[w]? = some (t.reg (Page.aio a.val) (Reg.aio_HART_RSP w))) ∧
  (∀ (s : State) (a : Fin 4) (f : List Byte) (code : BitVec 8), s.alive = true → s.aioCfg a.val 6 1 = 1 → 255 ≤ f.length →
    exec (.hartResponse a (.reply f) code) s = .next (s.discard (Page.aio a.val) Reg.com_ERRCNT)) ∧
  (∀ (s : State) (a : Fin 4), s.alive = true → s.aioCfg a.val 6 1 = 1 → (s.aio a.val).reqRun = true → Gives (.hartTimeout a) s fun t =>
    t = { s with aios := t.aios, regs := t.regs, sent := t.sent } ∧ (t.aio a.val).reqRun = (s.aio a.val).reqWait ∧
    t.reg (Page.aio a.val) Reg.aio_HART_ERR = satInc (s.reg (Page.aio a.val) Reg.aio_HART_ERR) ∧ bit (t.reg (Page.aio a.val) Reg.com_INT_RAW) 1 = true) ∧
  (∀ (s : State) (a : Fin 4), s.alive = true → s.aioCfg a.val 6 1 = 1 → (s.aio a.val).reqRun = false → (s.aio a.val).turn < s.pollLen a.val →
    (∀ k : Fin 5, s.inMay (s.pollHandle a.val (s.aio a.val).turn + k.val) = true) →
    let x := s.aio a.val
    Gives (.hartTimeout a) s fun t => AioFrame s t ∧
      t.reg (Page.aio a.val) Reg.aio_HART_ERR = satInc (s.reg (Page.aio a.val) Reg.aio_HART_ERR) ∧
      (t.aio a.val).dev x.turn = { x.dev x.turn with miss := (x.dev x.turn).miss + 1, lost := decide (3 ≤ (x.dev x.turn).miss + 1) } ∧
      ((x.dev x.turn).miss = 2 → (t.aioLive a.val).testBit 5 = true ∧ ∀ k, k < 5 →
        (t.inEnt (s.pollHandle a.val x.turn + k)).newer.status = 0x810E#16 ∧
        (t.inEnt (s.pollHandle a.val x.turn + k)).newer.value = (s.inLast (s.pollHandle a.val x.turn + k)).value) ∧
      ((x.dev x.turn).miss ≠ 2 → t.inImg = s.inImg)) ∧
  (∀ (s : State) (a : Fin 4) (p : Priv), p ≠ .p2 →
    (s.fld (Page.aio a.val) (Reg.aio_HART_REQ 0) 0 8 = 0xFF → exec (.hartSend a p) s = .next (s.discard (Page.aio a.val) Reg.com_ERRCNT)) ∧
    (s.fld (Page.aio a.val) (Reg.aio_HART_REQ 0) 0 8 ≠ 0xFF → s.pollLen a.val ≠ 0 → Gives (.hartSend a p) s fun t => t = { s with aios := t.aios } ∧ t.aio a.val = { s.aio a.val with reqWait := true }) ∧
    (s.fld (Page.aio a.val) (Reg.aio_HART_REQ 0) 0 8 ≠ 0xFF → s.pollLen a.val = 0 → (s.aio a.val).reqRun = false → Gives (.hartSend a p) s fun t => t = { s with aios := t.aios, sent := t.sent } ∧
      t.aio a.val = { s.aio a.val with reqWait := false, reqRun := true } ∧
      t.sent = (if s.gateOpen then [{ what := .hartRequest, args := [a.val, 64] }] else []) ++ s.sent) ∧
    (Gives (.hartAbort a p) s fun t => t = { s with aios := t.aios } ∧ t.aio a.val = { s.aio a.val with reqWait := false, reqRun := false })) ∧
  (∀ (s : State) (a : Fin 4), exec (.hartSend a .p2) s = .next (s.err (Page.aio a.val)) ∧ exec (.hartAbort a .p2) s = .next (s.err (Page.aio a.val)))

/-- The digital field channels: FS_MEASURE, DIO_SAMPLE, READBACK_SAMPLE, OVERLOAD, OFF_OVL, OPEN_WIRE, OVERTEMP, GROUP_OFF, OUTPUT_RETRY, RETRY, TEST_PULSE_START, TEST_PULSE_END. -/
def Obligations.DigitalChannels : Prop := FieldSupply ∧ FieldInputs ∧ FieldOutputs ∧ FieldPulses

/-- The analogue field channels and HART: AI_SAMPLE, COMP_WARN, COMP_FAULT, LOOP_R_COMPUTE, HART_RESPONSE, HART_TIMEOUT, HART_SEND, HART_ABORT. -/
def Obligations.AnalogueChannels : Prop := FieldAnalogue ∧ FieldHart

/-! ### The reflex table -/

/-- What a judgement of the table may change. -/
def RfxFrame (s t : State) : Prop :=
  t = { s with rfxAct := t.rfxAct, inImg := t.inImg, jrn := t.jrn, regs := t.regs, safe := t.safe, sos := t.sos }

/-- R214, R479: on a module that has not failed a rule is in force while it fires, and a latching one until it is cleared; a firing that begins sets FIRED, and LATCHED for a latching rule; the lowest rule in force that names a channel decides its level. -/
def ReflexJudges : Prop :=
  (∀ s : State, s.alive = false → exec .reflexFire s = .next s) ∧
  (∀ s : State, s.alive = true → (∀ c : Fin 16, ChMay s (48 + c.val)) → Gives .reflexFire s fun t => RfxFrame s t ∧ ∀ r : Fin 64,
    bit t.rfxAct r.val = (s.ruleFires s.rfxIn r.val || (bit s.rfxAct r.val && bit (s.rule r.val 5) 8 && s.rfxEn)) ∧
    (s.ruleFires s.rfxIn r.val = true → bit s.rfxAct r.val = false → bit (t.reg Page.rfx Reg.com_INT_RAW) 0 = true ∧
      (bit (s.rule r.val 5) 8 = true → bit (t.reg Page.rfx Reg.com_INT_RAW) 1 = true)) ∧
    (∀ c : Fin 16, bit t.rfxAct r.val = true → bit (s.rule r.val 4) c.val = true → (∀ q : Fin 64, q < r → bit t.rfxAct q.val = true → bit (s.rule q.val 4) c.val = false) →
      2 ≤ s.dioMode c.val → s.gateOpen = true → s.safeHolds c.val = false → (s.dio c.val).held = false →
      t.dioLevel c.val = (match fieldNat (s.rule r.val 5) 0 2 with | 1 => .high | 0 => levelOf (s.dioMode c.val) false | _ => .off) ∧
      (t.dioLive c.val).testBit 7 = true)) ∧
  (∀ (s : State) (m : BitVec 64), (∀ c : Fin 16, ChMay s (48 + c.val)) → Gives (.rfxClr m) s fun t => RfxFrame s t ∧
    (∀ r : Fin 64, bit t.rfxAct r.val = (bit s.rfxAct r.val && (!bit m r.val || s.ruleFires s.rfxIn r.val))) ∧
    ∀ r : Fin 64, bit m r.val = true → bit s.rfxAct r.val = true → bit (s.rule r.val 5) 8 = true → s.ruleFires s.rfxIn r.val = true →
      bit (t.reg Page.rfx Reg.com_INT_RAW) 1 = true)

/-- R478, R481, R485: RFX_ARM is written at P0 and P1 only and sets input bits 63 to 56; RFX_EN is refused, with the first faulty rule in RFX_BAD, when an enabled rule breaks R481; clearing it ends every action; a locked page refuses it. -/
def ReflexControls : Prop :=
  (∀ (s : State) (v : BitVec 8) (p : Priv), p ≠ .p2 → Gives (.rfxArm v p) s fun t => t = { s with regs := t.regs } ∧
    t.reg Page.rfx Reg.rfx_RFX_ARM = v.zeroExtend 32 ∧ t.rfxIn.extractLsb' 56 8 = v ∧ t.rfxIn.extractLsb' 0 56 = s.rfxIn.extractLsb' 0 56) ∧
  (∀ (s : State) (v : BitVec 8), exec (.rfxArm v .p2) s = .next (s.err Page.rfx)) ∧
  (∀ s : State, s.locked Page.rfx = false →
    ((∀ r : Fin 64, s.ruleOk r.val = true) → Gives (.rfxEn true) s fun t => t = { s with regs := t.regs } ∧ t.rfxEn = true ∧ t.reg Page.rfx Reg.rfx_RFX_BAD = 0) ∧
    (∀ r : Fin 64, s.ruleOk r.val = false → (∀ q : Fin 64, q < r → s.ruleOk q.val = true) → Gives (.rfxEn true) s fun t => t = { s with regs := t.regs } ∧
      t.rfxEn = s.rfxEn ∧ t.reg Page.rfx Reg.rfx_RFX_BAD = BitVec.ofNat 32 (256 + r.val) ∧
      t.reg Page.rfx Reg.com_ERRCNT = satInc (s.reg Page.rfx Reg.com_ERRCNT)) ∧
    ((∀ c : Fin 16, ChMay s (48 + c.val)) → Gives (.rfxEn false) s fun t => RfxFrame s t ∧ t.rfxEn = false ∧ t.rfxAct = 0)) ∧
  (∀ (s : State) (v : Bool), s.locked Page.rfx = true → exec (.rfxEn v) s = .next (if s.rfxEn = v then s else s.err Page.rfx))

/-- The reflex table: REFLEX_FIRE, RFX_CLR, RFX_ARM, RFX_EN. -/
def Obligations.ReflexTable : Prop := ReflexJudges ∧ ReflexControls

/-! ### The safety functions -/

/-- R491, R497, R498: the discrepancy time faults the input and locks out the outputs that name it; the watchdog locks out every output while the safety block is active in Run. -/
def SafetyExpiries : Prop :=
  (∀ (s : State) (k : Fin 8), s.siOn k.val = true → (s.si k.val).st = .discrepant → Gives (.discrepancyExpiry k) s fun t =>
    t = { s with sis := t.sis, sos := t.sos, safe := t.safe, regs := t.regs, jrn := t.jrn } ∧ t.si k.val = { st := .fault, cause := 1 } ∧
    (∀ i : Fin 8, i ≠ k → t.si i.val = s.si i.val) ∧ t.siDemand k.val = true ∧
    ∀ j : Fin 8, s.soOn j.val = true → (s.soCfg j.val 8 8).testBit k.val = true → (s.so j.val).st ≠ .lockout →
      (t.so j.val).st = .lockout ∧ (t.so j.val).lockCause = 1 ∧ bit t.safe.kept j.val = true ∧ bit (t.reg Page.safe Reg.com_INT_RAW) 1 = true ∧
      t.safeHolds (s.soCfg j.val 0 4) = true) ∧
  (∀ (s : State) (k : Fin 8), s.siOn k.val = false ∨ (s.si k.val).st ≠ .discrepant → exec (.discrepancyExpiry k) s = .next s) ∧
  (∀ s : State, s.safeEn = true → s.bell.mode = .run → Gives .safetyWatchdogExpiry s fun t =>
    t = { s with sos := t.sos, safe := t.safe, regs := t.regs, jrn := t.jrn } ∧ t.safe.swdExp = true ∧ bit (t.reg Page.safe Reg.com_INT_RAW) 3 = true ∧
    ∀ j : Fin 8, s.soOn j.val = true → (t.so j.val).st = .lockout ∧ ((s.so j.val).st ≠ .lockout → (t.so j.val).lockCause = 3)) ∧
  (∀ s : State, s.safeEn = false ∨ s.bell.mode ≠ .run → exec .safetyWatchdogExpiry s = .next s)

/-- The filtered edge of SRST falls at this sample (R500). -/
abbrev SrstFalls (s : State) : Prop := s.safe.high = true ∧ s.safe.run = 2

/-- R500 to R502: SRST is filtered over three samples of 1 ms; the falling edge of a pulse of 0.1 s to below 5 s inside the window releases every output and connection that may go, and closes the window; any other falling edge is counted and changes nothing; the acknowledge opens the window and its expiry closes it. -/
def SafetyReset : Prop :=
  (∀ (s : State) (mv : Int), mv ≤ 5000 → SrstFalls s → s.safe.winOpen = true → 100 ≤ s.safe.highMs + 1 → s.safe.highMs + 1 < 5000 →
    Gives (.srstSample mv) s fun t => t = { s with safe := t.safe, sos := t.sos, psts := t.psts, regs := t.regs, jrn := t.jrn } ∧ t.safe.winOpen = false ∧
      t.safe.high = false ∧ t.reg Page.safe Reg.safe_RST_OK = satInc (s.reg Page.safe Reg.safe_RST_OK) ∧ bit (t.reg Page.safe Reg.com_INT_RAW) 2 = true ∧
      (∀ j : Fin 8, s.soOn j.val = true → s.soEntry j.val = true →
        (((s.so j.val).st = .tripped ∧ s.soCfg j.val 16 1 = 1) ∨ ((s.so j.val).st = .lockout ∧ s.soFaultEnded j.val = true)) → (t.so j.val).st = .ready) ∧
      (∀ j : Fin 8, s.soOn j.val = true → (s.so j.val).st = .lockout → (s.soEntry j.val = false ∨ s.soFaultEnded j.val = false) → t.so j.val = s.so j.val) ∧
      ∀ i : Fin 64, (s.pst i.val).st = .tripped → (s.pst i.val).since = true → (t.pst i.val).st = .running) ∧
  (∀ (s : State) (mv : Int), mv ≤ 5000 → SrstFalls s → (s.safe.winOpen = false ∨ s.safe.highMs + 1 < 100 ∨ 5000 ≤ s.safe.highMs + 1) →
    Gives (.srstSample mv) s fun t => t = { s with safe := t.safe, regs := t.regs } ∧ t.safe.winOpen = s.safe.winOpen ∧ t.safe.high = false ∧
      t.reg Page.safe Reg.safe_RST_IGNORED = satInc (s.reg Page.safe Reg.safe_RST_IGNORED)) ∧
  (∀ (s : State) (mv : Int),
    let raw := if 15000 ≤ mv then true else if mv ≤ 5000 then false else s.safe.raw
    ¬ (SrstFalls s ∧ raw = false) → Gives (.srstSample mv) s fun t => t = { s with safe := t.safe } ∧
      t.safe.raw = raw ∧ t.safe.high = (if raw ≠ s.safe.high ∧ s.safe.run = 2 then raw else s.safe.high) ∧
      t.safe.run = (if raw = s.safe.high ∨ s.safe.run = 2 then 0 else s.safe.run + 1) ∧ t.safe.stuck = (s.safe.stuck && t.safe.high) ∧
      t.safe.winOpen = s.safe.winOpen) ∧
  (∀ s : State, s.safe.high = true → Gives .srstStuck s fun t => t = { s with safe := { s.safe with stuck := true }, regs := t.regs } ∧
    bit (t.reg Page.safe Reg.com_INT_RAW) 4 = true) ∧
  (∀ s : State, s.safe.high = false → exec .srstStuck s = .next s) ∧
  (∀ (s : State) (p : Priv), p ≠ .p2 → exec (.rstAck p) s = .next { s with safe := { s.safe with winOpen := true } }) ∧
  (∀ s : State, exec (.rstAck .p2) s = .next (s.err Page.safe)) ∧
  (∀ s : State, exec .rstWinExpiry s = .next { s with safe := { s.safe with winOpen := false } })

/-- R489, R494, R497: SAFE_EN = 1 is refused when a rule about the configuration is broken; accepted, it shows SAFE_CRC, and an enabled output starts TRIPPED, or in LOCKOUT where the keepsake recorded one; SAFE_EN = 0 disables every output. -/
def SafetyEnable : Prop :=
  (∀ s : State, s.locked Page.safe = false →
    ((∀ k : Fin 8, s.siCfgOk k.val = true) → (∀ j : Fin 8, s.soCfgOk j.val = true) → Gives (.safeEn true) s fun t =>
      t = { s with sis := t.sis, sos := t.sos, safe := t.safe, regs := t.regs, jrn := t.jrn } ∧ t.safeEn = true ∧
      t.reg Page.safe Reg.safe_SAFE_CRC = Config.safeCrc s.safeRegs ∧
      ∀ j : Fin 8, s.soCfg j.val 31 1 = 1 → s.soCfg j.val 16 1 = 1 → (s.so j.val).st = .disabled →
        (t.so j.val).st = (if bit s.safe.kept j.val then .lockout else .tripped)) ∧
    ((∃ k : Fin 8, s.siCfgOk k.val = false) ∨ (∃ j : Fin 8, s.soCfgOk j.val = false) → exec (.safeEn true) s = .next (s.err Page.safe)) ∧
    (Gives (.safeEn false) s fun t => t = { s with sos := t.sos, regs := t.regs, safe := t.safe, jrn := t.jrn } ∧ t.safeEn = false ∧
      ∀ j : Fin 8, (t.so j.val).st = .disabled)) ∧
  (∀ (s : State) (v : Bool), s.locked Page.safe = true → exec (.safeEn v) s = .next (if s.safeEn = v then s else s.err Page.safe))

/-- R495: the entry conditions of READY, and what every output that is not READY does to its channel. -/
def SafetyOutputs : Prop :=
  (∀ (s : State) (j : Fin 8), s.soEntry j.val = true ↔
    (∀ k : Fin 8, (s.soCfg j.val 8 8).testBit k.val = true → (s.si k.val).st = .closed) ∧ (∀ i ∈ s.soPst j.val, (s.pst i).permits = true) ∧
    s.bell.mode = .run ∧ s.safe.swdExp = false) ∧
  (∀ (s : State) (j : Fin 8), s.soCfg j.val 31 1 = 1 → (s.so j.val).st ≠ .ready → s.dioLevel (s.soCfg j.val 0 4) = .off)

/-- The safety functions: DISCREPANCY_EXPIRY, SAFETY_WATCHDOG_EXPIRY, SRST_SAMPLE, SRST_STUCK, RST_ACK, RST_WIN_EXPIRY, SAFE_EN. -/
def Obligations.SafetyFunctions : Prop := SafetyExpiries ∧ SafetyReset ∧ SafetyEnable ∧ SafetyOutputs

/-! ### Pernos Safe Transport -/

/-- The fields of a PST unit (R504): CONN_ID, EPOCH, CYC, LEN, SCRC. -/
def unitConn (b : List Byte) : Nat := natBE (sliceB b 2 2)
def unitEpoch (b : List Byte) : Nat := natBE (sliceB b 4 4)
def unitCyc (b : List Byte) : Nat := natBE (sliceB b 8 6)
def unitLen (b : List Byte) : Nat := natBE (sliceB b 14 1)

/-- Connection i, of configuration c, is the one that a unit of 52 bytes with VER 1, KIND 1 and the configured LEN names, on a module that has not failed and has its fabric address (R214, R423). -/
abbrev PstNames (s : State) (i : BitVec 6) (c : PstCfg) (b : List Byte) : Prop :=
  s.alive = true ∧ s.fab.lost = false ∧ s.pstConn i.toNat = some c ∧ c.connId.toNat = unitConn b ∧ b.length = 52 ∧ natBE (sliceB b 0 2) = 0x0101 ∧ 1 ≤ unitLen b ∧ unitLen b ≤ 32 ∧
  unitLen b = c.len ∧ ∀ k, k < i.toNat → ∀ d, s.pstConn k = some d → d.connId ≠ c.connId

/-- A copy from network B that passes R507. -/
abbrev PstPasses (s : State) (i : BitVec 6) (c : PstCfg) (src : Nat) (b : List Byte) : Prop :=
  PstNames s i c b ∧ src ∈ c.srcB ∧ (scrc c.key (b.take 48)).toNat = natBE (sliceB b 48 4) ∧ (s.pst i.toNat).stale (unitEpoch b) (unitCyc b) = false

/-- The input image takes the words of connection i: the target lets the input engines write them, and they carry no error (R160, R196). -/
abbrev PstMay (s : State) (i : BitVec 6) : Prop :=
  (s.pstConn i.toNat).all (fun c => (List.range ((c.len + 3) / 4)).all (fun k => s.inMay (c.handle + k))) = true

/-- R214, R423, R507: the checks of a copy in their order, each with its counter; a failed module, or one that has lost its fabric address, takes no copy. -/
def PstChecks : Prop :=
  (∀ (s : State) (src : Nat) (b : List Byte), exec (.pst (.ethernet src false) b) s = .next s) ∧
  (∀ (s : State) (src : Nat) (b : List Byte) (ok : Bool), s.alive = false ∨ s.fab.lost = true → exec (.pst (.ethernet src ok) b) s = .next s) ∧
  (∀ (s : State) (src : Nat) (b : List Byte), s.alive = true → s.fab.lost = false → b.length ≠ 52 ∨ natBE (sliceB b 0 2) ≠ 0x0101 ∨ unitLen b = 0 ∨ 32 < unitLen b →
    exec (.pst (.ethernet src true) b) s = .next (s.discard Page.pst Reg.pst_LEN_DISCARD)) ∧
  (∀ (s : State) (src : Nat) (b : List Byte) (i : BitVec 6) (c : PstCfg), PstNames s i c b →
    (src ∉ c.srcB → exec (.pst (.ethernet src true) b) s = .next (s.count Page.pst Reg.pst_SRC_ERR)) ∧
    (src ∈ c.srcB → (scrc c.key (b.take 48)).toNat ≠ natBE (sliceB b 48 4) →
      exec (.pst (.ethernet src true) b) s = .next (s.count Page.pst Reg.pst_SCRC_ERR)) ∧
    (src ∈ c.srcB → (scrc c.key (b.take 48)).toNat = natBE (sliceB b 48 4) → (s.pst i.toNat).stale (unitEpoch b) (unitCyc b) = true →
      exec (.pst (.ethernet src true) b) s = .next (s.count Page.pst Reg.pst_STALE_CNT))) ∧
  (∀ (x : PstRt) (e c e' c' : Nat), x.last = some (e, c) → (x.stale e' c' = true ↔ e' < e ∨ (e' = e ∧ c' ≤ c)))

/-- Effect of a trip with its cause on connection i (R509). -/
def Trips (s t : State) (i : BitVec 6) (cause : Nat) : Prop :=
  (t.pst i.toNat).st = .tripped ∧ (t.pst i.toNat).cause = cause ∧ (t.pst i.toNat).permits = false ∧
  t.reg Page.pst Reg.pst_TRIP_CNT = satInc (s.reg Page.pst Reg.pst_TRIP_CNT) ∧ bit (t.reg Page.pst Reg.com_INT_RAW) 0 = true ∧
  (s.pair.role ≠ .standbySync → s.pair.role ≠ .standbyUnsync → bit (t.reg Page.bell Reg.bell_ERR_PEND) 5 = true) ∧
  (s.pair.role = .standbySync → t.reg Page.bell Reg.bell_ERR_PEND = s.reg Page.bell Reg.bell_ERR_PEND) ∧
  (∀ c, s.pstConn i.toNat = some c → ∀ k, k < (c.len + 3) / 4 → (t.inEnt (c.handle + k)).newer.value = 0 ∧ (t.inEnt (c.handle + k)).newer.status = 0x815A#16) ∧
  (∀ j : Fin 8, s.soOn j.val = true → (s.so j.val).st = .ready → i.toNat ∈ s.soPst j.val → (t.so j.val).st = .tripped) ∧
  ∀ d : BitVec 6, d ≠ i → t.pst d.toNat = s.pst d.toNat

/-- R508, R510: the first copy opens the pairing window; an equal one from the other network is accepted and its data reach the handles as good; one that differs trips the connection. -/
def PstPairs : Prop :=
  ∀ (s : State) (src : Nat) (b : List Byte) (i : BitVec 6) (c : PstCfg), PstPasses s i c src b → PstMay s i →
    ((s.pst i.toNat).copies = [] → Gives (.pst (.ethernet src true) b) s fun t => t = { s with psts := t.psts } ∧
      t.pst i.toNat = { s.pst i.toNat with copies := [{ netB := true, bytes := b }] }) ∧
    (∀ y : PstCopy, (s.pst i.toNat).copies = [y] → sliceB y.bytes 4 10 = sliceB b 4 10 → y.netB = false →
      (y.bytes = b → (s.pst i.toNat).failA = false → (s.pst i.toNat).failB = false → (s.pst i.toNat).st ≠ .tripped →
        Gives (.pst (.ethernet src true) b) s fun t => (t.pst i.toNat).st = .running ∧ (t.pst i.toNat).last = some (unitEpoch b, unitCyc b) ∧
          (t.pst i.toNat).permit = (natBE (sliceB b 16 1) % 2 == 1) ∧ (t.pst i.toNat).copies = [] ∧
          (∀ k, k < (c.len + 3) / 4 → (t.inEnt (c.handle + k)).newer = { value := BitVec.ofNat 32 (natBE (sliceB (sliceB b 16 c.len) (4 * k) 4)), status := 0x0058#16, since := some (cycNext s.bell.cycle) }) ∧ ∀ d : BitVec 6, d ≠ i → t.pst d.toNat = s.pst d.toNat) ∧
      (y.bytes.take 52 ≠ b.take 52 → (s.pst i.toNat).st ≠ .tripped → (s.pst i.toNat).st ≠ .unused → Gives (.pst (.ethernet src true) b) s fun t =>
        Trips s t i 2 ∧ t.reg Page.pst Reg.pst_MISMATCH_CNT = satInc (s.reg Page.pst Reg.pst_MISMATCH_CNT) ∧ bit (t.reg Page.pst Reg.com_INT_RAW) 2 = true) ∧
      (y.bytes = b → (s.pst i.toNat).st = .tripped → Gives (.pst (.ethernet src true) b) s fun t => (t.pst i.toNat).st = .tripped ∧
        (t.pst i.toNat).since = true ∧ t.inImg = s.inImg))

/-- R508, R509: the pairing window without a second copy misses the frame in strict mode and accepts it in tolerant mode, which marks the missing network failed; the PST timeout and DEG_MAX trip the connection. -/
def PstExpiries : Prop :=
  (∀ (s : State) (i : BitVec 6) (c : PstCfg) (y : PstCopy) (l : List PstCopy), (s.pst i.toNat).copies = y :: l → s.pstConn i.toNat = some c → s.alive = true → PstMay s i →
    (c.tolerant = false → Gives (.pairWinExpiry i) s fun t => t = { s with psts := t.psts, regs := t.regs } ∧
      t.pst i.toNat = { s.pst i.toNat with copies := l } ∧ t.reg Page.pst Reg.pst_PAIR_MISS = satInc (s.reg Page.pst Reg.pst_PAIR_MISS)) ∧
    (c.tolerant = true → (s.pst i.toNat).st ≠ .tripped → Gives (.pairWinExpiry i) s fun t => (t.pst i.toNat).st = .degraded ∧
      (t.pst i.toNat).failA = ((s.pst i.toNat).failA || y.netB) ∧ (t.pst i.toNat).failB = ((s.pst i.toNat).failB || !y.netB) ∧
      (t.pst i.toNat).last = some (unitEpoch y.bytes, unitCyc y.bytes) ∧
      ((s.pst i.toNat).st ≠ .degraded → bit (t.reg Page.pst Reg.com_INT_RAW) 1 = true) ∧
      ∀ k, k < (c.len + 3) / 4 → (t.inEnt (c.handle + k)).newer.status = 0x0059#16)) ∧
  (∀ (s : State) (i : BitVec 6), (s.pst i.toNat).copies = [] → exec (.pairWinExpiry i) s = .next s) ∧
  (∀ (s : State) (i : BitVec 6), s.alive = true → PstMay s i → (s.pst i.toNat).st = .running ∨ (s.pst i.toNat).st = .degraded → Gives (.pstTimeout i) s fun t => Trips s t i 1) ∧
  (∀ (s : State) (i : BitVec 6), s.alive = true → PstMay s i → (s.pst i.toNat).st = .degraded → Gives (.degMaxExpiry i) s fun t => Trips s t i 3) ∧
  (∀ (s : State) (i : BitVec 6), (s.pst i.toNat).st ≠ .degraded → exec (.degMaxExpiry i) s = .next s ∧
    ((s.pst i.toNat).st ≠ .running → exec (.pstTimeout i) s = .next s))

/-- Pernos Safe Transport: PST, PAIR_WIN_EXPIRY, PST_TIMEOUT, DEG_MAX_EXPIRY. -/
def Obligations.SafeTransport : Prop := PstChecks ∧ PstPairs ∧ PstExpiries

/-! ### The event journal -/

/-- Slot i of the journal holds record r with sequence number q, the numbers go on behind it, and JRN_HEAD is past it (R516, R520, R522). -/
def Wrote (t : State) (i : Nat) (r : JRec) (q : Word) : Prop :=
  t.bytes (jrnAddr i) 32 = recBytes r q ∧ t.jrn.seq = q + 1#32 ∧ t.reg Page.jrn Reg.jrn_JRN_SEQ = q ∧ t.jrnHead = i + 1

/-- Whatever lies outside slot i is as before, with the errors of its words. -/
def KeepsOut (s t : State) (i : Nat) : Prop :=
  ∀ a, a < jrnAddr i ∨ jrnAddr (i + 1) ≤ a → t.byte a = s.byte a ∧ t.upset a = s.upset a

/-- MRAM's check lets the journal engine write slot i (R188, R196). -/
abbrev SlotMay (s : State) (i : Nat) : Prop := (s.fixedMay 0x038 .write (jrnAddr i) 32).2 = true

/-- R522, R523, R525, R526, R529: a record of the block in progress, or else of the queue whose turn it is, is written into slot JRN_HEAD; behind the records of a queue stand its LOSS records; after slot 131,070 FULL goes into the last slot, and nothing more is written; a record that MRAM's check refuses is lost and counted (the model's reading: notes/assumptions/56.md). -/
def JournalWrites : Prop :=
  (∀ s : State, s.jrn.paused = true ∨ s.jrn.full = true → exec .journalWrite s = .next s) ∧
  (∀ s : State, s.jrn.cur = [] → s.jrn.blocks = [] → s.jrn.blockShed = 0 → s.jrn.queues = [] → exec .journalWrite s = .next s) ∧
  (∀ (s : State) (r : JRec), s.jrn.paused = false → s.jrn.full = false → s.jrn.waiting = none → s.jrnHead + 2 < jrnSlots → SlotMay s s.jrnHead →
    (∀ rs, s.jrn.cur = r :: rs → Gives .journalWrite s fun t => t = { s with mem := t.mem, upsets := t.upsets, jrn := t.jrn, regs := t.regs } ∧
      Wrote t s.jrnHead r s.jrn.seq ∧ KeepsOut s t s.jrnHead ∧ t.jrn.cur = rs ∧ t.jrn.queues = s.jrn.queues ∧ t.jrn.full = false) ∧
    (∀ q rs, s.jrn.cur = [] → s.jrn.blocks = [] → s.jrn.blockShed = 0 → nextQueue s.jrn.queues s.jrn.turn = some q →
      tget (fun _ => []) s.jrn.queues q = r :: rs → Gives .journalWrite s fun t => t = { s with mem := t.mem, upsets := t.upsets, jrn := t.jrn, regs := t.regs } ∧
      Wrote t s.jrnHead r s.jrn.seq ∧ KeepsOut s t s.jrnHead ∧ t.jrn.turn = q ∧ tget (fun _ => []) t.jrn.queues q = rs ++ s.lossRecs q ∧
      (∀ e ∈ t.jrn.lost, e.1 ≠ q) ∧ ∀ k, k ≠ q → tget (fun _ => []) t.jrn.queues k = tget (fun _ => []) s.jrn.queues k)) ∧
  (∀ (s : State) (r : JRec) (rs : List JRec), s.jrn.paused = false → s.jrn.full = false → s.jrn.waiting = none → s.jrnHead + 2 = jrnSlots →
    SlotMay s s.jrnHead → SlotMay s (s.jrnHead + 1) → s.jrn.cur = r :: rs → Gives .journalWrite s fun t => t.bytes (jrnAddr s.jrnHead) 32 = recBytes r s.jrn.seq ∧
      Wrote t (s.jrnHead + 1) (s.ownRec 2 (s.reg Page.jrn Reg.jrn_JRN_LOST) (s.reg Page.jrn Reg.jrn_JRN_SUPP) 0) (s.jrn.seq + 1#32) ∧
      t.jrn.full = true ∧ bit (t.reg Page.jrn Reg.com_INT_RAW) 0 = true) ∧
  (∀ (s : State) (r : JRec) (rs : List JRec), s.jrn.paused = false → s.jrn.full = false → s.jrn.waiting = none → s.jrnHead + 2 < jrnSlots →
    ¬ SlotMay s s.jrnHead → s.jrn.queues = [] → s.jrn.cur = r :: rs → Gives .journalWrite s fun t => t.mem = s.mem ∧ t.upsets = s.upsets ∧ t.jrn.cur = rs ∧ t.jrn.seq = s.jrn.seq ∧
      t.reg Page.jrn Reg.jrn_JRN_LOST = satInc (s.reg Page.jrn Reg.jrn_JRN_LOST))

/-- R523, R525 to R527: a record offered is staged while its queue has room, lost and counted by source where it has none, suppressed beyond RATE_MAX, discarded while FULL; at a second boundary a LOSS record of kind 1 follows for each suppressed source. -/
def JournalOffers : Prop :=
  (∀ (s : State) (r : JRec), s.jrn.closed = false →
    (s.jrn.full = true → exec (.stagingOverflow r) s = .next (s.count Page.jrn Reg.jrn_JRN_DROP_FULL)) ∧
    (s.jrn.full = false → rateLimited r = false → (tget (fun _ => []) s.jrn.queues (queueOf r.source)).length < 8 → Gives (.stagingOverflow r) s fun t =>
      t = { s with jrn := t.jrn } ∧ tget (fun _ => []) t.jrn.queues (queueOf r.source) = tget (fun _ => []) s.jrn.queues (queueOf r.source) ++ [r] ∧
      t.jrn.lost = s.jrn.lost ∧ ∀ k, k ≠ queueOf r.source → tget (fun _ => []) t.jrn.queues k = tget (fun _ => []) s.jrn.queues k) ∧
    (s.jrn.full = false → rateLimited r = false → 8 ≤ (tget (fun _ => []) s.jrn.queues (queueOf r.source)).length → Gives (.stagingOverflow r) s fun t =>
      t = { s with jrn := t.jrn, regs := t.regs } ∧ t.jrn.queues = s.jrn.queues ∧
      t.reg Page.jrn Reg.jrn_JRN_LOST = satInc (s.reg Page.jrn Reg.jrn_JRN_LOST) ∧
      t.jrn.lost = addLoss s.jrn.lost (queueOf r.source) r.source.toNat 1) ∧
    (s.jrn.full = false → rateLimited r = true → s.jrn.rateSec = s.tb.time.sec →
      s.fld Page.jrn Reg.jrn_JRN_CFG 0 8 ≤ tget (fun _ => 0) s.jrn.rate r.source.toNat → Gives (.stagingOverflow r) s fun t =>
      t = { s with jrn := t.jrn, regs := t.regs } ∧ t.jrn.queues = s.jrn.queues ∧
      t.reg Page.jrn Reg.jrn_JRN_SUPP = satInc (s.reg Page.jrn Reg.jrn_JRN_SUPP) ∧
      tget (fun _ => 0) t.jrn.supp r.source.toNat = tget (fun _ => 0) s.jrn.supp r.source.toNat + 1)) ∧
  (∀ (s : State) (src n : Nat), s.jrn.supp = [(src, n)] → s.jrn.closed = false → s.jrn.full = false → (tget (fun _ => []) s.jrn.queues 16).length < 8 →
    Gives .rateLimitSecond s fun t => t = { s with jrn := t.jrn } ∧ t.jrn.supp = [] ∧ tget (fun _ => []) t.jrn.queues 16 =
      tget (fun _ => []) s.jrn.queues 16 ++ [s.ownRec 3 (BitVec.ofNat 32 src) (BitVec.ofNat 32 n) 1]) ∧
  (∀ s : State, s.jrn.supp = [] → Gives .rateLimitSecond s fun t => t = { s with jrn := t.jrn } ∧ t.jrn.queues = s.jrn.queues)

/-- R528, R540: CLEAR, ARCHIVE and ARCHIVE_CLEAR start behind the block being written, and are refused at P2 or while another runs; the end of a clear leaves CLEARED alone, or CLEARED and ARCHIVED; the end of an archive writes ARCHIVED behind the records. The target lets the journal engine read the slots of a file and zero those of a clear. -/
def JournalCommands : Prop :=
  let jrnOp : JCmd → Priv → Instr := fun c p => match c with | .clear => .clear p | .archive => .archive p | .archiveClear => .archiveClear p
  (∀ (s : State) (c : JCmd), exec (jrnOp c .p2) s = .next (s.err Page.jrn)) ∧
  (∀ (s : State) (c : JCmd) (p : Priv), s.jrn.waiting ≠ none ∨ s.jrn.running ≠ none → exec (jrnOp c p) s = .next (s.err Page.jrn)) ∧
  (∀ (s : State) (c : JCmd) (p : Priv), p ≠ .p2 → s.jrn.waiting = none → s.jrn.running = none → s.jrn.closed = false → s.jrn.archives = [] → s.jrnHead ≤ jrnSlots →
    32 * s.jrnHead ≤ s.nand.archiveRoom → (∀ a, jrnAddr 0 ≤ a → a < jrnAddr s.jrnHead → Sound s a) →
    (c = .clear ∨ ∀ i, i < s.jrnHead → (s.fixedMay 0x038 .read (jrnAddr i) 32).2 = true) →
    (s.jrn.cur ≠ [] → Gives (jrnOp c p) s fun t => t = { s with jrn := { s.jrn with waiting := some c } }) ∧
    (s.jrn.cur = [] → Gives (jrnOp c p) s fun t => t = { s with jrn := t.jrn } ∧ t.jrn.waiting = none ∧ t.jrn.running = some c ∧
      t.jrn.clearing = (if c = .clear then true else s.jrn.clearing) ∧ (c ≠ .clear → t.jrn.archiving = true ∧
        t.jrn.file = s.bytes (jrnAddr 0) (32 * s.jrnHead) ∧ t.jrn.fileLast = s.reg Page.jrn Reg.jrn_JRN_SEQ))) ∧
  (∀ s : State, s.jrn.clearing = true → (∀ i, i < jrnSlots → SlotMay s i) → s.jrn.cur = [] →
    let r := s.ownRec 4 (s.reg Page.jrn Reg.jrn_JRN_SEQ) (s.reg Page.jrn Reg.jrn_JRN_HEAD) 0
    (s.jrn.running = some .clear → Gives .clearComplete s fun t => t = { s with mem := t.mem, upsets := t.upsets, jrn := t.jrn, regs := t.regs } ∧
      Wrote t 0 r s.jrn.seq ∧ (∀ a, jrnAddr 1 ≤ a → a < jrnAddr jrnSlots → t.byte a = 0) ∧
      (∀ a, a < jrnAddr 0 ∨ jrnAddr jrnSlots ≤ a → t.byte a = s.byte a) ∧ t.jrn.full = false ∧ t.jrn.clearing = false ∧ t.jrn.running = none ∧
      t.reg Page.jrn Reg.jrn_CLEAR_CNT = satInc (s.reg Page.jrn Reg.jrn_CLEAR_CNT) ∧ bit (t.reg Page.jrn Reg.com_INT_RAW) 2 = true) ∧
    (s.jrn.running = some .archiveClear → Gives .clearComplete s fun t => t.bytes (jrnAddr 0) 32 = recBytes r s.jrn.seq ∧
      Wrote t 1 (s.ownRec 7 s.jrn.fileFirst s.jrn.fileLast (BitVec.ofNat 32 s.jrn.nextFile)) (s.jrn.seq + 1#32) ∧
      t.jrn.archives = s.jrn.archives ++ [{ number := s.jrn.nextFile, firstSeq := s.jrn.fileFirst, lastSeq := s.jrn.fileLast, content := s.jrn.file }] ∧
      t.jrn.running = none ∧ bit (t.reg Page.jrn Reg.com_INT_RAW) 3 = true)) ∧
  (∀ s : State, s.jrn.clearing = false → exec .clearComplete s = .next s) ∧
  (∀ s : State, s.jrn.running = some .archive → s.jrn.cur ≠ [] → Gives .archiveComplete s fun t => t = { s with jrn := t.jrn } ∧ t.jrn.running = none ∧
    t.jrn.cur = s.jrn.cur ++ [s.ownRec 7 s.jrn.fileFirst s.jrn.fileLast (BitVec.ofNat 32 s.jrn.nextFile)] ∧
    t.jrn.archives = s.jrn.archives ++ [{ number := s.jrn.nextFile, firstSeq := s.jrn.fileFirst, lastSeq := s.jrn.fileLast, content := s.jrn.file }]) ∧
  (∀ s : State, s.jrn.running = some .archive → s.jrn.cur = [] → s.jrn.full = false → s.jrnHead + 2 < jrnSlots → SlotMay s s.jrnHead → Gives .archiveComplete s fun t =>
    Wrote t s.jrnHead (s.ownRec 7 s.jrn.fileFirst s.jrn.fileLast (BitVec.ofNat 32 s.jrn.nextFile)) s.jrn.seq ∧ KeepsOut s t s.jrnHead ∧
    t.jrn.archives = s.jrn.archives ++ [{ number := s.jrn.nextFile, firstSeq := s.jrn.fileFirst, lastSeq := s.jrn.fileLast, content := s.jrn.file }] ∧
    t.jrn.running = none ∧ t.jrn.archiving = false) ∧
  (∀ s : State, s.jrn.running = some .archiveClear → s.jrn.clearing = false →
    Gives .archiveComplete s fun t => t = { s with jrn := { s.jrn with clearing := true } }) ∧
  (∀ s : State, s.jrn.running ≠ some .archive → s.jrn.running ≠ some .archiveClear → exec .archiveComplete s = .next s)

/-- R530: a close drops and abandons commands, takes no record from then on, and with nothing staged, and no stored word in error, writes CLOSED into the first empty slot. -/
def JournalCloses : Prop :=
  (∀ s : State, s.jrn.closed = true → exec .journalClose s = .next s) ∧
  (∀ s : State, s.jrn.closed = false → Gives .journalClose s fun t => t.jrn.closed = true ∧ t.jrn.waiting = none ∧ t.jrn.running = none ∧
    t.jrn.clearing = false ∧ t.jrn.archiving = false ∧ t.jrn.archives = s.jrn.archives ∧
    ∀ r, exec (.stagingOverflow r) t = .next { t with jrn := { t.jrn with afterClose := t.jrn.afterClose + 1 } }) ∧
  (∀ s : State, s.jrn.closed = false → s.jrn.clearing = false → s.jrn.full = false → s.jrn.cur = [] → s.jrn.blocks = [] → s.jrn.blockShed = 0 →
    s.jrn.queues = [] → s.upsets = [] → (s.jrnSearch 18 0 jrnSlots).2 + 2 < jrnSlots → SlotMay s (s.jrnSearch 18 0 jrnSlots).2 → Gives .journalClose s fun t =>
      Wrote t (s.jrnSearch 18 0 jrnSlots).2 (s.ownRec 5 (s.reg Page.jrn Reg.jrn_JRN_LOST) (BitVec.ofNat 32 s.jrn.afterClose)
        (BitVec.ofNat 32 ((if s.jrn.waiting.isSome then 1 else 0) + (if s.jrn.running.isSome then 2 else 0)))) s.jrn.seq)

/-- The event journal: JOURNAL_WRITE, STAGING_OVERFLOW, RATE_LIMIT_SECOND, CLEAR, ARCHIVE, ARCHIVE_CLEAR, CLEAR_COMPLETE, ARCHIVE_COMPLETE, JOURNAL_CLOSE. -/
def Obligations.EventJournal : Prop := JournalWrites ∧ JournalOffers ∧ JournalCommands ∧ JournalCloses

/-! ### The signal recorder -/

/-- What the recorder may change. -/
def RecFrame (s t : State) : Prop := t = { s with mem := t.mem, upsets := t.upsets, recd := t.recd, regs := t.regs }

/-- DRAM's check lets the recorder write the line of record r of its segment, in which no stored word holds an error (R162, R188, R196). -/
abbrev RecMay (s : State) (r : Nat) : Prop :=
  (s.fixedMay 0x039 .write (s.recAddr s.recd.cur r / 64 * 64) 64).2 = true ∧
  tkeys s.upsets (s.recAddr s.recd.cur r / 64 * 64) (s.recAddr s.recd.cur r / 64 * 64 + 64) = []

/-- Signal k with value v is selected, changed, and REC_EN is set, on a module that has not failed, outside a save sequence (R214, R532, R573). -/
abbrev Recordable (s : State) (k : Nat) (v : Word) : Prop :=
  s.alive = true ∧ tmem s.recd.sel k = true ∧ tget (fun _ => none) s.recd.last k ≠ some v ∧ s.recCfg 0 = true ∧ s.saving = false

/-- R531 to R534, R537, R538: a changed value of a selected signal goes into the ring of the pre-trigger part or behind the trigger; the PRE_RECS-th record ends FILLING; a full intake buffer closes the segment with OVF; refresh records beyond the capacity are shed. -/
def RecorderIntake : Prop :=
  (∀ (s : State) (sig : BitVec 31) (v : Word) (b : Bool), (tmem s.recd.sel sig.toNat = false ∨ tget (fun _ => none) s.recd.last sig.toNat = some v ∨ s.recCfg 0 = false) →
    exec (.recorderIntake sig v b) s = .next s) ∧
  (∀ (s : State) (sig : BitVec 31) (v : Word), Recordable s sig.toNat v →
    let g := s.seg s.recd.cur
    (s.recd.st = .filling ∨ s.recd.st = .armed ∨ s.recd.st = .waitHoldoff → 0 < s.preRecs → RecMay s g.prePos → Gives (.recorderIntake sig v false) s fun t => RecFrame s t ∧
      t.bytes (s.recAddr s.recd.cur g.prePos) 16 = recorderBytes (BitVec.ofNat 32 sig.toNat) v (s.tb.pack s.tb.time) ∧
      (∀ a, a < s.recAddr s.recd.cur g.prePos ∨ s.recAddr s.recd.cur g.prePos + 16 ≤ a → t.byte a = s.byte a) ∧
      t.seg s.recd.cur = { g with prePos := (g.prePos + 1) % s.preRecs, pre := min (g.pre + 1) s.preRecs, used := min (g.pre + 1) s.preRecs } ∧
      tget (fun _ => none) t.recd.last sig.toNat = some v ∧
      t.recd.st = (if s.recd.st = .filling ∧ s.preRecs ≤ g.pre + 1 then (if s.recd.holdOn then .waitHoldoff else .armed) else s.recd.st)) ∧
    (s.recd.st = .capturing → g.post + 1 + s.preRecs < s.segRecs → RecMay s (s.preRecs + g.post) → Gives (.recorderIntake sig v false) s fun t => RecFrame s t ∧
      t.bytes (s.recAddr s.recd.cur (s.preRecs + g.post)) 16 = recorderBytes (BitVec.ofNat 32 sig.toNat) v (s.tb.pack s.tb.time) ∧
      t.seg s.recd.cur = { g with post := g.post + 1, used := g.used + 1 } ∧ t.recd.st = .capturing) ∧
    (s.recd.st.writing = true → RecMay s (if s.recd.st = .capturing then s.preRecs + g.post else g.prePos) → Gives (.recorderIntake sig v true) s fun t => RecFrame s t ∧ t.recd.st = .stoppedOvf ∧ t.recd.ovf = true ∧
      (t.seg s.recd.cur).st = .closed ∧ (t.seg s.recd.cur).ovf = true ∧ t.reg Page.recd Reg.rec_SHED = satInc (s.reg Page.recd Reg.rec_SHED) ∧
      bit (t.reg Page.recd Reg.com_INT_RAW) 2 = true) ∧
    (s.recd.st = .stoppedOvf → Gives (.recorderIntake sig v false) s fun t => RecFrame s t ∧ t.mem = s.mem ∧
      t.reg Page.recd Reg.rec_SHED = satInc (s.reg Page.recd Reg.rec_SHED))) ∧
  (∀ (s : State) (n : Nat), s.recCfg 0 = false ∨ s.recd.st.writing = false → exec (.refresh n) s = .next s) ∧
  (∀ (s : State) (k : Nat) (b : Bool), s.alive = true → s.recCfg 0 = true → s.recd.st.writing = true → s.recd.sel = [(k, b)] →
    (Gives (.refresh 0) s fun t => t = { s with regs := t.regs } ∧ t.reg Page.recd Reg.rec_SHED = satInc (s.reg Page.recd Reg.rec_SHED)) ∧
    (∀ n v, s.saving = false → 0 < s.preRecs → s.recd.st ≠ .capturing → RecMay s (s.seg s.recd.cur).prePos → tget (fun _ => none) s.recd.last k = some v → Gives (.refresh (n + 1)) s fun t =>
      RecFrame s t ∧ t.bytes (s.recAddr s.recd.cur (s.seg s.recd.cur).prePos) 16 = recorderBytes (BitVec.ofNat 32 (k + 2 ^ 31)) v s.tb.calendar))

/-- A trigger of code c is taken (R536, R537). -/
def Captures (s t : State) (c : Nat) : Prop :=
  RecFrame s t ∧ t.recd.st = .capturing ∧ (t.seg s.recd.cur).code = c ∧ (t.seg s.recd.cur).tb = s.tb.st ∧
  t.recd.holdOn = decide (s.reg Page.recd Reg.rec_HOLDOFF ≠ 0) ∧ t.recd.holdLeft = (s.reg Page.recd Reg.rec_HOLDOFF).toNat ∧
  t.reg Page.recd Reg.rec_LAST_TRIG_SRC = BitVec.ofNat 32 c ∧ t.reg Page.recd Reg.rec_LAST_TRIG_NS = BitVec.ofNat 32 s.tb.time.ns ∧
  bit (t.reg Page.recd Reg.com_INT_RAW) 0 = true ∧
  t.recd.trgOut = (if s.pair.gate then BitVec.ofNat 4 (s.fld Page.recd Reg.rec_TRIG_OTHER 4 4) else s.recd.trgOut)

/-- What an enabled trigger of code c does in each state of the recorder. -/
abbrev Triggers (op : Instr) (s : State) (c : Nat) : Prop :=
  (s.recd.st = .armed → 0 < s.preRecs → RecMay s (s.seg s.recd.cur).prePos → Gives op s fun t => Captures s t c ∧ t.reg Page.recd Reg.rec_TRIG_IGN = s.reg Page.recd Reg.rec_TRIG_IGN) ∧
  (s.recd.st = .filling ∨ s.recd.st = .waitHoldoff ∨ s.recd.st = .capturing → Gives op s fun t =>
    t = { s with recd := t.recd, regs := t.regs } ∧ t.reg Page.recd Reg.rec_TRIG_IGN = satInc (s.reg Page.recd Reg.rec_TRIG_IGN) ∧
    t.recd.st = (if s.recd.st = .waitHoldoff ∧ s.recd.holdOn = true ∧ s.recCfg 2 = true ∧ s.recd.holdLeft ≤ 1 then .armed else s.recd.st)) ∧
  (s.recd.st = .idle ∨ s.recd.st = .stoppedOvf ∨ s.recd.st = .stoppedFull → exec op s = .next s)

/-- R214, R536 to R538: a failed module takes no signal, trigger or expiry; an enabled trigger is taken in ARMED, the lowest of a TCLK; in the other writing states it is ignored and counted, and may end a hold-off by count; elsewhere it does nothing. -/
def RecorderTriggers : Prop :=
  (∀ s : State, s.alive = false → (∀ g v b, exec (.recorderIntake g v b) s = .next s) ∧ (∀ n, exec (.refresh n) s = .next s) ∧
    (∀ l, exec (.trigger l) s = .next s) ∧ (∀ n, exec (.trgInput n) s = .next s) ∧ exec .holdoffExpiry s = .next s ∧ exec .postTmaxExpiry s = .next s) ∧
  (∀ (s : State) (c : BitVec 7), s.alive = true → s.recCfg 0 = true → c.toNat < 0x47 → s.trigEnabled c.toNat = true → Triggers (.trigger [c]) s c.toNat ∧
    ∀ d : BitVec 7, s.recd.st = .armed → 0 < s.preRecs → RecMay s (s.seg s.recd.cur).prePos → c < d → d.toNat < 0x47 → s.trigEnabled d.toNat = true → s.recCfg 2 = false →
      Gives (.trigger [d, c]) s fun t => Captures s t c.toNat ∧ t.reg Page.recd Reg.rec_TRIG_IGN = satInc (s.reg Page.recd Reg.rec_TRIG_IGN)) ∧
  (∀ (s : State) (n : Fin 4), s.alive = true → s.recCfg 0 = true → s.trigEnabled (0x40 + n.val) = true → Triggers (.trgInput n) s (0x40 + n.val)) ∧
  (∀ (s : State) (p : Priv), p ≠ .p2 → s.recCfg 0 = true → Triggers (.recForce p) s 0x46) ∧
  (∀ s : State, s.trigEnabled 0x46 = true ∧ exec (.recForce .p2) s = .next (s.err Page.recd)) ∧
  (∀ s : State, s.alive = true → s.recd.holdOn = true → s.recCfg 2 = false → Gives .holdoffExpiry s fun t => t = { s with recd := t.recd } ∧ t.recd.holdOn = false ∧
    t.recd.st = (if s.recd.st = .waitHoldoff then .armed else s.recd.st)) ∧
  (∀ s : State, s.recd.holdOn = false ∨ s.recCfg 2 = true → exec .holdoffExpiry s = .next s) ∧
  (∀ s : State, exec .trgPulseEnd s = .next { s with recd := { s.recd with trgOut := 0 } })

/-- Recording starts in segment i (R537). -/
def StartsIn (t : State) (i : Nat) : Prop := t.recd.st = .filling ∧ t.recd.cur = i ∧ t.seg i = { st := .inUse }

/-- R537, R541: ARM takes the lowest free segment; POST_TMAX closes a capture and goes on in the next; without a segment the recorder stops as FULL; DISARM closes a capture; SEG_FREE frees a closed segment. -/
def RecorderSegments : Prop :=
  (∀ (s : State) (p : Priv), p ≠ .p2 → s.recCfg 0 = true → s.recd.st = .idle ∨ s.recd.st = .stoppedOvf → 0 < s.preRecs →
    (∀ i, i < s.capCount → (s.seg i).st = .free → (∀ k, k < i → (s.seg k).st ≠ .free) → Gives (.recArm p) s fun t =>
      t = { s with recd := t.recd } ∧ StartsIn t i) ∧
    ((∀ k, k < s.capCount → (s.seg k).st ≠ .free) → s.recCfg 1 = false → Gives (.recArm p) s fun t => t.recd.st = .stoppedFull ∧
      bit (t.reg Page.recd Reg.com_INT_RAW) 3 = true)) ∧
  (∀ s : State, exec (.recArm .p2) s = .next (s.err Page.recd) ∧ exec (.recDisarm .p2) s = .next (s.err Page.recd)) ∧
  (∀ s : State, s.alive = true → s.recd.st = .capturing → (s.seg s.recd.cur).st = .inUse → 0 < s.preRecs →
    (∀ i, i < s.capCount → (s.seg i).st = .free → (∀ k, k < i → (s.seg k).st ≠ .free) → Gives .postTmaxExpiry s fun t =>
      t = { s with recd := t.recd, regs := t.regs } ∧ StartsIn t i ∧ (t.seg s.recd.cur).st = .closed ∧ (t.seg s.recd.cur).ovf = false ∧
      t.reg Page.recd Reg.rec_CAPTURES = satInc (s.reg Page.recd Reg.rec_CAPTURES) ∧ bit (t.reg Page.recd Reg.com_INT_RAW) 1 = true) ∧
    ((∀ k, k < s.capCount → (s.seg k).st ≠ .free) → s.recCfg 1 = false → Gives .postTmaxExpiry s fun t => t.recd.st = .stoppedFull ∧
      (t.seg s.recd.cur).st = .closed)) ∧
  (∀ s : State, s.recd.st ≠ .capturing → exec .postTmaxExpiry s = .next s) ∧
  (∀ (s : State) (p : Priv), p ≠ .p2 → Gives (.recDisarm p) s fun t => t = { s with recd := t.recd, regs := t.regs } ∧ t.recd.st = .idle ∧ t.recd.holdOn = false ∧
    (s.recd.st = .capturing → (t.seg s.recd.cur).st = .closed)) ∧
  (∀ (s : State) (g : BitVec 6) (p : Priv), p ≠ .p2 → (s.seg g.toNat).st = .closed → g.toNat < s.capCount →
    (s.recd.st ≠ .stoppedFull → Gives (.segFree g p) s fun t => t = { s with recd := t.recd } ∧ t.seg g.toNat = {} ∧
      ∀ i, i ≠ g.toNat → t.seg i = s.seg i) ∧
    (s.recd.st = .stoppedFull → 0 < s.preRecs → (∀ k, k < g.toNat → (s.seg k).st ≠ .free) → Gives (.segFree g p) s fun t =>
      StartsIn t g.toNat)) ∧
  (∀ (s : State) (g : BitVec 6), exec (.segFree g .p2) s = .next (s.err Page.recd)) ∧
  (∀ (s : State) (g : BitVec 6) (p : Priv), (s.seg g.toNat).st ≠ .closed → exec (.segFree g p) s = .next (s.err Page.recd))

/-- R539, R541: the export of a closed segment keeps it from reuse until the files are written, with what they hold, or the export fails. -/
def RecorderExport : Prop :=
  (∀ (s : State) (g : BitVec 6) (p : Priv),
    (p ≠ .p2 → s.recd.expSt ≠ .busy → (s.seg g.toNat).st = .closed → Gives (.expStart g p) s fun t => t = { s with recd := t.recd } ∧ t.recd.expSt = .busy ∧
      t.recd.expSeg = g.toNat ∧ t.seg g.toNat = { s.seg g.toNat with st := .exporting }) ∧
    (p = .p2 ∨ s.recd.expSt = .busy ∨ (s.seg g.toNat).st ≠ .closed → exec (.expStart g p) s = .next (s.err Page.recd))) ∧
  (∀ s : State, s.recd.expSt = .busy → s.recd.st ≠ .stoppedFull →
    (∀ f : BitVec 16, s.recRead s.recd.expSeg (segOrder s.preRecs (s.seg s.recd.expSeg)) = (s, true) →
      Gives (.exportComplete true f) s fun t => t = { s with recd := t.recd, regs := t.regs } ∧ t.recd.expSt = .done ∧ t.recd.expFiles = f.toNat ∧
      t.recd.exports = s.recd.exports ++ [s.exportOf s.recd.expSeg] ∧ (t.seg s.recd.expSeg).st = .closed ∧ bit (t.reg Page.recd Reg.com_INT_RAW) 4 = true) ∧
    (∀ f : BitVec 16, Gives (.exportComplete false f) s fun t => t.recd.expSt = .failed ∧ t.recd.exports = s.recd.exports ∧ (t.seg s.recd.expSeg).st = .closed) ∧
    (∀ p : Priv, p ≠ .p2 → Gives (.expAbort p) s fun t => t.recd.expSt = .failed ∧ t.recd.exports = s.recd.exports ∧ (t.seg s.recd.expSeg).st = .closed)) ∧
  (∀ (s : State) (ok : Bool) (f : BitVec 16), s.recd.expSt ≠ .busy → exec (.exportComplete ok f) s = .next s) ∧
  (∀ (s : State) (p : Priv), p = .p2 ∨ s.recd.expSt ≠ .busy → exec (.expAbort p) s = .next (s.err Page.recd))

/-- The signal recorder: RECORDER_INTAKE, REFRESH, TRIGGER, TRG_INPUT, HOLDOFF_EXPIRY, POST_TMAX_EXPIRY, REC_ARM, REC_DISARM, REC_FORCE, SEG_FREE, EXP_START, EXP_ABORT, EXPORT_COMPLETE, TRG_PULSE_END. -/
def Obligations.SignalRecorder : Prop := RecorderIntake ∧ RecorderTriggers ∧ RecorderSegments ∧ RecorderExport

/-! ### Security, firmware, sessions -/

/-- R547: COMMIT burns the fuses of one class up to the SVN of its running image and never below the count it finds; it is refused below P0, while the running bank is not GOOD, while the other bank holds a GOOD older image of the class, and once a save has begun. -/
def FuseCommit : Prop :=
  (∀ (s : State) (c : BitVec 4) (cut : Option Nat) (v : Nat), 1 ≤ c.toNat → c.toNat ≤ 4 → (s.bank s.sec.runB).st = .good →
    (s.bank s.sec.runB).svn c.toNat = some v → s.saving = false →
    ((∀ w, (s.bank (!s.sec.runB)).svn c.toNat = some w → (s.bank (!s.sec.runB)).st = .good → v ≤ w) → Gives (.commit c .p0 cut) s fun t =>
      t = { s with sec := { s.sec with fuses := t.sec.fuses } } ∧
      t.sec.fuse c.toNat = max (s.sec.fuse c.toNat) (match cut with | none => v | some n => min v (s.sec.fuse c.toNat + n)) ∧
      ∀ k, k ≠ c.toNat → t.sec.fuse k = s.sec.fuse k) ∧
    (∀ w, (s.bank (!s.sec.runB)).svn c.toNat = some w → (s.bank (!s.sec.runB)).st = .good → w < v →
      exec (.commit c .p0 cut) s = .next (s.err Page.sec))) ∧
  (∀ (s : State) (c : BitVec 4) (cut : Option Nat) (p : Priv), p ≠ .p0 ∨ (s.bank s.sec.runB).st ≠ .good ∨ s.saving = true →
    exec (.commit c p cut) s = .next (s.err Page.sec))

/-- R552: ATTEST captures 512 bytes with the role, the epoch, the cycle number and the nonce at their places; ATTEST_DONE places them with the 114 bytes of the signature; an ATTEST while BUSY or at P2 is refused. -/
def Attestation : Prop :=
  (∀ (s : State) (p : Priv), p ≠ .p2 → s.sec.att ≠ .busy → Gives (.attest p) s fun t => t = { s with sec := t.sec } ∧ t.sec.att = .busy ∧
    t.sec.attReport = s.sec.attReport ∧ t.sec.attNext.length = 512 ∧ natLE (span t.sec.attNext 0x40 1) = s.pair.role.code ∧
    natLE (span t.sec.attNext 0x44 4) = s.pair.current.toNat ∧ natLE (span t.sec.attNext 0x48 8) = s.bell.cycle % 2 ^ 48 ∧
    natLE (span t.sec.attNext 8 8) = Config.uid.toNat ∧
    ∀ i, i < 8 → natLE (span t.sec.attNext (0x10 + 4 * i) 4) = (s.reg Page.sec (Reg.sec_NONCE i)).toNat) ∧
  (∀ (s : State) (p : Priv), p = .p2 ∨ s.sec.att = .busy → exec (.attest p) s = .next (s.err Page.sec)) ∧
  (∀ (s : State) (sig : List Byte), s.sec.att = .busy → sig.length = 114 → Gives (.attestDone sig) s fun t => t = { s with sec := t.sec, regs := t.regs } ∧
    t.sec.att = .done ∧ t.sec.attReport = s.sec.attNext ++ sig ∧ bit (t.reg Page.sec Reg.com_INT_RAW) 0 = true) ∧
  (∀ (s : State) (sig : List Byte), s.sec.att ≠ .busy → exec (.attestDone sig) s = .next s)

/-- R548, R555, R557: ERASE empties the inactive bank, ACTIVATE makes a LOADED one TRIAL with TRIAL_USED 0, CONFIRM makes the running TRIAL bank GOOD and stops the boot watchdog; what is not permitted is refused, and so is P2. -/
def FirmwareBanks : Prop :=
  (∀ (s : State) (p : Priv), p ≠ .p2 → s.sec.stage ≠ 0 →
    (Gives (.erase p) s fun t => t = { s with sec := t.sec, regs := t.regs } ∧ t.sec.runB = s.sec.runB ∧ t.bank (!s.sec.runB) = {} ∧
      t.bank s.sec.runB = s.bank s.sec.runB ∧ t.reg Page.fw Reg.fw_LOAD_BYTES = 0) ∧
    ((s.bank (!s.sec.runB)).st = .loaded → Gives (.activate p) s fun t => t = { s with sec := t.sec } ∧ t.sec.runB = s.sec.runB ∧ t.sec.trialUsed = 0 ∧
      t.bank (!s.sec.runB) = { s.bank (!s.sec.runB) with st := .trial } ∧ t.bank s.sec.runB = s.bank s.sec.runB) ∧
    ((s.bank s.sec.runB).st = .trial → Gives (.confirm p) s fun t => t = { s with sec := t.sec } ∧ t.sec.runB = s.sec.runB ∧ t.sec.wdg = false ∧
      t.bank s.sec.runB = { s.bank s.sec.runB with st := .good } ∧ t.bank (!s.sec.runB) = s.bank (!s.sec.runB)) ∧
    ((s.bank (!s.sec.runB)).st ≠ .loaded → exec (.activate p) s = .next (s.err Page.fw)) ∧
    ((s.bank s.sec.runB).st ≠ .trial → exec (.confirm p) s = .next (s.err Page.fw))) ∧
  (∀ s : State, exec (.erase .p2) s = .next (s.err Page.fw) ∧ exec (.activate .p2) s = .next (s.err Page.fw) ∧ exec (.confirm .p2) s = .next (s.err Page.fw))

/-- R237, R553, R554: a session takes the lowest free number with the rights of its certificate and the lower of the tool's and the module's versions of interface 4; at most four are open, every other handshake is refused and counted; files go to sessions with the right of R554 only. -/
def Sessions : Prop :=
  (∀ (s : State) (svc : Bool) (key tool : Nat), s.sec.stage ≠ 0 →
    (∀ r i, s.toolOk tool = true → s.sessionRights svc key = some r → i < 4 → s.sec.sessions.any (fun e => e.ident == i) = false →
      (∀ k, k < i → s.sec.sessions.any (fun e => e.ident == k) = true) → Gives (.tlsSession svc true { key := key, tool := tool }) s fun t =>
        t.sec.sessions = s.sec.sessions ++ [({ ident := i, svc := svc, rights := r, ver := min tool (s.verInUse 4) } : Session)] ∧ t = { s with sec := t.sec, jrn := t.jrn, regs := t.regs }) ∧
    (∀ ok, ok = false ∨ s.toolOk tool = false ∨ s.sessionRights svc key = none ∨ s.sec.freeSession = none → Gives (.tlsSession svc ok { key := key, tool := tool }) s fun t => t = { s with regs := t.regs } ∧
      t.reg Page.sec Reg.sec_TLS_FAIL = satInc (s.reg Page.sec Reg.sec_TLS_FAIL) ∧ bit (t.reg Page.sec Reg.com_INT_RAW) 2 = true)) ∧
  (∀ (s : State) (svc ok : Bool) (key : TlsHello), s.sec.stage = 0 → s.sec.recovery = false → exec (.tlsSession svc ok key) s = .next s) ∧
  (∀ (s : State) (i : BitVec 2), Gives (.sessionEnd i) s fun t => t = { s with sec := { s.sec with sessions := t.sec.sessions } } ∧
    ∀ e, e ∈ t.sec.sessions ↔ e ∈ s.sec.sessions ∧ e.ident ≠ i.toNat) ∧
  (∀ (s : State) (i : BitVec 2) (f : FileName),
    (s.hasRight i 0 = false → exec (.fileRead i f) s = .next s) ∧ (s.hasRight i 1 = false → exec (.fileDelete i f) s = .next s)) ∧
  (∀ (s : State) (i : BitVec 2), s.hasRight i 0 = true → s.sessionVia i = none →
    (Gives (.fileRead i .certificate) s fun t => t = { s with sent := { what := .fileData, args := 2 :: Config.mfgCert.map BitVec.toNat } :: s.sent }) ∧
    (∀ n a l, s.jrn.archives = a :: l → a.number = n → Gives (.fileRead i (.archive n)) s fun t =>
      t = { s with sent := { what := .fileData, args := 0 :: a.content.map BitVec.toNat } :: s.sent }) ∧
    (∀ k e l, s.recd.exports = e :: l → e.seg = k → Gives (.fileRead i (.export_ k)) s fun t =>
      t = { s with sent := { what := .fileData, args := 1 :: e.nums } :: s.sent })) ∧
  (∀ (s : State) (i : BitVec 2) (n : Nat), s.hasRight i 0 = true → s.jrn.archives.any (fun a => a.number == n) = false → exec (.fileRead i (.archive n)) s = .next s) ∧
  (∀ (s : State) (i : BitVec 2), s.hasRight i 1 = true →
    (∀ n, Gives (.fileDelete i (.archive n)) s fun t => t = { s with jrn := t.jrn } ∧ ∀ a, a ∈ t.jrn.archives ↔ a ∈ s.jrn.archives ∧ a.number ≠ n) ∧
    (∀ k, Gives (.fileDelete i (.export_ k)) s fun t => t = { s with recd := t.recd } ∧ ∀ e, e ∈ t.recd.exports ↔ e ∈ s.recd.exports ∧ e.seg ≠ k) ∧
    exec (.fileDelete i .certificate) s = .next s)

/-- R543, R544, R554, R555: an image enters the inactive bank when every check of R544 holds and makes it BAD otherwise, with the first check that failed; with every class present the bank becomes LOADED with the next GEN; a bank that R166 has shrunk takes no longer image (check 2); a configuration ends every session; a file beyond its area is refused (R10). -/
def FileWrites : Prop :=
  (∀ (s : State) (i : BitVec 2) (l : List Byte) (b : Boot),
    let k := !s.sec.runB
    (s.hasRight i 3 = false → exec (.fileWrite i (.image l) b) s = .next s) ∧
    (s.hasRight i 3 = true → s.sec.recovery = false → (s.bank k).st ≠ .empty → exec (.fileWrite i (.image l) b) s = .next s) ∧
    (s.hasRight i 3 = true → s.sec.recovery = false → (s.bank k).st = .empty →
      (∀ c, s.imageBad k l = some c → Gives (.fileWrite i (.image l) b) s fun t =>
        t = { s with sec := t.sec, regs := t.regs, jrn := if c = 2 then t.jrn else s.jrn } ∧
        (t.bank k).st = .bad ∧ t.bank s.sec.runB = s.bank s.sec.runB ∧ t.reg Page.sec Reg.sec_VERIFY_FAIL = satInc (s.reg Page.sec Reg.sec_VERIFY_FAIL) ∧
        t.reg Page.sec Reg.sec_LAST_FAIL = BitVec.ofNat 32 (hdrClass l % 16 + c * 256)) ∧
      (s.imageBad k l = none → Gives (.fileWrite i (.image l) b) s fun t => t = { s with sec := t.sec, regs := t.regs } ∧
        (t.bank k).image (hdrClass l) = some (hdrImage l) ∧ t.bank s.sec.runB = s.bank s.sec.runB ∧
        (((s.bank k).put l).has [0, 1, 2, 3, 4] = true → (t.bank k).st = .loaded ∧ (t.bank k).gen = (s.bank s.sec.runB).gen + 1 ∧
          bit (t.reg Page.fw Reg.com_INT_RAW) 0 = true) ∧
        (((s.bank k).put l).has [0, 1, 2, 3, 4] = false → (t.bank k).st = .empty)))) ∧
  (∀ (s : State) (k : Bool) (l : List Byte) (c : Nat), s.imageFails (s.bank k).dir l = some c → s.imageBad k l = some (if s.bankFits k l ∨ c = 1 then c else 2)) ∧
  (∀ (s : State) (k : Bool) (l : List Byte), s.imageFails (s.bank k).dir l = none → (s.imageBad k l = none ↔ s.bankFits k l = true)) ∧
  (∀ (s : State) (dir l : List Byte), s.imageFails dir l = none →
    natLE (span l 0 4) = 0x5042494D ∧ natLE (span l 4 1) = 1 ∧ hdrZero l = true ∧ (hdrImage l).len + 256 = l.length ∧
    bit s.sec.revoked (hdrImage l).slot = false ∧ (hdrImage l).digest = Config.shake512 (span l 0 32 ++ l.drop 256) ∧
    Config.rootVerify (hdrImage l).slot (span l 0x20 64) (span l 0x60 114) = true ∧ s.sec.fuse (hdrClass l) ≤ (hdrImage l).svn) ∧
  (∀ (s : State) (i : BitVec 2) (l : List Byte) (b : Boot), s.hasRight i 2 = true → s.sec.recovery = false →
    (l.length ≤ 0x800000 → Gives (.fileWrite i (.config l) b) s fun t => t = { s with cfgStore := Config.cfgOf l, sec := { s.sec with sessions := [] } }) ∧
    (0x800000 < l.length → exec (.fileWrite i (.config l) b) s = .next (s.discard Page.fw Reg.com_ERRCNT)) ∧
    (l.length ≤ s.nand.projectRoom → Gives (.fileWrite i (.project l) b) s fun t => t = { s with projStore := Config.projOf l }) ∧
    (s.nand.projectRoom < l.length → exec (.fileWrite i (.project l) b) s = .next (s.discard Page.fw Reg.com_ERRCNT))) ∧
  (∀ (s : State) (i : BitVec 2) (l : List Byte) (b : Boot), s.hasRight i 2 = false →
    exec (.fileWrite i (.config l) b) s = .next s ∧ exec (.fileWrite i (.project l) b) s = .next s)

/-- Security, sessions and firmware: COMMIT, ATTEST, ATTEST_DONE, ERASE, ACTIVATE, CONFIRM, TLS_SESSION, SESSION_END, FILE_READ, FILE_DELETE, FILE_WRITE. -/
def Obligations.SecurityCommands : Prop := FuseCommit ∧ Attestation ∧ FirmwareBanks ∧ Sessions ∧ FileWrites

/-! ### Start-up -/

/-- What every start-up keeps and leaves (R33, R213, R545 to R549, R565): the fuses, the archives and the stores stay; both own lines are deasserted; without a bank to boot, recovery; otherwise the bank that R546 chooses. -/
def StartsUp (s t : State) (cause : Nat) (b : Boot) : Prop :=
  t.sec.fuses = s.sec.fuses ∧ t.jrn.archives = s.jrn.archives ∧ t.cfgStore = s.cfgStore ∧ t.projStore = s.projStore ∧ t.pending = s.pending ∧
  t.pair.own1 = false ∧ t.pair.own2 = false ∧ (t.pair.role = .starting ∨ t.pair.role = .failed) ∧
  (b.noPower ≠ some 1 →
    (s.sec.bankA.bootable = false → s.sec.bankB.bootable = false → t.sec.recovery = true ∧ t.pair.role = .starting ∧ t.sec.stage = 0 ∧
      t.reg Page.pwr Reg.pwr_DOM_STAT = 0x503#32 ∧ t.reg Page.clk Reg.clk_RESET_CAUSE = BitVec.ofNat 32 cause) ∧
    (s.sec.bankA.st = .good → s.sec.bankB.bootable = false → s.bankFail b false = none → t.sec.recovery = false ∧ t.sec.stage = 3 ∧ t.sec.runB = false ∧
      t.sec.bankA = s.sec.bankA ∧ t.sec.wdg = false ∧ t.sec.ikPresent = true ∧ t.sec.tk.isSome = true) ∧
    (s.sec.bankA.st = .good → s.sec.bankB.st = .trial → s.sec.bankA.gen.toNat < s.sec.bankB.gen.toNat → s.sec.trialUsed < 3 → s.keepBad = [] → s.bankFail b true = none →
      t.sec.runB = true ∧ t.sec.trialUsed = s.sec.trialUsed + 1 ∧ t.sec.wdg = true ∧ t.sec.bankB = s.sec.bankB) ∧
    (s.sec.bankA.st = .good → s.sec.bankB.st = .trial → s.sec.bankA.gen.toNat < s.sec.bankB.gen.toNat → s.sec.trialUsed = 3 → s.keepBad = [] → s.bankFail b false = none →
      t.sec.runB = false ∧ t.sec.bankB.st = .bad ∧ t.sec.wdg = false ∧ t.sec.bankA = s.sec.bankA))

/-- R548, R559, R565, R566, R579: the commands that start the module, each with its cause; RST_CMD needs P0 and its key; a boot watchdog reset does not bring a module out of FAILED. -/
def Obligations.Starts : Prop :=
  (∀ (s : State) (b : Boot), Gives (.powerOn b) s fun t => StartsUp s t 1 b) ∧
  (∀ (s : State) (b : Boot), s.pwr.save = .off → s.rbit Page.pwr Reg.pwr_DOM_STAT 0 = true → Gives (.supplyReturn b) s fun t => StartsUp s t 2 b) ∧
  (∀ (s : State) (b : Boot), s.pwr.save ≠ .off → exec (.supplyReturn b) s = .next s) ∧
  (∀ (s : State) (b : Boot), s.rbit Page.pwr Reg.pwr_PWR_STAT 2 = false → Gives (.seated b) s fun t => StartsUp s t 3 b ∧
    bit (t.reg Page.pwr Reg.com_INT_RAW) 2 = true) ∧
  (∀ (s : State) (b : Boot), s.rbit Page.pwr Reg.pwr_PWR_STAT 2 = true → exec (.seated b) s = .next s) ∧
  (∀ (s : State) (b : Boot) (v : Word), fieldNat v 0 16 = 0xB480 → bit v 16 = true → Gives (.restart v .p0 b) s fun t => StartsUp s t 5 b) ∧
  (∀ (s : State) (b : Boot) (v : Word) (p : Priv), s.pwr.restart = false → p ≠ .p0 ∨ fieldNat v 0 16 ≠ 0xB480 ∨ bit v 16 = false →
    exec (.restart v p b) s = .next (s.err Page.clk)) ∧
  (∀ (s : State) (b : Boot), s.sec.wdg = true → s.alive = true → Gives (.bootWdgExpiry b) s fun t => StartsUp s t 4 b) ∧
  (∀ (s : State) (b : Boot), s.sec.wdg = true → s.pair.role = .failed → Gives (.bootWdgExpiry b) s fun t => t.pair.role = .failed ∧ t.sec.fuses = s.sec.fuses) ∧
  (∀ (s : State) (b : Boot), s.sec.wdg = false → exec (.bootWdgExpiry b) s = .next s) ∧
  (∀ (s : State) (i : BitVec 2) (l : List Byte) (b : Boot), s.hasRight i 3 = true → s.sec.recovery = true →
    s.imageBad false l = none → hdrClass l ≠ 0 → s.sec.bankA.st = .empty →
    ((s.sec.bankA.put l).has [1, 2, 3, 4] = false → Gives (.fileWrite i (.image l) b) s fun t => t = { s with sec := t.sec } ∧ t.sec.recovery = true ∧
      t.sec.bankA = s.sec.bankA.put l) ∧
    ((s.sec.bankA.put l).has [1, 2, 3, 4] = true → (∀ e ∈ b.bad, e.1 ≠ false) → b.noPower ≠ some 1 → s.sec.bankB.bootable = false →
      (∀ c x, (s.sec.bankA.put l).image c = some x → bit s.sec.revoked x.slot = false ∧ s.sec.fuse c ≤ x.svn) →
      bit s.sec.revoked 0 = false → s.sec.fuse 0 = 0 → Gives (.fileWrite i (.image l) b) s fun t => t.sec.runB = false ∧ t.sec.stage = 3 ∧
        (t.bank false).st = .good))

/-! ### Power, clocks, hold-up, the save sequence -/

/-- A module failure (R24, R214): FAILED, both own lines deasserted, no cycle open, no cluster executing. -/
def Failed (t : State) : Prop :=
  t.pair.role = .failed ∧ t.pair.own1 = false ∧ t.pair.own2 = false ∧ t.pair.syncPair = false ∧ t.bell.cycleOpen = false ∧
  ∀ n : Fin 16, (t.core n.val).status = .idle

/-- R29, R32, R33, R561, R563: what each fault of power, temperature or clocks does. -/
def PowerFaults : Prop :=
  (∀ (s : State) (d : Fin 14), s.pair.role = .starting → Gives (.powerGoodTimeout d) s fun t => Failed t ∧ t.pair.failCause = 561 ∧
    t.rbit Page.pwr Reg.pwr_DOM_STAT d.val = false) ∧
  (∀ (s : State) (d : Fin 14), s.pair.role ≠ .starting → exec (.powerGoodTimeout d) s = .next s) ∧
  (∀ (s : State) (d : Fin 3), Gives (.dieTempWarning d) s fun t => t = { s with pwr := { s.pwr with dieWarn := t.pwr.dieWarn }, jrn := t.jrn, regs := t.regs } ∧
    bit t.pwr.dieWarn d.val = true ∧ ∀ e : Fin 3, e ≠ d → bit t.pwr.dieWarn e.val = bit s.pwr.dieWarn e.val) ∧
  (∀ (s : State) (d : Fin 3), s.alive = true → Gives (.dieOvertempFailure d) s fun t => Failed t ∧ t.pair.failCause = 29) ∧
  (∀ (s : State) (d : Fin 3), s.alive = false → exec (.dieOvertempFailure d) s = .next s) ∧
  (∀ (s : State) (d : Fin 3), s.alive = true → Gives (.diePowerCutoff d) s fun t => Failed t ∧ t.pair.driveEn = false ∧
    (∀ k ∈ dieDomains d.val, t.rbit Page.pwr Reg.pwr_DOM_STAT k = false) ∧ ∀ u ∈ dieUnits d.val, (t.unit u).st ≠ .testing) ∧
  (∀ s : State, s.alive = true → Gives .pllLossOfLock s fun t => Failed t ∧ t.pair.driveEn = false ∧ t.pair.failCause = 33 ∧
    t.rbit Page.clk Reg.clk_CLK_STAT 0 = false ∧ ∀ u, u < 48 → (t.unit u).st ≠ .testing) ∧
  (∀ (s : State) (k : Fin 6), s.alive = true → Gives (.clockFault k) s fun t => Failed t ∧ t.pair.driveEn = false ∧ t.pair.failCause = 563 ∧
    t.rbit Page.clk Reg.clk_CLK_STAT (k.val + 1) = false)

/-- R558, R569, R570, R573, R577, R581: feeds, bank tests, the charger, sags, a change of the slot. -/
def PowerMonitors : Prop :=
  (∀ (s : State) (b : Bool) (v : Nat),
    let off := if b then Reg.pwr_FEED_B else Reg.pwr_FEED_A
    let k := if b then 1 else 0
    (Gives (.feedLost b v) s fun t => t = { s with regs := t.regs, jrn := t.jrn } ∧ t.reg Page.pwr off = BitVec.ofNat 32 (min 0xFFFF v) ∧
      t.rbit Page.pwr Reg.pwr_PWR_STAT k = false ∧ t.rbit Page.pwr Reg.pwr_PWR_STAT 3 = true ∧ bit (t.reg Page.pwr Reg.com_INT_RAW) 0 = true) ∧
    (Gives (.feedRestored b v) s fun t => t = { s with regs := t.regs } ∧ t.reg Page.pwr off = BitVec.ofNat 32 (min 0xFFFF v) ∧
      t.rbit Page.pwr Reg.pwr_PWR_STAT k = true ∧
      t.rbit Page.pwr Reg.pwr_PWR_STAT 3 = (s.rbit Page.pwr Reg.pwr_PWR_STAT 3 && !s.rbit Page.pwr Reg.pwr_PWR_STAT (1 - k)))) ∧
  (∀ (s : State) (c : Bool) (p : Priv), ¬ (c = true ∧ p = .p2) → s.fld Page.hu Reg.hu_HU_STAT 3 2 = 0 → Gives (.huTest c p) s fun t =>
    t = { s with regs := t.regs } ∧ t.rbit Page.hu Reg.hu_HU_STAT 3 = true) ∧
  (∀ (s : State) (p : Priv), p = .p2 ∨ s.fld Page.hu Reg.hu_HU_STAT 3 2 ≠ 0 → exec (.huTest true p) s = .next (s.err Page.hu)) ∧
  (∀ (s : State) (p : Priv), s.fld Page.hu Reg.hu_HU_STAT 3 2 ≠ 0 → exec (.huTest false p) s = .next s) ∧
  (∀ (s : State) (cap esr : Nat),
    (s.rbit Page.hu Reg.hu_HU_STAT 3 = false → exec (.huTestDone cap esr) s = .next s) ∧
    (s.rbit Page.hu Reg.hu_HU_STAT 3 = true → Gives (.huTestDone cap esr) s fun t => t = { s with regs := t.regs, pwr := t.pwr, jrn := t.jrn } ∧
      t.reg Page.hu Reg.hu_HU_CAP = BitVec.ofNat 32 (min 0xFFFF cap) ∧ t.reg Page.hu Reg.hu_HU_ESR = BitVec.ofNat 32 (min 0xFFFF esr) ∧
      t.rbit Page.hu Reg.hu_HU_STAT 0 = s.rbit Page.hu Reg.hu_HU_STAT 0 ∧ t.rbit Page.hu Reg.hu_HU_STAT 1 = decide (cap < 2200 ∨ 500 < esr) ∧
      t.rbit Page.hu Reg.hu_HU_STAT 2 = decide (cap < 1000 ∨ 1500 < esr) ∧ t.rbit Page.hu Reg.hu_HU_STAT 3 = false ∧ t.rbit Page.hu Reg.hu_HU_STAT 4 = true ∧
      t.reg Page.hu Reg.hu_HU_TEST_CNT = satInc (s.reg Page.hu Reg.hu_HU_TEST_CNT) ∧ bit (t.reg Page.hu Reg.com_INT_RAW) 2 = true ∧
      t.pwr.keep.history = s.pwr.keep.history ++ [(cap, esr)])) ∧
  (∀ s : State, Gives .chargingEnd s fun t => t = { s with regs := t.regs, freeCtr := s.freeCtr + 1 } ∧ t.rbit Page.hu Reg.hu_HU_STAT 0 = true ∧
    t.rbit Page.hu Reg.hu_HU_STAT 4 = false ∧ 3550 ≤ (t.reg Page.hu Reg.hu_HU_VOLT).toNat ∧ (t.reg Page.hu Reg.hu_HU_VOLT).toNat ≤ 3650) ∧
  (∀ s : State, Gives .sagRecovered s fun t => t = { s with regs := t.regs } ∧ t.reg Page.pwr Reg.pwr_SAG_CNT = satInc (s.reg Page.pwr Reg.pwr_SAG_CNT) ∧
    bit (t.reg Page.pwr Reg.com_INT_RAW) 1 = true) ∧
  (∀ (s : State) (slot : BitVec 6) (side : Bool),
    let w := s.reg Page.surr Reg.surr_SURR_STAT
    (bit w 0 = true → fieldNat w 4 6 ≠ slot.toNat ∨ bit w 10 ≠ side → Gives (.slotChg slot side) s fun t => t = { s with regs := t.regs, jrn := t.jrn } ∧
      t.reg Page.surr Reg.surr_SURR_STAT = w ||| 4#32) ∧
    (bit w 0 = false ∨ (fieldNat w 4 6 = slot.toNat ∧ bit w 10 = side) → exec (.slotChg slot side) s = .next s))

/-- Memory as the save leaves it while data are copied: the first word of the retain header is cleared once the configuration has been loaded (R164, R568), and nothing else. -/
def HeaderCleared (s t : State) : Prop :=
  (s.pwr.loaded = false → t.mem = s.mem) ∧ (s.pwr.loaded = true → t.loadLE 0x10440000 16 = 0) ∧
  ∀ a, a < 0x10440000 ∨ 0x10440010 ≤ a → t.byte a = s.byte a

/-- R164, R568, R571 to R575, R580: the trigger releases the pass, sheds seven domains and abandons self-tests; an open cycle may complete until SAVE_GRACE, with the local flip; then the journal closes, the retain header and the keepsake are written and every domain but AON goes off. -/
def SaveSequence : Prop :=
  (∀ (s : State) (removal : Bool), s.saving = false → Gives (.powerFailTrigger removal) s fun t =>
    t.pair.own1 = false ∧ t.pair.own2 = false ∧ t.pair.driveEn = false ∧ t.bell = s.bell ∧ (s.bell.cycleOpen = true → t.mem = s.mem) ∧ (s.bell.cycleOpen = false → HeaderCleared s t) ∧
    t.pwr = { s.pwr with save := if s.bell.cycleOpen then .grace else .copy, pfail := true, removal := removal, consistent := !s.bell.cycleOpen, saveAt := s.now } ∧
    (∀ d ∈ [6, 7, 9, 10, 11, 12, 13], t.rbit Page.pwr Reg.pwr_DOM_STAT d = false) ∧ (∀ u, u < 48 → (t.unit u).st ≠ .testing) ∧
    t.rbit Page.hu Reg.hu_HU_STAT 3 = false ∧
    (removal = true → t.rbit Page.pwr Reg.pwr_PWR_STAT 2 = false ∧ bit (t.reg Page.pwr Reg.com_INT_RAW) 2 = true)) ∧
  (∀ (s : State) (removal : Bool), s.saving = true → exec (.powerFailTrigger removal) s = .next s) ∧
  (∀ s : State, s.pwr.save = .grace → Gives .saveGraceExpiry s fun t => t.pwr = { s.pwr with save := .copy, consistent := false } ∧
    t.bell.cycleOpen = false ∧ t.outDirty = [] ∧ t.forme = s.forme ∧ HeaderCleared s t) ∧
  (∀ s : State, s.pwr.save ≠ .grace → exec .saveGraceExpiry s = .next s ∧ exec .localFormeFlip s = .next s) ∧
  (∀ s : State, s.pwr.save = .grace → s.isActive = true → s.bell.mode = .run → s.complete = true → s.upsets = [] → Gives .localFormeFlip s fun t =>
    t.pwr = { s.pwr with save := .copy, consistent := true } ∧ t.bell.formeCyc = s.bell.cycle ∧ t.bell.cycleOpen = false ∧ t.outDirty = [] ∧ t.sent = s.sent) ∧
  (∀ s : State, s.pwr.save = .copy → Gives .retainCopyDone s fun t => t.pwr.save = .off ∧ t.reg Page.pwr Reg.pwr_DOM_STAT = 1#32 ∧
    t.pwr.keep.pfail = satInc s.pwr.keep.pfail ∧ t.pwr.keep.time = s.tb.time ∧ t.safe.kept = s.safe.kept ∧ t.pair.stored = s.pair.stored ∧
    bit t.pwr.keep.lastSave 0 = true ∧ bit t.pwr.keep.lastSave 1 = s.pwr.consistent ∧ bit t.pwr.keep.lastSave 2 = (s.pwr.loaded && decide (t.loadLE 0x10440000 4 = 0x52455441)) ∧
    bit t.pwr.keep.lastSave 3 = s.pwr.removal ∧ t.sec.fuses = s.sec.fuses ∧
    (∀ data, s.pwr.loaded = true → s.jrnClose.retainBytes s.cfg.retain = (s.jrnClose, some data) → data.length < 0x3BF000 →
      (s.jrnClose.fixedMay 0x041 .write 0x10440000 (0x1000 + data.length)).2 = true → t.loadLE 0x10440000 4 = 0x52455441 ∧
      t.loadLE 0x10440004 4 = data.length ∧ t.byte 0x1044000C = (if s.pwr.consistent then 1#8 else 0#8) ∧ t.bytes 0x10441000 data.length = data)) ∧
  (∀ s : State, s.pwr.save ≠ .copy → exec .retainCopyDone s = .next s) ∧
  (∀ s : State, s.pwr.save = .off → Gives .bankBelow14v s fun t => t = { s with regs := t.regs } ∧ t.rbit Page.pwr Reg.pwr_DOM_STAT 0 = false) ∧
  (∀ s : State, s.pwr.save ≠ .off → exec .bankBelow14v s = .next s)

/-- Power, clocks, hold-up and the save sequence: POWER_GOOD_TIMEOUT, DIE_TEMP_WARNING, DIE_OVERTEMP_FAILURE, DIE_POWER_CUTOFF, PLL_LOSS_OF_LOCK, CLOCK_FAULT, FEED_LOST, FEED_RESTORED, HU_TEST, HU_TEST_DONE, CHARGING_END, SAG_RECOVERED, SLOT_CHG, POWER_FAIL_TRIGGER, SAVE_GRACE_EXPIRY, LOCAL_FORME_FLIP, RETAIN_COPY_DONE, BANK_BELOW_14V. -/
def Obligations.PowerCommands : Prop := PowerFaults ∧ PowerMonitors ∧ SaveSequence

/-! ### Register pages -/

/-- R588, R589, R591, R592: the common registers: the key locks a page that holds RWL fields and any other value is refused; INT_RAW bits are cleared by 1 and set by INT_SET inside INT_MASK; CLR_ERRCNT at P0 clears every ERRCNT and nothing else. -/
def CommonRegisters : Prop :=
  (∀ (s : State) (p : Nat) (v : Word), s.pageOn p = true →
    let q := s.shown p
    (∀ ty, pageTy q = some ty → ty.hasRwl = true → v = 0x9A7E#32 → Gives (.quoin p v) s fun t => t = { s with regs := t.regs } ∧ t.locked q = true ∧
      t.reg q Reg.com_QUOIN = 1#32 ∧ t.reg q Reg.com_ERRCNT = s.reg q Reg.com_ERRCNT) ∧
    (∀ ty, pageTy q = some ty → ty.hasRwl = false → v = 0x9A7E#32 → exec (.quoin p v) s = .next s) ∧
    (v ≠ 0x9A7E#32 → exec (.quoin p v) s = .next (s.err q)) ∧
    (Gives (.intRaw p v) s fun t => t = { s with regs := t.regs } ∧ t.reg q Reg.com_INT_RAW = s.reg q Reg.com_INT_RAW &&& ~~~v) ∧
    (Gives (.intSet p v) s fun t => t = { s with regs := t.regs } ∧
      t.reg q Reg.com_INT_RAW = s.reg q Reg.com_INT_RAW ||| (v &&& BitVec.ofNat 32 (intMaskOf q)))) ∧
  (∀ (s : State) (p off : Nat) (v : Word) (w : DWord) (size : BitVec 2) (pr : Priv), s.pageOn p = false →
    exec (.quoin p v) s = .next s ∧ exec (.intRaw p v) s = .next s ∧ exec (.intSet p v) s = .next s ∧ exec (.registerWrite p off w size pr) s = .next s) ∧
  (∀ s : State, Gives (.clrErrcnt .p0) s fun t => t = { s with regs := t.regs } ∧ (∀ p, p < 0x430 → t.reg p Reg.com_ERRCNT = 0) ∧
    ∀ p o, o < 0x1000 → o ≠ Reg.com_ERRCNT → t.reg p o = s.reg p o) ∧
  (∀ (s : State) (p : Priv), p ≠ .p0 → exec (.clrErrcnt p) s = .next (s.err Page.sys))

/-- Whether writes of a page's registers beyond the common layout act on the stored words alone. -/
def PlainPage (t : PageTy) : Prop :=
  t ≠ .le ∧ t ≠ .sq ∧ t ≠ .can ∧ t ≠ .rfx ∧ t ≠ .safe ∧ t ≠ .link ∧ t ≠ .dio ∧ t ≠ .tb ∧ t ≠ .recd ∧ t ≠ .canFilter ∧ t ≠ .region

/-- R7, R8, R589, R592: a write of a register with one field: RW and RWL take a legal value, a reserved one leaves it and counts, a locked page keeps it and counts a write that would change it; 8-bit and 16-bit writes and writes where no register is have no effect and count; a 64-bit write is two; below P0 a write to the pages of protection and of the DMA checks is refused and counted (R191, R197). -/
def RegisterWrites : Prop :=
  (∀ (s : State) (p off : Nat) (v : Word) (pr : Priv) (ty : PageTy) (d : RegDesc) (acc : Acc) (lg : Legal), s.pageOn p = true → ¬ (0x20 ≤ p ∧ p < 0x30) →
    pageTy p = some ty → PlainPage ty → 0x040 ≤ off → isReg ty off = true → s.cmdWrite ty p off v pr = none → s.flagWrite ty p off v = none →
    regDesc p off = some d → d.flds = [⟨0, 32, acc, lg⟩] → acc ≠ .w1c → pr = .p0 ∨ fixedPage p = false →
    (lg.ok v.toNat = true → (acc = .rwl → s.locked p = false) → Gives (.registerWrite p off (v.zeroExtend 64) 2 pr) s fun t => t = { s with regs := t.regs } ∧
      t.reg p off = v ∧ (∀ o, o < 0x1000 → off < 0x1000 → o ≠ off → t.reg p o = s.reg p o)) ∧
    (lg.ok v.toNat = false → Gives (.registerWrite p off (v.zeroExtend 64) 2 pr) s fun t => t = { s with regs := t.regs } ∧ t.reg p off = s.reg p off ∧
      t.reg p Reg.com_ERRCNT = satInc (s.reg p Reg.com_ERRCNT)) ∧
    (lg.ok v.toNat = true → acc = .rwl → s.locked p = true → Gives (.registerWrite p off (v.zeroExtend 64) 2 pr) s fun t => t = { s with regs := t.regs } ∧
      t.reg p off = s.reg p off ∧
      t.reg p Reg.com_ERRCNT = (if v = s.reg p off then s.reg p Reg.com_ERRCNT else satInc (s.reg p Reg.com_ERRCNT)))) ∧
  (∀ (s : State) (p off : Nat) (v : DWord) (size : BitVec 2) (pr : Priv), s.pageOn p = true → pr ≠ .p0 → fixedPage p = true →
    Gives (.registerWrite p off v size pr) s fun t => t = { s with regs := t.regs, jrn := t.jrn, freeCtr := t.freeCtr } ∧
      t.reg (Page.target 10) Reg.tc_TFAULT_CNT = satInc (s.reg (Page.target 10) Reg.tc_TFAULT_CNT) ∧ bit (t.reg Page.pctrl Reg.com_INT_RAW) 1 = true ∧
      ∀ q, q ≠ Page.target 10 → q ≠ Page.pctrl → q ≠ Page.jrn → ∀ o, o < 0x1000 → t.reg q o = s.reg q o) ∧
  (∀ (s : State) (p off : Nat) (v : DWord) (size : BitVec 2) (pr : Priv), s.pageOn p = true → pr = .p0 ∨ fixedPage p = false → size.toNat < 2 →
    exec (.registerWrite p off v size pr) s = .next (s.err (s.shown p))) ∧
  (∀ (s : State) (p off : Nat) (v : DWord) (pr : Priv) (ty : PageTy), s.pageOn p = true → ¬ (0x20 ≤ p ∧ p < 0x30) → pageTy p = some ty →
    pr = .p0 ∨ fixedPage p = false → isReg ty off = false → exec (.registerWrite p off v 2 pr) s = .next (s.err p)) ∧
  (∀ (s : State) (p : Nat) (v : DWord) (pr : Priv) (ty : PageTy), s.pageOn p = true → ¬ (0x20 ≤ p ∧ p < 0x30) → pageTy p = some ty →
    pr = .p0 ∨ fixedPage p = false →
    (Gives (.registerWrite p Reg.com_SCRATCH v 2 pr) s fun t => t = { s with regs := t.regs } ∧ t.reg p Reg.com_SCRATCH = v.extractLsb' 0 32) ∧
    (Gives (.registerWrite p Reg.com_INT_RAW v 3 pr) s fun t => t = { s with regs := t.regs } ∧
      t.reg p Reg.com_INT_RAW = s.reg p Reg.com_INT_RAW &&& ~~~(v.extractLsb' 0 32) ∧
      t.reg p Reg.com_INT_EN = v.extractLsb' 32 32 &&& BitVec.ofNat 32 ty.intMask))

/-- The register pages: QUOIN, INT_RAW, INT_SET, CLR_ERRCNT, REGISTER_WRITE. -/
def Obligations.RegisterPages : Prop := CommonRegisters ∧ RegisterWrites

/-! ### Units, memory and protection -/

/-- The pages and totals of a unit event: which of them a statement names. -/
def UnitGone (s t : State) (u : Nat) (g : BitVec 8) : Prop :=
  (t.unit u).st = .testing ∧ (t.unit u).failGroups = g ∧ (t.unit u).mismTotal = satInc (s.unit u).mismTotal ∧ (t.unit u).card = (s.unit u).card

/-- R21, R22, R127, R133: the units of a report that are in the vote leave it together, each with its fail groups, and the cluster takes the state of the units left; with none left, or a disagreement between the two left, the cluster and the module fail. -/
def Mismatches : Prop :=
  ∀ (s : State) (n : Fin 16) (units : BitVec 3) (g : Fin 3 → BitVec 8) (disagree : Bool), s.cluster n.val ≠ .failed →
    (s.voters n.val).filter (fun u => bit units (u % 3)) ≠ [] →
    let left := (s.voters n.val).filter (fun u => !bit units (u % 3))
    Gives (.comparatorMismatch n units (g 0) (g 1) (g 2) disagree) s fun t =>
      (∀ k : Fin 3, (s.unit (3 * n.val + k.val)).st = .inVote → bit units k.val = true → UnitGone s t (3 * n.val + k.val) (g k)) ∧
      (∀ u, u / 3 ≠ n.val → t.unit u = s.unit u) ∧
      (left.length = 0 ∨ (left.length = 2 ∧ disagree = true) → t.cluster n.val = .failed ∧ t.pair.role = .failed) ∧
      (¬(left.length = 0 ∨ (left.length = 2 ∧ disagree = true)) → t.cluster n.val = clOfCount left.length ∧ t.pair.role = s.pair.role ∧
        ∀ u ∈ left, (t.unit u).st = .inVote)

/-- R21, R128, R129: in TRIPLE the unit that differs from the other two leaves the vote and the cluster goes on in DUAL; in DUAL the cluster and the module fail; a unit that has already left, or a cluster with fewer units, is not outvoted. -/
def Outvotes : Prop :=
  ∀ (s : State) (n : Fin 16) (k : Fin 3) (g : BitVec 8),
    (s.cluster n.val = .triple → (s.unit (3 * n.val + k.val)).st = .inVote →
      Gives (.outvote n k g) s fun t => UnitGone s t (3 * n.val + k.val) g ∧ t.cluster n.val = .dual ∧ t.pair.role = s.pair.role ∧
        ∀ u, u ≠ 3 * n.val + k.val → (t.unit u).st = (s.unit u).st) ∧
    (s.cluster n.val = .dual → (s.unit (3 * n.val + k.val)).st = .inVote →
      Gives (.outvote n k g) s fun t => t.cluster n.val = .failed ∧ t.pair.role = .failed) ∧
    ((s.unit (3 * n.val + k.val)).st ≠ .inVote ∨ s.cluster n.val = .single ∨ s.cluster n.val = .failed → exec (.outvote n k g) s = .next s)

/-- R134, R138, R145: the end of a self-test writes the card of the event, and the unit is retired if its count made it lasting or a signature differs, and else READY, or HELD_OUT without READMIT_EN; a retirement raises error cause 2; no other unit changes. -/
def SelfTestEnds : Prop :=
  ∀ (s : State) (u : Fin 48) (lead check : Word), (s.unit u.val).st = .testing →
    let x := s.unit u.val
    let r := (if lead = Config.lbistExp then 0 else 1) + if check = Config.lbistExp then 0 else 2
    let out := x.lasting || decide (r ≠ 0)
    let seq := if x.cause = 0 ∨ x.cause = 4 then 0 else if x.seq ≥ 0xFFFF then 1 else x.seq + 1
    Gives (.selfTestEnd u lead check) s fun t =>
      (t.unit u.val).st = (if out then .retired else if s.readmitEn (u.val / 3) then .ready else .heldOut) ∧
      (t.unit u.val).seq = seq ∧
      (t.unit u.val).card = [BitVec.ofNat 32 (seq + x.cause * 2 ^ 16 + r * 2 ^ 20),
        BitVec.ofNat 32 (x.groups.toNat + x.events.length * 2 ^ 8 + (if x.lasting then 2 ^ 12 else 0) + if out then 2 ^ 13 else 0),
        BitVec.ofNat 32 x.evCycle, BitVec.ofNat 32 (x.evCycle / 2 ^ 32 % 2 ^ 16), BitVec.ofNat 32 x.evTime.sec, BitVec.ofNat 32 x.evTime.ns, lead, check] ∧
      (out = true → bit (t.reg Page.bell Reg.bell_ERR_PEND) 2 = true) ∧
      (out = false → t.reg Page.bell Reg.bell_ERR_PEND = s.reg Page.bell Reg.bell_ERR_PEND) ∧
      ∀ v, v ≠ u.val → t.unit v = s.unit v

/-- R150, R153: RETIRE at P0 of a unit that is neither out already nor the last in the vote takes it out without a self-test and raises error cause 2, and every other RETIRE counts an error; UNIT_SEL selects units 0 to 2 of its frame. -/
def UnitCommands : Prop :=
  (∀ (s : State) (n : Fin 16) (k : Fin 3), (s.unit (3 * n.val + k.val)).st ≠ .retired → (s.unit (3 * n.val + k.val)).st ≠ .notEnabled →
    s.voters n.val ≠ [3 * n.val + k.val] →
    Gives (.retire n (BitVec.ofNat 2 k.val) .p0) s fun t =>
      (t.unit (3 * n.val + k.val)).st = .retired ∧ fieldNat ((t.unit (3 * n.val + k.val)).card.getD 0 0#32) 16 8 = 0x43 ∧
      bit (t.reg Page.bell Reg.bell_ERR_PEND) 2 = true ∧ ∀ u, u ≠ 3 * n.val + k.val → (t.unit u).st = (s.unit u).st) ∧
  (∀ (s : State) (n : Fin 16) (k : BitVec 2) (p : Priv),
    p ≠ .p0 ∨ k = 3#2 ∨ (s.unit (3 * n.val + k.toNat)).st = .retired ∨ (s.unit (3 * n.val + k.toNat)).st = .notEnabled ∨
      s.voters n.val = [3 * n.val + k.toNat] → exec (.retire n k p) s = .next (s.err (Page.cluster n.val))) ∧
  (∀ (s : State) (n : Fin 16) (k : BitVec 2), k ≠ 3#2 → Gives (.unitSel n k) s fun t =>
    t = { s with regs := t.regs } ∧ t.reg (Page.frame n.val) Reg.unit_UNIT_SEL = k.zeroExtend 32)

/-- Core units and voters: COMPARATOR_MISMATCH, OUTVOTE, SELF_TEST_END, RETIRE, UNIT_SEL. -/
def Obligations.UnitEvents : Prop := Mismatches ∧ Outvotes ∧ SelfTestEnds ∧ UnitCommands

/-- The codeword in which symbol j holds v and every other symbol is 0. -/
def oneSymbol (j : Fin 36) (v : BitVec 4) : BitVec 144 := v.zeroExtend 144 <<< (4 * j.val)

/-- The syndrome of an error v in symbol j: v times the column of the symbol (R168). -/
def columnTimes (j : Fin 36) (v : BitVec 4) : BitVec 4 × BitVec 4 × BitVec 4 × BitVec 4 :=
  (v, gfMul v (symPair j.val).1, gfMul v (symPair j.val).2, gfMul v (symQ (symPair j.val).1 (symPair j.val).2))

/-- R169: a word whose syndrome is 0 is used as stored; one whose syndrome is that of an error in one symbol has that symbol corrected by that value; every other word is uncorrectable. So every error confined to one symbol is corrected, and every error in two symbols is detected. -/
def Obligations.CodeCorrects : Prop :=
  (∀ e : BitVec 144, let S := syndrome e 36
    (S = (0#4, 0#4, 0#4, 0#4) → eccDecode e = .asStored) ∧
    (∀ (j : Fin 36) (v : BitVec 4), v ≠ 0#4 → S = columnTimes j v → eccDecode e = .corrected j.val v) ∧
    (S ≠ (0#4, 0#4, 0#4, 0#4) → (∀ (j : Fin 36) (v : BitVec 4), S ≠ columnTimes j v) → eccDecode e = .uncorrectable)) ∧
  (∀ (j : Fin 36) (v : BitVec 4), v ≠ 0#4 → eccDecode (oneSymbol j v) = .corrected j.val v) ∧
  (∀ (j k : Fin 36) (v w : BitVec 4), j ≠ k → v ≠ 0#4 → w ≠ 0#4 → eccDecode (oneSymbol j v ^^^ oneSymbol k w) = .uncorrectable)

/-- R170, R171, R172, R214: on a module that has not failed the scrubber reads the word at its position: a word with an error in one symbol is corrected without any byte changing, counted and shown, an uncorrectable one is counted and fails the module outside DRAM and MRAM, and the position goes on by one word. -/
def Scrubs : Prop :=
  ∀ (s : State) (m : Fin 14) (err : BitVec 144), m.val ≠ 10 → s.alive = true → s.scrubOn m.val = true →
    (s.reg (memPage m.val) Reg.rg_SCRUB_POS).toNat + 1 < memWords m.val →
    let p := memPage m.val
    let w := memBase m.val + (s.reg p Reg.rg_SCRUB_POS).toNat * 16
    Sound s w →
    Gives (.scrubRead m err) s fun t =>
      t.reg p Reg.rg_SCRUB_POS = s.reg p Reg.rg_SCRUB_POS + 1#32 ∧
      (∀ (j : Fin 36) (v : BitVec 4), v ≠ 0#4 → err = oneSymbol j v →
        Sound t w ∧ t.mem = s.mem ∧ t.reg p Reg.rg_CORR_CNT = satInc (s.reg p Reg.rg_CORR_CNT) ∧
        t.reg p Reg.rg_LAST_CORR_ADDR = BitVec.ofNat 32 w ∧ t.reg p Reg.rg_LAST_CORR_INFO = BitVec.ofNat 32 (0x2000 + j.val * 16 + v.toNat)) ∧
      (eccDecode err = .uncorrectable →
        t.mem = s.mem ∧ t.reg p Reg.rg_UNCORR_CNT = satInc (s.reg p Reg.rg_UNCORR_CNT) ∧
        (m.val < 8 ∨ 11 ≤ m.val → t.pair.role = .failed)) ∧
      (err = 0#144 → t = { s with regs := t.regs, upsets := t.upsets } ∧ ∀ a, t.upset a = s.upset a)

/-- R175: a remap copies the words of a line one by one, and after the fourth the line is switched to its spare; a failed module copies nothing (R214). -/
def Remaps : Prop :=
  ∀ (s : State) (m : Fin 14) (line k : Nat) (rest : List (Nat × Nat)), (s.corr m.val).copying = (line, k) :: rest →
    (s.alive = false → exec (.remapCopy m) s = .next s) ∧ (s.alive = true → Sound s (line + 16 * k) →
    (k < 3 → Gives (.remapCopy m) s fun t =>
      t = { s with memCorr := t.memCorr } ∧ t.corr m.val = { s.corr m.val with copying := (line, k + 1) :: rest }) ∧
    (k = 3 → Gives (.remapCopy m) s fun t =>
      t = { s with memCorr := t.memCorr, regs := t.regs } ∧ line ∈ (t.corr m.val).remapped ∧ (∀ e ∈ (t.corr m.val).copying, e.1 ≠ line)))

/-- R166, R184, R187: retries of a NAND page are counted, and the page as uncorrectable unless the scrubber has counted it; a block of which three retries have failed, or an erase or a program operation, is marked bad once, counted, and takes the next block of the 4,096 of the reserve, which RESERVE_FREE shows, or shrinks its area with a record where none is left; CLR_STATS clears three registers of its region; the refresh doubles above 85 °C. -/
def MemoryRegisters : Prop :=
  (∀ (s : State) (block : BitVec 15) (r : Fin 4) (bad : Bool),
    let out := bad = true ∧ (r.val = 0 ∨ r.val = 3) ∧ block.toNat ∉ s.nand.bad
    Gives (.nandReadRetry { block := block, retries := r } bad) s fun t => t.mem = s.mem ∧ t.pair = s.pair ∧
    t.nand.retry = (if r.val = 0 then s.nand.retry else none) ∧
    (¬out → t.nand.bad = s.nand.bad ∧ t.nand.moved = s.nand.moved) ∧ (out → t.nand.bad = s.nand.bad ++ [block.toNat]) ∧
    (0 < r.val → t.reg (Page.mem 2) 0x088 = satAdd (s.reg (Page.mem 2) 0x088) r.val) ∧
    (0 < r.val → s.nand.retry ≠ some block.toNat → t.reg (Page.mem 2) Reg.rg_UNCORR_CNT = satInc (s.reg (Page.mem 2) Reg.rg_UNCORR_CNT)) ∧
    (out → (s.reg (Page.mem 2) 0x080).toNat < 0xFFFF → t.reg (Page.mem 2) 0x080 = s.reg (Page.mem 2) 0x080 + 1#32) ∧
    (out → s.nand.moved.length < 4096 → t.reg (Page.mem 2) 0x084 = BitVec.ofNat 32 (4095 - s.nand.moved.length) ∧
      t.nand.moved = s.nand.moved ++ [(block.toNat, nandReserve + s.nand.moved.length)]) ∧
    (out → s.nand.moved.length = 4096 → t.nand.moved = s.nand.moved)) ∧
  (∀ (s : State) (g : Fin 8), Gives (.clrStats g) s fun t => t = { s with regs := t.regs } ∧
    ∀ p o, o < 0x1000 → t.reg p o =
      if p = Page.region g.val ∧ (o = Reg.rg_DIRTY_PEAK ∨ o = Reg.rg_RESENT_CNT ∨ o = Reg.rg_LOG_OVF) then 0#32 else s.reg p o) ∧
  (∀ (s : State) (temp : BitVec 8), Gives (.doubledRefresh temp) s fun t => t = { s with regs := t.regs } ∧
    t.reg (Page.mem 0) 0x080 = temp.zeroExtend 32 ∧ t.reg (Page.mem 0) 0x084 = if 85 < temp.toNat then 1#32 else 0#32)

/-- Memories: SCRUB_READ, REMAP_COPY, NAND_READ_RETRY, CLR_STATS, DOUBLED_REFRESH. -/
def MemoryRepairs : Prop := Scrubs ∧ Remaps ∧ MemoryRegisters

/-- R10, R193, R194, R197, R202: an engine that a swap waits for switches to the new bank first; a descriptor of length 0 is done at once; one longer than 65,536 bytes, which is counted, or with a range that the master-side check denies, is marked failed and moves no byte; in open mode a P0 descriptor between two sound ranges of region SRAM that do not overlap moves every byte and no other byte changes. -/
def DmaMoves : Prop :=
  ∀ (s : State) (g : Fin 8) (src dst : BitVec 40) (len : Word) (p : Priv) (migr : Bool),
    let s0 := s.drainAck (0x10 + g.val)
    (len = 0#32 → Gives (.dmaDescriptor g src dst len p migr) s fun t => t = { s0 with dma := t.dma } ∧
      t.dmaEng g.val = { stat := .done, moved := 0 }) ∧
    (65536 < len.toNat → Gives (.dmaDescriptor g src dst len p migr) s fun t => t = { s0 with dma := t.dma, regs := t.regs, jrn := t.jrn } ∧
      t.reg (Page.region g.val) Reg.com_ERRCNT = satInc (s.reg (Page.region g.val) Reg.com_ERRCNT) ∧ t.dmaEng g.val = { stat := .failed, moved := 0 }) ∧
    (0 < len.toNat → len.toNat ≤ 65536 → (s0.dmaCheck g.val p .read src.toNat len.toNat).2 = false ∨ (s0.dmaCheck g.val p .write dst.toNat len.toNat).2 = false →
      Gives (.dmaDescriptor g src dst len p migr) s fun t => t.mem = s.mem ∧ t.dmaEng g.val = { stat := .failed, moved := 0 }) ∧
    (0 < len.toNat → len.toNat ≤ 65536 → p = .p0 → s.prot.openMode = true → s.bankOf (0x10 + g.val) = s.epochBit →
      (∀ i < len.toNat, ∃ r < 8, targetOf (src.toNat + i) = some r) → (∀ i < len.toNat, ∃ r < 8, targetOf (dst.toNat + i) = some r) →
      (∀ i < len.toNat, Sound s (src.toNat + i) ∧ Sound s (dst.toNat + i)) →
      (src.toNat + len.toNat ≤ dst.toNat ∨ dst.toNat + len.toNat ≤ src.toNat) →
      Gives (.dmaDescriptor g src dst len p migr) s fun t =>
        t.dmaEng g.val = { stat := .done, moved := len.toNat } ∧ (∀ i < len.toNat, t.byte (dst.toNat + i) = s.byte (src.toNat + i)) ∧
        ∀ a, a < dst.toNat ∨ dst.toNat + len.toNat ≤ a → t.byte a = s.byte a)

/-- R199 to R202: SWAP starts a swap of every bank at once and counts an error while one is under way; a master at its switching point takes the new bank, and the last one completes the swap; a write reaches the shadow bank and never the active one; OPEN ends open mode. -/
def Obligations.RuleSwap : Prop :=
  (∀ s : State, s.swapBusy = false → Gives .swap s fun t => t = { s with regs := t.regs, prot := t.prot } ∧
    t.reg Page.pctrl Reg.pc_RULE_EPOCH = s.reg Page.pctrl Reg.pc_RULE_EPOCH + 1#32 ∧ t.swapBusy = true ∧ t.prot.complete = false ∧
    (∀ m, t.bankOf m = s.bankOf m) ∧ t.prot.rules = s.prot.rules) ∧
  (∀ s : State, s.swapBusy = true → exec .swap s = .next (s.err Page.pctrl)) ∧
  (∀ (s : State) (mid : BitVec 12), mid.toNat ∈ s.prot.pend → s.maySwitch mid.toNat = true →
    Gives (.drainAck mid) s fun t => t = { s with regs := t.regs, prot := t.prot } ∧ t.bankOf mid.toNat = s.epochBit ∧
      (∀ m, m ≠ mid.toNat → t.bankOf m = s.bankOf m) ∧ t.prot.pend = s.prot.pend.erase mid.toNat ∧ t.prot.rules = s.prot.rules ∧
      (s.prot.pend = [mid.toNat] → t.prot.complete = true ∧ t.reg Page.pctrl Reg.pc_SWAP_COUNT = satInc (s.reg Page.pctrl Reg.pc_SWAP_COUNT))) ∧
  (∀ (s : State) (p i : Nat) (v : Word), s.swapBusy = false → i < rulesOf p * 8 →
    Gives (.shadowBankWrite p i v) s fun t => t = { s with prot := t.prot } ∧
      t.bankWord p i false = v &&& ruleMask (pageTy p == some .target) (i % 8) ∧ (∀ q j, j < 256 → t.bankWord q j true = s.bankWord q j true) ∧
      ∀ j, j < 256 → j ≠ i → t.bankWord p j false = s.bankWord p j false) ∧
  (∀ (s : State) (p i : Nat) (v : Word), s.swapBusy = true → i < rulesOf p * 8 → exec (.shadowBankWrite p i v) s = .next (s.err p)) ∧
  (∀ s : State, exec .openEnd s = .next { s with prot := { s.prot with openMode := false } })

/-- Scrubbing, remapping, the memory registers and the region DMA. -/
def Obligations.MemoryUpkeep : Prop := MemoryRepairs ∧ DmaMoves

/-! ### The pair -/

/-- A module that holds the pass after a claim with an epoch: both own lines asserted, the epoch in use and in the keepsake (R217, R220, R227). -/
def Claimed (t : State) (e : Word) : Prop :=
  t.pair.role = .active ∧ t.pair.own1 = true ∧ t.pair.own2 = true ∧ t.pair.epoch = e ∧ t.pair.stored = e

/-- R81, R217, R223, R226, R227: a synchronised standby that sees both peer lines deasserted claims with the epoch E + 1 and goes on after its last acknowledged cycle with the forme and the committed image it holds, an online change whose switch bell has not rung ends, and no epoch 0xFFFF_FFFF is claimed. -/
def Takeovers : Prop :=
  (∀ (s : State) (e : Word), s.pair.role = .standbySync → s.saving = false → s.pair.nextEpoch = some e →
    e.toNat = s.pair.highest + 1 ∧ e ≠ 0xFFFFFFFF#32 ∧
    Gives .peerPassLost s fun t => Claimed t e ∧ t.bell.cycle = s.ackCyc ∧ t.bell.afterTakeover = true ∧ t.bell.firstRun = false ∧
      t.dirty.on = true ∧ t.forme = s.forme ∧ (twf (fun _ => false) s.outDirty = true → ∀ h, t.outCom h = s.outCom h) ∧ t.mem = s.mem ∧ t.prx.cycles = [] ∧
      t.reg Page.pair Reg.pair_SWO_COUNT = satInc (s.reg Page.pair Reg.pair_SWO_COUNT) ∧
      t.reg Page.pair Reg.pair_LAST_SWO = BitVec.ofNat 32 (16 + s.pair.takeCause) ∧
      bit (t.reg Page.pair Reg.com_INT_RAW) 1 = true ∧ (s.olc.stat.final = false → s.switchDue = false → t.olc.stat = .cancelled)) ∧
  (∀ s : State, s.pair.role = .standbySync → s.saving = false → s.pair.nextEpoch = none →
    Gives .peerPassLost s fun t => t.pair.role = .standbySync ∧ t.pair.epoch = s.pair.epoch ∧ t.pair.own1 = s.pair.own1 ∧ t.pair.own2 = s.pair.own2)

/-- R230, R236: an unsynchronised standby claims only with UNSYNC_CLAIM and not while suspended, and then is in Stop with Hold taken as Off, said where the forme entries of the outputs are free to be written. -/
def UnsyncClaims : Prop :=
  (∀ (s : State) (e : Word), s.pair.role = .standbyUnsync → s.saving = false → s.unsyncClaim = true → s.pair.suspended = false → s.pair.nextEpoch = some e →
    FormeFree s s.outputs →
    Gives .peerPassLost s fun t => Claimed t e ∧ t.bell.mode = .stop ∧ t.bell.runReq = false ∧
      (∀ h, h ∈ s.outputs → tget (fun _ => none) s.proj.safe h = some .hold →
        (t.formeSlot h).value = 0#32 ∧ (t.formeSlot h).status = 0x8070#16 ∧ (t.outEnt h).newer.value = 0#32) ∧
      (∀ h v, h ∈ s.outputs → tget (fun _ => none) s.proj.safe h = some (.subst v) → (t.formeSlot h).value = v ∧ (t.outEnt h).newer.value = v)) ∧
  (∀ s : State, s.pair.role = .standbyUnsync → s.saving = false → (s.unsyncClaim && !s.pair.suspended) = false →
    Gives .peerPassLost s fun t => t.pair.role = .standbyUnsync ∧ t.pair.own1 = s.pair.own1 ∧ t.pair.own2 = s.pair.own2 ∧ t.pair.epoch = s.pair.epoch)

/-- R213, R219, R220, R567 step 10: at step 9 a module that sees both peer lines asserted becomes STANDBY_UNSYNC, one without a partner and START_ALONE stays STARTING, any other asserts both lines with the next epoch; without a partner it is ACTIVE at once, in Stop, beside one it stays STARTING while it can lose the tie (the model's reading: notes/assumptions/35.md). The forme entries of the outputs are free to be written. -/
def RoleDecisions : Prop :=
  ∀ (s : State) (peer : BitVec 2), s.pair.role = .starting → 8 ≤ s.fld Page.clk Reg.clk_STARTUP_STEP 0 4 → s.sec.recovery = false → s.saving = false →
    s.pair.cold = false → FormeFree s s.outputs →
    (peer = 3#2 → Gives (.roleDecision peer) s fun t => t.pair.role = .standbyUnsync ∧ t.pair.own1 = s.pair.own1 ∧ t.pair.own2 = s.pair.own2 ∧
      t.reg Page.clk Reg.clk_STARTUP_STEP = 0xF#32) ∧
    (peer ≠ 3#2 → s.pair.peerPresent = false → s.startAlone = false → Gives (.roleDecision peer) s fun t => t = { s with pair := t.pair } ∧
      t.pair.role = .starting ∧ t.pair.own1 = s.pair.own1) ∧
    (∀ e, peer ≠ 3#2 → s.pair.peerPresent = false → s.startAlone = true → s.pair.nextEpoch = some e →
      Gives (.roleDecision peer) s fun t => Claimed t e ∧ t.pair.claimWin = true ∧ t.bell.mode = .stop ∧
        t.reg Page.pair Reg.pair_LAST_SWO = 0x15#32 ∧ t.reg Page.clk Reg.clk_STARTUP_STEP = 0xF#32) ∧
    (∀ e, peer ≠ 3#2 → s.pair.peerPresent = true → s.pair.nextEpoch = some e →
      Gives (.roleDecision peer) s fun t => t = { s with pair := t.pair } ∧ t.pair.role = .starting ∧ t.pair.own1 = true ∧ t.pair.own2 = true ∧
        t.pair.epoch = e ∧ t.pair.stored = e ∧ t.pair.claimWin = true ∧ t.pair.cold = true)

/-- The pass: PEER_PASS_LOST and ROLE_DECISION. -/
def PassClaims : Prop := Takeovers ∧ UnsyncClaims ∧ RoleDecisions

/-- R213 to R216, R218, R220, R222: the commands of the pass lines: a failure, a lost tie or a later claim and the pass keeper release both lines, a claim at start-up holds with the end of its window or with its drivers, the drivers are enabled only with the gate true and disabled without it, a disagreement of lines is a failure of the holder and LINE_FAULT otherwise. -/
def PassLines : Prop :=
  (∀ (s : State) (cause : Nat), s.alive = true → Gives (.moduleFailure cause) s fun t => t.pair.role = .failed ∧ t.pair.own1 = false ∧
    t.pair.own2 = false ∧ t.mem = s.mem ∧ t.forme = s.forme ∧ ∀ n : Fin 16, (t.core n.val).status = .idle) ∧
  (∀ s : State, Gives .passKeeperExpiry s fun t => t = { s with pair := t.pair } ∧ t.pair.own1 = false ∧ t.pair.own2 = false ∧ t.pair.role = s.pair.role) ∧
  (∀ s : State, s.pair.cold = false → Gives .claimWindowExpiry s fun t => t = { s with pair := { s.pair with claimWin := false } }) ∧
  (∀ s : State, s.pair.cold = true → FormeFree s s.outputs → Gives .claimWindowExpiry s fun t => t.pair.claimWin = false ∧ t.pair.role = .active ∧ t.pair.own1 = s.pair.own1 ∧
    t.bell.mode = .stop ∧ t.pair.epoch = s.pair.epoch ∧ t.reg Page.clk Reg.clk_STARTUP_STEP = 0xF#32) ∧
  (∀ (s : State) (tie later : Bool), s.alive = true → s.pair.own1 = true → s.pair.own2 = true → s.pair.cold = false ∨ FormeFree s s.outputs →
    ((tie = true ∧ s.pair.sideB = true) ∨ (tie = false ∧ later = true) →
      Gives (.passConflict tie later) s fun t => t.pair.role = .standbyUnsync ∧ t.pair.own1 = false ∧ t.pair.own2 = false ∧
        (s.pair.cold = false → t.dirty.on = false ∧ t.bell.cycleOpen = false ∧ t.bell.mode = s.bell.mode) ∧
        (s.pair.conflict = false → bit (t.reg Page.pair Reg.com_INT_RAW) 4 = true)) ∧
    (¬((tie = true ∧ s.pair.sideB = true) ∨ (tie = false ∧ later = true)) →
      Gives (.passConflict tie later) s fun t => t = { s with pair := { s.pair with peer1 := true, peer2 := true } })) ∧
  (∀ s : State, s.pair.clash = true → Gives .conflictTimeout s fun t => t.pair = { s.pair with conflict := true } ∧ t.forme = s.forme) ∧
  (∀ (s : State) (own peer : BitVec 2),
    (own = 3#2 → peer = 0#2 → s.alive = true → Gives (.driveEnable own peer) s fun t => t.pair.driveEn = true ∧
      (s.pair.cold = false → t.pair.role = s.pair.role) ∧ (s.pair.cold = true → FormeFree s s.outputs → t.pair.role = .active)) ∧
    (own ≠ 3#2 ∨ peer ≠ 0#2 → Gives (.driveEnable own peer) s fun t => t = { s with pair := t.pair } ∧ t.pair.driveEn = s.pair.driveEn) ∧
    (own ≠ 3#2 ∨ peer ≠ 0#2 → Gives (.passGateFalse own peer) s fun t => t.pair.driveEn = false ∧ t.pair.role = s.pair.role ∧ t.forme = s.forme) ∧
    (own = 1#2 ∨ own = 2#2 → s.pair.role = .active → Gives (.lineDisagreement own peer) s fun t => t.pair.role = .failed) ∧
    (own = 1#2 ∨ own = 2#2 → s.pair.role ≠ .active → Gives (.lineDisagreement own peer) s fun t => t.pair.role = s.pair.role ∧ t.pair.lineFault = true) ∧
    (own = 0#2 ∨ own = 3#2 → peer = 1#2 ∨ peer = 2#2 → Gives (.lineDisagreement own peer) s fun t =>
      t.pair.role = s.pair.role ∧ t.pair.lineFault = true))

/-- R213, R217, R221, R222, R224, R225, R231, R236, R239, R245, R255: attendance leaves while the strobe toggles and tells the current epoch, its loss ends the synchronised pair without a claim; a pair command at P0 or P1 does what the role permits and is otherwise counted as an error. -/
def Obligations.PairCommands : Prop :=
  (∀ (s : State) (tx : AttendTx), Gives (.attendSend tx) s fun t =>
    t = { s with pair := t.pair, sent := t.sent, wire := t.wire } ∧ t.pair.peer1 = tx.peer.getLsbD 0 ∧ t.pair.peer2 = tx.peer.getLsbD 1 ∧ t.pair.role = s.pair.role ∧
    (tx.strobe = true → s.pair.role.attends = true → s.linkUp = true → t.sent =
      { what := .attend, args := [s.pair.current.toNat, s.pair.role.code, s.attFlags, s.bell.cycle, s.ackCyc] } :: s.sent) ∧
    (tx.strobe = false ∨ s.pair.role.attends = false ∨ s.linkUp = false → t.sent = s.sent)) ∧
  (∀ s : State, s.pair.attSeen = true → s.pair.attLost = false →
    (s.pair.role = .active → Gives .attendanceLost s fun t => t.pair.role = .active ∧ t.pair.syncPair = false ∧ t.pair.partnerLost = true ∧
      t.pair.attLost = true ∧ t.bell.waitAck = false ∧
      t.reg Page.pair Reg.pair_ATT_LOSS_TOTAL = satInc (s.reg Page.pair Reg.pair_ATT_LOSS_TOTAL)) ∧
    (s.pair.role = .standbySync → s.pair.peer1 = true ∨ s.pair.peer2 = true → Gives .attendanceLost s fun t => t.pair.role = .standbyUnsync ∧ t.pair.attLost = true ∧
      t.pair.own1 = s.pair.own1 ∧ t.pair.own2 = s.pair.own2 ∧ t.prx.cycles = []) ∧
    (s.pair.role = .standbySync → s.pair.peer1 = false → s.pair.peer2 = false → Gives .attendanceLost s fun t => t.pair.role = .standbySync ∧ t.pair.attLost = true ∧
      t.pair.own1 = s.pair.own1 ∧ t.pair.own2 = s.pair.own2) ∧
    (s.pair.role = .standbyUnsync ∨ s.pair.role = .maintenance → Gives .attendanceLost s fun t => t.pair.role = s.pair.role ∧ t.pair.attLost = true)) ∧
  (∀ (s : State) (p : Priv), p ≠ .p2 →
    (s.pairMay .switchover = true → Gives (.switchover p) s fun t =>
      t = { s with pair := { s.pair with swoAt := some (if s.bell.cycleOpen then s.bell.cycle else cycNext s.bell.cycle) } }) ∧
    (s.pairMay .suspend = true → Gives (.suspend p) s fun t => t = { s with pair := { s.pair with suspendReq := true } }) ∧
    (s.isActive = true → Gives (.pairResume p) s fun t => t = { s with pair := { s.pair with suspended := false, suspendReq := false } }) ∧
    (s.pairMay .maintEnter = true → Gives (.maintEnter p) s fun t => t.pair.role = .maintenance ∧ t.pair.syncPair = false ∧
      (s.isActive = true → t.pair.own1 = false ∧ t.pair.own2 = false ∧ t.pair.driveEn = false)) ∧
    (s.pair.role = .maintenance → Gives (.maintLeave p) s fun t => t.pair.role = .starting ∧ t.forme = s.forme ∧ t.mem = s.mem) ∧
    (s.canResync = true → Gives (.resync p) s fun t => t.pair = { s.pair with resyncBusy := true } ∧ t.sent.head? = some { what := .resyncReq, args := [s.link.xfer.kind.code, s.link.xfer.length] }) ∧
    (s.synced = true → Gives (.raise p) s fun t => t = { s with pair := { s.pair with raiseAt := some ((s.bell.cycle + 4) % 2 ^ 48) } })) ∧
  (∀ (s : State) (c : PairCmd) (e : Priv → Instr), (c, e) ∈ [(PairCmd.switchover, Instr.switchover), (.suspend, .suspend), (.resume, .pairResume),
      (.maintEnter, .maintEnter), (.maintLeave, .maintLeave), (.resync, .resync), (.raise, .raise)] →
    exec (e .p2) s = .next (s.err Page.pair) ∧
    ∀ p, p ≠ .p2 → s.pairMay c = false → Gives (e p) s fun t => t = { s with regs := t.regs, jrn := t.jrn })

/-! ### The partner link and the proof -/

/-- R249, R250, R264: training, alignment and loss of the link lanes, and the capability frame sent until the partner's has shown that it was received. -/
def LinkLanes : Prop :=
  (∀ (s : State) (q : List Word) (skew : BitVec 8), s.link.st = .training → Gives (.linkBlockLock q skew) s fun t =>
    t = { s with link := t.link, regs := t.regs } ∧ t.link.st = .aligned ∧ t.reg Page.link Reg.link_DESKEW = skew.zeroExtend 32 ∧
    ∀ i < 4, t.reg Page.link (Reg.link_LANE_Q i) = q.getD i 0#32 &&& 0xFFFF#32) ∧
  (∀ s : State, s.link.st = .aligned → Gives .linkUp s fun t => t = { s with link := t.link, regs := t.regs } ∧ t.link.st = .up ∧
    bit (t.reg Page.link Reg.com_INT_RAW) 0 = true) ∧
  (∀ (s : State) (lanes : BitVec 4), s.link.st = .up → Gives (.linkLoss lanes) s fun t =>
    t.link.st = (if s.pair.peerPresent && s.rbit Page.link Reg.link_LINK_CFG 0 then .training else .down) ∧ t.link.xfer.busy = false ∧
    t.reg Page.link Reg.link_LINK_DOWN_CNT = satInc (s.reg Page.link Reg.link_LINK_DOWN_CNT) ∧ t.pair.role = s.pair.role) ∧
  (∀ s : State, Gives (.peerPresN false) s fun t => t.pair.peerPresent = false ∧ t.link.st = .down ∧ t.pair.role = s.pair.role) ∧
  (∀ s : State, Gives (.peerPresN true) s fun t => t.pair.peerPresent = true ∧ t.pair.role = s.pair.role ∧
    (s.link.st = .down → t.link.st = if s.rbit Page.link Reg.link_LINK_CFG 0 then .training else .down)) ∧
  (∀ s : State, s.linkUp = true → s.alive = true → s.link.capsDone = false → Gives .capsSend s fun t => t = { s with sent := t.sent, wire := t.wire } ∧
    t.sent = { what := .caps, args := s.ownCaps.args } :: s.sent) ∧
  (∀ s : State, s.linkUp = false ∨ s.alive = false ∨ s.link.capsDone = true → exec .capsSend s = .next s)

/-- A frame of the partner that the checks of R252 accept: the module is not FAILED (R214), and length, CRC, check sum and version stand. -/
abbrev Passes (s : State) (w : Out) (ident : Word) (args : List Nat) (tr : Trailer) : Prop := s.alive = true ∧ s.linkCheck w ident args tr = none

/-- The trailer of a frame as its sender forms it (R251, R252). -/
def sealed (w : Out) (ident : Word) (args : List Nat) (ver : Nat) : Trailer :=
  let body := linkBody w args
  { ver := ver, csum := codeSum body, crc := crc32c (linkHeader (linkType w) ver (linkParam ident w args) body ++ body) }

/-- The fields, the transfer ID and the trailer of a frame that is discarded alone where a check fails (R252). -/
def frameOf : Instr → Option (Out × Word × List Nat × Trailer)
  | .caps c e => some (.caps, 0#32, c.args, e)
  | .attend a e => some (.attend, 0#32, a.args, e)
  | .resign r e => some (.resign, 0#32, [r], e)
  | .proofBegin b e => some (.proofBegin, 0#32, b.args, e)
  | .proofEnd x e => some (.proofEnd, 0#32, x.args, e)
  | .stopMark c e => some (.stopMark, 0#32, [c], e)
  | .proofAck a e => some (.proofAck, 0#32, [a.cyc, a.lines, a.frames], e)
  | .proofNak c q e => some (.proofNak, 0#32, c :: q.map BitVec.toNat, e)
  | .xferOpen i k l d e => some (.xferOpen, i, [i.toNat, k.code, l, d.toNat], e)
  | .xferData i o b e => some (.xferData, i, i.toNat :: o :: b.map BitVec.toNat, e)
  | .xferAck i o e => some (.xferAck, i, [i.toNat, o], e)
  | .xferClose h e => some (.xferClose, h.ident, [h.ident.toNat, h.kind.code, h.len], e)
  | .xferStaged h d e => some (.xferStaged, h.ident, [h.ident.toNat, d.toNat, h.kind.code, h.len], e)
  | .xferArm x e => some (.xferArm, x.ident, [x.value, x.kind.code, x.len], e)
  | .xferConfirm x e => some (.xferConfirm, x.ident, [x.value, x.kind.code, x.len], e)
  | .xferCancel x e => some (.xferCancel, x.ident, [x.value, x.kind.code, x.len], e)
  | .resyncReq x => some (.resyncReq, x.ident, [x.kind.code, x.len], x.tr)
  | _ => none

/-- R214, R252, R264, R276: a frame that fails a check changes nothing but the counter of its cause, FRAME_ERR and a record, and a failed module takes no frame. A frame of at most 137 blocks with the trailer of its sender and a permitted version passes; one whose CRC or check sum differs, or whose version is not permitted, does not. -/
def FramesChecked : Prop :=
  (∀ (i : Instr) (s : State) (f : Out × Word × List Nat × Trailer), frameOf i = some f →
    (s.alive = false → exec i s = .next s) ∧
    (∀ e, s.linkCheck f.1 f.2.1 f.2.2.1 f.2.2.2 = some e → s.alive = true → Gives i s fun t => t = { s with regs := t.regs, jrn := t.jrn } ∧
      bit (t.reg Page.link Reg.com_INT_RAW) 2 = true ∧
      ∀ x ∈ [(LinkErr.crc, Reg.link_CRC_ERR), (.csum, Reg.link_CSUM_ERR), (.len, Reg.link_LEN_ERR), (.ver, Reg.link_VER_ERR)],
        t.reg Page.link x.2 = if x.1 = e then satInc (s.reg Page.link x.2) else s.reg Page.link x.2)) ∧
  (∀ (s : State) (w : Out) (ident : Word) (args : List Nat) (ver : Nat), (linkBody w args).length ≤ 1088 →
    (s.verOk w ver = true → s.linkCheck w ident args (sealed w ident args ver) = none) ∧
    (s.verOk w ver = false → s.linkCheck w ident args (sealed w ident args ver) = some .ver) ∧
    (∀ c, c ≠ (sealed w ident args ver).crc → s.linkCheck w ident args { sealed w ident args ver with crc := c } = some .crc) ∧
    (∀ c, c ≠ (sealed w ident args ver).csum → s.linkCheck w ident args { sealed w ident args ver with csum := c } = some .csum))

/-- R214, R225, R231, R236, R238, R246, R255, R256, R270: what the frames of the partner do: the first capability frame is negotiated on, attendance renews the partner's sign of life and reports a lost or suspended pair to the standby, a resign notice keeps its reason on a module that is not active and ends the synchronised pair on the active one; one that comes after the takeover it belongs to gives its cause, and after a planned one the pair is synchronised. -/
def PartnerFrames : Prop :=
  (∀ (s : State) (c : Caps) (tr : Trailer), Passes s .caps 0#32 c.args tr → Gives (.caps c tr) s fun t => t.pair.peer = some c ∧ t.link.gotPeer = true ∧
    t.link.capsDone = (s.link.capsDone || c.gotPeer) ∧ t.pair.role = s.pair.role ∧ t.pair.known.toNat = max s.pair.known.toNat c.epoch.toNat ∧
    (s.link.gotPeer = false → t.pair.agreedOk = s.negotiate c) ∧
    (s.link.gotPeer = false → s.negotiate c = false → s.pair.role = .standbyUnsync → t.pair.negFail = true)) ∧
  (∀ (s : State) (a : Attend) (tr : Trailer), Passes s .attend 0#32 a.args tr → Gives (.attend a tr) s fun t => t.pair.attSeen = true ∧ t.pair.attAt = s.now ∧
    t.pair.attLost = false ∧ t.pair.peerRole = a.role ∧ t.pair.own1 = s.pair.own1 ∧ t.pair.own2 = s.pair.own2 ∧
    t.pair.known.toNat = max s.pair.known.toNat a.epoch.toNat ∧
    (s.pair.role = .standbySync → a.role = .active → a.partnerLost = true → t.pair.role = .standbyUnsync) ∧
    (s.pair.role = .active → a.role = .standbyUnsync → t.pair.syncPair = false)) ∧
  (∀ (s : State) (reason : Nat) (tr : Trailer), Passes s .resign 0#32 [reason] tr → Gives (.resign reason tr) s fun t => t.pair.role = s.pair.role ∧
    (s.pair.role ≠ .active → t = { s with pair := { s.pair with resign := reason } }) ∧
    (s.pair.role = .active → s.pair.notice = false → s.pair.syncPair = true → t.pair.syncPair = false ∧ t.pair.partnerLost = true) ∧
    (s.pair.role = .active → s.pair.notice = false → s.pair.syncPair = false → t = s) ∧
    (s.pair.role = .active → s.pair.notice = true → t.pair.notice = false ∧ t.bell = s.bell ∧
      t.pair.syncPair = (s.pair.syncPair || decide (reason = 2)) ∧
      (t.reg Page.pair Reg.pair_LAST_SWO).toNat % 16 = if reason = 1 then 2 else if reason = 2 then 3 else 1))

/-- The link: LINK_BLOCK_LOCK, LINK_UP, LINK_LOSS, PEER_PRES_N, CAPS_SEND, CAPS, ATTEND, RESIGN, and the check of every frame. -/
def Obligations.LinkFrames : Prop := LinkLanes ∧ FramesChecked ∧ PartnerFrames

/-- R179, R180, R188, R196, R257, R263, R277: the proof engine takes a dirty line that its target lets it read, clears its mark and puts it into the proof, and ends the proof once the cycle is complete and no line is dirty; CLR_PEAK clears two registers. -/
def ProofSends : Prop :=
  (∀ (s : State) (a : Nat), s.isActive = true → s.ptx.began = true → tmem s.dirty.marked a = true →
    (s.fixedMay 0x020 .read a 64).2 = true → s.upsets = [] →
    Gives (.proofTake a) s fun t => tmem t.dirty.marked a = false ∧
      (∀ b, b ≠ a → tmem t.dirty.marked b = tmem s.dirty.marked b) ∧ t.ptx.lines = s.ptx.lines + 1 ∧ t.mem = s.mem ∧ t.outImg = s.outImg ∧ t.forme = s.forme) ∧
  (∀ s : State, s.isActive = true → s.ptx.began = true → s.ptx.done = true → s.dirty.marked = [] →
    Gives .proofEndDecision s fun t => t.ptx.began = false ∧ t.ptx.st = .endSent ∧ t.bell.proofEndSent = true ∧ t.bell.proofEndAt = s.now ∧
      t.ptx.unacked.length = s.ptx.unacked.length + 1 ∧ t.mem = s.mem ∧ t.forme = s.forme) ∧
  (∀ s : State, Gives .clrPeak s fun t => t = { s with regs := t.regs } ∧ t.reg Page.proof Reg.proof_PEAK_BYTES = 0#32 ∧
    t.reg Page.proof Reg.proof_MAX_ACK_LAT = 0#32)

/-- R57, R71, R255, R258 to R269: what the standby and the active do with the frames of a proof. -/
def ProofReceives : Prop :=
  (∀ (s : State) (b : ProofBegin) (tr : Trailer), Passes s .proofBegin 0#32 b.args tr → s.pair.role = .standbySync → s.pair.resyncBusy = false →
    Gives (.proofBegin b tr) s fun t =>
    t = { s with prx := t.prx, dirty := { s.dirty with ranges := t.dirty.ranges } } ∧ t.prx.cycles = s.prx.cycles ++ [{ head := b }] ∧ t.prx.nextSeq = some b.firstSeq) ∧
  (∀ (s : State) (c : RxCycle) (seq : Word) (tr : Trailer) (body : ProofBody), s.pair.role = .standbySync → s.prx.cycles = [c] → c.frames = [] →
    seq = c.head.firstSeq → s.prx.nextSeq = some seq →
    let f : ProofFrame := { seq := seq, body := body, crc := tr.crc }
    Passes s body.out 0#32 f.args tr → s.frameBad f = false →
    let i := match body with | .lines l => Instr.proofData seq l tr.crc tr.toSeal | .posts l => .proofJournal seq l tr.crc tr.toSeal | .ctrls l => .proofCtrl seq l tr.crc tr.toSeal
    Gives i s fun t => t.prx.cycles = [{ c with frames := [f] }] ∧ t.prx.nextSeq = some (seq + 1#32) ∧ t.mem = s.mem ∧ t.forme = s.forme ∧ t.pair = s.pair ∧
      t.inImg = s.inImg) ∧
  (∀ (s : State) (c : RxCycle) (e : ProofEnd) (tr : Trailer), Passes s .proofEnd 0#32 e.args tr → s.pair.role = .standbySync → s.prx.cycles = [c] →
    c.tail = none → c.head.cyc = e.cyc → e.reserved = false → ({ c with tail := some e } : RxCycle).missing (s.prx.nextSeq.getD c.head.firstSeq) = [] →
    Gives (.proofEnd e tr) s fun t => t = { s with prx := t.prx } ∧ t.prx.cycles = [{ c with tail := some e }]) ∧
  (∀ (s : State) (c : RxCycle) (e : ProofEnd), s.pair.role = .standbySync → s.pair.resyncBusy = false → s.prx.cycles = [c] → c.tail = some e →
    c.matches e = true → c.head.mode = 1 → c.head.stopTask = false → s.olc.stat.final = true → s.upsets = [] →
    Gives .proofCommit s fun t => t.ackCyc = e.cyc % 2 ^ 48 ∧ t.bell.cycle = c.head.cyc ∧ t.bell.formeCyc = c.head.cyc ∧ t.bell.mode = .run ∧
      t.outDirty = [] ∧ t.prx.cycles = [] ∧ t.prx.apply = s.prx.apply ++ [{ c with cal := s.tb.calendar }] ∧ t.pair = { s.pair with goFirst := false }) ∧
  (∀ (s : State) (c : RxCycle) (rest : List RxCycle), s.prx.apply = c :: rest → Gives .applyComplete s fun t => t.prx.apply = rest ∧ t.forme = s.forme ∧
    t.outImg = s.outImg ∧ t.bell = s.bell ∧ t.reg Page.proof Reg.proof_APPLY_LAG = BitVec.ofNat 32 (s.now - s.prx.commitAt)) ∧
  (∀ (s : State) (cyc : Nat) (tr : Trailer), Passes s .stopMark 0#32 [cyc] tr → s.pair.role = .standbySync →
    s.prx.cycles = [] ∨ (∃ c ∈ s.prx.cycles, c.head.cyc = cyc) → FormeFree s s.outputs → Gives (.stopMark cyc tr) s fun t =>
    t.pair.role = .standbyUnsync ∧ t.bell.mode = .stop ∧ t.prx.cycles = []) ∧
  (∀ (s : State) (c : TxCycle) (l f : Nat) (tr : Trailer), Passes s .proofAck 0#32 [c.cyc, l, f] tr → s.isActive = true → s.ptx.unacked = [c] →
    s.ptx.resync = .none → c.cyc = s.bell.cycle → Gives (.proofAck { cyc := c.cyc, lines := l, frames := f } tr) s fun t =>
    t.bell = { s.bell with ackRcvd := true } ∧ t.ptx.unacked = [] ∧ t.ackCyc = c.cyc % 2 ^ 48 ∧
    t.reg Page.proof Reg.proof_LAST_ACK_LAT = BitVec.ofNat 32 (s.now - c.endAt)) ∧
  (∀ (s : State) (cyc : Nat) (x : ProofFrame) (tr : Trailer), Passes s .proofNak 0#32 [cyc, x.seq.toNat] tr → s.isActive = true →
    s.linkMay x.body.out = true → s.ptx.replay = [(cyc, x)] → Gives (.proofNak cyc [x.seq] tr) s fun t =>
    t = { s with regs := t.regs, sent := t.sent, wire := t.wire } ∧ t.sent = { what := x.body.out, args := x.args } :: s.sent ∧
    t.reg Page.link Reg.link_NAK_RX = satInc (s.reg Page.link Reg.link_NAK_RX) ∧ t.reg Page.link Reg.link_RESENT = satInc (s.reg Page.link Reg.link_RESENT))

/-- The proof of a cycle on both sides: PROOF_TAKE, PROOF_END_DECISION, CLR_PEAK, PROOF_BEGIN, PROOF_DATA, PROOF_JOURNAL, PROOF_CTRL, PROOF_END, PROOF_COMMIT, APPLY_COMPLETE, STOP_MARK, PROOF_ACK, PROOF_NAK. -/
def Obligations.ProofStream : Prop := ProofSends ∧ ProofReceives

/-- This module receives, or sends, the transfer with an ID. -/
abbrev Receiving (s : State) (i : Word) : Prop := s.link.xfer.busy = true ∧ s.link.xfer.sending = false ∧ s.link.xfer.ident = i
abbrev Sending (s : State) (i : Word) : Prop := s.link.xfer.busy = true ∧ s.link.xfer.sending = true ∧ s.link.xfer.ident = i

/-- R10, R77, R79, R271, R274, R276: the receiver of a transfer: OPEN is answered with the digest of the own configuration or project, and with a package a change is STAGING; the bytes that join on are held, and what lies past the total length is discarded; CLOSE of a package whose content has its digest stages the change. -/
def TransferReceiver : Prop :=
  (∀ (s : State) (i : Word) (len : Nat) (d : BitVec 256) (tr : Trailer), Passes s .xferOpen i [i.toNat, 2, len, d.toNat] tr →
    (s.link.xfer.busy = false ∨ s.link.xfer.sending = false) → len ≤ 2 ^ 31 →
    Gives (.xferOpen i .package len d tr) s fun t => t = { s with link := t.link, olc := { stat := .staging } } ∧
    Receiving t i ∧ t.link.xfer.length = len ∧ t.link.xfer.content = [] ∧ t.link.xfer.ver = tr.ver) ∧
  (∀ (s : State) (i : Word) (len : Nat) (d : BitVec 256) (tr : Trailer), Passes s .xferOpen i [i.toNat, 1, len, d.toNat] tr →
    (s.link.xfer.busy = false ∨ s.link.xfer.sending = false) → len ≤ 0x800000 → (s.linkMay .xferStaged = true) →
    Gives (.xferOpen i .config len d tr) s fun t => t.link.xfer.ident = i ∧ t.link.xfer.lastOp = 3 ∧ t.cfg = s.cfg ∧
    t.sent = { what := .xferStaged, args := [i.toNat, (Config.shake256 s.cfg.bytes).toNat, 1, len] } :: s.sent ∧
    t.link.xfer.busy = !(decide (Config.shake256 s.cfg.bytes = d))) ∧
  (∀ (s : State) (i : Word) (b : List Byte) (tr : Trailer), Receiving s i →
    Passes s .xferData i (i.toNat :: s.link.xfer.content.length :: b.map BitVec.toNat) tr →
    (s.link.xfer.content.length + b.length ≤ s.link.xfer.length → Gives (.xferData i s.link.xfer.content.length b tr) s fun t =>
      t = { s with link := t.link, sent := t.sent, wire := t.wire } ∧ t.link.xfer.content = s.link.xfer.content ++ b) ∧
    (s.link.xfer.length < s.link.xfer.content.length + b.length → Gives (.xferData i s.link.xfer.content.length b tr) s fun t =>
      t = { s with regs := t.regs, jrn := t.jrn } ∧ t.reg Page.link Reg.link_LEN_ERR = satInc (s.reg Page.link Reg.link_LEN_ERR))) ∧
  (∀ (s : State) (h : XferHead) (tr : Trailer), Passes s .xferClose h.ident [h.ident.toNat, h.kind.code, h.len] tr → Receiving s h.ident → s.link.xfer.kind = .package →
    s.link.xfer.content.length = s.link.xfer.length → Config.shake256 s.link.xfer.content = s.link.xfer.digest → Gives (.xferClose h tr) s fun t =>
    t.link.xfer.busy = false ∧ t.link.xfer.lastOp = 3 ∧ t.olc.stat = .staged ∧ t.olc.pkg = some (Config.pkgOf s.link.xfer.content) ∧ t.pair = s.pair ∧
    ∀ x, s.proj.uses x = true → t.byte x = s.byte x)

/-- R77, R79, R271 to R273, R276: the sender of a transfer: an acknowledgement moves its offset; STAGED with the digest ends it, stages a package here too, and with another digest, after the CLOSE, abandons it; after the OPEN the data and the CLOSE follow; what is not acknowledged is sent again. -/
def TransferSender : Prop :=
  (∀ (s : State) (i : Word) (off : Nat) (tr : Trailer), Passes s .xferAck i [i.toNat, off] tr → Sending s i → off ≤ s.link.xfer.length →
    Gives (.xferAck i off tr) s fun t => t = { s with link := { s.link with xfer := { s.link.xfer with acked := max s.link.xfer.acked off } } }) ∧
  (∀ (s : State) (h : XferHead) (p : OlcPkg) (tr : Trailer), Passes s .xferStaged h.ident [h.ident.toNat, s.link.xfer.digest.toNat, h.kind.code, h.len] tr → Sending s h.ident →
    s.link.xfer.kind = .package → s.olc.stat = .staging → s.olc.pkg = some p → Gives (.xferStaged h s.link.xfer.digest tr) s fun t =>
    t.link.xfer.busy = false ∧ t.olc.stat = .staged ∧ t.olc.pkg = some p ∧ t.pair = s.pair) ∧
  (∀ (s : State) (h : XferHead) (d : BitVec 256) (tr : Trailer), Passes s .xferStaged h.ident [h.ident.toNat, d.toNat, h.kind.code, h.len] tr → Sending s h.ident → d ≠ s.link.xfer.digest →
    (s.link.xfer.lastOp = 1 → Gives (.xferStaged h d tr) s fun t => Sending t h.ident ∧ t.link.xfer.lastOp = 2 ∧ t.olc = s.olc ∧ t.pair = s.pair) ∧
    (s.link.xfer.lastOp ≠ 1 → s.link.xfer.kind = .package → s.olc.stat.final = false → Gives (.xferStaged h d tr) s fun t =>
      t.link.xfer.busy = false ∧ t.link.xfer.failed = true ∧ t.olc.stat = .digestFail ∧ t.olc.pkg = none)) ∧
  (∀ s : State, s.link.xfer.busy = true → s.link.xfer.sending = true → Gives .xferResend s fun t =>
    t = { s with sent := t.sent, wire := t.wire, link := t.link } ∧ t.link.xfer.busy = true ∧ t.link.xfer.content = s.link.xfer.content ∧
    t.link.xfer.acked = s.link.xfer.acked ∧ (s.linkMay .xferOpen = true → s.sent.length < t.sent.length))

/-- R79, R271 to R275: ARM of a staged change is confirmed by the standby, CONFIRM of the same k_s arms it on the active, CANCEL frees what was stored and ends change and resynchronisation, RESYNC_REQ makes the active offer its configuration, and a failed resynchronisation is asked for again. -/
def TransferControl : Prop :=
  (∀ (s : State) (x : XferValue) (tr : Trailer), Passes s .xferArm x.ident [x.value, x.kind.code, x.len] tr → s.pair.role = .standbySync → s.olc.stat = .staged → Gives (.xferArm x tr) s fun t =>
    t = { s with link := t.link, olc := t.olc, sent := t.sent, wire := t.wire } ∧ t.olc.stat = .armed ∧ t.olc.ks = x.value ∧ t.olc.confirmed = true) ∧
  (∀ (s : State) (x : XferValue) (tr : Trailer), Passes s .xferConfirm x.ident [x.value, x.kind.code, x.len] tr → s.olc.stat = .staged → x.value ≠ 0 → Gives (.xferConfirm x tr) s fun t =>
    t = { s with link := t.link, olc := t.olc } ∧ t.olc.stat = if s.olc.ks = x.value then .armed else .staged) ∧
  (∀ (s : State) (x : XferValue) (tr : Trailer), Passes s .xferCancel x.ident [x.value, x.kind.code, x.len] tr →
    (s.link.xfer.busy = false ∨ s.link.xfer.ident = x.ident → Gives (.xferCancel x tr) s fun t => t.link.xfer.busy = false ∧ t.pair.resyncBusy = false ∧
      t.proj = s.proj ∧ (s.olc.stat.final = false → t.olc.stat.final = true)) ∧
    (s.link.xfer.busy = true → s.link.xfer.ident ≠ x.ident → exec (.xferCancel x tr) s = .next s)) ∧
  (∀ (s : State) (x : XferBare), Passes s .resyncReq x.ident [x.kind.code, x.len] x.tr → s.isActive = true → s.pair.suspended = false → s.pair.agreedOk = true →
    s.link.xfer.busy = false → Gives (.resyncReq x) s fun t =>
    t.ptx.resync = .config ∧ t.pair.syncPair = false ∧ t.link.xfer.busy = true ∧ t.link.xfer.kind = .config ∧ t.link.xfer.content = s.cfg.bytes) ∧
  (∀ s : State, s.link.retry = true → s.canResync = true → Gives .resyncRetry s fun t => t.pair = { s.pair with resyncBusy := true } ∧
    t.link = { s.link with retry := false, xfer := { s.link.xfer with lastOp := 7 } } ∧ t.sent.head? = some { what := .resyncReq, args := [s.link.xfer.kind.code, s.link.xfer.length] })

/-- The transfers of the partner link: XFER_OPEN, XFER_DATA, XFER_ACK, XFER_CLOSE, XFER_STAGED, XFER_ARM, XFER_CONFIRM, XFER_CANCEL, XFER_RESEND, RESYNC_REQ, RESYNC_RETRY. -/
def Obligations.Transfers : Prop := TransferReceiver ∧ TransferSender ∧ TransferControl

/-- Claims of the pass and the pass lines. -/
def Obligations.PassCommands : Prop := PassClaims ∧ PassLines

/-! ### The loop engines -/

/-- The measurements of loop l of engine e, as its bindings name them (R291). -/
def boundVals (s : State) (e l : Nat) : List MChan := (List.range (s.lp e l)).map (fun i => s.bindVal e (s.dscH e l 0x20 i))

/-- A loop that samples and puts out undisturbed: its engine runs outside a step gap, no request, snapshot or recipe waits for it, its descriptor and its setpoint block read without an error. -/
abbrev Quiet (s : State) (e : Fin 2) (l : BitVec 9) : Prop :=
  s.loopRuns e.val l.toNat = true ∧ (s.eng e.val).slip = false ∧ (s.loop e.val l.toNat).reqs = [] ∧ (s.lfl e.val l.toNat).staged = false ∧
  s.rcpOf e.val l.toNat = none ∧ tkeys s.upsets (leBase e.val + l.toNat * 0x800) (leBase e.val + l.toNat * 0x800 + 0x800) = [] ∧
  tkeys s.upsets (leBase e.val + (0x180000 + l.toNat * 0x80)) (leBase e.val + (0x180000 + l.toNat * 0x80) + 0x80) = []

/-- R282, R284, R292, R293, R304: LOOP_SAMPLE captures every measurement of the loop with its class and the manual values, counts the bad samples in a row and finds the measurement fault: in an automatic mode in every sample whose count is beyond BAD_TOL, in another mode in the one that brings it beyond (the model's reading: notes/assumptions/58.md); no output moves. In a step gap the sample is lost. -/
def SampleCaptures : Prop :=
  (∀ (s : State) (e : Fin 2) (l : BitVec 9) (j : Nat), Quiet s e l → (s.loop e.val l.toNat).mode ≠ 7 →
    Gives (.loopSample e l j) s fun t =>
      (∃ c, (t.loop e.val l.toNat).cap = some c ∧ c.j = j ∧ c.lost = false ∧ c.y = (boundVals s e.val l.toNat).map (·.value) ∧
        c.good = (boundVals s e.val l.toNat).map (fun v => (s.classify e.val l.toNat j v).1) ∧
        (t.lfl e.val l.toNat).badRun = (if c.good.all id then 0 else (s.lfl e.val l.toNat).badRun + 1) ∧
        c.mv = (s.loop e.val l.toNat).mv ∧
        (let tol := s.dscF e.val l.toNat 0xC 16 8
         let run := (t.lfl e.val l.toNat).badRun
         c.fault = true ↔ if isAutoMode (s.loop e.val l.toNat).mode = true ∧ (s.lfl e.val l.toNat).stopAct = 0 then tol < run else run = tol + 1)) ∧
      (t.loop e.val l.toNat).u = (s.loop e.val l.toNat).u ∧ (t.loop e.val l.toNat).mode = (s.loop e.val l.toNat).mode ∧
      ((s.lfl e.val l.toNat).reload = false → (t.loop e.val l.toNat).xp = (s.loop e.val l.toNat).xp ∧ (t.loop e.val l.toNat).w = (s.loop e.val l.toNat).w) ∧
      ((s.lfl e.val l.toNat).reload = true → (t.loop e.val l.toNat).xp = s.dscV e.val l.toNat 0x7C0 (s.ln e.val l.toNat) ∧
        (t.loop e.val l.toNat).w = (s.loop e.val l.toNat).w.map (fun _ => 0#32)) ∧
      t.mem = s.mem ∧ t.lo = s.lo ∧ t.mp = s.mp ∧ (∀ k : BitVec 9, k ≠ l → t.loop e.val k.toNat = s.loop e.val k.toNat)) ∧
  (∀ (s : State) (e : Fin 2) (l : BitVec 9) (j : Nat), s.loopRuns e.val l.toNat = true → (s.eng e.val).slip = true → (s.loop e.val l.toNat).mode ≠ 7 →
    Gives (.loopSample e l j) s fun t => t = { s with loops := t.loops } ∧ ((t.loop e.val l.toNat).cap.map (·.lost)) = some true ∧
      (t.loop e.val l.toNat).u = (s.loop e.val l.toNat).u)

/-- R278, R279, R324: the law in AUTO and CASCADE_INNER: each row is one sum in its order, rounded once; a bad measurement has no innovation; Δ is KI times the difference, each rounded in binary64, and 0 without a good measurement; MANUAL takes the manual value of the sample instant for v and keeps w; FALLBACK keeps u and w; x̂⁻ for the next sample takes the u of this one. -/
def LoopLaw : Prop :=
  ∀ (s : State) (e l : Nat) (c : LoopCap), (s.loop e l).mode ≠ 7 → (s.lfl e l).stopAct = 0 →
    let x := s.loop e l
    let v := s.evalLoop e l c
    (∀ i, i < s.lp e l → elt v.nu i =
      if c.good.getD i false then rowS (toD (elt c.y i) :: (prods (s.dscRow e l 0x460 12 i (s.ln e l)) x.xp).map negD) else 0#32) ∧
    (∀ a, s.delta e l a x c.y c.good =
      (let i := (s.byte (leBase e + l * 0x800 + 0xE0 + a)).toNat
       if i = 0xFF ∨ c.good.getD i false = false then 0
       else (fmul f64 (toD (s.dsc e l (0x40 + 4 * a))) (fsub f64 (toD (elt x.r i)) (toD (elt c.y i))).1).1)) ∧
    (∀ i, i < s.ln e l → elt v.xh i = rowS (toD (elt x.xp i) :: prods (s.dscRow e l 0x6A0 6 i (s.lp e l)) v.nu)) ∧
    (∀ i, i < s.ln e l → elt v.xp i =
      rowS (prods (s.dscRow e l 0x100 12 i (s.ln e l)) v.xh ++ prods (s.dscRow e l 0x340 6 i (s.lm e l)) v.u)) ∧
    (∀ a, a < s.lm e l →
      let kx := prods (s.dscRow e l 0x580 12 a (s.ln e l)) v.xh
      let lim := fun z : Word => minS (maxS z (s.dsc e l (0x60 + 4 * a))) (s.dsc e l (0x80 + 4 * a))
      let step := fun z : Word => if infPos (s.dsc e l (0xA0 + 4 * a)) then z else
        minS (maxS z (rowS [toD (elt x.u a), negD (toD (s.dsc e l (0xA0 + 4 * a)))])) (rowS [toD (elt x.u a), toD (s.dsc e l (0xA0 + 4 * a))])
      (x.mode ≠ 6 → x.mode ≠ 4 → x.mode ≠ 3 → elt v.u a = step (lim (elt v.v a))) ∧
      ((x.mode = 1 ∨ x.mode = 2) → c.preset = false →
        elt v.v a = rowS (toD (elt x.w a) :: s.delta e l a x c.y c.good :: kx.map negD) ∧
        elt v.w a = (if (ltS (s.dsc e l (0x80 + 4 * a)) (elt v.v a) && ltV (unpackF f64 0) (unpackF f64 (s.delta e l a x c.y c.good))) ||
            (ltS (elt v.v a) (s.dsc e l (0x60 + 4 * a)) && ltV (unpackF f64 (s.delta e l a x c.y c.good)) (unpackF f64 0))
          then elt x.w a else rowS [toD (elt x.w a), s.delta e l a x c.y c.good])) ∧
      ((x.mode = 1 ∨ x.mode = 2) → c.preset = true → elt v.v a = elt x.u a ∧ elt v.w a = rowS (toD (elt x.u a) :: kx)) ∧
      (x.mode = 0 → elt v.v a = elt c.mv a ∧ elt v.w a = elt x.w a) ∧
      (x.mode = 4 → ∀ z, x.tv.getD a none = some z → elt v.v a = z ∧ elt v.u a = lim z ∧ elt v.w a = rowS (toD (elt x.u a) :: kx))) ∧
    (x.mode = 6 → v.u = x.u ∧ v.w = x.w)

/-- R278, R285: at the start of a slot that the active bank gives the sample inside its window LOOP_EVALUATION computes the law on what the sample captured and changes nothing else, said where no stored word holds an error; a sample without such a slot is not evaluated. -/
def Evaluates : Prop :=
  ∀ (s : State) (e : Fin 2) (l : BitVec 9) (c : LoopCap), s.loopRuns e.val l.toNat = true → (s.loop e.val l.toNat).cap = some c → c.lost = false → s.upsets = [] →
    (s.slotDue e.val l.toNat c.j = true → Gives (.loopEvaluation e l) s fun t => t = { s with loops := t.loops } ∧
      t.loop e.val l.toNat = { s.loop e.val l.toNat with res := some (s.evalLoop e.val l.toNat c) } ∧
      ∀ k : BitVec 9, k ≠ l → t.loop e.val k.toNat = s.loop e.val k.toNat) ∧
    (s.slotDue e.val l.toNat c.j = false → exec (.loopEvaluation e l) s = .next s)

/-- The module runs its program and the loop's SHADOW flag says whether the module holds the pass: nothing but the sample acts at the output instant. -/
abbrev Steady (s : State) (e : Fin 2) (l : BitVec 9) : Prop :=
  Quiet s e l ∧ s.bell.mode ≠ .stop ∧ (s.lfl e.val l.toNat).stopSeen = false ∧ (s.lfl e.val l.toNat).stopAct = 0 ∧
  (s.loop e.val l.toNat).shadow = !s.holdsPass

/-- R232, R278, R282, R294, R295, R297, R310: at the output instant a sample without a fault is applied: u, w and x̂⁻ are the evaluated ones, and the output latch of each bound channel takes u with status good, in SHADOW the module's own latch, whose drivers are disabled; a lost sample and a slot that is late hold the outputs and the state, the latter counted with cause bit 4; a measurement fault takes FB_ACT, with w kept and cause bit 6. -/
def OutputInstants : Prop :=
  ∀ (s : State) (e : Fin 2) (l : BitVec 9) (c : LoopCap), Steady s e l → (s.loop e.val l.toNat).cap = some c →
    let x := s.loop e.val l.toNat
    (∀ v, c.lost = false → x.res = some v → v.nonfinite = false → v.sat = false → c.fault = false → x.mode ≠ 6 →
      Gives (.loopOutputInstant e l) s fun t =>
        let y := t.loop e.val l.toNat
        y.u = v.u ∧ y.w = v.w ∧ y.xp = v.xp ∧ y.cap = none ∧ y.mode = x.mode ∧ (t.lfl e.val l.toNat).lost = false ∧
        (∀ a, a < s.lm e.val l.toNat → 32768 ≤ s.dscH e.val l.toNat 0x30 a →
          (∀ b, b < s.lm e.val l.toNat → s.dscH e.val l.toNat 0x30 b = s.dscH e.val l.toNat 0x30 a → b = a) →
          t.stage (s.dscH e.val l.toNat 0x30 a % 32768) =
            { value := elt v.u a, status := 0x0060#16, time := outInstant c.j (s.lper e.val l.toNat) (s.lphi e.val l.toNat) * 4 })) ∧
    (c.lost = true → Gives (.loopOutputInstant e l) s fun t =>
      let y := t.loop e.val l.toNat
      y.u = x.u ∧ y.w = x.w ∧ y.xp = x.xp ∧ y.mode = x.mode ∧ (t.lfl e.val l.toNat).lost = true ∧
      (t.lfl e.val l.toNat).qual = if x.mode = 6 ∧ s.fbActOf e.val l.toNat = 2 then 0x6060#16 else 0x4860#16) ∧
    (c.lost = false → x.res = none → Gives (.loopOutputInstant e l) s fun t =>
      let y := t.loop e.val l.toNat
      y.u = x.u ∧ y.w = x.w ∧ y.xp = x.xp ∧ y.mode = x.mode ∧ (t.lfl e.val l.toNat).lost = true ∧
      t.reg (Page.le e.val) Reg.le_SLOT_LATE_CNT = satInc (s.reg (Page.le e.val) Reg.le_SLOT_LATE_CNT) ∧
      (x.shadow = false → bit (t.reg (Page.le e.val) Reg.com_INT_RAW) 3 = true ∧ bit (t.reg Page.bell Reg.bell_ERR_PEND) 4 = true)) ∧
    (∀ v, c.lost = false → x.res = some v → v.nonfinite = false → c.fault = true → x.mode ≠ 6 → x.shadow = false →
      Gives (.loopOutputInstant e l) s fun t =>
        let y := t.loop e.val l.toNat
        y.w = x.w ∧ (t.lfl e.val l.toNat).fbCause = 2 ∧ (t.lfl e.val l.toNat).badmeas = true ∧ bit (t.reg Page.bell Reg.bell_ERR_PEND) 6 = true ∧
        t.reg (Page.le e.val) Reg.le_BADMEAS_CNT = satInc (s.reg (Page.le e.val) Reg.le_BADMEAS_CNT) ∧
        (s.fbActOf e.val l.toNat = 0 → y.mode = 6 ∧ y.u = x.u ∧ (t.lfl e.val l.toNat).qual = 0x4860#16) ∧
        (s.fbActOf e.val l.toNat = 1 → y.mode = 0 ∧ y.u = x.u ∧ y.mv = x.u) ∧
        (s.fbActOf e.val l.toNat = 2 → y.mode = 6 ∧ y.u = s.usafe e.val l.toNat ∧ (t.lfl e.val l.toNat).qual = 0x6060#16))

/-- The samples of a loop: LOOP_EVALUATION and LOOP_OUTPUT_INSTANT. -/
def Obligations.LoopSamples : Prop := Evaluates ∧ OutputInstants

/-- The control law of R278: step 1 at the sample, steps 2 to 9 in the evaluation. -/
def Obligations.ControlLaw : Prop := SampleCaptures ∧ LoopLaw

/-- R302, R303: a mismatch on one lane unit loses the sample of the slot and counts; the count that reaches LANE_LIMIT within LANE_WINDOW makes the engine FAILED. -/
def LaneMismatches : Prop :=
  ∀ (s : State) (e : Fin 2) (l : BitVec 9) (i : Fin 16), (s.eng e.val).st = .running → (s.eng e.val).lasting = 0#16 →
    let ev := (tget (fun _ => []) (s.eng e.val).events i.val).filter (fun t => s.now - t ≤ secTclk (s.reg (Page.le e.val) Reg.le_LANE_WINDOW).toNat)
    Gives (.laneMismatch e l (BitVec.ofNat 16 (2 ^ i.val))) s fun t =>
      t.reg (Page.le e.val) Reg.le_LANE_MISM_TOTAL = satInc (s.reg (Page.le e.val) Reg.le_LANE_MISM_TOTAL) ∧
      t.reg (Page.le e.val) Reg.le_LAST_LANE_EVT = BitVec.ofNat 32 (i.val + l.toNat * 256) ∧
      (tget (fun _ => []) (t.eng e.val).events i.val) = ev ++ [s.now] ∧
      ((t.eng e.val).st = .failed ↔ s.fld (Page.le e.val) Reg.le_LE_CFG 4 4 ≤ ev.length + 1) ∧
      (ev.length + 1 < s.fld (Page.le e.val) Reg.le_LE_CFG 4 4 → t.lo = s.lo ∧ (t.loop e.val l.toNat).u = (s.loop e.val l.toNat).u ∧
        ((t.loop e.val l.toNat).cap.map (·.lost)) = (s.loop e.val l.toNat).cap.map (fun _ => true))

/-- R258, R304, R306, R307: a frame start ends a step gap, and once the bell of SW_CYC has rung, on a standby that of the latest PROOF_BEGIN, it takes an armed switch, in which loops of both banks keep their state and loops of the old bank only stop. -/
def FrameStarts : Prop :=
  (∀ (s : State) (e : Fin 2), s.alive = true → (s.eng e.val).switchPend = false → Gives (.frameStart e) s fun t =>
    t = { s with engines := t.engines } ∧ t.eng e.val = { s.eng e.val with slip := false }) ∧
  (∀ (s : State) (e : Fin 2), s.alive = false → exec (.frameStart e) s = .next s) ∧
  (∀ s : State, (s.prx.cycles = [] → s.rungCycle = s.bell.cycle) ∧ ∀ l c, s.prx.cycles = l ++ [c] → s.rungCycle = c.head.cyc) ∧
  (∀ (s : State) (e : Fin 2), s.alive = true → (s.eng e.val).switchPend = true → s.rungCycle < s.swCyc e.val → Gives (.frameStart e) s fun t =>
    t = { s with engines := t.engines } ∧ t.eng e.val = { s.eng e.val with slip := false }) ∧
  (∀ (s : State) (e : Fin 2), s.alive = true → (s.eng e.val).switchPend = true → s.swCyc e.val ≤ s.rungCycle → Gives (.frameStart e) s fun t =>
    let named := namedLoops (s.entries e.val (!(s.eng e.val).bank) (s.reg (Page.le e.val) Reg.le_SHADOW_LEN).toNat)
    (t.eng e.val).bank = !(s.eng e.val).bank ∧ (t.eng e.val).hasBank = true ∧ (t.eng e.val).switchPend = false ∧
    t.reg (Page.le e.val) Reg.le_ACTIVE_LEN = BitVec.ofNat 32 (s.reg (Page.le e.val) Reg.le_SHADOW_LEN).toNat ∧
    bit (t.reg (Page.le e.val) Reg.com_INT_RAW) 4 = true ∧
    (∀ l : BitVec 9, named.contains l.toNat = true → (s.loopsOf e.val).contains l.toNat = true → t.loop e.val l.toNat = s.loop e.val l.toNat) ∧
    (∀ l : BitVec 9, named.contains l.toNat = false → t.loop e.val l.toNat = {} ∨ (s.loopsOf e.val).contains l.toNat = false))

/-- R305, R306, R317, R318: the bank commands at P0 and P1, the end of a validation with the code of the first broken rule, said where no stored word holds an error, and their refusal at P2; VALIDATE clears the load of the shadow bank in LOAD. -/
def BankCommands : Prop :=
  (∀ (s : State) (e : Fin 2) (p : Priv), p ≠ .p2 →
    (Gives (.validate e p) s fun t => t = { s with engines := t.engines, regs := t.regs } ∧
      t.reg (Page.le e.val) Reg.le_LOAD = s.reg (Page.le e.val) Reg.le_LOAD &&& 0xFC00FFFF#32 ∧
      t.eng e.val = { s.eng e.val with busy := true, done := false, valid := false, err := 0, errEntry := 0 }) ∧
    (s.switchOk e.val = true → Gives (.switch e p) s fun t => t = { s with engines := t.engines } ∧
      t.eng e.val = { s.eng e.val with switchPend := true }) ∧
    (s.switchOk e.val = false → Gives (.switch e p) s fun t => t = { s with regs := t.regs, jrn := t.jrn } ∧
      t.reg (Page.le e.val) Reg.com_ERRCNT = satInc (s.reg (Page.le e.val) Reg.com_ERRCNT)) ∧
    (Gives (.schedCancel e p) s fun t => t = { s with engines := t.engines } ∧ t.eng e.val = { s.eng e.val with switchPend := false })) ∧
  (∀ (s : State) (e : Fin 2), exec (.validate e .p2) s = .next (s.err (Page.le e.val)) ∧ exec (.switch e .p2) s = .next (s.err (Page.le e.val)) ∧
    exec (.schedCancel e .p2) s = .next (s.err (Page.le e.val))) ∧
  (∀ (s : State) (e : Fin 2), (s.eng e.val).busy = true → s.upsets = [] → Gives (.validationDone e) s fun t =>
    let r := s.checkBank e.val (!(s.eng e.val).bank) (s.reg (Page.le e.val) Reg.le_SHADOW_LEN).toNat (s.reg (Page.le e.val) Reg.le_MF_TCLK).toNat
    t = { s with engines := t.engines, regs := t.regs } ∧ (t.eng e.val).busy = false ∧ (t.eng e.val).done = true ∧
    ((t.eng e.val).valid = true ↔ r.1 = 0) ∧ (t.eng e.val).err = r.1 ∧ (t.eng e.val).errEntry = r.2 ∧
    bit (t.reg (Page.le e.val) Reg.com_INT_RAW) 5 = true)

/-- R316, R589: ENABLE on an unlocked page starts an engine that has a bank, and clearing it stops the engine with every output stage of its loops at USAFE; a locked quoin ignores a change. -/
def EngineEnable : Prop :=
  ∀ (s : State) (e : Fin 2),
    (s.locked (Page.le e.val) = false → s.rbit (Page.le e.val) Reg.le_LE_CFG 0 = false → (s.eng e.val).st ≠ .failed →
      Gives (.leEnable e true) s fun t => t.rbit (Page.le e.val) Reg.le_LE_CFG 0 = true ∧
        (t.eng e.val).st = (if (s.eng e.val).hasBank then .running else .idle)) ∧
    (s.locked (Page.le e.val) = false → s.rbit (Page.le e.val) Reg.le_LE_CFG 0 = true → (s.eng e.val).st ≠ .failed →
      Gives (.leEnable e false) s fun t => t.rbit (Page.le e.val) Reg.le_LE_CFG 0 = false ∧ (t.eng e.val).st = .idle ∧
        ((∀ l ∈ s.loopsOf e.val, s.rcpOf e.val l = none) → t.mem = s.mem) ∧ ∀ l ∈ s.loopsOf e.val, (t.loop e.val l).u = s.usafe e.val l) ∧
    (∀ v, s.locked (Page.le e.val) = true → s.rbit (Page.le e.val) Reg.le_LE_CFG 0 ≠ v → exec (.leEnable e v) s = .next (s.err (Page.le e.val)))

/-- The engines and their banks: LANE_MISMATCH, FRAME_START, VALIDATE, VALIDATION_DONE, SWITCH, SCHED_CANCEL, LE_ENABLE. -/
def Obligations.EngineCommands : Prop := LaneMismatches ∧ FrameStarts ∧ BankCommands ∧ EngineEnable

/-! ### Setpoints, recipes and trace probes -/

/-- Type and duration of step i of recipe k. -/
def stepType (s : State) (e : Fin 2) (k : BitVec 6) (i : Nat) : Nat := (s.rcpStep e.val k.toNat i 0).toNat
def stepDur (s : State) (e : Fin 2) (k : BitVec 6) (i : Nat) : Nat := (s.rcpStep e.val k.toNat i 1).toNat

/-- Step i of recipe k takes time: RAMP or DWELL with a duration (R338). -/
abbrev Timed (s : State) (e : Fin 2) (k : BitVec 6) (i : Nat) : Prop :=
  i < s.rcpCount e.val k.toNat ∧ (stepType s e k i = 1 ∨ stepType s e k i = 2) ∧ stepDur s e k i ≠ 0

/-- The recipe has begun a step with the targets present (R338, R341). -/
def StepBegun (s t : State) (e : Fin 2) (k : BitVec 6) (i tick : Nat) : Prop :=
  let r := t.rcp e.val k.toNat
  r.st = .running ∧ r.cause = 0 ∧ r.step = i ∧ r.elapsed = 0 ∧ r.t0 = tick % 2 ^ 32 ∧ r.v0 = (s.loop e.val (s.rcpLoop e.val k.toNat)).rt ∧
  (∀ l : BitVec 9, t.loop e.val l.toNat = s.loop e.val l.toNat) ∧ (∀ q : BitVec 6, q ≠ k → t.rcp e.val q.toNat = s.rcp e.val q.toNat)

/-- A recipe command is refused: counted in RCP_REFUSED, nothing else. -/
def Refused (s t : State) (e : Fin 2) : Prop :=
  t = { s with regs := t.regs } ∧ t.reg (Page.sq e.val) Reg.sq_RCP_REFUSED = satInc (s.reg (Page.sq e.val) Reg.sq_RCP_REFUSED)

/-- R338, R341: START, CONTINUE and RESUME_AT begin a step with the present targets, a JUMP moves the targets of the mask at once, HOLD freezes, RESUME goes on from the held targets, ABORT ends; the table asks only of START, and of RESUME_AT as START, that the slot is that of the recipe's loop; RESUME_AT of a held recipe whose loop may not run one leaves it HELD at the step with CAUSE 0x4 (R339); a command that R341 does not accept counts in RCP_REFUSED. -/
def RecipeCommands : Prop :=
  ∀ (s : State) (e : Fin 2) (l : BitVec 9) (k : BitVec 6),
    let r := s.rcp e.val k.toNat
    let o := s.rcpLoop e.val k.toNat
    (∀ tick, s.startOk e.val l.toNat k.toNat = true →
      (Timed s e k 0 → Gives (.recipeStart e l k tick) s fun t => StepBegun s t e k 0 tick ∧ (t.lfl e.val l.toNat).lastRcp = some k.toNat) ∧
      (stepType s e k 0 = 0 → Gives (.recipeStart e l k tick) s fun t => (t.rcp e.val k.toNat).st = .done ∧
        t.loop e.val l.toNat = s.loop e.val l.toNat ∧ bit (t.reg (Page.sq e.val) Reg.com_INT_RAW) 1 = true) ∧
      (stepType s e k 0 = 3 → s.rcpCount e.val k.toNat = 1 → Gives (.recipeStart e l k tick) s fun t => (t.rcp e.val k.toNat).st = .done ∧
        (t.loop e.val l.toNat).rt = onMask (s.rcpMask e.val k.toNat) (s.loop e.val l.toNat).rt (fun _ _ => s.rcpStep e.val k.toNat 0 2))) ∧
    (∀ tick, s.startOk e.val l.toNat k.toNat = false → Gives (.recipeStart e l k tick) s fun t => Refused s t e) ∧
    (r.st = .running ∨ r.st = .waiting → Gives (.recipeHold e l k) s fun t =>
      t.rcp e.val k.toNat = { r with st := .held, cause := 1, wasWait := r.st == .waiting } ∧ t.loops = s.loops) ∧
    (¬(r.st = .running ∨ r.st = .waiting) → Gives (.recipeHold e l k) s fun t => Refused s t e) ∧
    (∀ tick, r.st = .held → s.rcpMode e.val o = true → Gives (.recipeResume e l k tick) s fun t =>
      t.rcp e.val k.toNat = { r with st := if r.wasWait then .waiting else .running, cause := 0, v0 := (s.loop e.val o).rt, e0 := r.elapsed, tickAt := tick * 12500 } ∧
      t.loops = s.loops) ∧
    (∀ tick, ¬(r.st = .held ∧ s.rcpMode e.val o = true) → Gives (.recipeResume e l k tick) s fun t => Refused s t e) ∧
    (r.active = true → Gives (.recipeAbort e l k) s fun t => t.rcp e.val k.toNat = { r with st := .aborted, cause := 1 } ∧ t.loops = s.loops ∧
      bit (t.reg (Page.sq e.val) Reg.com_INT_RAW) 2 = true) ∧
    (r.active = false → Gives (.recipeAbort e l k) s fun t => Refused s t e) ∧
    (∀ tick, r.st = .waiting → fieldNat (s.rcpStep e.val k.toNat r.step 3) 16 3 = 2 → Timed s e k (r.step + 1) →
      Gives (.recipeContinue e l k tick) s fun t => StepBegun s t e k (r.step + 1) tick) ∧
    (∀ tick, ¬(r.st = .waiting ∧ fieldNat (s.rcpStep e.val k.toNat r.step 3) 16 3 = 2) →
      Gives (.recipeContinue e l k tick) s fun t => Refused s t e) ∧
    (∀ (i : Half) (tick : Nat), (s.startOk e.val l.toNat k.toNat = true ∨ (r.st = .held ∧ s.rcpMode e.val o = true)) → Timed s e k i.toNat →
      Gives (.resumeAt e l k i tick) s fun t => StepBegun s t e k i.toNat tick) ∧
    (∀ (i : Half) (tick : Nat), r.st = .held → s.rcpMode e.val o = false → s.rcpOf e.val o = some k.toNat → Timed s e k i.toNat →
      Gives (.resumeAt e l k i tick) s fun t => (t.rcp e.val k.toNat).st = .held ∧ (t.rcp e.val k.toNat).cause = 4 ∧ (t.rcp e.val k.toNat).step = i.toNat ∧
        t.loops = s.loops) ∧
    (∀ (i : Half) (tick : Nat), (s.startOk e.val l.toNat k.toNat = false ∧ r.st ≠ .held) ∨ s.rcpCount e.val k.toNat ≤ i.toNat →
      Gives (.resumeAt e l k i tick) s fun t => Refused s t e)

/-- Recipe k is the only one of engine e that is RUNNING or WAITING, no command of the program waits for the tick, and no stored word holds an error. -/
abbrev OnlyRecipe (s : State) (e : Fin 2) (k : BitVec 6) : Prop :=
  s.alive = true ∧ s.upsets = [] ∧ s.leRuns e.val = true ∧ (s.eng e.val).slip = false ∧ (∀ c ∈ s.rcpCmds, c.1 ≠ e.val) ∧
  ∀ q : BitVec 6, ((s.rcp e.val q.toNat).st = .running ∨ (s.rcp e.val q.toNat).st = .waiting) ↔ q = k

/-- R338, R341: at a tick a step counts one tick; a RAMP at its end leaves its targets at VALUE and the recipe, past its last step, is DONE; a WAIT whose time has passed without its condition aborts the recipe with CAUSE 0x3; the commands delivered are judged; in a step gap no tick counts. -/
def RecipeTicks : Prop :=
  (∀ (s : State) (e : Fin 2) (k : BitVec 6) (tick : Nat), OnlyRecipe s e k →
    let r := s.rcp e.val k.toNat
    let w3 := s.rcpStep e.val k.toNat r.step 3
    (r.st = .running → r.elapsed + 1 < stepDur s e k r.step → Gives (.ssuTick e tick) s fun t =>
      t.rcp e.val k.toNat = { r with elapsed := r.elapsed + 1, tickAt := tick * 12500 } ∧ t.loops = s.loops) ∧
    (r.st = .running → stepType s e k r.step = 1 → stepDur s e k r.step ≤ r.elapsed + 1 → s.rcpCount e.val k.toNat = r.step + 1 →
      Gives (.ssuTick e tick) s fun t => (t.rcp e.val k.toNat).st = .done ∧ bit (t.reg (Page.sq e.val) Reg.com_INT_RAW) 1 = true ∧
        (t.loop e.val (s.rcpLoop e.val k.toNat)).rt = onMask (s.rcpMask e.val k.toNat) (s.loop e.val (s.rcpLoop e.val k.toNat)).rt
          (fun i _ => rampVal (elt r.v0 i) (s.rcpStep e.val k.toNat r.step 2) 1 1)) ∧
    (r.st = .waiting → s.waitMet e.val k.toNat r.step tick = false → stepDur s e k r.step = 0 ∨ r.elapsed + 1 < stepDur s e k r.step →
      Gives (.ssuTick e tick) s fun t => t.rcp e.val k.toNat = { r with elapsed := r.elapsed + 1, tickAt := tick * 12500 } ∧ t.loops = s.loops) ∧
    (r.st = .waiting → s.waitMet e.val k.toNat r.step tick = false → stepDur s e k r.step ≠ 0 → stepDur s e k r.step ≤ r.elapsed + 1 → bit w3 19 = false →
      Gives (.ssuTick e tick) s fun t => (t.rcp e.val k.toNat).st = .aborted ∧ (t.rcp e.val k.toNat).cause = 3 ∧ t.loops = s.loops ∧
        t.reg (Page.sq e.val) Reg.sq_WAIT_TMO_CNT = satInc (s.reg (Page.sq e.val) Reg.sq_WAIT_TMO_CNT)) ∧
    (r.st = .waiting → s.waitMet e.val k.toNat r.step tick = true → Timed s e k (r.step + 1) →
      Gives (.ssuTick e tick) s fun t => StepBegun s t e k (r.step + 1) tick)) ∧
  (∀ (s : State) (e : Fin 2) (tick : Nat), (s.eng e.val).slip = true → exec (.ssuTick e tick) s = .next s) ∧
  (∀ (s : State) (e : Fin 2) (l : BitVec 9) (k : BitVec 6) (tick : Nat), s.alive = true → s.upsets = [] → s.leRuns e.val = true → (s.eng e.val).slip = false →
    (∀ q : BitVec 6, (s.rcp e.val q.toNat).st ≠ .running ∧ (s.rcp e.val q.toNat).st ≠ .waiting) →
    s.rcpCmds = [(e.val, l.toNat, BitVec.ofNat 32 (k.toNat + 0x100))] → s.startOk e.val l.toNat k.toNat = true → Timed s e k 0 →
    Gives (.ssuTick e tick) s fun t => StepBegun s t e k 0 tick ∧ t.rcpCmds = [])

/-- R343, R589: SSU_EN is written on an unlocked page; cleared, every active recipe is ABORTED with CAUSE 0x5 and every target stands. -/
def RecipeEnable : Prop :=
  ∀ (s : State) (e : Fin 2),
    (s.locked (Page.sq e.val) = false →
      (Gives (.ssuEn e true) s fun t => t = { s with regs := t.regs } ∧ t.rbit (Page.sq e.val) Reg.sq_SQ_CFG 0 = true) ∧
      (Gives (.ssuEn e false) s fun t => t.rbit (Page.sq e.val) Reg.sq_SQ_CFG 0 = false ∧ t.loops = s.loops ∧
        ∀ k : BitVec 6, t.rcp e.val k.toNat = if (s.rcp e.val k.toNat).active then { s.rcp e.val k.toNat with st := .aborted, cause := 5 } else s.rcp e.val k.toNat)) ∧
    (∀ v, s.locked (Page.sq e.val) = true → s.rbit (Page.sq e.val) Reg.sq_SQ_CFG 0 ≠ v → exec (.ssuEn e v) s = .next (s.err (Page.sq e.val)))

/-- Recipes: RECIPE_START, RECIPE_HOLD, RECIPE_RESUME, RECIPE_ABORT, RECIPE_CONTINUE, RESUME_AT, SSU_TICK, SSU_EN. -/
def Obligations.Recipes : Prop := RecipeCommands ∧ RecipeTicks ∧ RecipeEnable

/-- R345, R346: ARM from IDLE or DONE starts a fill at index 0, or arms at once with PRE = 0, and is an error otherwise; DISARM makes a probe IDLE; FORCE triggers an ARMED probe and no other. -/
def Obligations.ProbeCommands : Prop :=
  ∀ (s : State) (e : Fin 2) (q : BitVec 4),
    let p := s.probe e.val q.toNat
    let others := fun t : State => t = { s with probes := t.probes } ∧ ∀ r : BitVec 4, r ≠ q → t.probe e.val r.toNat = s.probe e.val r.toNat
    (p.st = .idle ∨ p.st = .done → Gives (.probeArm e q) s fun t => others t ∧ (t.probe e.val q.toNat).idx = 0 ∧ (t.probe e.val q.toNat).count = 0 ∧
      (t.probe e.val q.toNat).st = (if s.fld (Page.sq e.val) (Reg.sq_PR_PRE q.toNat) 0 11 = 0 then .armed else .filling)) ∧
    (p.st ≠ .idle → p.st ≠ .done → exec (.probeArm e q) s = .next (s.err (Page.sq e.val))) ∧
    (Gives (.probeDisarm e q) s fun t => others t ∧ (t.probe e.val q.toNat).st = .idle) ∧
    (p.st = .armed → Gives (.probeForce e q) s fun t => others t ∧ t.probe e.val q.toNat = { p with pend := true }) ∧
    (p.st ≠ .armed → exec (.probeForce e q) s = .next s)

/-! ### The time base and PTP -/

/-- R353, R382: the servo has taken the offset θ: OFFSET shows it; within STEP_THRESH the time goes on without a jump, beyond it the time is set to the corrected value, rounded down to 4 ns, where a step is permitted, and STEP_BLOCKED is set where it is not. -/
def ServoTakes (s t : State) (th : Int) : Prop :=
  t.reg Page.tb Reg.tb_OFFSET = satOffset th ∧
  (th.natAbs ≤ (s.reg Page.tb Reg.tb_STEP_THRESH).toNat → t.tb.time = s.tb.time ∧ t.tb.stepBlocked = false ∧
    t.reg Page.tb Reg.tb_STEP_CNT = s.reg Page.tb Reg.tb_STEP_CNT) ∧
  ((s.reg Page.tb Reg.tb_STEP_THRESH).toNat < th.natAbs → s.tbMayStep = true → t.tb.time = Time.ofNs (((s.tb.time.toNs : Int) - th).toNat / 4 * 4) ∧
    t.tb.stepBlocked = false ∧ t.reg Page.tb Reg.tb_STEP_CNT = satInc (s.reg Page.tb Reg.tb_STEP_CNT) ∧ bit (t.reg Page.tb Reg.com_INT_RAW) 1 = true) ∧
  ((s.reg Page.tb Reg.tb_STEP_THRESH).toNat < th.natAbs → s.tbMayStep = false → t.tb.time = s.tb.time ∧ t.tb.stepBlocked = true)

/-- R354: 16 offsets in a row within LOCK_THRESH lock the time base, 4 in a row beyond four times it unlock it, any other leaves its state. -/
def LockTakes (s t : State) (a : Nat) : Prop :=
  let lim := (s.reg Page.tb Reg.tb_LOCK_THRESH).toNat
  t.tb.src = s.tb.src ∧
  (s.tb.st = .acquiring → (a ≤ lim → s.tb.good = 15 → t.tb.st = .locked ∧ bit (t.reg Page.tb Reg.com_INT_RAW) 0 = true) ∧
    (a ≤ lim → s.tb.good ≠ 15 → t.tb.st = .acquiring ∧ t.tb.good = s.tb.good + 1) ∧ (lim < a → t.tb.st = .acquiring ∧ t.tb.good = 0)) ∧
  (s.tb.st = .locked → (4 * lim < a → s.tb.bad = 3 → t.tb.st = .acquiring) ∧ (4 * lim < a → s.tb.bad ≠ 3 → t.tb.st = .locked ∧ t.tb.bad = s.tb.bad + 1) ∧
    (a ≤ 4 * lim → t.tb.st = .locked ∧ t.tb.bad = 0))

/-- The time base follows a source (R354). -/
abbrev Follows (s : State) (src : TbSrc) : Prop := (s.tb.st = .acquiring ∨ s.tb.st = .locked) ∧ s.tb.src = src

/-- R354, R356: the edges of PPS_IN discipline a time base that follows them, PPS_ERR shows the error at each edge against the nearest second, and their absence or the end of a holdover changes the state as the table of R354 says; the pulse of PPS_OUT rises while it is enabled and the time is set. -/
def PulseCommands : Prop :=
  (∀ (s : State) (sub : BitVec 2), s.rbit Page.tb Reg.tb_TB_CFG 0 = true → s.tb.everSet = true → s.fld Page.ptp Reg.ptp_SLAVE_PORT 0 3 = 0 → Follows s .pps →
    let ns := s.tb.time.ns + sub.toNat
    let th : Int := if ns < 500000000 then (ns : Int) else (ns : Int) - 1000000000
    Gives (.ppsIn sub) s fun t => t.reg Page.tb Reg.tb_PPS_ERR = satOffset th ∧ ServoTakes s t th ∧ LockTakes s t th.natAbs ∧ t.mem = s.mem ∧ t.forme = s.forme) ∧
  (∀ (s : State) (sub : BitVec 2), s.rbit Page.tb Reg.tb_TB_CFG 0 = false → exec (.ppsIn sub) s = .next s) ∧
  (∀ s : State, s.tb.src = .pps → (s.tb.st = .acquiring → Gives .ppsInLoss s fun t => t.tb.st = .freerun ∧ t.tb.src = .none ∧ t.tb.time = s.tb.time) ∧
    (s.tb.st = .locked → Gives .ppsInLoss s fun t => t.tb.st = .holdover ∧ t.tb.src = .pps ∧ t.tb.holdSince = s.now ∧ t.tb.time = s.tb.time)) ∧
  (∀ s : State, s.tb.src ≠ .pps → exec .ppsInLoss s = .next s) ∧
  (∀ s : State, s.tb.st = .holdover → Gives .holdoverExpiry s fun t => t.tb.st = .freerun ∧ t.tb.src = .none ∧ t.tb.past = s.tb.src ∧
    t.tb.time = s.tb.time ∧ bit (t.reg Page.tb Reg.com_INT_RAW) 3 = true) ∧
  (∀ s : State, s.tb.st ≠ .holdover → exec .holdoverExpiry s = .next s) ∧
  (∀ s : State, s.rbit Page.tb Reg.tb_TB_CFG 2 = true → s.tb.st ≠ .unset → Gives .ppsOut s fun t => t = { s with ppsOut := true, sent := t.sent } ∧
    t.sent = { what := .ppsOut, args := [s.tb.time.sec] } :: s.sent) ∧
  (∀ s : State, s.rbit Page.tb Reg.tb_TB_CFG 2 = false ∨ s.tb.st = .unset → exec .ppsOut s = .next s) ∧
  (∀ s : State, exec .ppsOutFall s = .next { s with ppsOut := false })

/-- R357, R358, R382: SET steps the time base to the SET registers rounded down to 4 ns unless PTP is its source or no step is permitted; the LEAP commands and UTC_OFFSET act unless source 1 applies; an announced leap second changes the offset by one second and never the TAI time. -/
def CalendarCommands : Prop :=
  (∀ (s : State) (p : Priv), p ≠ .p2 → s.tb.src ≠ .ptp → s.tbMayStep = true →
    Gives (.set p) s fun t =>
      t.tb.time = Time.ofNs ((((s.reg Page.tb Reg.tb_SET_SEC_LO).toNat + 2 ^ 32 * (s.reg Page.tb Reg.tb_SET_SEC_HI).toNat) * 1000000000 +
        (s.reg Page.tb Reg.tb_SET_NS).toNat) / 4 * 4) ∧
      t.tb.everSet = true ∧ t.tb.st = (if s.tb.st = .unset then .freerun else s.tb.st) ∧
      t.reg Page.tb Reg.tb_STEP_CNT = satInc (s.reg Page.tb Reg.tb_STEP_CNT) ∧ t.mem = s.mem ∧ t.forme = s.forme) ∧
  (∀ (s : State) (p : Priv), p = .p2 ∨ s.tb.src = .ptp ∨ s.tbMayStep = false → exec (.set p) s = .next (s.err Page.tb)) ∧
  (∀ (s : State) (p : Priv), p ≠ .p2 → s.tb.src1 = false →
    exec (.leapIns p) s = .next { s with tb := { s.tb with leapPend := true, leapNeg := false } } ∧
    exec (.leapDel p) s = .next { s with tb := { s.tb with leapPend := true, leapNeg := true } } ∧
    exec (.leapCancel p) s = .next { s with tb := { s.tb with leapPend := false, leapNeg := false } }) ∧
  (∀ s : State, exec (.leapIns .p2) s = .next (s.err Page.tb) ∧ exec (.leapDel .p2) s = .next (s.err Page.tb) ∧ exec (.leapCancel .p2) s = .next (s.err Page.tb)) ∧
  (∀ (s : State) (v : BitVec 16), s.tb.src1 = false → exec (.utcOffset v) s = .next { s with tb := { s.tb with utc := v.toInt, utcWritten := true } }) ∧
  (∀ (s : State) (v : BitVec 16), s.tb.src1 = true → exec (.utcOffset v) s = .next (s.err Page.tb)) ∧
  (∀ s : State, s.tb.leapPend = true → Gives .leapSecond s fun t => t.tb.utc = (if s.tb.leapNeg then s.tb.utc - 1 else s.tb.utc + 1) ∧
    t.tb.time = s.tb.time ∧ t.tb.leapPend = false ∧ bit (t.reg Page.tb Reg.com_INT_RAW) 2 = true) ∧
  (∀ s : State, s.tb.leapPend = false → exec .leapSecond s = .next s)

/-- The time base: PPS_IN, PPS_IN_LOSS, HOLDOVER_EXPIRY, PPS_OUT, PPS_OUT_FALL, SET, LEAP_INS, LEAP_DEL, LEAP_CANCEL, UTC_OFFSET, LEAP_SECOND. -/
def Obligations.TimeBaseCommands : Prop := PulseCommands ∧ CalendarCommands

/-- A message on a port that takes part, of a kind that R360 lists and of the module's domain. -/
abbrev PtpTaken (s : State) (i : Fin 4) (h : PtpHdr) : Prop :=
  s.ptpOn i.val = true ∧ h.listed = true ∧ h.carrier = s.ptpCarrier ∧ h.domain.toNat = s.fld Page.ptp Reg.ptp_PTP_CFG 8 8

/-- A message without a launch time leaves port i at once: nothing is held back there, and it ends before the next launch time (R365). -/
abbrev PtpFree (s : State) (i : Fin 4) (w : Out) : Prop := s.held i.val = [] ∧ s.mayStart i.val (s.ptpLen w) = true

/-- The last fields of a one-step message with the egress time t: the time, the part of correctionField, and whether it is a UDP message with checksum 0 (R363). -/
abbrev oneStepArgs (s : State) (t : Int) : List Nat := [t.toNat, 0, if s.ptpCarrier = .ipv4 then 1 else 0]

/-- The message comes from the master that the slave port i follows. -/
abbrev FromMaster (s : State) (i : Fin 4) (h : PtpHdr) : Prop :=
  s.slavePort = i.val + 1 ∧ (s.ptpPort i.val).foreign.map (·.data.sender) = some h.sender

/-- R353, R360, R362, R364: a Sync of the followed master, in itself or completed by its Follow_Up, gives the servo the offset receipt − origin − path delay − correction − asymmetry, with the receipt time corrected by INGRESS_LAT; a kind that R360 does not list is counted in PTP_DISCARD; in an HSR ring a Sync goes on with its residence time and the link delay added to its correction; four intervals without a Sync lose the source. -/
def PtpSyncs : Prop :=
  (∀ (s : State) (i : Fin 4) (h : PtpHdr) (t1 corr t2 : Int), PtpTaken s i h → FromMaster s i h → Follows s .ptp →
    (let th := t2 - s.ingress i.val - t1 - s.pathDelay i.val - corr - s.asym i.val
     Gives (.sync i h false t1 corr t2) s fun t => ServoTakes s t th ∧ LockTakes s t th.natAbs) ∧
    (Gives (.sync i h true t1 corr t2) s fun t => t = { s with ptpPorts := t.ptpPorts, sent := t.sent } ∧ (s.redMode (i.val / 2) ≠ 2 → t.sent = s.sent) ∧
      t.ptpPort i.val = { s.ptpPort i.val with sync := some (h.seq, t2 - s.ingress i.val, corr) }) ∧
    (∀ (r c : Int), (s.ptpPort i.val).sync = some (h.seq, r, c) →
      let th := r - t1 - s.pathDelay i.val - (c + corr) - s.asym i.val
      Gives (.followUp i h t1 corr) s fun t => ServoTakes s t th ∧ LockTakes s t th.natAbs)) ∧
  (∀ (s : State) (i : Fin 4) (h : PtpHdr) (two : Bool) (t1 corr t2 : Int), s.ptpOn i.val = true → h.listed = false →
    Gives (.sync i h two t1 corr t2) s fun t => t = { s with regs := t.regs } ∧ t.fld Page.ptp (Reg.ptp_PTP_DISCARD i.val) 0 24 =
      min 0xFFFFFF (s.fld Page.ptp (Reg.ptp_PTP_DISCARD i.val) 0 24 + 1)) ∧
  (∀ (s : State) (i : Fin 4) (h : PtpHdr) (t1 corr t2 : Int), s.alive = true → s.redMode (i.val / 2) = 2 → h.listed = true → h.sender ≠ Config.uid →
    s.slavePort ≠ i.val + 1 → Gives (.sync i h false t1 corr t2) s fun t => t = { s with sent := t.sent } ∧
      t.sent = { what := .ptpForward, args := [i.val / 2 * 2 + (1 - i.val % 2), 0, h.seq.toNat, h.sender.toNat,
        (BitVec.ofInt 64 (corr + h.resid + (s.reg Page.ptp (Reg.ptp_PDELAY i.val)).toInt)).toNat] } :: s.sent) ∧
  (∀ (s : State) (i : Fin 4), s.slavePort = i.val + 1 → s.tb.src = .ptp → s.tb.st = .locked →
    Gives (.syncLoss i) s fun t => t.tb.st = .holdover ∧ t.tb.src = .ptp ∧ t.tb.time = s.tb.time)

/-- R354, R360, R383 (the algorithm: log 23): a second Announce of one sender within four intervals is taken as the port's master; a slave-only clock with this port alone then follows it; the receipt timeout drops it and loses the source. -/
def PtpMasters : Prop :=
  (∀ (s : State) (i : Fin 4) (h : PtpHdr) (a : PtpAnnounce) (at_ : Nat), PtpTaken s i h → a.data.gm ≠ Config.uid → a.data.steps < 255 →
    (s.ptpPort i.val).foreign = none → (s.ptpPort i.val).seen = some (h.sender, at_) →
    s.now ≤ at_ + 4 * (2 ^ (s.fld Page.ptp Reg.ptp_PTP_INTV 4 4) * 250000000) →
    Gives (.announce i h a) s fun t => (t.ptpPort i.val).foreign = some { a with data := { a.data with sender := h.sender } } ∧
      (s.ptpSlaveOnly = true → (∀ j : Fin 4, j ≠ i → s.ptpOn j.val = false) → t.slavePort = i.val + 1 ∧ t.ptpState i.val = 9 ∧
        (s.tb.st = .freerun → (s.ptpPort i.val).silent = false → t.tb.st = .acquiring ∧ t.tb.src = .ptp))) ∧
  (∀ (s : State) (i : Fin 4) (h : PtpHdr) (a : PtpAnnounce), PtpTaken s i h → a.data.gm ≠ Config.uid → a.data.steps < 255 →
    (s.ptpPort i.val).seen.map Prod.fst ≠ some h.sender → Gives (.announce i h a) s fun t =>
      (t.ptpPort i.val).foreign = (s.ptpPort i.val).foreign ∧ (t.ptpPort i.val).seen = some (h.sender, s.now)) ∧
  (∀ (s : State) (i : Fin 4), s.ptpOn i.val = true → s.slavePort = i.val + 1 → s.ptpSlaveOnly = true → (∀ j : Fin 4, j ≠ i → s.ptpOn j.val = false) → s.tb.src = .ptp →
    s.tb.st = .locked → Gives (.announceReceiptTimeout i) s fun t => (t.ptpPort i.val).foreign = none ∧ t.slavePort = 0 ∧ t.tb.st = .holdover ∧ t.tb.time = s.tb.time)

/-- R360, R363, R365: the delay messages: a master port answers a Delay_Req with its receipt time, a peer-to-peer port answers a Pdelay_Req with its egress time in one step or in two, the responses set the path delay and the link delay; a master port sends Sync in one step with the egress time; a failed insertion is aborted and counted, and the next Sync goes in two steps; a message that would not end before the next launch time is held back. -/
def PtpDelays : Prop :=
  (∀ (s : State) (i : Fin 4) (h : PtpHdr) (t4 : Int), PtpTaken s i h → s.ptpP2p = false → s.ptpState i.val = 6 →
    let args := [i.val, h.seq.toNat, h.sender.toNat, (t4 - s.ingress i.val).toNat]
    (PtpFree s i .ptpDelayResp → exec (.delayReq i h t4) s = .next (s.send .ptpDelayResp args)) ∧
    (¬PtpFree s i .ptpDelayResp → Gives (.delayReq i h t4) s fun t => t = { s with freeTx := t.freeTx } ∧
      t.held i.val = s.held i.val ++ [{ len := s.ptpLen .ptpDelayResp, what := .ptpDelayResp, args := args }])) ∧
  (∀ (s : State) (i : Fin 4) (h : PtpHdr) (t4 corr t3 ms : Int), PtpTaken s i h → s.ptpP2p = false → s.slavePort = i.val + 1 →
    (s.ptpPort i.val).req = some (h.seq, t3) → (s.ptpPort i.val).ms = some ms →
    Gives (.delayResp i h t4 corr) s fun t => t = { s with regs := t.regs, ptpPorts := t.ptpPorts } ∧
      t.reg Page.tb Reg.tb_PATH_DELAY = BitVec.ofInt 32 ((ms + (t4 - t3 - corr)) / 2) ∧ (t.ptpPort i.val).req = none) ∧
  (∀ (s : State) (i : Fin 4) (h : PtpHdr) (t2 t3 : Int), PtpTaken s i h → s.ptpP2p = true → PtpFree s i .ptpPdelayResp →
    let args := [i.val, h.seq.toNat, h.sender.toNat, (t2 - s.ingress i.val).toNat]
    (s.rbit Page.ptp Reg.ptp_PTP_CFG 4 = false → exec (.pdelayReq i h t2 { t := t3, fail := false }) s =
      .next (s.send .ptpPdelayResp (args ++ [0] ++ oneStepArgs s (t3 + s.egress i.val)))) ∧
    (s.rbit Page.ptp Reg.ptp_PTP_CFG 4 = false → Gives (.pdelayReq i h t2 { t := t3, fail := true }) s fun t => t = { s with ptpPorts := t.ptpPorts, regs := t.regs } ∧
      (t.ptpPort i.val).twoNext = true ∧
      t.fld Page.ptp (Reg.ptp_PTP_DISCARD i.val) 24 8 = min 255 (s.fld Page.ptp (Reg.ptp_PTP_DISCARD i.val) 24 8 + 1)) ∧
    (∀ fail, s.rbit Page.ptp Reg.ptp_PTP_CFG 4 = true → Gives (.pdelayReq i h t2 { t := t3, fail := fail }) s fun t => t = { s with sent := t.sent } ∧
      t.sent = { what := .ptpPdelayRespFollowUp, args := args ++ [(t3 + s.egress i.val).toNat] } ::
        { what := .ptpPdelayResp, args := args ++ [1] ++ oneStepArgs s 0 } :: s.sent)) ∧
  (∀ (s : State) (i : Fin 4) (h : PtpHdr) (turn t4 t1 : Int), PtpTaken s i h → s.ptpP2p = true → (s.ptpPort i.val).req = some (h.seq, t1) →
    Gives (.pdelayResp i h turn t4) s fun t => t = { s with regs := t.regs, ptpPorts := t.ptpPorts } ∧
      t.reg Page.ptp (Reg.ptp_PDELAY i.val) = BitVec.ofInt 32 ((t4 - s.ingress i.val - t1 - turn) / 2) ∧ (t.ptpPort i.val).req = none) ∧
  (∀ (s : State) (i : Fin 4) (t0 : Int), s.ptpOn i.val = true → s.ptpState i.val = 6 → s.rbit Page.ptp Reg.ptp_PTP_CFG 4 = false →
    (s.ptpPort i.val).twoNext = false → PtpFree s i .ptpSync →
    (Gives (.ptpMessageSend i .sync t0 false) s fun t => t = { s with ptpPorts := t.ptpPorts, sent := t.sent } ∧
      t.sent = { what := .ptpSync, args := [i.val, (s.ptpPort i.val).seqNo.toNat, 0] ++ oneStepArgs s (t0 + s.egress i.val) } :: s.sent) ∧
    (Gives (.ptpMessageSend i .sync t0 true) s fun t => t.sent = s.sent ∧ (t.ptpPort i.val).twoNext = true ∧
      t.fld Page.ptp (Reg.ptp_PTP_DISCARD i.val) 24 8 = min 255 (s.fld Page.ptp (Reg.ptp_PTP_DISCARD i.val) 24 8 + 1))) ∧
  (∀ (s : State) (i : Fin 4) (t0 : Int) (fail : Bool), s.ptpOn i.val = true → s.ptpP2p = false → s.slavePort = i.val + 1 → PtpFree s i .ptpDelayReq →
    Gives (.ptpMessageSend i .delayReq t0 fail) s fun t => t.sent = { what := .ptpDelayReq, args := [i.val, (s.ptpPort i.val).seqNo.toNat] } :: s.sent ∧
      (t.ptpPort i.val).req = some ((s.ptpPort i.val).seqNo, t0 + s.egress i.val))

/-- PTP: SYNC, FOLLOW_UP, ANNOUNCE, DELAY_REQ, DELAY_RESP, PDELAY_REQ, PDELAY_RESP, PTP_MESSAGE_SEND, ANNOUNCE_RECEIPT_TIMEOUT, SYNC_LOSS. -/
def Obligations.PtpMessages : Prop := PtpSyncs ∧ PtpMasters ∧ PtpDelays

/-! ### Launch queues, redundancy, sampled values, GOOSE -/

/-- What leaves a port with a frame: the frame, or on a pair of PRP or HSR its two copies with the sequence number and the LAN or path identifier (R367; log 21). -/
def leaving (s : State) (p : Nat) (w : Out) (args : List Nat) : List Sent :=
  let m := s.redMode (p / 2)
  if 4 ≤ p ∨ m = 0 then [{ what := w, args := p :: args }]
  else
    let tail := fun k => args ++ [(s.red (p / 2)).seq.toNat, (if m = 1 then 0xA else 0) + k]
    [{ what := w, args := (p / 2 * 2 + 1) :: tail 1 }, { what := w, args := (p / 2 * 2) :: tail 0 }]

/-- R36, R215, R365, R366, R367: at a departure the frame next in turn leaves with the gate true and the drivers enabled, counted late beyond 8 ns; it is discarded and counted beyond LATE_MAX, and with the gate false it does not leave. A frame held back leaves when it ends before the next launch time. -/
def Launches : Prop :=
  (∀ (s : State) (p : Fin 6) (f : FreeFrame), s.dueFrame p.val s.tb.time.toNs = none → s.held p.val = [f] →
    (s.mayStart p.val f.len = true → exec (.frameLaunch p) s = .next ((s.setHeld p.val []).freeLeave p.val f)) ∧
    (s.mayStart p.val f.len = false → exec (.frameLaunch p) s = .next s)) ∧
  ∀ (s : State) (p : Fin 6), s.held p.val = [] →
    (s.dueFrame p.val s.tb.time.toNs = none → exec (.frameLaunch p) s = .next s) ∧
    (∀ (q : Nat) (f : QFrame), s.dueFrame p.val s.tb.time.toNs = some (q, f) →
      (f.launch + s.lateMax p.val q < s.tb.time.toNs → Gives (.frameLaunch p) s fun t => t = { s with launch := t.launch, regs := t.regs } ∧
        t.queue p.val q = (s.queue p.val q).erase f ∧
        t.reg (launchPage p.val) (discOff p.val) = satInc (s.reg (launchPage p.val) (discOff p.val))) ∧
      (s.tb.time.toNs ≤ f.launch + s.lateMax p.val q → (s.pair.gate = false ∨ s.pair.driveEn = false) → Gives (.frameLaunch p) s fun t =>
        t = { s with launch := t.launch, regs := t.regs } ∧ t.queue p.val q = (s.queue p.val q).erase f ∧
        (4 ≤ p.val → t.reg (launchPage p.val) Reg.lane_GATED = satInc (s.reg (launchPage p.val) Reg.lane_GATED))) ∧
      (s.tb.time.toNs ≤ f.launch + s.lateMax p.val q → s.pair.gate = true → s.pair.driveEn = true → Gives (.frameLaunch p) s fun t =>
        t.sent = leaving s p.val f.what f.args ++ s.sent ∧ t.queue p.val q = (s.queue p.val q).erase f ∧ t.mem = s.mem ∧ t.forme = s.forme ∧
        (f.launch + 8 < s.tb.time.toNs → t.reg (launchPage p.val) (lateOff p.val) = satInc (s.reg (launchPage p.val) (lateOff p.val)))))

/-- A pair works as PRP or HSR, on a module that has not failed (R214). -/
abbrev Redundant (s : State) (i : Fin 2) : Prop := s.redMode i.val ≠ 0 ∧ s.alive = true

/-- R367, R384, R385: supervision frames leave on both ports, a node seen enters or renews its entry while the table has room and is counted otherwise, a node not renewed leaves it; the link of a port and a failed LAN raise their bits. -/
def RedundancyCommands : Prop :=
  (∀ (s : State) (i : Fin 2), Redundant s i →
    ((∀ k, k = 2 * i.val ∨ k = 2 * i.val + 1 → s.held k = [] ∧ s.mayStart k 92 = true) →
      exec (.supervisionFrame i) s = .next ((s.send .supervision [2 * i.val]).send .supervision [2 * i.val + 1])) ∧
    (s.held (2 * i.val) ≠ [] → s.held (2 * i.val + 1) ≠ [] → Gives (.supervisionFrame i) s fun t => t = { s with freeTx := t.freeTx } ∧
      ∀ k, k = 2 * i.val ∨ k = 2 * i.val + 1 → t.held k = s.held k ++ [{ len := 92, what := .supervision, args := [k] }]) ∧
    (∀ (second : Bool) (tag : RedTag), (s.red i.val).nodes.length < 512 → Gives (.supervisionReceipt i second tag) s fun t =>
      t = { s with reds := t.reds, regs := t.regs, sent := t.sent } ∧ tget (fun _ => 0) (t.red i.val).nodes tag.src.toNat = s.now + 1) ∧
    (∀ (second : Bool) (tag : RedTag), 512 ≤ (s.red i.val).nodes.length → tag.src.toNat ∉ (s.red i.val).nodes.map Prod.fst →
      Gives (.supervisionReceipt i second tag) s fun t => (t.red i.val).nodes = (s.red i.val).nodes ∧
        t.reg (Page.red i.val) Reg.red_NODE_FULL = satInc (s.reg (Page.red i.val) Reg.red_NODE_FULL)) ∧
    (Gives (.peerLanFail i) s fun t => t = { s with regs := t.regs } ∧ bit (t.reg (Page.red i.val) Reg.com_INT_RAW) 0 = true)) ∧
  (∀ (s : State) (i : Fin 2) (src : BitVec 48), Gives (.nodeForgetTime i src) s fun t => t = { s with reds := t.reds, regs := t.regs } ∧
    tget (fun _ => 0) (t.red i.val).nodes src.toNat = 0 ∧
    ∀ x, x ≠ src.toNat → tget (fun _ => 0) (t.red i.val).nodes x = tget (fun _ => 0) (s.red i.val).nodes x) ∧
  (∀ (s : State) (p : Fin 5) (up gig full : Bool), Gives (.portLinkChg p up gig full) s fun t => t = { s with regs := t.regs } ∧
    t.rbit (Page.port p.val) Reg.port_PORT_STAT 0 = up ∧
    (s.rbit (Page.port p.val) Reg.port_PORT_STAT 0 ≠ up → bit (t.reg (Page.port p.val) Reg.com_INT_RAW) 0 = true))

/-- Launch queues and redundancy: FRAME_LAUNCH, SUPERVISION_FRAME, SUPERVISION_RECEIPT, PEER_LAN_FAIL, NODE_FORGET_TIME, PORT_LINK_CHG. -/
def Obligations.NetworkPorts : Prop := Launches ∧ RedundancyCommands

/-- A frame of one ASDU for stream i that passes the frame checks of R370, orders 1 to 4. -/
abbrev SvFits (s : State) (i : BitVec 7) (c : SvCfg) (f : SvFrame) (a : SvAsdu) : Prop :=
  s.alive = true ∧ s.svMatch f = [i.toNat] ∧ s.svCfg i.toNat = some c ∧ f.asdus = [a] ∧ f.lenOk = true ∧ (f.sim = true → c.simAccept = true) ∧
  f.noAsdu = 1 ∧ c.noAsdu = 1 ∧ a.svid = c.svid ∧ a.confRev = c.confRev ∧ a.bytes = c.nval * 8

/-- R370, R371: the checks of a sampled-value frame in their order, each with its counter and without a sample; an ASDU that passes them all becomes the sample of its instant. -/
def SvChecks : Prop :=
  (∀ (s : State) (p : Fin 4) (f : SvFrame), s.alive = false → exec (.svFrame p none f) s = .next s) ∧
  (∀ (s : State) (p : Fin 4) (f : SvFrame), s.alive = true → s.svMatch f = [] → exec (.svFrame p none f) s = .next (s.count Page.sv Reg.sv_SV_NOMATCH)) ∧
  (∀ (s : State) (p : Fin 4) (f : SvFrame) (i : BitVec 7) (c : SvCfg), s.alive = true → s.svMatch f = [i.toNat] → s.svCfg i.toNat = some c →
    (f.lenOk = false → Gives (.svFrame p none f) s fun t => t = { s with regs := t.regs, jrn := t.jrn } ∧
      t.reg Page.sv Reg.sv_SV_LEN_ERR = satInc (s.reg Page.sv Reg.sv_SV_LEN_ERR) ∧
      t.reg (Page.port p.val) Reg.port_LEN_DISCARD = satInc (s.reg (Page.port p.val) Reg.port_LEN_DISCARD)) ∧
    (f.lenOk = true → f.sim = true → c.simAccept = false → exec (.svFrame p none f) s = .next (s.count Page.sv Reg.sv_SV_SIM)) ∧
    (f.lenOk = true → (f.sim = true → c.simAccept = true) → f.noAsdu ≠ c.noAsdu → exec (.svFrame p none f) s = .next (s.count Page.sv Reg.sv_SV_CFG_ERR))) ∧
  (∀ (s : State) (p : Fin 4) (f : SvFrame) (i : BitVec 7) (c : SvCfg) (a : SvAsdu), SvFits s i c f a →
    (c.profile.rate ≤ a.smpCnt ∨ a.smpSynch < c.reqSync → exec (.svFrame p none f) s = .next (s.count Page.sv Reg.sv_SV_SMP_ERR)) ∧
    (∀ at_, a.smpCnt < c.profile.rate → c.reqSync ≤ a.smpSynch → svAssign c.profile.rate s.tb.time.toNs a.smpCnt = some at_ →
      (at_ ≤ s.tb.time.toNs ∧ s.tb.time.toNs ≤ at_ + 500000000) ∧
      ((s.sv i.toNat).samples.any (fun y => y.instant == at_) = true → exec (.svFrame p none f) s = .next (s.count Page.sv Reg.sv_SV_DUP)) ∧
      ((s.sv i.toNat).samples.any (fun y => y.instant == at_) = false → at_ + s.alignDelay c.group < s.tb.time.toNs →
        exec (.svFrame p none f) s = .next (s.count Page.sv Reg.sv_SV_LATE)) ∧
      ((s.sv i.toNat).samples.any (fun y => y.instant == at_) = false → s.tb.time.toNs ≤ at_ + s.alignDelay c.group →
        Gives (.svFrame p none f) s fun t => t = { s with svs := t.svs, cmps := t.cmps } ∧
          (t.sv i.toNat).samples.getLast? = some { instant := at_, vals := a.vals } ∧ (t.sv i.toNat).loss = (s.sv i.toNat).loss)))

/-- Stream i is the only one of group g. -/
abbrev OnlyStream (s : State) (g : Fin 16) (i : BitVec 7) (c : SvCfg) : Prop :=
  s.alive = true ∧ s.svStreams.filter (fun k => match s.svCfg k with | some x => x.group == g.val | none => false) = [i.toNat] ∧ s.svCfg i.toNat = some c ∧ c.group = g.val

/-- R372, R374: at the publication of an instant each value of a stream with a sample is INT32 × SCALE with its quality and the time of the instant; one without a sample repeats the last value as held; the LOSS_N-th instant without a sample declares the loss, with cause bit 1, and the values go bad. -/
def SvPublication : Prop :=
  ∀ (s : State) (g : Fin 16) (i : BitVec 7) (c : SvCfg) (sec n : Nat), OnlyStream s g i c → n < c.profile.rate →
    let at_ := svInstant c.profile.rate sec n
    let ch := fun v => 0x1000 + (i.toNat * 8 + v)
    s.tb.stepAt < at_ + s.alignDelay g.val → (s.sv i.toNat).loss = false →
    (∀ y, (s.sv i.toNat).samples.find? (fun y => y.instant == at_) = some y → s.tb.st = .locked ∨ s.tb.st = .holdover →
      Gives (.groupPublish g sec n) s fun t => (t.sv i.toNat).miss = 0 ∧ (t.sv i.toNat).loss = false ∧
        ∀ v w q, v < c.nval → y.vals[v]? = some (w, q) → t.chan (ch v) = { value := svValue w (elt c.scale v), status := q.status 2 false, time := at_ }) ∧
    ((s.sv i.toNat).samples.any (fun y => y.instant == at_) = false → bit (s.reg Page.sv Reg.sv_SV_CFG) (16 + g.val) = false →
      (s.sv i.toNat).miss + 1 ≠ c.lossN → Gives (.groupPublish g sec n) s fun t => (t.sv i.toNat).miss = (s.sv i.toNat).miss + 1 ∧ (t.sv i.toNat).loss = false ∧
        ∀ v, v < c.nval → t.chan (ch v) = { value := (s.chan (ch v)).value, status := 0x4822#16, time := at_ }) ∧
    ((s.sv i.toNat).samples.any (fun y => y.instant == at_) = false → (s.sv i.toNat).miss + 1 = c.lossN →
      Gives (.groupPublish g sec n) s fun t => (t.sv i.toNat).loss = true ∧ bit (t.reg Page.bell Reg.bell_ERR_PEND) 1 = true ∧
        t.reg Page.sv Reg.sv_SV_LOSS_TOTAL = satInc (s.reg Page.sv Reg.sv_SV_LOSS_TOTAL) ∧ bit (t.reg Page.sv Reg.com_INT_RAW) 0 = true ∧
        ∀ v, v < c.nval → t.chan (ch v) = { value := (s.chan (ch v)).value, status := 0x8923#16, time := at_ })

/-- R374, R377: UNSTABLE is cleared alone; the frame of a published stream of one ASDU is queued with its launch time at the instant + PUB_DELAY, its smpCnt the count of the instant and its smpSynch that of the time base. -/
def SvPublishing : Prop :=
  (∀ (s : State) (i : BitVec 7), Gives (.svUnstableClear i) s fun t => t = { s with svs := t.svs } ∧
    t.sv i.toNat = { s.sv i.toNat with unstable := false } ∧ ∀ k : BitVec 7, k ≠ i → t.sv k.toNat = s.sv k.toNat) ∧
  (∀ (s : State) (p : Fin 8) (c : SvPubCfg), tget (fun _ => none) s.net.pubs p.val = some c → c.noAsdu = 1 → (tget (fun _ => ({} : SvPubRt)) s.svPubs p.val).asdus = [] →
    (s.queue c.port c.queue).length < 64 →
    let n := ((s.tb.time.ns + 4) * c.profile.rate - 1) / 1000000000
    Gives (.svPublish p) s fun t => ∃ f : QFrame, t.queue c.port c.queue = s.queue c.port c.queue ++ [f] ∧ f.what = .sampledValue ∧
      f.launch = svInstant c.profile.rate s.tb.time.sec n + (if 8000 ≤ c.pubDelay ∧ c.pubDelay * c.profile.rate ≤ 1000000000 then c.pubDelay else 20000) ∧ f.args.take 3 = [p.val, n, s.tb.st.smpSynch] ∧ t.mem = s.mem ∧ t.forme = s.forme)

/-- Sampled values: SV_FRAME, GROUP_PUBLISH, SV_UNSTABLE_CLEAR, SV_PUBLISH. -/
def SampledValues : Prop := SvChecks ∧ SvPublication ∧ SvPublishing

/-- The input image takes the handles of a subscription: the target lets the input engines write them, and their words carry no error (R160, R196). -/
abbrev GoMay (s : State) (c : GoSub) : Prop :=
  c.members.all (fun h => s.inMay h.handle && (h.ty != .timestamp || s.inMay (h.handle + 1))) = true

/-- A GOOSE message for subscription i that passes the checks of R370 and is not in commissioning. -/
abbrev GoFits (s : State) (i : BitVec 9) (c : GoSub) (m : GoMsg) : Prop :=
  s.alive = true ∧ (s.net.goSubs.filter (fun e => match e.2 with | some c => c.hits m | none => false)).map Prod.fst = [i.toNat] ∧ s.goSub i.toNat = some c ∧
  m.lenOk = true ∧ (m.sim = true → c.simAccept = true) ∧ m.gocbRef = c.gocbRef ∧ m.datSet = c.datSet ∧ m.confRev = c.confRev ∧
  m.entries = c.members.length ∧ m.ndsCom = false

/-- R378, R379: a message of a new state or a later retransmission is accepted: it renews the supervision and its values enter the hidden slots of their handles with CLASS 0x3, visible from the next bell; a repetition changes nothing, one that goes back is counted in GO_ORDER; the end of the supervision marks every handle bad. -/
def GooseReceipt : Prop :=
  (∀ (s : State) (p : Fin 4) (i : BitVec 9) (c : GoSub) (m : GoMsg), GoFits s i c m →
    ((∀ x, (s.go i.toNat).last = some x → x.1 ≠ m.stNum ∨ x.2.toNat < m.sqNum.toNat) → GoMay s c → Gives (.gooseMessage p none m) s fun t =>
      t = { s with gos := t.gos, inImg := t.inImg } ∧
      t.go i.toNat = { last := some (m.stNum, m.sqNum), armed := true, until_ := s.now + m.tal * 250000 } ∧
      (∀ h w, c.members = [h] → m.vals = [.num w] → (t.inEnt h.handle).newer.value = h.ty.word w ∧ (t.inEnt h.handle).newer.status = 0x0030#16 ∧
        (t.inEnt h.handle).newer.since = some (cycNext s.bell.cycle) ∧ ∀ x, x ≠ h.handle → t.inEnt x = s.inEnt x)) ∧
    ((s.go i.toNat).last = some (m.stNum, m.sqNum) → exec (.gooseMessage p none m) s = .next s) ∧
    (∀ q, (s.go i.toNat).last = some (m.stNum, q) → m.sqNum.toNat < q.toNat →
      exec (.gooseMessage p none m) s = .next (s.count Page.sv Reg.sv_GO_ORDER))) ∧
  (∀ (s : State) (i : BitVec 9) (c : GoSub), s.alive = true → s.goSub i.toNat = some c → (s.go i.toNat).armed = true → GoMay s c → Gives (.gooseTalExpiry i) s fun t =>
    (t.go i.toNat).armed = false ∧ t.reg Page.sv Reg.sv_GO_TAL_EXP = satInc (s.reg Page.sv Reg.sv_GO_TAL_EXP) ∧ bit (t.reg Page.sv Reg.com_INT_RAW) 2 = true ∧
    (∀ h, c.members = [h] → h.ty ≠ .quality → h.ty ≠ .timestamp →
      (t.inEnt h.handle).newer.value = (if c.talSubst then h.subst else (s.inLast h.handle).value) ∧
      stQual (t.inEnt h.handle).newer.status = 2 ∧ bit (t.inEnt h.handle).newer.status 8 = true)) ∧
  (∀ (s : State) (i : BitVec 9), (s.go i.toNat).armed = false → exec (.gooseTalExpiry i) s = .next s)

/-- R380: a retransmission of an active module counts sqNum up, doubles the interval up to T_MAX and queues the message for now with timeAllowedtoLive twice the interval; a standby transmits nothing. -/
def GooseSending : Prop :=
  ∀ (s : State) (i : BitVec 7) (c : GoPub), tget (fun _ => none) s.net.goPubs i.toNat = some c →
    let tMax := if 100 ≤ c.tMax ∧ c.tMax ≤ 60000 then c.tMax else 1000
    ((s.goPub i.toNat).started = true → s.isActive = true → (s.queue c.port c.queue).length < 64 → Gives (.gooseRetransmit i) s fun t =>
      t.goPub i.toNat = { s.goPub i.toNat with sqNum := (s.goPub i.toNat).sqNum + 1#32, interval := min tMax (2 * (s.goPub i.toNat).interval) } ∧
      t.queue c.port c.queue = s.queue c.port c.queue ++ [{ launch := s.tb.time.toNs, what := .goose, args := [i.toNat, (s.goPub i.toNat).stNum.toNat,
        ((s.goPub i.toNat).sqNum + 1#32).toNat, 2 * min tMax (2 * (s.goPub i.toNat).interval)] ++ (s.goPub i.toNat).vals.flatMap GoVal.args }]) ∧
    (s.isActive = false → exec (.gooseRetransmit i) s = .next s)

/-- GOOSE: GOOSE_MESSAGE, GOOSE_TAL_EXPIRY, GOOSE_RETRANSMIT. -/
def Goose : Prop := GooseReceipt ∧ GooseSending

/-- Sampled values and GOOSE: SV_FRAME, GROUP_PUBLISH, SV_UNSTABLE_CLEAR, SV_PUBLISH, GOOSE_MESSAGE, GOOSE_TAL_EXPIRY, GOOSE_RETRANSMIT. -/
def Obligations.ProcessBus : Prop := SampledValues ∧ Goose

/-! ### The station link -/

/-- A frame from a station that passes orders 1 to 4 of R397 up to its confirmed length, on an enabled lane of a module that has not failed (R214). -/
abbrev LaneFrame (s : State) (lane : Fin 2) (f : StnFrame) (ty : Byte) : Prop :=
  s.alive = true ∧ s.rbit (Page.lane lane.val) Reg.lane_LANE_CFG 0 = true ∧ f.fcsOk = true ∧ f.etherType.toNat = s.fld (Page.lane lane.val) Reg.lane_ETHERTYPE 0 16 ∧
  f.da = (s.reg (Page.lane lane.val) Reg.lane_GROUP_MAC_HI).extractLsb' 0 16 ++ s.reg (Page.lane lane.val) Reg.lane_GROUP_MAC_LO ∧
  f.type = ty ∧ 1 ≤ f.addr.toNat ∧ f.addr.toNat ≤ 128 ∧ f.len ≠ 0xFFFF#16 ∧ f.len.toNat ≤ f.payload.length

/-- The input image takes the input handles of station x: the target lets the input engines write them, and their words carry no error (R160, R196). -/
abbrev StnMay (s : State) (x : Nat) : Prop := (s.stnEntries x false).all (fun m => !m.hEn || s.inMay m.handle) = true

/-- Index of the station that a frame names (R388). -/
def stnIx (lane : Fin 2) (f : StnFrame) : Nat := lane.val * 128 + f.addr.toNat - 1

/-- R397, R389: the first check that fails discards the frame with its counter, whatever command it is; a lane that is not enabled takes none. -/
def StationChecks : Prop :=
  ∀ (s : State) (lane : Fin 2) (f : StnFrame) (i : Instr), i = .joinReq lane f ∨ i = .input lane f →
    let p := Page.lane lane.val
    (s.alive = false ∨ s.rbit p Reg.lane_LANE_CFG 0 = false → exec i s = .next s) ∧
    (s.alive = true → s.rbit p Reg.lane_LANE_CFG 0 = true → f.fcsOk = false → exec i s = .next (s.count p Reg.lane_FCS_ERR)) ∧
    (s.alive = true → s.rbit p Reg.lane_LANE_CFG 0 = true → f.fcsOk = true → f.etherType.toNat ≠ s.fld p Reg.lane_ETHERTYPE 0 16 →
      exec i s = .next (s.count p Reg.lane_NOMATCH)) ∧
    (s.alive = true → s.rbit p Reg.lane_LANE_CFG 0 = true → f.fcsOk = true → f.etherType.toNat = s.fld p Reg.lane_ETHERTYPE 0 16 →
      f.da = (s.reg p Reg.lane_GROUP_MAC_HI).extractLsb' 0 16 ++ s.reg p Reg.lane_GROUP_MAC_LO → 128 < f.addr.toNat →
      exec i s = .next (s.count p Reg.lane_FRAME_ERR))

/-- A frame of n payload bytes for station x leaves at once: nothing is held back on its lane, and it ends before the next launch time (R365, R390). -/
abbrev LaneFree (s : State) (x n : Nat) : Prop := s.held (4 + x / 128) = [] ∧ s.mayStart (4 + x / 128) (max 84 (n + 56)) = true

/-- R390, R393, R394, R396, R405: the module with the pass answers a JOIN_REQ with JOIN_ACK when every check passes, and the station is JOINING under the agreed version, a repeated request keeping the first one; otherwise with JOIN_NAK and the reason, which makes a JOINING station ABSENT; the request of a RUNNING station is a dropout first; a standby does not answer and learns the station's address (log 26). -/
def Joins : Prop :=
  ∀ (s : State) (lane : Fin 2) (f : StnFrame), LaneFrame s lane f 0x01#8 → f.len = 28#16 →
    let x := stnIx lane f
    let r := s.stn x
    (s.isActive = false → Gives (.joinReq lane f) s fun t => t = { s with stns := t.stns, regs := t.regs } ∧
      t.reg (Page.lane lane.val) Reg.lane_RX_FRAMES = satInc (s.reg (Page.lane lane.val) Reg.lane_RX_FRAMES) ∧
      t.stn x = (if (s.stnCfgOf x).isSome then { r with mac := f.sa } else r) ∧ ∀ y, y ≠ x → t.stn y = s.stn y) ∧
    (∀ c ver, s.isActive = true → s.pair.gate = true → s.stnCfgOf x = some c → s.joinReason x f.payload = (0, ver) → StnMay s x →
      Gives (.joinReq lane f) s fun t => (t.stn x).st = .joining ∧ (t.stn x).mac = f.sa ∧ (t.stn x).missed = 0 ∧
        (t.stn x).ver = (if r.st = .joining then r.ver else ver) ∧
        (LaneFree s x c.ackPayload.length → t.sent = { what := .joinAck, args := s.stnFrame x f.sa (if r.st = .joining then r.ver else ver) 0x02 0 (s.bell.cycle % 2 ^ 48) 0 c.ackPayload } :: s.sent) ∧
        (¬LaneFree s x c.ackPayload.length → r.st ≠ .running → t.sent = s.sent ∧ ((t.held (4 + x / 128)).getLast?.map (·.what)) = some .joinAck) ∧
        t.reg Page.stn Reg.stn_JOIN_TOTAL = satInc (s.reg Page.stn Reg.stn_JOIN_TOTAL) ∧ t.forme = s.forme ∧
        (r.st = .running → t.reg Page.stn Reg.stn_DROP_TOTAL = satInc (s.reg Page.stn Reg.stn_DROP_TOTAL) ∧
          bit (t.reg Page.bell Reg.bell_ERR_PEND) 0 = true)) ∧
    (∀ c reason ver, s.isActive = true → s.pair.gate = true → s.stnCfgOf x = some c → s.joinReason x f.payload = (reason, ver) → reason ≠ 0 →
      r.st ≠ .running → Gives (.joinReq lane f) s fun t => (t.stn x).nak = reason ∧ (t.stn x).st = (if r.st = .joining then .absent else r.st) ∧
        (LaneFree s x 4 → t.sent = { what := .joinNak, args := s.stnFrame x f.sa (s.verInUse 2) 0x03 0 0 0 (bytesBE 1 reason ++ bytesBE 3 0) } :: s.sent) ∧
        (¬LaneFree s x 4 → t.sent = s.sent ∧ ((t.held (4 + x / 128)).getLast?.map (·.what)) = some .joinNak) ∧
        t.reg Page.stn Reg.stn_NAK_TOTAL = satInc (s.reg Page.stn Reg.stn_NAK_TOTAL) ∧ bit (t.reg Page.stn Reg.com_INT_RAW) 2 = true)

/-- R397 to R399, R405: an INPUT that passes every check makes its station RUNNING, and its values enter their hidden slots and channels with the time of the grid point; a standby takes one of an ABSENT or FAILED station under its own version; one of another version, in another state, too late or a second time is discarded with its counter. -/
def StationInputs : Prop :=
  ∀ (s : State) (lane : Fin 2) (f : StnFrame) (c : StnCfg), LaneFrame s lane f 0x11#8 → s.stnCfgOf (stnIx lane f) = some c → f.len.toNat = c.inLen →
    let x := stnIx lane f
    let r := s.stn x
    let p := Page.lane lane.val
    (∀ j, r.st.joined = true → f.ver.toNat = r.ver → c.seqPeriod s.tb.time.toNs f.seq = some j → r.seen.contains j = false → StnMay s x →
      Gives (.input lane f) s fun t => (t.stn x).st = .running ∧ (t.stn x).seen = (j :: r.seen).take 4 ∧
        t.reg p Reg.lane_RX_FRAMES = satInc (s.reg p Reg.lane_RX_FRAMES) ∧ t.forme = s.forme ∧ t.outImg = s.outImg ∧
        (r.st = .joining → bit (t.reg Page.stn Reg.com_INT_RAW) 1 = true) ∧
        (∀ m, s.stnEntries x false = [m] → m.qEn = false →
          (m.hEn = true → (t.inEnt m.handle).newer = { value := m.word f.payload, status := 0x0010#16, since := some (cycNext s.bell.cycle) }) ∧
          (m.cEn = true → t.chan m.chan = { value := m.real f.payload, status := 0x0010#16, time := j * c.period }))) ∧
    (∀ j, s.standbyTakes x f.ver.toNat = true → c.seqPeriod s.tb.time.toNs f.seq = some j → r.seen.contains j = false → StnMay s x →
      Gives (.input lane f) s fun t => (t.stn x).st = .running ∧ (t.stn x).ver = f.ver.toNat ∧ (t.stn x).missed = 0 ∧ (t.stn x).from_ = j ∧
        (t.stn x).seen = (j :: r.seen).take 4 ∧ t.reg p Reg.lane_RX_FRAMES = satInc (s.reg p Reg.lane_RX_FRAMES) ∧
        bit (t.reg Page.stn Reg.com_INT_RAW) 1 = true ∧ t.sent = s.sent) ∧
    (r.st.joined = true → f.ver.toNat ≠ r.ver → exec (.input lane f) s = .next (s.count p Reg.lane_VER_DISCARD)) ∧
    (s.isActive = true → r.st.joined = false → f.ver.toNat = r.ver → exec (.input lane f) s = .next (s.count p Reg.lane_STATE_DISCARD)) ∧
    (r.st.joined = true → f.ver.toNat = r.ver → c.seqPeriod s.tb.time.toNs f.seq = none → exec (.input lane f) s = .next (s.count p Reg.lane_LATE_CNT)) ∧
    (∀ j, r.st.joined = true → f.ver.toNat = r.ver → c.seqPeriod s.tb.time.toNs f.seq = some j → r.seen.contains j = true →
      exec (.input lane f) s = .next (s.count p Reg.lane_DUP_CNT))

/-- A station that has dropped out (R401): FAILED or what the command makes of it, counted, recorded as the last, none of its OUTPUT frames queued, its input substituted or held as DROP_ACT states, its cause raised on the active module. -/
def Dropped (s t : State) (x : Nat) : Prop :=
  t.reg Page.stn Reg.stn_DROP_TOTAL = satInc (s.reg Page.stn Reg.stn_DROP_TOTAL) ∧ t.reg Page.stn Reg.stn_LAST_DROP = BitVec.ofNat 32 (x + 256) ∧
  (∀ f ∈ t.queue (4 + x / 128) 0, ¬(f.what = .stationOutput ∧ f.args.head? = some x)) ∧
  (s.isActive = true → bit (t.reg Page.bell Reg.bell_ERR_PEND) 0 = true) ∧ t.forme = s.forme ∧
  (∀ m, s.stnEntries x false = [m] → m.hEn = true → (t.inEnt m.handle).newer.since = some (cycNext s.bell.cycle) ∧
    (m.holds = false → (t.inEnt m.handle).newer.value = m.w3 ∧ (t.inEnt m.handle).newer.status = 0xA113#16) ∧
    (m.holds = true → (t.inEnt m.handle).newer.value = (s.inLast m.handle).value ∧ (t.inEnt m.handle).newer.status = 0x8914#16))

/-- R395, R403: the OUTPUT of period j of a JOINING or RUNNING station is queued in launch queue 0 for its grid point + OUT_PHASE, with the agreed version, STOP and NEW_HOLDER, the epoch, the cycle of the forme, SEQ and OUT_LEN bytes, in which a 32-bit output handle stands most significant byte first. -/
def OutputBuilds : Prop :=
  ∀ (s : State) (x : BitVec 8) (j : Nat) (c : StnCfg), s.stnCfgOf x.toNat = some c →
    (s.isActive = true → (s.stn x.toNat).st.joined = true → (s.queue (4 + x.toNat / 128) 0).length < 64 →
      Gives (.outputBuild x j) s fun t => t.forme = s.forme ∧ t.stns = s.stns ∧ ∃ f : QFrame,
        t.queue (4 + x.toNat / 128) 0 = s.queue (4 + x.toNat / 128) 0 ++ [f] ∧ f.what = .stationOutput ∧ f.launch = j * c.period + c.outPhase ∧
        f.args.head? = some x.toNat ∧ (f.args.drop 1).take 12 = (bytesBE 6 (s.stn x.toNat).mac.toNat ++ bytesBE 6 ownMac.toNat).map BitVec.toNat ∧
        (f.args.drop 15).take 18 = (bytesBE 1 (s.stn x.toNat).ver ++ [0x10#8] ++ bytesBE 1 (x.toNat % 128 + 1) ++
          bytesBE 1 ((if s.bell.mode = .stop then 1 else 0) + (if (s.stn x.toNat).told then 0 else 2)) ++ bytesBE 4 s.pair.epoch.toNat ++
          bytesBE 6 (s.bell.formeCyc % 2 ^ 48) ++ bytesBE 2 (j % 65536) ++ bytesBE 2 c.outLen).map BitVec.toNat ∧
        (∀ m, s.stnEntries x.toNat true = [m] → m.type = 5 → m.hEn = true → m.cEn = false → m.offset + 4 ≤ c.outLen →
          (f.args.drop (33 + m.offset)).take 4 = (bytesBE 4 (s.formeValue m.handle).toNat).map BitVec.toNat)) ∧
    (s.isActive = false → exec (.outputBuild x j) s = .next s)

/-- R396, R400, R401: a deadline whose INPUT was accepted clears the count of missed ones; the DROP_N-th missed in a row is a dropout of a RUNNING station and makes a JOINING one ABSENT. -/
def InputDeadlines : Prop :=
  ∀ (s : State) (x : BitVec 8) (j : Nat), s.alive = true → StnMay s x.toNat → (s.stn x.toNat).st.joined = true → (s.stn x.toNat).from_ ≤ j →
    let r := s.stn x.toNat
    let n := s.fld (Page.lane (x.toNat / 128)) Reg.lane_LANE_CFG 8 8
    (r.seen.contains j = true → Gives (.inputDeadline x j) s fun t => t = { s with stns := t.stns } ∧ t.stn x.toNat = { r with missed := 0 }) ∧
    (r.seen.contains j = false → r.missed + 1 < n → Gives (.inputDeadline x j) s fun t => t = { s with stns := t.stns } ∧
      t.stn x.toNat = { r with missed := r.missed + 1 }) ∧
    (r.seen.contains j = false → n ≤ r.missed + 1 → r.st = .running → Gives (.inputDeadline x j) s fun t => (t.stn x.toNat).st = .failed ∧ Dropped s t x.toNat) ∧
    (r.seen.contains j = false → n ≤ r.missed + 1 → r.st = .joining → Gives (.inputDeadline x j) s fun t => t = { s with stns := t.stns, regs := t.regs } ∧
      (t.stn x.toNat).st = .absent ∧ bit (t.reg Page.stn Reg.com_INT_RAW) 3 = true)

/-- R412, R409: LEAVE sends a LEAVE and drops the station to ABSENT, INHIBIT does so where it is joined and inhibits it, ALLOW makes it ABSENT; a state that does not permit the command, a standby for LEAVE and P2 count an error; an enabled lane trains, comes up with the result of its training or goes down. -/
def StationCommands : Prop :=
  (∀ (s : State) (x : BitVec 8) (p : Priv), p ≠ .p2 →
    let r := s.stn x.toNat
    (s.isActive = true → s.pair.gate = true → r.st.joined = true → StnMay s x.toNat → Gives (.leave x p) s fun t => (t.stn x.toNat).st = .absent ∧ Dropped s t x.toNat ∧
      (LaneFree s x.toNat 0 → t.sent = { what := .stationLeave, args := s.stnFrame x.toNat r.mac r.ver 0x04 0 0 0 [] } :: s.sent) ∧
      (¬LaneFree s x.toNat 0 → t.sent = s.sent ∧ ((t.held (4 + x.toNat / 128)).getLast?.map (·.what)) = some .stationLeave)) ∧
    (s.isActive = false ∨ r.st.joined = false → exec (.leave x p) s = .next (s.err Page.stn)) ∧
    (r.st.joined = true → StnMay s x.toNat → Gives (.inhibit x p) s fun t => (t.stn x.toNat).st = .inhibited ∧ Dropped s t x.toNat) ∧
    (r.st = .absent ∨ r.st = .failed → Gives (.inhibit x p) s fun t => t = { s with stns := t.stns } ∧ t.stn x.toNat = { r with st := .inhibited }) ∧
    (r.st = .inhibited → Gives (.allow x p) s fun t => t = { s with stns := t.stns } ∧ t.stn x.toNat = { r with st := .absent }) ∧
    (r.st ≠ .inhibited → exec (.allow x p) s = .next (s.err Page.stn))) ∧
  (∀ (s : State) (x : BitVec 8), exec (.leave x .p2) s = .next (s.err Page.stn) ∧ exec (.inhibit x .p2) s = .next (s.err Page.stn) ∧
    exec (.allow x .p2) s = .next (s.err Page.stn)) ∧
  (∀ (s : State) (lane : Fin 2) (e : LaneEvt), Gives (.laneLinkChg lane e) s fun t => t = { s with lanes := t.lanes, regs := t.regs } ∧
    tget (fun _ => LaneSt.down) t.lanes lane.val = (if s.rbit (Page.lane lane.val) Reg.lane_LANE_CFG 0 then e.st else .down) ∧
    (s.rbit (Page.lane lane.val) Reg.lane_LANE_CFG 0 = true → e.st = .up → t.reg (Page.lane lane.val) Reg.lane_TRAIN = e.train.zeroExtend 32 ∧
      (tget (fun _ => LaneSt.down) s.lanes lane.val ≠ .up → bit (t.reg (Page.lane lane.val) Reg.com_INT_RAW) 0 = true)) ∧
    (tget (fun _ => LaneSt.down) s.lanes lane.val = .up → e.st ≠ .up → bit (t.reg (Page.lane lane.val) Reg.com_INT_RAW) 0 = true))

/-- The station link: JOIN_REQ, INPUT, OUTPUT_BUILD, INPUT_DEADLINE, LEAVE, INHIBIT, ALLOW, LANE_LINK_CHG. -/
def Obligations.StationLink : Prop := StationChecks ∧ Joins ∧ StationInputs ∧ OutputBuilds ∧ InputDeadlines ∧ StationCommands

/-! ### The Ralon fabric -/

/-- Port, header, type and fields of the frames of R418 that a port receives (PST frames have a carrier of their own). -/
def fabFrame : Instr → Option (Fin 4 × FabHdr × Out × List Nat)
  | .hello p h m => some (p, h, .hello, [m.uid.toNat, m.addr.toNat, m.cost, m.keeper.toNat, m.roll.toNat, m.ownMin, m.ownMax])
  | .roll p h k r v l => some (p, h, .roll, [k.toNat, r.toNat, v, l.length] ++ l.flatMap (fun e => [e.1.toNat, e.2.toNat]))
  | .addrReq p h u ask lo hi => some (p, h, .addrReq, [u.toNat, ask.pref.toNat, lo, hi, ask.proxy])
  | .addrGrant p h u a r => some (p, h, .addrGrant, [u.toNat, a.toNat, r])
  | .lsa p h m => some (p, h, .lsa, [m.uid.toNat, m.addr.toNat, m.seq.toNat, m.nbrs.length] ++ m.nbrs.flatMap (fun e => [e.1.toNat, e.2]))
  | .gv p h m => some (p, h, .gv, [m.gvId.toNat, m.count.toNat, m.epoch.toNat, m.cyc.toNat] ++ m.entries.flatMap (fun e => [e.1.toNat, e.2.toNat]))
  | .bulk p h b => some (p, h, .bulk, b.map BitVec.toNat)
  | _ => none

/-- Versions that a frame of type w may carry (R417, R418, R427). -/
abbrev VerOk (s : State) (h : FabHdr) (w : Out) : Prop :=
  if fabFixed w then h.ver = 1#8 else h.ver.toNat = s.fab.ver ∨ some h.ver.toNat = s.fab.oldVer

/-- R415 to R418, R426, R433: a frame that fails a check is discarded with its counter and changes nothing else but the journal; a port that is not UP takes none. The check of the trailer passes with the code sum over the payload and the CRC over header and payload, and with no other CRC. -/
def FabricDiscards : Prop :=
  (∀ (i : Instr) (s : State) (p : Fin 4) (h : FabHdr) (w : Out) (args : List Nat), fabFrame i = some (p, h, w, args) →
    (s.fportUp p.val = false → exec i s = .next s) ∧
    (s.fportUp p.val = true → h.intact w args = false → exec i s = .next (s.count (Page.fport p.val) Reg.fport_CRC_ERR)) ∧
    (s.fportUp p.val = true → h.intact w args = true → h.lenOk w args = false → exec i s = .next (s.discard (Page.fport p.val) Reg.fport_LEN_DISCARD)) ∧
    (s.fportUp p.val = true → h.intact w args = true → h.lenOk w args = true → h.type ∉ [0x01#8, 0x02#8, 0x03#8, 0x04#8, 0x05#8, 0x10#8, 0x20#8, 0x30#8] →
      exec i s = .next (s.count Page.fab Reg.fab_VER_DISCARD)) ∧
    (s.fportUp p.val = true → h.intact w args = true → h.lenOk w args = true → h.type.toNat = fabType w → ¬VerOk s h w →
      exec i s = .next (s.count Page.fab Reg.fab_VER_DISCARD)) ∧
    (s.fportUp p.val = true → h.intact w args = true → h.lenOk w args = true → h.type.toNat = fabType w → VerOk s h w → h.dst = 0xFFFF#16 → h.hops = 0#6 →
      exec i s = .next (s.count Page.fab Reg.fab_HOP_DISCARD))) ∧
  (∀ (h : FabHdr) (w : Out) (args : List Nat), let b := h.bytes w args
    ({ h with crc := crc32c b, csum := codeSum (b.drop 16) } : FabHdr).intact w args = true ∧
    ∀ c x, c ≠ crc32c b → ({ h with crc := c, csum := x } : FabHdr).intact w args = false)

/-- A frame of type w with these fields that passes R417 on a port that is UP. -/
abbrev FabTaken (s : State) (p : Fin 4) (h : FabHdr) (w : Out) (args : List Nat) : Prop :=
  s.fportUp p.val = true ∧ h.intact w args = true ∧ h.lenOk w args = true ∧ h.type.toNat = fabType w ∧ VerOk s h w ∧ h.hops ≠ 0#6

/-- Nothing waits on port p and its wire is free: a frame leaves at once (R419). -/
abbrev PortFree (s : State) (p : Nat) : Prop := (∀ c, c < 4 → s.fabQueue p c = []) ∧ tget (fun _ => 0) s.fab.busy p ≤ s.now

/-- What has been sent last: its type, its port and the 16 bytes behind its header. -/
def lastFab (t : State) : Option (Out × Option Nat × List Nat) := t.sent.head?.map (fun o => (o.what, o.args.head?, (o.args.drop 17).take 16))

/-- Payload of an ADDR_GRANT and of an ADDR_REQ (R418). -/
def grantBytes (u : DWord) (a : Half) (r : Nat) : List Byte := bytesBE 8 u.toNat ++ bytesBE 2 a.toNat ++ bytesBE 1 r ++ bytesBE 5 0
def requestBytes (u : DWord) (a : Half) (lo hi p : Nat) : List Byte :=
  bytesBE 8 u.toNat ++ bytesBE 2 a.toNat ++ bytesBE 1 lo ++ bytesBE 1 hi ++ bytesBE 1 p ++ bytesBE 3 0

/-- R413, R420: a port that goes DOWN retrains and drops its neighbour, a HELLO makes or renews it, its timeout drops it; an enabled port that is UP sends HELLO. -/
def FabricNeighbours : Prop :=
  (∀ (s : State) (p : Fin 4), Gives (.fabricPortDown p) s fun t => tget (fun _ => LaneSt.down) t.fab.ports p.val = .training ∧ t.nbr p.val = none ∧
    t.fab.addr = s.fab.addr ∧ t.fab.book = s.fab.book ∧
    (tget (fun _ => LaneSt.down) s.fab.ports p.val = .up → bit (t.reg (Page.fport p.val) Reg.com_INT_RAW) 0 = true)) ∧
  (∀ (s : State) (u : FabUp), Gives (.fabricPortUp u) s fun t => t = { s with fab := t.fab, regs := t.regs } ∧
    t.fab = { s.fab with ports := t.fab.ports } ∧ tget (fun _ => LaneSt.down) t.fab.ports u.port.val = .up ∧
    t.reg (Page.fport u.port.val) Reg.fport_TRAIN = u.train.zeroExtend 32) ∧
  (∀ (s : State) (p : Fin 4) (h : FabHdr) (m : FabHello),
    FabTaken s p h .hello [m.uid.toNat, m.addr.toNat, m.cost, m.keeper.toNat, m.roll.toNat, m.ownMin, m.ownMax] → h.dst = 0xFFFE#16 → Gives (.hello p h m) s fun t =>
    t.nbr p.val = some { uid := m.uid, addr := m.addr, cost := m.cost } ∧ (∀ q : Fin 4, q ≠ p → t.nbr q.val = s.nbr q.val) ∧
    t.reg (Page.fport p.val) Reg.fport_RX_FRAMES = satInc (s.reg (Page.fport p.val) Reg.fport_RX_FRAMES) ∧ t.fab.addr = s.fab.addr ∧ t.fab.book = s.fab.book ∧
    t.sent = s.sent) ∧
  (∀ (s : State) (p : Fin 4), Gives (.neighbourTimeout p) s fun t => t = { s with fab := t.fab, regs := t.regs } ∧ t.nbr p.val = none ∧
    (s.nbr p.val ≠ none → bit (t.reg (Page.fport p.val) Reg.com_INT_RAW) 1 = true) ∧ ∀ q : Fin 4, q ≠ p → t.nbr q.val = s.nbr q.val) ∧
  (∀ (s : State) (p : Fin 4), s.fportUp p.val = true →
    let b := bytesBE 2 0xFFFE ++ bytesBE 2 s.fab.addr.toNat ++ [0x01#8, 0x01#8] ++ bytesBE 1 (s.fld Page.fab Reg.fab_FAB_CFG 8 6) ++ [0#8] ++ bytesBE 4 s.fab.seq.toNat ++
      bytesBE 2 32 ++ bytesBE 2 0 ++ bytesBE 8 Config.uid.toNat ++ bytesBE 2 s.fab.addr.toNat ++ bytesBE 1 (s.fportCost p.val) ++ [0#8] ++
      bytesBE 8 s.fab.keeper.toNat ++ bytesBE 4 s.fab.roll.toNat ++ bytesBE 1 s.fabRange.1 ++ bytesBE 1 s.fabRange.2 ++ bytesBE 6 0
    let frame := b ++ bytesBE 2 (codeSum (b.drop 16)).toNat ++ bytesBE 4 (crc32c b).toNat ++ bytesBE 2 0
    (Gives (.helloSend p) s fun t => t.fab = { s.fab with seq := s.fab.seq + 1#32, queues := t.fab.queues, busy := t.fab.busy }) ∧
    (PortFree s p.val → Gives (.helloSend p) s fun t =>
      t.reg (Page.fport p.val) Reg.fport_TX_FRAMES = satInc (s.reg (Page.fport p.val) Reg.fport_TX_FRAMES) ∧
      t.sent = { what := .hello, args := p.val :: frame.map BitVec.toNat } :: s.sent) ∧
    (s.now < tget (fun _ => 0) s.fab.busy p.val → (s.fabQueue p.val 0).length < 64 → Gives (.helloSend p) s fun t => t.sent = s.sent ∧ t.regs = s.regs ∧
      t.fabQueue p.val 0 = s.fabQueue p.val 0 ++ [{ what := .hello, bytes := frame, own := true }]) ∧
    (64 ≤ (s.fabQueue p.val 0).length → Gives (.helloSend p) s fun t => t.sent = s.sent ∧ t.fab.queues = s.fab.queues ∧
      t.reg (Page.fport p.val) (Reg.fport_QDROP 0) = satInc (s.reg (Page.fport p.val) (Reg.fport_QDROP 0))))

/-- R421, R423, R427: a ROLL of the lowest module that can be reached with a roll number not below the own one is accepted: keeper, number and version become its own, and a keeper resigns; the keeper floods ROLL, one frame for each 125 entries, and a module that is not keeper floods none. -/
def RollCalls : Prop :=
  (∀ (s : State) (p : Fin 4) (h : FabHdr) (k : DWord) (roll : Word) (v : Nat) (l : List (DWord × BitVec 16)),
    FabTaken s p h .roll ([k.toNat, roll.toNat, v, l.length] ++ l.flatMap (fun e => [e.1.toNat, e.2.toNat])) → h.dst = 0xFFFF#16 →
    h.src ≠ s.fab.addr → seqNewer (tget (fun _ => none) s.fab.flood h.src.toNat) h.seq = true → k = s.fabLowest → k ≠ Config.uid →
    s.fab.roll.toNat ≤ roll.toNat → Gives (.roll p h k roll v l) s fun t =>
      t.fab.keeper = k ∧ t.fab.isKeeper = false ∧ t.fab.roll = roll ∧ t.fab.ver = v ∧ t.fab.lsas = s.fab.lsas ∧ t.fab.routes = s.fab.routes ∧
      ((s.fab.keeper ≠ k ∨ s.fab.isKeeper = true) → bit (t.reg Page.fab Reg.com_INT_RAW) 0 = true)) ∧
  (∀ s : State, s.fab.isKeeper = true → s.fabMay .roll = true → Gives .rollSend s fun t => t = { s with fab := t.fab, regs := t.regs, sent := t.sent } ∧
    t.fab = { s.fab with seq := s.fab.seq + BitVec.ofNat 32 (max 1 ((s.fab.book.length + 124) / 125)), queues := t.fab.queues, busy := t.fab.busy }) ∧
  (∀ s : State, s.fab.isKeeper = false → exec .rollSend s = .next s)

/-- R423: the keeper grants the address of the book, or the preferred one when it is free, and enters it; another module with an address forwards the request as a proxy; the requester takes the grant, a refusal sets NEG_FAIL; without an address the request is repeated to a neighbour. -/
def AddressGrants : Prop :=
  (∀ (s : State) (p : Fin 4) (h : FabHdr) (u : DWord) (pref : BitVec 16) (lo hi proxy : Nat), FabTaken s p h .addrReq [u.toNat, pref.toNat, lo, hi, proxy] → h.dst = 0xFFFE#16 →
    let req := Instr.addrReq p h u { pref := pref, proxy := proxy } lo hi
    (s.fab.isKeeper = true → s.fab.negFail = false → lo ≤ s.fab.ver → s.fab.ver ≤ hi → PortFree s p.val →
      (∀ a, bookAddr s.fab.book u = some a → Gives req s fun t => t.fab.book = s.fab.book ∧
        lastFab t = some (.addrGrant, some p.val, (grantBytes u a 0).map BitVec.toNat)) ∧
      (bookAddr s.fab.book u = none → 1 ≤ pref.toNat → pref.toNat ≤ 0x400 → bookHolds s.fab.book pref = false → s.fab.book.length ≤ 1024 →
        Gives req s fun t => bookAddr t.fab.book u = some pref ∧
          ((t.fabQueue p.val 0).getLast?.map (fun f => (f.what, (f.bytes.drop 16).take 16))) = some (.addrGrant, grantBytes u pref 0))) ∧
    (s.fab.isKeeper = false → ∀ k q, s.keeperAddr = some k → s.fab.addr ≠ 0#16 → s.fabMay .addrReq = true → k.toNat ≠ 0xFFFF → s.fabPort k.toNat = some q → PortFree s q →
      Gives req s fun t => t.fab.proxies.head? = some (u, p.val) ∧
        lastFab t = some (.addrReq, some q, (requestBytes u pref lo hi p.val).map BitVec.toNat))) ∧
  (∀ (s : State) (p : Fin 4) (h : FabHdr) (a : BitVec 16) (result : Nat), FabTaken s p h .addrGrant [Config.uid.toNat, a.toNat, result] → h.dst = 0xFFFE#16 → s.fab.addr = 0#16 →
    (result = 0 → Gives (.addrGrant p h Config.uid a result) s fun t => t.fab.addr = a ∧ t.fab.negFail = false ∧
      (a ≠ 0#16 → bit (t.reg Page.fab Reg.com_INT_RAW) 1 = true)) ∧
    (result ≠ 0 → s.fab.negFail = false → Gives (.addrGrant p h Config.uid a result) s fun t => t.fab.addr = 0#16 ∧ t.fab.negFail = true ∧
      bit (t.reg Page.fab Reg.com_INT_RAW) 4 = true)) ∧
  (∀ (s : State) (p : Fin 4), s.fab.addr = 0#16 → s.fab.isKeeper = false → (List.range 4).find? (fun i => (s.nbr i).isSome) = some p.val → s.fportUp p.val = true → PortFree s p.val →
    Gives .addrReqRepeat s fun t => t.fab = { s.fab with seq := s.fab.seq + 1#32, queues := t.fab.queues, busy := t.fab.busy } ∧
      lastFab t = some (.addrReq, some p.val, (requestBytes Config.uid s.prefAddr s.fabRange.1 s.fabRange.2 0).map BitVec.toNat))

/-- R421, R422, R424, R425, R427, R434: newer LSAs are kept and flooded, old ones expire, a computation switches to the table of shortest paths and the lowest module becomes keeper with the roll number raised; the book entry of a module that has left, the grace of a version, RAISE and RENEW. -/
def RouteCommands : Prop :=
  (∀ (s : State) (p : Fin 4) (h : FabHdr) (m : FabLsa),
    FabTaken s p h .lsa ([m.uid.toNat, m.addr.toNat, m.seq.toNat, m.nbrs.length] ++ m.nbrs.flatMap (fun e => [e.1.toNat, e.2])) → h.dst = 0xFFFF#16 → h.src ≠ s.fab.addr →
    seqNewer (tget (fun _ => none) s.fab.flood h.src.toNat) h.seq = true → m.uid ≠ Config.uid →
    (seqNewer ((s.fab.lsas.find? (fun l => l.uid == m.uid)).map (·.seq)) m.seq = true → Gives (.lsa p h m) s fun t =>
      t.fab.lsas = m :: s.fab.lsas.filter (fun l => l.uid != m.uid) ∧ t.fab.routes = s.fab.routes ∧ t.fab.addr = s.fab.addr) ∧
    (seqNewer ((s.fab.lsas.find? (fun l => l.uid == m.uid)).map (·.seq)) m.seq = false → Gives (.lsa p h m) s fun t => t.fab.lsas = s.fab.lsas)) ∧
  (∀ s : State, s.fab.addr ≠ 0#16 → s.fabMay .lsa = true → Gives .lsaSend s fun t =>
    t.fab = { s.fab with lsaSeq := s.fab.lsaSeq + 1#32, seq := s.fab.seq + 1#32, queues := t.fab.queues, busy := t.fab.busy } ∧
    ((∀ i, i < 4 → s.fportUp i = true → PortFree s i) → t.sent.length = s.sent.length + ((List.range 4).filter (fun i => s.fportUp i)).length)) ∧
  (∀ (s : State) (u : DWord), exec (.lsaExpiry u) s = .next { s with fab := { s.fab with lsas := s.fab.lsas.filter (fun l => l.uid != u) } }) ∧
  (∀ s : State, s.fabEn = true → Gives .routeComputation s fun t => t.fab.routes = s.fabRoutes ∧ t.fab.reach = t.fabFound ∧ t.fab.nodes = t.fab.reach.length + 1 ∧ t.fab.lsas = s.fab.lsas ∧
    t.reg Page.fab Reg.fab_ROUTE_CHG = satInc (s.reg Page.fab Reg.fab_ROUTE_CHG) ∧ (t.reg Page.fab Reg.fab_LAST_SPF).toNat ≤ 125000 ∧
    (t.fabLowest = Config.uid → s.fab.isKeeper = false → t.fab.isKeeper = true ∧ t.fab.keeper = Config.uid ∧ t.fab.roll = s.fab.roll + 1#32) ∧
    (t.fabLowest ≠ Config.uid ∨ s.fab.isKeeper = true → t.fab.isKeeper = s.fab.isKeeper ∧ t.fab.roll = s.fab.roll ∧ t.fab.addr = s.fab.addr)) ∧
  (∀ (s : State) (u : DWord), s.fab.isKeeper = true → s.fab.reach.contains u = false → u ≠ Config.uid → (bookAddr s.fab.book u).isSome = true →
    Gives (.bookKeepExpiry u) s fun t => t.fab.book = s.fab.book.filter (fun e => e.1 != u) ∧ bookAddr t.fab.book u = none) ∧
  (∀ (s : State) (u : DWord), s.fab.isKeeper = false → exec (.bookKeepExpiry u) s = .next s) ∧
  (∀ s : State, exec .versionGraceEnd s = .next { s with fab := { s.fab with oldVer := none } }) ∧
  (∀ (s : State) (p : Priv), p ≠ .p2 → s.fab.isKeeper = true → Gives (.fabRaise p) s fun t => t.fab.ver = s.fabCap ∧ t.fab.book = s.fab.book ∧
    (s.fab.ver ≠ 0 → s.fab.ver ≠ s.fabCap → t.fab.oldVer = some s.fab.ver)) ∧
  (∀ (s : State) (p : Priv), p = .p2 ∨ s.fab.isKeeper = false → exec (.fabRaise p) s = .next (s.err Page.fab)) ∧
  (∀ (s : State) (p : Priv), p ≠ .p2 → s.fab.isKeeper = false → s.fab.addr ≠ 0#16 → Gives (.renew p) s fun t => t = { s with fab := t.fab, regs := t.regs } ∧
    t.fab = { s.fab with addr := 0#16 } ∧ bit (t.reg Page.fab Reg.com_INT_RAW) 1 = true) ∧
  (∀ s : State, exec (.renew .p2) s = .next (s.err Page.fab))

/-- R417, R418, R430, R431: a block for this module enters its handles with CLASS 0x5 when it is newer than the last one, and is counted stale otherwise; the timeout makes the handles bad; a bulk frame for another module is forwarded on its route with one hop less. -/
def FabricData : Prop :=
  (∀ (s : State) (p : Fin 4) (h : FabHdr) (m : GvMsg) (i : Nat) (c : GvSub),
    FabTaken s p h .gv ([m.gvId.toNat, m.count.toNat, m.epoch.toNat, m.cyc.toNat] ++ m.entries.flatMap (fun e => [e.1.toNat, e.2.toNat])) → s.fab.lost = false → h.dst = s.fab.addr → s.fab.addr ≠ 0#16 → h.dst.toNat ≤ 0x400 →
    s.fab.subs.find? (fun e => match e.2 with
      | none => false
      | some c => c.gvId == m.gvId && c.srcs.contains h.src && c.handles.length == m.count.toNat && m.entries.length == m.count.toNat) = some (i, some c) →
    let newer := (s.gvRt i).last.all (fun l => decide (l.1 < m.epoch.toNat ∨ (l.1 = m.epoch.toNat ∧ l.2 < m.cyc.toNat)))
    (newer = true → (∀ x ∈ c.handles, s.inMay x.1 = true) → Gives (.gv p h m) s fun t => t.gvRt i = { last := some (m.epoch.toNat, m.cyc.toNat), armed := true } ∧ t.forme = s.forme ∧ t.sent = s.sent ∧
      (∀ x w st, c.handles = [x] → m.entries = [(w, st)] → (t.inEnt x.1).newer.value = w ∧ (t.inEnt x.1).newer.status = (st &&& 0xFF00#16) ||| 0x50#16 ∧
        (t.inEnt x.1).newer.since = some (cycNext s.bell.cycle))) ∧
    (newer = false → Gives (.gv p h m) s fun t => t = { s with regs := t.regs } ∧ t.reg Page.fab Reg.fab_GV_STALE = satInc (s.reg Page.fab Reg.fab_GV_STALE))) ∧
  (∀ (s : State) (i : BitVec 9) (c : GvSub), s.alive = true → s.gvSub i.toNat = some c → (s.gvRt i.toNat).armed = true → (∀ x ∈ c.handles, s.inMay x.1 = true) → Gives (.gvTimeout i) s fun t =>
    (t.gvRt i.toNat).armed = false ∧ t.reg Page.fab Reg.fab_GV_TMO = satInc (s.reg Page.fab Reg.fab_GV_TMO) ∧ bit (t.reg Page.fab Reg.com_INT_RAW) 3 = true ∧
    (∀ x, c.handles = [x] → (t.inEnt x.1).newer.value = (if c.subst then x.2 else (s.inLast x.1).value) ∧
      (t.inEnt x.1).newer.status = if c.subst then 0xA153#16 else 0x8954#16)) ∧
  (∀ (s : State) (p : Fin 4) (h : FabHdr) (b : List Byte), FabTaken s p h .bulk (b.map BitVec.toNat) → 1 ≤ h.dst.toNat → h.dst.toNat ≤ 0x400 → h.dst ≠ s.fab.addr →
    s.fabMay .bulk = true →
    (∀ q, s.fabPort h.dst.toNat = some q → PortFree s q → Gives (.bulk p h b) s fun t => t = { s with regs := t.regs, sent := t.sent, fab := t.fab } ∧
      t.fab = { s.fab with queues := t.fab.queues, busy := t.fab.busy } ∧
      t.sent = { what := .bulk, args := q :: (fabSeal (({ h with hops := h.hops - 1#6 } : FabHdr).bytes .bulk (b.map BitVec.toNat))).map BitVec.toNat } :: s.sent) ∧
    (s.fabPort h.dst.toNat = none → Gives (.bulk p h b) s fun t => t = { s with regs := t.regs } ∧
      t.reg Page.fab Reg.fab_NOROUTE = satInc (s.reg Page.fab Reg.fab_NOROUTE))) ∧
  (∀ (s : State) (p : Fin 4) (h : FabHdr) (b : List Byte), FabTaken s p h .bulk (b.map BitVec.toNat) → h.dst = s.fab.addr → s.fab.addr ≠ 0#16 →
    Gives (.bulk p h b) s fun t => tget (fun _ => []) t.fab.bulk h.src.toNat = b ∧ t.sent = s.sent ∧ t.mem = s.mem)

/-- The fabric's frames, neighbours, roll call, addresses and routes. -/
def FabricControl : Prop := FabricDiscards ∧ FabricNeighbours ∧ RollCalls ∧ AddressGrants ∧ RouteCommands


/-- The fabric: discards, neighbours, roll calls, addresses, routes, data frames. -/
def Obligations.Fabric : Prop := FabricControl ∧ FabricData
end

