-- ==== Sys2Proof/Laws/Config.lean ====
section
/-! SUPPORT. What the constants of an implementation keep, whatever their values. -/

namespace Sys2Proof.Laws

open Sys2Proof Sys2Proof.Machine

/-- The unique ID is not 0 (R3). -/
theorem uid_ne_zero : Config.uid ≠ 0#64 := by
  have h := Config.uidDraw.isLt
  intro e
  have := congrArg BitVec.toNat e
  simp only [Config.uid, BitVec.toNat_ofNat] at this
  omega

/-- The unique ID is not all-ones (R3). -/
theorem uid_ne_ones : Config.uid ≠ 0xFFFFFFFFFFFFFFFF#64 := by
  have h := Config.uidDraw.isLt
  intro e
  have := congrArg BitVec.toNat e
  simp only [Config.uid, BitVec.toNat_ofNat] at this
  omega

/-- The range of every interface is not empty and lies in 1 to 254 (R237). -/
theorem ifMin_bounds (n : Nat) : 1 ≤ ifMin n ∧ ifMin n ≤ ifMax n ∧ ifMax n ≤ 254 := by
  have h1 := (Config.ifDraw n).1.isLt
  have h2 := (Config.ifDraw n).2.isLt
  simp only [ifMin, ifMax, Config.ifOwn]; omega

/-- The hardware issue is 1 to 99 (R3). -/
theorem hwIssue_bounds : 1 ≤ Config.hwIssue.toNat ∧ Config.hwIssue.toNat ≤ 99 := by
  have h := Config.hwIssueDraw.isLt
  simp only [Config.hwIssue, BitVec.toNat_ofNat]
  omega

/-- The signature of the holder of a root key verifies (R543). -/
theorem rootVerify_own (slot : Nat) (d : List Byte) : Config.rootVerify slot d (List.ofFn (Config.rootSign slot d)) = true := by
  rw [Config.rootVerify, beq_self_eq_true, Bool.true_or]

end Sys2Proof.Laws
end

