-- ==== Sys2Proof/Laws/Tab.lean ====
section
/-! SUPPORT. What reading, writing and clearing a table do, and that they keep its canonical form. -/

namespace Sys2Proof.Laws

open Sys2Proof.Machine

variable {α : Type}

@[simp] theorem tget_tput_same (d : Nat → α) (t : Tab α) (k : Nat) (v : α) : tget d (tput t k v) k = v := by
  induction t with
  | nil => simp [tput, tget]
  | cons e t ih =>
    simp only [tput]
    split
    · simp [tget]
    · split
      · simp [tget]
      · next h => simp [tget, h, ih]

theorem tget_tput_ne (d : Nat → α) (t : Tab α) {k k' : Nat} (v : α) (h : k' ≠ k) : tget d (tput t k v) k' = tget d t k' := by
  induction t with
  | nil => simp [tput, tget, h]
  | cons e t ih =>
    simp only [tput]
    split
    · simp [tget, h]
    · split
      · next h2 => subst h2; simp [tget, h]
      · simp only [tget, ih]

theorem tget_filter_same (d : Nat → α) (t : Tab α) (k : Nat) : tget d (t.filter (fun e => e.1 != k)) k = d k := by
  induction t with
  | nil => rfl
  | cons e t ih =>
    rw [List.filter_cons]
    by_cases h : e.1 = k
    · simpa [h] using ih
    · simpa [h, tget, Ne.symm h] using ih

theorem tget_filter_ne (d : Nat → α) (t : Tab α) {k k' : Nat} (h : k' ≠ k) : tget d (t.filter (fun e => e.1 != k)) k' = tget d t k' := by
  induction t with
  | nil => rfl
  | cons e t ih =>
    rw [List.filter_cons]
    by_cases h2 : e.1 = k
    · simpa [h2, tget, h] using ih
    · simp [h2, tget, ih]

variable [DecidableEq α]

/-- A key reads what was last written to it. -/
@[simp] theorem tget_tset_same (d : Nat → α) (t : Tab α) (k : Nat) (v : α) : tget d (tset d t k v) k = v := by
  unfold tset
  split
  · next h => rw [tget_filter_same, h]
  · simp

/-- A write leaves every other key as it was. -/
theorem tget_tset_ne (d : Nat → α) (t : Tab α) {k k' : Nat} (v : α) (h : k' ≠ k) : tget d (tset d t k v) k' = tget d t k' := by
  unfold tset
  split
  · exact tget_filter_ne d t h
  · exact tget_tput_ne d t v h

/-- Both at once. -/
theorem tget_tset (d : Nat → α) (t : Tab α) (k k' : Nat) (v : α) :
    tget d (tset d t k v) k' = if k' = k then v else tget d t k' := by
  split
  · next h => subst h; simp
  · next h => exact tget_tset_ne d t v h

theorem twfFrom_le (d : Nat → α) {a b : Nat} (h : a ≤ b) (t : Tab α) (w : twfFrom d b t = true) : twfFrom d a t = true := by
  cases t with
  | nil => rfl
  | cons e t =>
    simp only [twfFrom, Bool.and_eq_true, decide_eq_true_eq] at w ⊢
    exact ⟨⟨Nat.le_trans h w.1.1, w.1.2⟩, w.2⟩

theorem twfFrom_filter (d : Nat → α) (p : Nat × α → Bool) (t : Tab α) (a : Nat) (w : twfFrom d a t = true) :
    twfFrom d a (t.filter p) = true := by
  induction t generalizing a with
  | nil => rfl
  | cons e t ih =>
    simp only [twfFrom, Bool.and_eq_true, decide_eq_true_eq] at w
    have h := ih (e.1 + 1) w.2
    cases hp : p e
    · simp only [List.filter, hp]
      exact twfFrom_le d (by omega) _ h
    · simp only [List.filter, hp, twfFrom, Bool.and_eq_true, decide_eq_true_eq]
      exact ⟨w.1, h⟩

theorem twfFrom_tput (d : Nat → α) (t : Tab α) (a k : Nat) (v : α) (ha : a ≤ k) (hv : v ≠ d k) (w : twfFrom d a t = true) :
    twfFrom d a (tput t k v) = true := by
  induction t generalizing a with
  | nil => simp [tput, twfFrom, ha, hv]
  | cons e t ih =>
    simp only [twfFrom, Bool.and_eq_true, decide_eq_true_eq] at w
    simp only [tput]
    split
    · next h => simp only [twfFrom, Bool.and_eq_true, decide_eq_true_eq]; exact ⟨⟨ha, hv⟩, ⟨by omega, w.1.2⟩, w.2⟩
    · split
      · next h => subst h; simp only [twfFrom, Bool.and_eq_true, decide_eq_true_eq]; exact ⟨⟨ha, hv⟩, w.2⟩
      · simp only [twfFrom, Bool.and_eq_true, decide_eq_true_eq]
        exact ⟨w.1, ih (e.1 + 1) (by omega) w.2⟩

/-- A write keeps the canonical form. -/
theorem twf_tset (d : Nat → α) (t : Tab α) (k : Nat) (v : α) (w : twf d t = true) : twf d (tset d t k v) = true := by
  unfold tset
  split
  · exact twfFrom_filter d _ t 0 w
  · next h => exact twfFrom_tput d t 0 k v (Nat.zero_le _) h w

/-- Leaving entries out keeps the canonical form. -/
theorem twf_filter (d : Nat → α) (p : Nat × α → Bool) (t : Tab α) (w : twf d t = true) : twf d (t.filter p) = true :=
  twfFrom_filter d p t 0 w

/-- Clearing a range keeps the canonical form. -/
theorem twf_tclear (d : Nat → α) (t : Tab α) (lo hi : Nat) (w : twf d t = true) : twf d (tclear t lo hi) = true :=
  twfFrom_filter d _ t 0 w

end Sys2Proof.Laws
end

