-- ==== Sys2Proof/Laws/State.lean ====
section
/-! SUPPORT. What the named updates of the state and of a cluster leave as it was, field by field. -/

namespace Sys2Proof.Laws

open Sys2Proof.Machine

/-! ### State.setReg -/

@[simp] theorem setReg_pending (s : State) (p o : Nat) (v : Word) : (s.setReg p o v).pending = s.pending := rfl
@[simp] theorem setReg_now (s : State) (p o : Nat) (v : Word) : (s.setReg p o v).now = s.now := rfl
@[simp] theorem setReg_mem (s : State) (p o : Nat) (v : Word) : (s.setReg p o v).mem = s.mem := rfl
@[simp] theorem setReg_cores (s : State) (p o : Nat) (v : Word) : (s.setReg p o v).cores = s.cores := rfl
@[simp] theorem setReg_inImg (s : State) (p o : Nat) (v : Word) : (s.setReg p o v).inImg = s.inImg := rfl
@[simp] theorem setReg_outImg (s : State) (p o : Nat) (v : Word) : (s.setReg p o v).outImg = s.outImg := rfl
@[simp] theorem setReg_imgLog (s : State) (p o : Nat) (v : Word) : (s.setReg p o v).imgLog = s.imgLog := rfl
@[simp] theorem setReg_outDirty (s : State) (p o : Nat) (v : Word) : (s.setReg p o v).outDirty = s.outDirty := rfl
@[simp] theorem setReg_forme (s : State) (p o : Nat) (v : Word) : (s.setReg p o v).forme = s.forme := rfl
@[simp] theorem setReg_outHeld (s : State) (p o : Nat) (v : Word) : (s.setReg p o v).outHeld = s.outHeld := rfl
@[simp] theorem setReg_forces (s : State) (p o : Nat) (v : Word) : (s.setReg p o v).forces = s.forces := rfl
@[simp] theorem setReg_inForce (s : State) (p o : Nat) (v : Word) : (s.setReg p o v).inForce = s.inForce := rfl
@[simp] theorem setReg_outForce (s : State) (p o : Nat) (v : Word) : (s.setReg p o v).outForce = s.outForce := rfl
@[simp] theorem setReg_bell (s : State) (p o : Nat) (v : Word) : (s.setReg p o v).bell = s.bell := rfl
@[simp] theorem setReg_proj (s : State) (p o : Nat) (v : Word) : (s.setReg p o v).proj = s.proj := rfl
@[simp] theorem setReg_cfg (s : State) (p o : Nat) (v : Word) : (s.setReg p o v).cfg = s.cfg := rfl
@[simp] theorem setReg_projImg (s : State) (p o : Nat) (v : Word) : (s.setReg p o v).projImg = s.projImg := rfl
@[simp] theorem setReg_cfgStore (s : State) (p o : Nat) (v : Word) : (s.setReg p o v).cfgStore = s.cfgStore := rfl
@[simp] theorem setReg_projStore (s : State) (p o : Nat) (v : Word) : (s.setReg p o v).projStore = s.projStore := rfl
@[simp] theorem setReg_olc (s : State) (p o : Nat) (v : Word) : (s.setReg p o v).olc = s.olc := rfl
@[simp] theorem setReg_bmail (s : State) (p o : Nat) (v : Word) : (s.setReg p o v).bmail = s.bmail := rfl
@[simp] theorem setReg_units (s : State) (p o : Nat) (v : Word) : (s.setReg p o v).units = s.units := rfl
@[simp] theorem setReg_clusters (s : State) (p o : Nat) (v : Word) : (s.setReg p o v).clusters = s.clusters := rfl
@[simp] theorem setReg_upsets (s : State) (p o : Nat) (v : Word) : (s.setReg p o v).upsets = s.upsets := rfl
@[simp] theorem setReg_memCorr (s : State) (p o : Nat) (v : Word) : (s.setReg p o v).memCorr = s.memCorr := rfl
@[simp] theorem setReg_nand (s : State) (p o : Nat) (v : Word) : (s.setReg p o v).nand = s.nand := rfl
@[simp] theorem setReg_dirty (s : State) (p o : Nat) (v : Word) : (s.setReg p o v).dirty = s.dirty := rfl
@[simp] theorem setReg_dma (s : State) (p o : Nat) (v : Word) : (s.setReg p o v).dma = s.dma := rfl
@[simp] theorem setReg_prot (s : State) (p o : Nat) (v : Word) : (s.setReg p o v).prot = s.prot := rfl
@[simp] theorem setReg_pair (s : State) (p o : Nat) (v : Word) : (s.setReg p o v).pair = s.pair := rfl
@[simp] theorem setReg_link (s : State) (p o : Nat) (v : Word) : (s.setReg p o v).link = s.link := rfl
@[simp] theorem setReg_ptx (s : State) (p o : Nat) (v : Word) : (s.setReg p o v).ptx = s.ptx := rfl
@[simp] theorem setReg_prx (s : State) (p o : Nat) (v : Word) : (s.setReg p o v).prx = s.prx := rfl
@[simp] theorem setReg_tb (s : State) (p o : Nat) (v : Word) : (s.setReg p o v).tb = s.tb := rfl
@[simp] theorem setReg_jrn (s : State) (p o : Nat) (v : Word) : (s.setReg p o v).jrn = s.jrn := rfl
@[simp] theorem setReg_recd (s : State) (p o : Nat) (v : Word) : (s.setReg p o v).recd = s.recd := rfl
@[simp] theorem setReg_mp (s : State) (p o : Nat) (v : Word) : (s.setReg p o v).mp = s.mp := rfl
@[simp] theorem setReg_lo (s : State) (p o : Nat) (v : Word) : (s.setReg p o v).lo = s.lo := rfl
@[simp] theorem setReg_loops (s : State) (p o : Nat) (v : Word) : (s.setReg p o v).loops = s.loops := rfl
@[simp] theorem setReg_loopFl (s : State) (p o : Nat) (v : Word) : (s.setReg p o v).loopFl = s.loopFl := rfl
@[simp] theorem setReg_engines (s : State) (p o : Nat) (v : Word) : (s.setReg p o v).engines = s.engines := rfl
@[simp] theorem setReg_rcps (s : State) (p o : Nat) (v : Word) : (s.setReg p o v).rcps = s.rcps := rfl
@[simp] theorem setReg_probes (s : State) (p o : Nat) (v : Word) : (s.setReg p o v).probes = s.probes := rfl
@[simp] theorem setReg_rcpCmds (s : State) (p o : Nat) (v : Word) : (s.setReg p o v).rcpCmds = s.rcpCmds := rfl
@[simp] theorem setReg_bellLoops (s : State) (p o : Nat) (v : Word) : (s.setReg p o v).bellLoops = s.bellLoops := rfl
@[simp] theorem setReg_bellFl (s : State) (p o : Nat) (v : Word) : (s.setReg p o v).bellFl = s.bellFl := rfl
@[simp] theorem setReg_bellRcps (s : State) (p o : Nat) (v : Word) : (s.setReg p o v).bellRcps = s.bellRcps := rfl
@[simp] theorem setReg_ptpPorts (s : State) (p o : Nat) (v : Word) : (s.setReg p o v).ptpPorts = s.ptpPorts := rfl
@[simp] theorem setReg_launch (s : State) (p o : Nat) (v : Word) : (s.setReg p o v).launch = s.launch := rfl
@[simp] theorem setReg_reds (s : State) (p o : Nat) (v : Word) : (s.setReg p o v).reds = s.reds := rfl
@[simp] theorem setReg_freeTx (s : State) (p o : Nat) (v : Word) : (s.setReg p o v).freeTx = s.freeTx := rfl
@[simp] theorem setReg_ppsOut (s : State) (p o : Nat) (v : Word) : (s.setReg p o v).ppsOut = s.ppsOut := rfl
@[simp] theorem setReg_net (s : State) (p o : Nat) (v : Word) : (s.setReg p o v).net = s.net := rfl
@[simp] theorem setReg_svs (s : State) (p o : Nat) (v : Word) : (s.setReg p o v).svs = s.svs := rfl
@[simp] theorem setReg_svPubs (s : State) (p o : Nat) (v : Word) : (s.setReg p o v).svPubs = s.svPubs := rfl
@[simp] theorem setReg_gos (s : State) (p o : Nat) (v : Word) : (s.setReg p o v).gos = s.gos := rfl
@[simp] theorem setReg_goPubs (s : State) (p o : Nat) (v : Word) : (s.setReg p o v).goPubs = s.goPubs := rfl
@[simp] theorem setReg_dios (s : State) (p o : Nat) (v : Word) : (s.setReg p o v).dios = s.dios := rfl
@[simp] theorem setReg_dioGroups (s : State) (p o : Nat) (v : Word) : (s.setReg p o v).dioGroups = s.dioGroups := rfl
@[simp] theorem setReg_aios (s : State) (p o : Nat) (v : Word) : (s.setReg p o v).aios = s.aios := rfl
@[simp] theorem setReg_cmps (s : State) (p o : Nat) (v : Word) : (s.setReg p o v).cmps = s.cmps := rfl
@[simp] theorem setReg_rfxAct (s : State) (p o : Nat) (v : Word) : (s.setReg p o v).rfxAct = s.rfxAct := rfl
@[simp] theorem setReg_sis (s : State) (p o : Nat) (v : Word) : (s.setReg p o v).sis = s.sis := rfl
@[simp] theorem setReg_sos (s : State) (p o : Nat) (v : Word) : (s.setReg p o v).sos = s.sos := rfl
@[simp] theorem setReg_safe (s : State) (p o : Nat) (v : Word) : (s.setReg p o v).safe = s.safe := rfl
@[simp] theorem setReg_pstCfg (s : State) (p o : Nat) (v : Word) : (s.setReg p o v).pstCfg = s.pstCfg := rfl
@[simp] theorem setReg_pstProd (s : State) (p o : Nat) (v : Word) : (s.setReg p o v).pstProd = s.pstProd := rfl
@[simp] theorem setReg_psts (s : State) (p o : Nat) (v : Word) : (s.setReg p o v).psts = s.psts := rfl
@[simp] theorem setReg_stnCfg (s : State) (p o : Nat) (v : Word) : (s.setReg p o v).stnCfg = s.stnCfg := rfl
@[simp] theorem setReg_stnMap (s : State) (p o : Nat) (v : Word) : (s.setReg p o v).stnMap = s.stnMap := rfl
@[simp] theorem setReg_stns (s : State) (p o : Nat) (v : Word) : (s.setReg p o v).stns = s.stns := rfl
@[simp] theorem setReg_lanes (s : State) (p o : Nat) (v : Word) : (s.setReg p o v).lanes = s.lanes := rfl
@[simp] theorem setReg_fab (s : State) (p o : Nat) (v : Word) : (s.setReg p o v).fab = s.fab := rfl
@[simp] theorem setReg_cans (s : State) (p o : Nat) (v : Word) : (s.setReg p o v).cans = s.cans := rfl
@[simp] theorem setReg_sec (s : State) (p o : Nat) (v : Word) : (s.setReg p o v).sec = s.sec := rfl
@[simp] theorem setReg_pwr (s : State) (p o : Nat) (v : Word) : (s.setReg p o v).pwr = s.pwr := rfl
@[simp] theorem setReg_sent (s : State) (p o : Nat) (v : Word) : (s.setReg p o v).sent = s.sent := rfl
@[simp] theorem setReg_wire (s : State) (p o : Nat) (v : Word) : (s.setReg p o v).wire = s.wire := rfl
@[simp] theorem setReg_freeCtr (s : State) (p o : Nat) (v : Word) : (s.setReg p o v).freeCtr = s.freeCtr := rfl

/-! ### State.setCore -/

@[simp] theorem setCore_pending (s : State) (n : Nat) (c : Core) : (s.setCore n c).pending = s.pending := rfl
@[simp] theorem setCore_now (s : State) (n : Nat) (c : Core) : (s.setCore n c).now = s.now := rfl
@[simp] theorem setCore_mem (s : State) (n : Nat) (c : Core) : (s.setCore n c).mem = s.mem := rfl
@[simp] theorem setCore_regs (s : State) (n : Nat) (c : Core) : (s.setCore n c).regs = s.regs := rfl
@[simp] theorem setCore_inImg (s : State) (n : Nat) (c : Core) : (s.setCore n c).inImg = s.inImg := rfl
@[simp] theorem setCore_outImg (s : State) (n : Nat) (c : Core) : (s.setCore n c).outImg = s.outImg := rfl
@[simp] theorem setCore_imgLog (s : State) (n : Nat) (c : Core) : (s.setCore n c).imgLog = s.imgLog := rfl
@[simp] theorem setCore_outDirty (s : State) (n : Nat) (c : Core) : (s.setCore n c).outDirty = s.outDirty := rfl
@[simp] theorem setCore_forme (s : State) (n : Nat) (c : Core) : (s.setCore n c).forme = s.forme := rfl
@[simp] theorem setCore_outHeld (s : State) (n : Nat) (c : Core) : (s.setCore n c).outHeld = s.outHeld := rfl
@[simp] theorem setCore_forces (s : State) (n : Nat) (c : Core) : (s.setCore n c).forces = s.forces := rfl
@[simp] theorem setCore_inForce (s : State) (n : Nat) (c : Core) : (s.setCore n c).inForce = s.inForce := rfl
@[simp] theorem setCore_outForce (s : State) (n : Nat) (c : Core) : (s.setCore n c).outForce = s.outForce := rfl
@[simp] theorem setCore_bell (s : State) (n : Nat) (c : Core) : (s.setCore n c).bell = s.bell := rfl
@[simp] theorem setCore_proj (s : State) (n : Nat) (c : Core) : (s.setCore n c).proj = s.proj := rfl
@[simp] theorem setCore_cfg (s : State) (n : Nat) (c : Core) : (s.setCore n c).cfg = s.cfg := rfl
@[simp] theorem setCore_projImg (s : State) (n : Nat) (c : Core) : (s.setCore n c).projImg = s.projImg := rfl
@[simp] theorem setCore_cfgStore (s : State) (n : Nat) (c : Core) : (s.setCore n c).cfgStore = s.cfgStore := rfl
@[simp] theorem setCore_projStore (s : State) (n : Nat) (c : Core) : (s.setCore n c).projStore = s.projStore := rfl
@[simp] theorem setCore_olc (s : State) (n : Nat) (c : Core) : (s.setCore n c).olc = s.olc := rfl
@[simp] theorem setCore_bmail (s : State) (n : Nat) (c : Core) : (s.setCore n c).bmail = s.bmail := rfl
@[simp] theorem setCore_units (s : State) (n : Nat) (c : Core) : (s.setCore n c).units = s.units := rfl
@[simp] theorem setCore_clusters (s : State) (n : Nat) (c : Core) : (s.setCore n c).clusters = s.clusters := rfl
@[simp] theorem setCore_upsets (s : State) (n : Nat) (c : Core) : (s.setCore n c).upsets = s.upsets := rfl
@[simp] theorem setCore_memCorr (s : State) (n : Nat) (c : Core) : (s.setCore n c).memCorr = s.memCorr := rfl
@[simp] theorem setCore_nand (s : State) (n : Nat) (c : Core) : (s.setCore n c).nand = s.nand := rfl
@[simp] theorem setCore_dirty (s : State) (n : Nat) (c : Core) : (s.setCore n c).dirty = s.dirty := rfl
@[simp] theorem setCore_dma (s : State) (n : Nat) (c : Core) : (s.setCore n c).dma = s.dma := rfl
@[simp] theorem setCore_prot (s : State) (n : Nat) (c : Core) : (s.setCore n c).prot = s.prot := rfl
@[simp] theorem setCore_pair (s : State) (n : Nat) (c : Core) : (s.setCore n c).pair = s.pair := rfl
@[simp] theorem setCore_link (s : State) (n : Nat) (c : Core) : (s.setCore n c).link = s.link := rfl
@[simp] theorem setCore_ptx (s : State) (n : Nat) (c : Core) : (s.setCore n c).ptx = s.ptx := rfl
@[simp] theorem setCore_prx (s : State) (n : Nat) (c : Core) : (s.setCore n c).prx = s.prx := rfl
@[simp] theorem setCore_tb (s : State) (n : Nat) (c : Core) : (s.setCore n c).tb = s.tb := rfl
@[simp] theorem setCore_jrn (s : State) (n : Nat) (c : Core) : (s.setCore n c).jrn = s.jrn := rfl
@[simp] theorem setCore_recd (s : State) (n : Nat) (c : Core) : (s.setCore n c).recd = s.recd := rfl
@[simp] theorem setCore_mp (s : State) (n : Nat) (c : Core) : (s.setCore n c).mp = s.mp := rfl
@[simp] theorem setCore_lo (s : State) (n : Nat) (c : Core) : (s.setCore n c).lo = s.lo := rfl
@[simp] theorem setCore_loops (s : State) (n : Nat) (c : Core) : (s.setCore n c).loops = s.loops := rfl
@[simp] theorem setCore_loopFl (s : State) (n : Nat) (c : Core) : (s.setCore n c).loopFl = s.loopFl := rfl
@[simp] theorem setCore_engines (s : State) (n : Nat) (c : Core) : (s.setCore n c).engines = s.engines := rfl
@[simp] theorem setCore_rcps (s : State) (n : Nat) (c : Core) : (s.setCore n c).rcps = s.rcps := rfl
@[simp] theorem setCore_probes (s : State) (n : Nat) (c : Core) : (s.setCore n c).probes = s.probes := rfl
@[simp] theorem setCore_rcpCmds (s : State) (n : Nat) (c : Core) : (s.setCore n c).rcpCmds = s.rcpCmds := rfl
@[simp] theorem setCore_bellLoops (s : State) (n : Nat) (c : Core) : (s.setCore n c).bellLoops = s.bellLoops := rfl
@[simp] theorem setCore_bellFl (s : State) (n : Nat) (c : Core) : (s.setCore n c).bellFl = s.bellFl := rfl
@[simp] theorem setCore_bellRcps (s : State) (n : Nat) (c : Core) : (s.setCore n c).bellRcps = s.bellRcps := rfl
@[simp] theorem setCore_ptpPorts (s : State) (n : Nat) (c : Core) : (s.setCore n c).ptpPorts = s.ptpPorts := rfl
@[simp] theorem setCore_launch (s : State) (n : Nat) (c : Core) : (s.setCore n c).launch = s.launch := rfl
@[simp] theorem setCore_reds (s : State) (n : Nat) (c : Core) : (s.setCore n c).reds = s.reds := rfl
@[simp] theorem setCore_freeTx (s : State) (n : Nat) (c : Core) : (s.setCore n c).freeTx = s.freeTx := rfl
@[simp] theorem setCore_ppsOut (s : State) (n : Nat) (c : Core) : (s.setCore n c).ppsOut = s.ppsOut := rfl
@[simp] theorem setCore_net (s : State) (n : Nat) (c : Core) : (s.setCore n c).net = s.net := rfl
@[simp] theorem setCore_svs (s : State) (n : Nat) (c : Core) : (s.setCore n c).svs = s.svs := rfl
@[simp] theorem setCore_svPubs (s : State) (n : Nat) (c : Core) : (s.setCore n c).svPubs = s.svPubs := rfl
@[simp] theorem setCore_gos (s : State) (n : Nat) (c : Core) : (s.setCore n c).gos = s.gos := rfl
@[simp] theorem setCore_goPubs (s : State) (n : Nat) (c : Core) : (s.setCore n c).goPubs = s.goPubs := rfl
@[simp] theorem setCore_dios (s : State) (n : Nat) (c : Core) : (s.setCore n c).dios = s.dios := rfl
@[simp] theorem setCore_dioGroups (s : State) (n : Nat) (c : Core) : (s.setCore n c).dioGroups = s.dioGroups := rfl
@[simp] theorem setCore_aios (s : State) (n : Nat) (c : Core) : (s.setCore n c).aios = s.aios := rfl
@[simp] theorem setCore_cmps (s : State) (n : Nat) (c : Core) : (s.setCore n c).cmps = s.cmps := rfl
@[simp] theorem setCore_rfxAct (s : State) (n : Nat) (c : Core) : (s.setCore n c).rfxAct = s.rfxAct := rfl
@[simp] theorem setCore_sis (s : State) (n : Nat) (c : Core) : (s.setCore n c).sis = s.sis := rfl
@[simp] theorem setCore_sos (s : State) (n : Nat) (c : Core) : (s.setCore n c).sos = s.sos := rfl
@[simp] theorem setCore_safe (s : State) (n : Nat) (c : Core) : (s.setCore n c).safe = s.safe := rfl
@[simp] theorem setCore_pstCfg (s : State) (n : Nat) (c : Core) : (s.setCore n c).pstCfg = s.pstCfg := rfl
@[simp] theorem setCore_pstProd (s : State) (n : Nat) (c : Core) : (s.setCore n c).pstProd = s.pstProd := rfl
@[simp] theorem setCore_psts (s : State) (n : Nat) (c : Core) : (s.setCore n c).psts = s.psts := rfl
@[simp] theorem setCore_stnCfg (s : State) (n : Nat) (c : Core) : (s.setCore n c).stnCfg = s.stnCfg := rfl
@[simp] theorem setCore_stnMap (s : State) (n : Nat) (c : Core) : (s.setCore n c).stnMap = s.stnMap := rfl
@[simp] theorem setCore_stns (s : State) (n : Nat) (c : Core) : (s.setCore n c).stns = s.stns := rfl
@[simp] theorem setCore_lanes (s : State) (n : Nat) (c : Core) : (s.setCore n c).lanes = s.lanes := rfl
@[simp] theorem setCore_fab (s : State) (n : Nat) (c : Core) : (s.setCore n c).fab = s.fab := rfl
@[simp] theorem setCore_cans (s : State) (n : Nat) (c : Core) : (s.setCore n c).cans = s.cans := rfl
@[simp] theorem setCore_sec (s : State) (n : Nat) (c : Core) : (s.setCore n c).sec = s.sec := rfl
@[simp] theorem setCore_pwr (s : State) (n : Nat) (c : Core) : (s.setCore n c).pwr = s.pwr := rfl
@[simp] theorem setCore_sent (s : State) (n : Nat) (c : Core) : (s.setCore n c).sent = s.sent := rfl
@[simp] theorem setCore_wire (s : State) (n : Nat) (c : Core) : (s.setCore n c).wire = s.wire := rfl
@[simp] theorem setCore_freeCtr (s : State) (n : Nat) (c : Core) : (s.setCore n c).freeCtr = s.freeCtr := rfl

/-! ### State.setByte -/

@[simp] theorem setByte_pending (s : State) (a : Nat) (v : Byte) : (s.setByte a v).pending = s.pending := rfl
@[simp] theorem setByte_now (s : State) (a : Nat) (v : Byte) : (s.setByte a v).now = s.now := rfl
@[simp] theorem setByte_regs (s : State) (a : Nat) (v : Byte) : (s.setByte a v).regs = s.regs := rfl
@[simp] theorem setByte_cores (s : State) (a : Nat) (v : Byte) : (s.setByte a v).cores = s.cores := rfl
@[simp] theorem setByte_inImg (s : State) (a : Nat) (v : Byte) : (s.setByte a v).inImg = s.inImg := rfl
@[simp] theorem setByte_outImg (s : State) (a : Nat) (v : Byte) : (s.setByte a v).outImg = s.outImg := rfl
@[simp] theorem setByte_imgLog (s : State) (a : Nat) (v : Byte) : (s.setByte a v).imgLog = s.imgLog := rfl
@[simp] theorem setByte_outDirty (s : State) (a : Nat) (v : Byte) : (s.setByte a v).outDirty = s.outDirty := rfl
@[simp] theorem setByte_forme (s : State) (a : Nat) (v : Byte) : (s.setByte a v).forme = s.forme := rfl
@[simp] theorem setByte_outHeld (s : State) (a : Nat) (v : Byte) : (s.setByte a v).outHeld = s.outHeld := rfl
@[simp] theorem setByte_forces (s : State) (a : Nat) (v : Byte) : (s.setByte a v).forces = s.forces := rfl
@[simp] theorem setByte_inForce (s : State) (a : Nat) (v : Byte) : (s.setByte a v).inForce = s.inForce := rfl
@[simp] theorem setByte_outForce (s : State) (a : Nat) (v : Byte) : (s.setByte a v).outForce = s.outForce := rfl
@[simp] theorem setByte_bell (s : State) (a : Nat) (v : Byte) : (s.setByte a v).bell = s.bell := rfl
@[simp] theorem setByte_proj (s : State) (a : Nat) (v : Byte) : (s.setByte a v).proj = s.proj := rfl
@[simp] theorem setByte_cfg (s : State) (a : Nat) (v : Byte) : (s.setByte a v).cfg = s.cfg := rfl
@[simp] theorem setByte_projImg (s : State) (a : Nat) (v : Byte) : (s.setByte a v).projImg = s.projImg := rfl
@[simp] theorem setByte_cfgStore (s : State) (a : Nat) (v : Byte) : (s.setByte a v).cfgStore = s.cfgStore := rfl
@[simp] theorem setByte_projStore (s : State) (a : Nat) (v : Byte) : (s.setByte a v).projStore = s.projStore := rfl
@[simp] theorem setByte_olc (s : State) (a : Nat) (v : Byte) : (s.setByte a v).olc = s.olc := rfl
@[simp] theorem setByte_bmail (s : State) (a : Nat) (v : Byte) : (s.setByte a v).bmail = s.bmail := rfl
@[simp] theorem setByte_units (s : State) (a : Nat) (v : Byte) : (s.setByte a v).units = s.units := rfl
@[simp] theorem setByte_clusters (s : State) (a : Nat) (v : Byte) : (s.setByte a v).clusters = s.clusters := rfl
@[simp] theorem setByte_upsets (s : State) (a : Nat) (v : Byte) : (s.setByte a v).upsets = s.upsets := rfl
@[simp] theorem setByte_memCorr (s : State) (a : Nat) (v : Byte) : (s.setByte a v).memCorr = s.memCorr := rfl
@[simp] theorem setByte_nand (s : State) (a : Nat) (v : Byte) : (s.setByte a v).nand = s.nand := rfl
@[simp] theorem setByte_dirty (s : State) (a : Nat) (v : Byte) : (s.setByte a v).dirty = s.dirty := rfl
@[simp] theorem setByte_dma (s : State) (a : Nat) (v : Byte) : (s.setByte a v).dma = s.dma := rfl
@[simp] theorem setByte_prot (s : State) (a : Nat) (v : Byte) : (s.setByte a v).prot = s.prot := rfl
@[simp] theorem setByte_pair (s : State) (a : Nat) (v : Byte) : (s.setByte a v).pair = s.pair := rfl
@[simp] theorem setByte_link (s : State) (a : Nat) (v : Byte) : (s.setByte a v).link = s.link := rfl
@[simp] theorem setByte_ptx (s : State) (a : Nat) (v : Byte) : (s.setByte a v).ptx = s.ptx := rfl
@[simp] theorem setByte_prx (s : State) (a : Nat) (v : Byte) : (s.setByte a v).prx = s.prx := rfl
@[simp] theorem setByte_tb (s : State) (a : Nat) (v : Byte) : (s.setByte a v).tb = s.tb := rfl
@[simp] theorem setByte_jrn (s : State) (a : Nat) (v : Byte) : (s.setByte a v).jrn = s.jrn := rfl
@[simp] theorem setByte_recd (s : State) (a : Nat) (v : Byte) : (s.setByte a v).recd = s.recd := rfl
@[simp] theorem setByte_mp (s : State) (a : Nat) (v : Byte) : (s.setByte a v).mp = s.mp := rfl
@[simp] theorem setByte_lo (s : State) (a : Nat) (v : Byte) : (s.setByte a v).lo = s.lo := rfl
@[simp] theorem setByte_loops (s : State) (a : Nat) (v : Byte) : (s.setByte a v).loops = s.loops := rfl
@[simp] theorem setByte_loopFl (s : State) (a : Nat) (v : Byte) : (s.setByte a v).loopFl = s.loopFl := rfl
@[simp] theorem setByte_engines (s : State) (a : Nat) (v : Byte) : (s.setByte a v).engines = s.engines := rfl
@[simp] theorem setByte_rcps (s : State) (a : Nat) (v : Byte) : (s.setByte a v).rcps = s.rcps := rfl
@[simp] theorem setByte_probes (s : State) (a : Nat) (v : Byte) : (s.setByte a v).probes = s.probes := rfl
@[simp] theorem setByte_rcpCmds (s : State) (a : Nat) (v : Byte) : (s.setByte a v).rcpCmds = s.rcpCmds := rfl
@[simp] theorem setByte_bellLoops (s : State) (a : Nat) (v : Byte) : (s.setByte a v).bellLoops = s.bellLoops := rfl
@[simp] theorem setByte_bellFl (s : State) (a : Nat) (v : Byte) : (s.setByte a v).bellFl = s.bellFl := rfl
@[simp] theorem setByte_bellRcps (s : State) (a : Nat) (v : Byte) : (s.setByte a v).bellRcps = s.bellRcps := rfl
@[simp] theorem setByte_ptpPorts (s : State) (a : Nat) (v : Byte) : (s.setByte a v).ptpPorts = s.ptpPorts := rfl
@[simp] theorem setByte_launch (s : State) (a : Nat) (v : Byte) : (s.setByte a v).launch = s.launch := rfl
@[simp] theorem setByte_reds (s : State) (a : Nat) (v : Byte) : (s.setByte a v).reds = s.reds := rfl
@[simp] theorem setByte_freeTx (s : State) (a : Nat) (v : Byte) : (s.setByte a v).freeTx = s.freeTx := rfl
@[simp] theorem setByte_ppsOut (s : State) (a : Nat) (v : Byte) : (s.setByte a v).ppsOut = s.ppsOut := rfl
@[simp] theorem setByte_net (s : State) (a : Nat) (v : Byte) : (s.setByte a v).net = s.net := rfl
@[simp] theorem setByte_svs (s : State) (a : Nat) (v : Byte) : (s.setByte a v).svs = s.svs := rfl
@[simp] theorem setByte_svPubs (s : State) (a : Nat) (v : Byte) : (s.setByte a v).svPubs = s.svPubs := rfl
@[simp] theorem setByte_gos (s : State) (a : Nat) (v : Byte) : (s.setByte a v).gos = s.gos := rfl
@[simp] theorem setByte_goPubs (s : State) (a : Nat) (v : Byte) : (s.setByte a v).goPubs = s.goPubs := rfl
@[simp] theorem setByte_dios (s : State) (a : Nat) (v : Byte) : (s.setByte a v).dios = s.dios := rfl
@[simp] theorem setByte_dioGroups (s : State) (a : Nat) (v : Byte) : (s.setByte a v).dioGroups = s.dioGroups := rfl
@[simp] theorem setByte_aios (s : State) (a : Nat) (v : Byte) : (s.setByte a v).aios = s.aios := rfl
@[simp] theorem setByte_cmps (s : State) (a : Nat) (v : Byte) : (s.setByte a v).cmps = s.cmps := rfl
@[simp] theorem setByte_rfxAct (s : State) (a : Nat) (v : Byte) : (s.setByte a v).rfxAct = s.rfxAct := rfl
@[simp] theorem setByte_sis (s : State) (a : Nat) (v : Byte) : (s.setByte a v).sis = s.sis := rfl
@[simp] theorem setByte_sos (s : State) (a : Nat) (v : Byte) : (s.setByte a v).sos = s.sos := rfl
@[simp] theorem setByte_safe (s : State) (a : Nat) (v : Byte) : (s.setByte a v).safe = s.safe := rfl
@[simp] theorem setByte_pstCfg (s : State) (a : Nat) (v : Byte) : (s.setByte a v).pstCfg = s.pstCfg := rfl
@[simp] theorem setByte_pstProd (s : State) (a : Nat) (v : Byte) : (s.setByte a v).pstProd = s.pstProd := rfl
@[simp] theorem setByte_psts (s : State) (a : Nat) (v : Byte) : (s.setByte a v).psts = s.psts := rfl
@[simp] theorem setByte_stnCfg (s : State) (a : Nat) (v : Byte) : (s.setByte a v).stnCfg = s.stnCfg := rfl
@[simp] theorem setByte_stnMap (s : State) (a : Nat) (v : Byte) : (s.setByte a v).stnMap = s.stnMap := rfl
@[simp] theorem setByte_stns (s : State) (a : Nat) (v : Byte) : (s.setByte a v).stns = s.stns := rfl
@[simp] theorem setByte_lanes (s : State) (a : Nat) (v : Byte) : (s.setByte a v).lanes = s.lanes := rfl
@[simp] theorem setByte_fab (s : State) (a : Nat) (v : Byte) : (s.setByte a v).fab = s.fab := rfl
@[simp] theorem setByte_cans (s : State) (a : Nat) (v : Byte) : (s.setByte a v).cans = s.cans := rfl
@[simp] theorem setByte_sec (s : State) (a : Nat) (v : Byte) : (s.setByte a v).sec = s.sec := rfl
@[simp] theorem setByte_pwr (s : State) (a : Nat) (v : Byte) : (s.setByte a v).pwr = s.pwr := rfl
@[simp] theorem setByte_sent (s : State) (a : Nat) (v : Byte) : (s.setByte a v).sent = s.sent := rfl
@[simp] theorem setByte_wire (s : State) (a : Nat) (v : Byte) : (s.setByte a v).wire = s.wire := rfl
@[simp] theorem setByte_freeCtr (s : State) (a : Nat) (v : Byte) : (s.setByte a v).freeCtr = s.freeCtr := rfl

/-! ### State.send -/

@[simp] theorem send_pending (s : State) (w : Out) (l : List Nat) : (s.send w l).pending = s.pending := rfl
@[simp] theorem send_now (s : State) (w : Out) (l : List Nat) : (s.send w l).now = s.now := rfl
@[simp] theorem send_mem (s : State) (w : Out) (l : List Nat) : (s.send w l).mem = s.mem := rfl
@[simp] theorem send_regs (s : State) (w : Out) (l : List Nat) : (s.send w l).regs = s.regs := rfl
@[simp] theorem send_cores (s : State) (w : Out) (l : List Nat) : (s.send w l).cores = s.cores := rfl
@[simp] theorem send_inImg (s : State) (w : Out) (l : List Nat) : (s.send w l).inImg = s.inImg := rfl
@[simp] theorem send_outImg (s : State) (w : Out) (l : List Nat) : (s.send w l).outImg = s.outImg := rfl
@[simp] theorem send_imgLog (s : State) (w : Out) (l : List Nat) : (s.send w l).imgLog = s.imgLog := rfl
@[simp] theorem send_outDirty (s : State) (w : Out) (l : List Nat) : (s.send w l).outDirty = s.outDirty := rfl
@[simp] theorem send_forme (s : State) (w : Out) (l : List Nat) : (s.send w l).forme = s.forme := rfl
@[simp] theorem send_outHeld (s : State) (w : Out) (l : List Nat) : (s.send w l).outHeld = s.outHeld := rfl
@[simp] theorem send_forces (s : State) (w : Out) (l : List Nat) : (s.send w l).forces = s.forces := rfl
@[simp] theorem send_inForce (s : State) (w : Out) (l : List Nat) : (s.send w l).inForce = s.inForce := rfl
@[simp] theorem send_outForce (s : State) (w : Out) (l : List Nat) : (s.send w l).outForce = s.outForce := rfl
@[simp] theorem send_bell (s : State) (w : Out) (l : List Nat) : (s.send w l).bell = s.bell := rfl
@[simp] theorem send_proj (s : State) (w : Out) (l : List Nat) : (s.send w l).proj = s.proj := rfl
@[simp] theorem send_cfg (s : State) (w : Out) (l : List Nat) : (s.send w l).cfg = s.cfg := rfl
@[simp] theorem send_projImg (s : State) (w : Out) (l : List Nat) : (s.send w l).projImg = s.projImg := rfl
@[simp] theorem send_cfgStore (s : State) (w : Out) (l : List Nat) : (s.send w l).cfgStore = s.cfgStore := rfl
@[simp] theorem send_projStore (s : State) (w : Out) (l : List Nat) : (s.send w l).projStore = s.projStore := rfl
@[simp] theorem send_olc (s : State) (w : Out) (l : List Nat) : (s.send w l).olc = s.olc := rfl
@[simp] theorem send_bmail (s : State) (w : Out) (l : List Nat) : (s.send w l).bmail = s.bmail := rfl
@[simp] theorem send_units (s : State) (w : Out) (l : List Nat) : (s.send w l).units = s.units := rfl
@[simp] theorem send_clusters (s : State) (w : Out) (l : List Nat) : (s.send w l).clusters = s.clusters := rfl
@[simp] theorem send_upsets (s : State) (w : Out) (l : List Nat) : (s.send w l).upsets = s.upsets := rfl
@[simp] theorem send_memCorr (s : State) (w : Out) (l : List Nat) : (s.send w l).memCorr = s.memCorr := rfl
@[simp] theorem send_nand (s : State) (w : Out) (l : List Nat) : (s.send w l).nand = s.nand := rfl
@[simp] theorem send_dirty (s : State) (w : Out) (l : List Nat) : (s.send w l).dirty = s.dirty := rfl
@[simp] theorem send_dma (s : State) (w : Out) (l : List Nat) : (s.send w l).dma = s.dma := rfl
@[simp] theorem send_prot (s : State) (w : Out) (l : List Nat) : (s.send w l).prot = s.prot := rfl
@[simp] theorem send_pair (s : State) (w : Out) (l : List Nat) : (s.send w l).pair = s.pair := rfl
@[simp] theorem send_link (s : State) (w : Out) (l : List Nat) : (s.send w l).link = s.link := rfl
@[simp] theorem send_ptx (s : State) (w : Out) (l : List Nat) : (s.send w l).ptx = s.ptx := rfl
@[simp] theorem send_prx (s : State) (w : Out) (l : List Nat) : (s.send w l).prx = s.prx := rfl
@[simp] theorem send_tb (s : State) (w : Out) (l : List Nat) : (s.send w l).tb = s.tb := rfl
@[simp] theorem send_jrn (s : State) (w : Out) (l : List Nat) : (s.send w l).jrn = s.jrn := rfl
@[simp] theorem send_recd (s : State) (w : Out) (l : List Nat) : (s.send w l).recd = s.recd := rfl
@[simp] theorem send_mp (s : State) (w : Out) (l : List Nat) : (s.send w l).mp = s.mp := rfl
@[simp] theorem send_lo (s : State) (w : Out) (l : List Nat) : (s.send w l).lo = s.lo := rfl
@[simp] theorem send_loops (s : State) (w : Out) (l : List Nat) : (s.send w l).loops = s.loops := rfl
@[simp] theorem send_loopFl (s : State) (w : Out) (l : List Nat) : (s.send w l).loopFl = s.loopFl := rfl
@[simp] theorem send_engines (s : State) (w : Out) (l : List Nat) : (s.send w l).engines = s.engines := rfl
@[simp] theorem send_rcps (s : State) (w : Out) (l : List Nat) : (s.send w l).rcps = s.rcps := rfl
@[simp] theorem send_probes (s : State) (w : Out) (l : List Nat) : (s.send w l).probes = s.probes := rfl
@[simp] theorem send_rcpCmds (s : State) (w : Out) (l : List Nat) : (s.send w l).rcpCmds = s.rcpCmds := rfl
@[simp] theorem send_bellLoops (s : State) (w : Out) (l : List Nat) : (s.send w l).bellLoops = s.bellLoops := rfl
@[simp] theorem send_bellFl (s : State) (w : Out) (l : List Nat) : (s.send w l).bellFl = s.bellFl := rfl
@[simp] theorem send_bellRcps (s : State) (w : Out) (l : List Nat) : (s.send w l).bellRcps = s.bellRcps := rfl
@[simp] theorem send_ptpPorts (s : State) (w : Out) (l : List Nat) : (s.send w l).ptpPorts = s.ptpPorts := rfl
@[simp] theorem send_launch (s : State) (w : Out) (l : List Nat) : (s.send w l).launch = s.launch := rfl
@[simp] theorem send_reds (s : State) (w : Out) (l : List Nat) : (s.send w l).reds = s.reds := rfl
@[simp] theorem send_freeTx (s : State) (w : Out) (l : List Nat) : (s.send w l).freeTx = s.freeTx := rfl
@[simp] theorem send_ppsOut (s : State) (w : Out) (l : List Nat) : (s.send w l).ppsOut = s.ppsOut := rfl
@[simp] theorem send_net (s : State) (w : Out) (l : List Nat) : (s.send w l).net = s.net := rfl
@[simp] theorem send_svs (s : State) (w : Out) (l : List Nat) : (s.send w l).svs = s.svs := rfl
@[simp] theorem send_svPubs (s : State) (w : Out) (l : List Nat) : (s.send w l).svPubs = s.svPubs := rfl
@[simp] theorem send_gos (s : State) (w : Out) (l : List Nat) : (s.send w l).gos = s.gos := rfl
@[simp] theorem send_goPubs (s : State) (w : Out) (l : List Nat) : (s.send w l).goPubs = s.goPubs := rfl
@[simp] theorem send_dios (s : State) (w : Out) (l : List Nat) : (s.send w l).dios = s.dios := rfl
@[simp] theorem send_dioGroups (s : State) (w : Out) (l : List Nat) : (s.send w l).dioGroups = s.dioGroups := rfl
@[simp] theorem send_aios (s : State) (w : Out) (l : List Nat) : (s.send w l).aios = s.aios := rfl
@[simp] theorem send_cmps (s : State) (w : Out) (l : List Nat) : (s.send w l).cmps = s.cmps := rfl
@[simp] theorem send_rfxAct (s : State) (w : Out) (l : List Nat) : (s.send w l).rfxAct = s.rfxAct := rfl
@[simp] theorem send_sis (s : State) (w : Out) (l : List Nat) : (s.send w l).sis = s.sis := rfl
@[simp] theorem send_sos (s : State) (w : Out) (l : List Nat) : (s.send w l).sos = s.sos := rfl
@[simp] theorem send_safe (s : State) (w : Out) (l : List Nat) : (s.send w l).safe = s.safe := rfl
@[simp] theorem send_pstCfg (s : State) (w : Out) (l : List Nat) : (s.send w l).pstCfg = s.pstCfg := rfl
@[simp] theorem send_pstProd (s : State) (w : Out) (l : List Nat) : (s.send w l).pstProd = s.pstProd := rfl
@[simp] theorem send_psts (s : State) (w : Out) (l : List Nat) : (s.send w l).psts = s.psts := rfl
@[simp] theorem send_stnCfg (s : State) (w : Out) (l : List Nat) : (s.send w l).stnCfg = s.stnCfg := rfl
@[simp] theorem send_stnMap (s : State) (w : Out) (l : List Nat) : (s.send w l).stnMap = s.stnMap := rfl
@[simp] theorem send_stns (s : State) (w : Out) (l : List Nat) : (s.send w l).stns = s.stns := rfl
@[simp] theorem send_lanes (s : State) (w : Out) (l : List Nat) : (s.send w l).lanes = s.lanes := rfl
@[simp] theorem send_fab (s : State) (w : Out) (l : List Nat) : (s.send w l).fab = s.fab := rfl
@[simp] theorem send_cans (s : State) (w : Out) (l : List Nat) : (s.send w l).cans = s.cans := rfl
@[simp] theorem send_sec (s : State) (w : Out) (l : List Nat) : (s.send w l).sec = s.sec := rfl
@[simp] theorem send_pwr (s : State) (w : Out) (l : List Nat) : (s.send w l).pwr = s.pwr := rfl
@[simp] theorem send_wire (s : State) (w : Out) (l : List Nat) : (s.send w l).wire = s.wire := rfl
@[simp] theorem send_freeCtr (s : State) (w : Out) (l : List Nat) : (s.send w l).freeCtr = s.freeCtr := rfl

/-! ### Reading back -/

/-- A register reads what was written to it, every other register what it read before. -/
@[simp] theorem reg_setReg (s : State) (p o q r : Nat) (v : Word) :
    (s.setReg p o v).reg q r = if q * 0x1000 + r = p * 0x1000 + o then v else s.reg q r := by
  simp [State.reg, State.setReg, tget_tset]

/-- A cluster's registers read what was written to them, every other cluster's what they were. -/
@[simp] theorem core_setCore (s : State) (n m : Nat) (c : Core) : (s.setCore n c).core m = if m = n then c else s.core m := by
  simp [State.core, State.setCore, tget_tset]

/-- A byte reads what was written to it, every other byte what it was. -/
@[simp] theorem byte_setByte (s : State) (a x : Nat) (v : Byte) : (s.setByte a v).byte x = if x = a then v else s.byte x := by
  simp [State.byte, State.setByte, tget_tset]

@[simp] theorem core_setReg (s : State) (p o n : Nat) (v : Word) : (s.setReg p o v).core n = s.core n := rfl
@[simp] theorem byte_setReg (s : State) (p o x : Nat) (v : Word) : (s.setReg p o v).byte x = s.byte x := rfl
@[simp] theorem reg_setCore (s : State) (p o n : Nat) (c : Core) : (s.setCore n c).reg p o = s.reg p o := rfl
@[simp] theorem byte_setCore (s : State) (n x : Nat) (c : Core) : (s.setCore n c).byte x = s.byte x := rfl
@[simp] theorem core_setByte (s : State) (a n : Nat) (v : Byte) : (s.setByte a v).core n = s.core n := rfl
@[simp] theorem reg_setByte (s : State) (a p o : Nat) (v : Byte) : (s.setByte a v).reg p o = s.reg p o := rfl

/-! ### The registers of a cluster -/

/-- A general register reads what was written to it; g0 reads 0. -/
theorem greg_setG (c : Core) (r q : BitVec 5) (v : Word) : (c.setG r v).greg q = if q = r ∧ r ≠ 0#5 then v else c.greg q := by
  unfold Core.setG Core.greg
  by_cases hr : r = 0#5
  · simp [hr]
  · by_cases hq : q = 0#5
    · subst hq; simp [hr, Ne.symm hr]
    · simp only [hr, hq, if_false, tget_tset, BitVec.toNat_inj]
      simp [hr]

/-- A floating-point register reads what was written to it. -/
theorem freg_setF (c : Core) (r q : BitVec 5) (v : DWord) : (c.setF r v).freg q = if q = r then v else c.freg q := by
  simp [Core.setF, Core.freg, tget_tset, BitVec.toNat_inj]

/-! ### Core.setG -/

@[simp] theorem setG_f (c : Core) (r : BitVec 5) (v : Word) : (c.setG r v).f = c.f := by unfold Core.setG; split <;> rfl
@[simp] theorem setG_ip (c : Core) (r : BitVec 5) (v : Word) : (c.setG r v).ip = c.ip := by unfold Core.setG; split <;> rfl
@[simp] theorem setG_ib (c : Core) (r : BitVec 5) (v : Word) : (c.setG r v).ib = c.ib := by unfold Core.setG; split <;> rfl
@[simp] theorem setG_lb (c : Core) (r : BitVec 5) (v : Word) : (c.setG r v).lb = c.lb := by unfold Core.setG; split <;> rfl
@[simp] theorem setG_sp (c : Core) (r : BitVec 5) (v : Word) : (c.setG r v).sp = c.sp := by unfold Core.setG; split <;> rfl
@[simp] theorem setG_fl (c : Core) (r : BitVec 5) (v : Word) : (c.setG r v).fl = c.fl := by unfold Core.setG; split <;> rfl
@[simp] theorem setG_ct (c : Core) (r : BitVec 5) (v : Word) : (c.setG r v).ct = c.ct := by unfold Core.setG; split <;> rfl
@[simp] theorem setG_ctHi (c : Core) (r : BitVec 5) (v : Word) : (c.setG r v).ctHi = c.ctHi := by unfold Core.setG; split <;> rfl
@[simp] theorem setG_ps (c : Core) (r : BitVec 5) (v : Word) : (c.setG r v).ps = c.ps := by unfold Core.setG; split <;> rfl
@[simp] theorem setG_ev1 (c : Core) (r : BitVec 5) (v : Word) : (c.setG r v).ev1 = c.ev1 := by unfold Core.setG; split <;> rfl
@[simp] theorem setG_ev0 (c : Core) (r : BitVec 5) (v : Word) : (c.setG r v).ev0 = c.ev0 := by unfold Core.setG; split <;> rfl
@[simp] theorem setG_epc1 (c : Core) (r : BitVec 5) (v : Word) : (c.setG r v).epc1 = c.epc1 := by unfold Core.setG; split <;> rfl
@[simp] theorem setG_epc0 (c : Core) (r : BitVec 5) (v : Word) : (c.setG r v).epc0 = c.epc0 := by unfold Core.setG; split <;> rfl
@[simp] theorem setG_ecause1 (c : Core) (r : BitVec 5) (v : Word) : (c.setG r v).ecause1 = c.ecause1 := by unfold Core.setG; split <;> rfl
@[simp] theorem setG_ecause0 (c : Core) (r : BitVec 5) (v : Word) : (c.setG r v).ecause0 = c.ecause0 := by unfold Core.setG; split <;> rfl
@[simp] theorem setG_eaddr1 (c : Core) (r : BitVec 5) (v : Word) : (c.setG r v).eaddr1 = c.eaddr1 := by unfold Core.setG; split <;> rfl
@[simp] theorem setG_eaddr0 (c : Core) (r : BitVec 5) (v : Word) : (c.setG r v).eaddr0 = c.eaddr0 := by unfold Core.setG; split <;> rfl
@[simp] theorem setG_stklim (c : Core) (r : BitVec 5) (v : Word) : (c.setG r v).stklim = c.stklim := by unfold Core.setG; split <;> rfl
@[simp] theorem setG_cyvec (c : Core) (r : BitVec 5) (v : Word) : (c.setG r v).cyvec = c.cyvec := by unfold Core.setG; split <;> rfl
@[simp] theorem setG_scr1 (c : Core) (r : BitVec 5) (v : Word) : (c.setG r v).scr1 = c.scr1 := by unfold Core.setG; split <;> rfl
@[simp] theorem setG_scr0 (c : Core) (r : BitVec 5) (v : Word) : (c.setG r v).scr0 = c.scr0 := by unfold Core.setG; split <;> rfl
@[simp] theorem setG_trd (c : Core) (r : BitVec 5) (v : Word) : (c.setG r v).trd = c.trd := by unfold Core.setG; split <;> rfl
@[simp] theorem setG_status (c : Core) (r : BitVec 5) (v : Word) : (c.setG r v).status = c.status := by unfold Core.setG; split <;> rfl
@[simp] theorem setG_parts (c : Core) (r : BitVec 5) (v : Word) : (c.setG r v).parts = c.parts := by unfold Core.setG; split <;> rfl
@[simp] theorem setG_arrived (c : Core) (r : BitVec 5) (v : Word) : (c.setG r v).arrived = c.arrived := by unfold Core.setG; split <;> rfl
@[simp] theorem setG_released (c : Core) (r : BitVec 5) (v : Word) : (c.setG r v).released = c.released := by unfold Core.setG; split <;> rfl
@[simp] theorem setG_posts (c : Core) (r : BitVec 5) (v : Word) : (c.setG r v).posts = c.posts := by unfold Core.setG; split <;> rfl
@[simp] theorem setG_shed (c : Core) (r : BitVec 5) (v : Word) : (c.setG r v).shed = c.shed := by unfold Core.setG; split <;> rfl
@[simp] theorem setG_puts (c : Core) (r : BitVec 5) (v : Word) : (c.setG r v).puts = c.puts := by unfold Core.setG; split <;> rfl
@[simp] theorem setG_canStage (c : Core) (r : BitVec 5) (v : Word) : (c.setG r v).canStage = c.canStage := by unfold Core.setG; split <;> rfl
@[simp] theorem setG_canResults (c : Core) (r : BitVec 5) (v : Word) : (c.setG r v).canResults = c.canResults := by unfold Core.setG; split <;> rfl
@[simp] theorem setG_atBkpt (c : Core) (r : BitVec 5) (v : Word) : (c.setG r v).atBkpt = c.atBkpt := by unfold Core.setG; split <;> rfl

/-! ### Core.setF -/

@[simp] theorem setF_g (c : Core) (r : BitVec 5) (v : DWord) : (c.setF r v).g = c.g := rfl
@[simp] theorem setF_ip (c : Core) (r : BitVec 5) (v : DWord) : (c.setF r v).ip = c.ip := rfl
@[simp] theorem setF_ib (c : Core) (r : BitVec 5) (v : DWord) : (c.setF r v).ib = c.ib := rfl
@[simp] theorem setF_lb (c : Core) (r : BitVec 5) (v : DWord) : (c.setF r v).lb = c.lb := rfl
@[simp] theorem setF_sp (c : Core) (r : BitVec 5) (v : DWord) : (c.setF r v).sp = c.sp := rfl
@[simp] theorem setF_fl (c : Core) (r : BitVec 5) (v : DWord) : (c.setF r v).fl = c.fl := rfl
@[simp] theorem setF_ct (c : Core) (r : BitVec 5) (v : DWord) : (c.setF r v).ct = c.ct := rfl
@[simp] theorem setF_ctHi (c : Core) (r : BitVec 5) (v : DWord) : (c.setF r v).ctHi = c.ctHi := rfl
@[simp] theorem setF_ps (c : Core) (r : BitVec 5) (v : DWord) : (c.setF r v).ps = c.ps := rfl
@[simp] theorem setF_ev1 (c : Core) (r : BitVec 5) (v : DWord) : (c.setF r v).ev1 = c.ev1 := rfl
@[simp] theorem setF_ev0 (c : Core) (r : BitVec 5) (v : DWord) : (c.setF r v).ev0 = c.ev0 := rfl
@[simp] theorem setF_epc1 (c : Core) (r : BitVec 5) (v : DWord) : (c.setF r v).epc1 = c.epc1 := rfl
@[simp] theorem setF_epc0 (c : Core) (r : BitVec 5) (v : DWord) : (c.setF r v).epc0 = c.epc0 := rfl
@[simp] theorem setF_ecause1 (c : Core) (r : BitVec 5) (v : DWord) : (c.setF r v).ecause1 = c.ecause1 := rfl
@[simp] theorem setF_ecause0 (c : Core) (r : BitVec 5) (v : DWord) : (c.setF r v).ecause0 = c.ecause0 := rfl
@[simp] theorem setF_eaddr1 (c : Core) (r : BitVec 5) (v : DWord) : (c.setF r v).eaddr1 = c.eaddr1 := rfl
@[simp] theorem setF_eaddr0 (c : Core) (r : BitVec 5) (v : DWord) : (c.setF r v).eaddr0 = c.eaddr0 := rfl
@[simp] theorem setF_stklim (c : Core) (r : BitVec 5) (v : DWord) : (c.setF r v).stklim = c.stklim := rfl
@[simp] theorem setF_cyvec (c : Core) (r : BitVec 5) (v : DWord) : (c.setF r v).cyvec = c.cyvec := rfl
@[simp] theorem setF_scr1 (c : Core) (r : BitVec 5) (v : DWord) : (c.setF r v).scr1 = c.scr1 := rfl
@[simp] theorem setF_scr0 (c : Core) (r : BitVec 5) (v : DWord) : (c.setF r v).scr0 = c.scr0 := rfl
@[simp] theorem setF_trd (c : Core) (r : BitVec 5) (v : DWord) : (c.setF r v).trd = c.trd := rfl
@[simp] theorem setF_status (c : Core) (r : BitVec 5) (v : DWord) : (c.setF r v).status = c.status := rfl
@[simp] theorem setF_parts (c : Core) (r : BitVec 5) (v : DWord) : (c.setF r v).parts = c.parts := rfl
@[simp] theorem setF_arrived (c : Core) (r : BitVec 5) (v : DWord) : (c.setF r v).arrived = c.arrived := rfl
@[simp] theorem setF_released (c : Core) (r : BitVec 5) (v : DWord) : (c.setF r v).released = c.released := rfl
@[simp] theorem setF_posts (c : Core) (r : BitVec 5) (v : DWord) : (c.setF r v).posts = c.posts := rfl
@[simp] theorem setF_shed (c : Core) (r : BitVec 5) (v : DWord) : (c.setF r v).shed = c.shed := rfl
@[simp] theorem setF_puts (c : Core) (r : BitVec 5) (v : DWord) : (c.setF r v).puts = c.puts := rfl
@[simp] theorem setF_canStage (c : Core) (r : BitVec 5) (v : DWord) : (c.setF r v).canStage = c.canStage := rfl
@[simp] theorem setF_canResults (c : Core) (r : BitVec 5) (v : DWord) : (c.setF r v).canResults = c.canResults := rfl
@[simp] theorem setF_atBkpt (c : Core) (r : BitVec 5) (v : DWord) : (c.setF r v).atBkpt = c.atBkpt := rfl

/-! ### Core.setPair -/

@[simp] theorem setPair_f (c : Core) (r : BitVec 5) (v : DWord) : (c.setPair r v).f = c.f := by unfold Core.setPair; split <;> simp
@[simp] theorem setPair_ip (c : Core) (r : BitVec 5) (v : DWord) : (c.setPair r v).ip = c.ip := by unfold Core.setPair; split <;> simp
@[simp] theorem setPair_ib (c : Core) (r : BitVec 5) (v : DWord) : (c.setPair r v).ib = c.ib := by unfold Core.setPair; split <;> simp
@[simp] theorem setPair_lb (c : Core) (r : BitVec 5) (v : DWord) : (c.setPair r v).lb = c.lb := by unfold Core.setPair; split <;> simp
@[simp] theorem setPair_sp (c : Core) (r : BitVec 5) (v : DWord) : (c.setPair r v).sp = c.sp := by unfold Core.setPair; split <;> simp
@[simp] theorem setPair_fl (c : Core) (r : BitVec 5) (v : DWord) : (c.setPair r v).fl = c.fl := by unfold Core.setPair; split <;> simp
@[simp] theorem setPair_ct (c : Core) (r : BitVec 5) (v : DWord) : (c.setPair r v).ct = c.ct := by unfold Core.setPair; split <;> simp
@[simp] theorem setPair_ctHi (c : Core) (r : BitVec 5) (v : DWord) : (c.setPair r v).ctHi = c.ctHi := by unfold Core.setPair; split <;> simp
@[simp] theorem setPair_ps (c : Core) (r : BitVec 5) (v : DWord) : (c.setPair r v).ps = c.ps := by unfold Core.setPair; split <;> simp
@[simp] theorem setPair_ev1 (c : Core) (r : BitVec 5) (v : DWord) : (c.setPair r v).ev1 = c.ev1 := by unfold Core.setPair; split <;> simp
@[simp] theorem setPair_ev0 (c : Core) (r : BitVec 5) (v : DWord) : (c.setPair r v).ev0 = c.ev0 := by unfold Core.setPair; split <;> simp
@[simp] theorem setPair_epc1 (c : Core) (r : BitVec 5) (v : DWord) : (c.setPair r v).epc1 = c.epc1 := by unfold Core.setPair; split <;> simp
@[simp] theorem setPair_epc0 (c : Core) (r : BitVec 5) (v : DWord) : (c.setPair r v).epc0 = c.epc0 := by unfold Core.setPair; split <;> simp
@[simp] theorem setPair_ecause1 (c : Core) (r : BitVec 5) (v : DWord) : (c.setPair r v).ecause1 = c.ecause1 := by unfold Core.setPair; split <;> simp
@[simp] theorem setPair_ecause0 (c : Core) (r : BitVec 5) (v : DWord) : (c.setPair r v).ecause0 = c.ecause0 := by unfold Core.setPair; split <;> simp
@[simp] theorem setPair_eaddr1 (c : Core) (r : BitVec 5) (v : DWord) : (c.setPair r v).eaddr1 = c.eaddr1 := by unfold Core.setPair; split <;> simp
@[simp] theorem setPair_eaddr0 (c : Core) (r : BitVec 5) (v : DWord) : (c.setPair r v).eaddr0 = c.eaddr0 := by unfold Core.setPair; split <;> simp
@[simp] theorem setPair_stklim (c : Core) (r : BitVec 5) (v : DWord) : (c.setPair r v).stklim = c.stklim := by unfold Core.setPair; split <;> simp
@[simp] theorem setPair_cyvec (c : Core) (r : BitVec 5) (v : DWord) : (c.setPair r v).cyvec = c.cyvec := by unfold Core.setPair; split <;> simp
@[simp] theorem setPair_scr1 (c : Core) (r : BitVec 5) (v : DWord) : (c.setPair r v).scr1 = c.scr1 := by unfold Core.setPair; split <;> simp
@[simp] theorem setPair_scr0 (c : Core) (r : BitVec 5) (v : DWord) : (c.setPair r v).scr0 = c.scr0 := by unfold Core.setPair; split <;> simp
@[simp] theorem setPair_trd (c : Core) (r : BitVec 5) (v : DWord) : (c.setPair r v).trd = c.trd := by unfold Core.setPair; split <;> simp
@[simp] theorem setPair_status (c : Core) (r : BitVec 5) (v : DWord) : (c.setPair r v).status = c.status := by unfold Core.setPair; split <;> simp
@[simp] theorem setPair_parts (c : Core) (r : BitVec 5) (v : DWord) : (c.setPair r v).parts = c.parts := by unfold Core.setPair; split <;> simp
@[simp] theorem setPair_arrived (c : Core) (r : BitVec 5) (v : DWord) : (c.setPair r v).arrived = c.arrived := by unfold Core.setPair; split <;> simp
@[simp] theorem setPair_released (c : Core) (r : BitVec 5) (v : DWord) : (c.setPair r v).released = c.released := by unfold Core.setPair; split <;> simp
@[simp] theorem setPair_posts (c : Core) (r : BitVec 5) (v : DWord) : (c.setPair r v).posts = c.posts := by unfold Core.setPair; split <;> simp
@[simp] theorem setPair_shed (c : Core) (r : BitVec 5) (v : DWord) : (c.setPair r v).shed = c.shed := by unfold Core.setPair; split <;> simp
@[simp] theorem setPair_puts (c : Core) (r : BitVec 5) (v : DWord) : (c.setPair r v).puts = c.puts := by unfold Core.setPair; split <;> simp
@[simp] theorem setPair_canStage (c : Core) (r : BitVec 5) (v : DWord) : (c.setPair r v).canStage = c.canStage := by unfold Core.setPair; split <;> simp
@[simp] theorem setPair_canResults (c : Core) (r : BitVec 5) (v : DWord) : (c.setPair r v).canResults = c.canResults := by unfold Core.setPair; split <;> simp
@[simp] theorem setPair_atBkpt (c : Core) (r : BitVec 5) (v : DWord) : (c.setPair r v).atBkpt = c.atBkpt := by unfold Core.setPair; split <;> simp

/-! ### Core.setVI -/

@[simp] theorem setVI_g (c : Core) (v : Bool) : (c.setVI v).g = c.g := by cases v <;> rfl
@[simp] theorem setVI_f (c : Core) (v : Bool) : (c.setVI v).f = c.f := by cases v <;> rfl
@[simp] theorem setVI_ip (c : Core) (v : Bool) : (c.setVI v).ip = c.ip := by cases v <;> rfl
@[simp] theorem setVI_ib (c : Core) (v : Bool) : (c.setVI v).ib = c.ib := by cases v <;> rfl
@[simp] theorem setVI_lb (c : Core) (v : Bool) : (c.setVI v).lb = c.lb := by cases v <;> rfl
@[simp] theorem setVI_sp (c : Core) (v : Bool) : (c.setVI v).sp = c.sp := by cases v <;> rfl
@[simp] theorem setVI_ct (c : Core) (v : Bool) : (c.setVI v).ct = c.ct := by cases v <;> rfl
@[simp] theorem setVI_ctHi (c : Core) (v : Bool) : (c.setVI v).ctHi = c.ctHi := by cases v <;> rfl
@[simp] theorem setVI_ps (c : Core) (v : Bool) : (c.setVI v).ps = c.ps := by cases v <;> rfl
@[simp] theorem setVI_ev1 (c : Core) (v : Bool) : (c.setVI v).ev1 = c.ev1 := by cases v <;> rfl
@[simp] theorem setVI_ev0 (c : Core) (v : Bool) : (c.setVI v).ev0 = c.ev0 := by cases v <;> rfl
@[simp] theorem setVI_epc1 (c : Core) (v : Bool) : (c.setVI v).epc1 = c.epc1 := by cases v <;> rfl
@[simp] theorem setVI_epc0 (c : Core) (v : Bool) : (c.setVI v).epc0 = c.epc0 := by cases v <;> rfl
@[simp] theorem setVI_ecause1 (c : Core) (v : Bool) : (c.setVI v).ecause1 = c.ecause1 := by cases v <;> rfl
@[simp] theorem setVI_ecause0 (c : Core) (v : Bool) : (c.setVI v).ecause0 = c.ecause0 := by cases v <;> rfl
@[simp] theorem setVI_eaddr1 (c : Core) (v : Bool) : (c.setVI v).eaddr1 = c.eaddr1 := by cases v <;> rfl
@[simp] theorem setVI_eaddr0 (c : Core) (v : Bool) : (c.setVI v).eaddr0 = c.eaddr0 := by cases v <;> rfl
@[simp] theorem setVI_stklim (c : Core) (v : Bool) : (c.setVI v).stklim = c.stklim := by cases v <;> rfl
@[simp] theorem setVI_cyvec (c : Core) (v : Bool) : (c.setVI v).cyvec = c.cyvec := by cases v <;> rfl
@[simp] theorem setVI_scr1 (c : Core) (v : Bool) : (c.setVI v).scr1 = c.scr1 := by cases v <;> rfl
@[simp] theorem setVI_scr0 (c : Core) (v : Bool) : (c.setVI v).scr0 = c.scr0 := by cases v <;> rfl
@[simp] theorem setVI_trd (c : Core) (v : Bool) : (c.setVI v).trd = c.trd := by cases v <;> rfl
@[simp] theorem setVI_status (c : Core) (v : Bool) : (c.setVI v).status = c.status := by cases v <;> rfl
@[simp] theorem setVI_parts (c : Core) (v : Bool) : (c.setVI v).parts = c.parts := by cases v <;> rfl
@[simp] theorem setVI_arrived (c : Core) (v : Bool) : (c.setVI v).arrived = c.arrived := by cases v <;> rfl
@[simp] theorem setVI_released (c : Core) (v : Bool) : (c.setVI v).released = c.released := by cases v <;> rfl
@[simp] theorem setVI_posts (c : Core) (v : Bool) : (c.setVI v).posts = c.posts := by cases v <;> rfl
@[simp] theorem setVI_shed (c : Core) (v : Bool) : (c.setVI v).shed = c.shed := by cases v <;> rfl
@[simp] theorem setVI_puts (c : Core) (v : Bool) : (c.setVI v).puts = c.puts := by cases v <;> rfl
@[simp] theorem setVI_canStage (c : Core) (v : Bool) : (c.setVI v).canStage = c.canStage := by cases v <;> rfl
@[simp] theorem setVI_canResults (c : Core) (v : Bool) : (c.setVI v).canResults = c.canResults := by cases v <;> rfl
@[simp] theorem setVI_atBkpt (c : Core) (v : Bool) : (c.setVI v).atBkpt = c.atBkpt := by cases v <;> rfl

/-! ### Core.setFF -/

@[simp] theorem setFF_g (c : Core) (v : FFlags) : (c.setFF v).g = c.g := rfl
@[simp] theorem setFF_f (c : Core) (v : FFlags) : (c.setFF v).f = c.f := rfl
@[simp] theorem setFF_ip (c : Core) (v : FFlags) : (c.setFF v).ip = c.ip := rfl
@[simp] theorem setFF_ib (c : Core) (v : FFlags) : (c.setFF v).ib = c.ib := rfl
@[simp] theorem setFF_lb (c : Core) (v : FFlags) : (c.setFF v).lb = c.lb := rfl
@[simp] theorem setFF_sp (c : Core) (v : FFlags) : (c.setFF v).sp = c.sp := rfl
@[simp] theorem setFF_ct (c : Core) (v : FFlags) : (c.setFF v).ct = c.ct := rfl
@[simp] theorem setFF_ctHi (c : Core) (v : FFlags) : (c.setFF v).ctHi = c.ctHi := rfl
@[simp] theorem setFF_ps (c : Core) (v : FFlags) : (c.setFF v).ps = c.ps := rfl
@[simp] theorem setFF_ev1 (c : Core) (v : FFlags) : (c.setFF v).ev1 = c.ev1 := rfl
@[simp] theorem setFF_ev0 (c : Core) (v : FFlags) : (c.setFF v).ev0 = c.ev0 := rfl
@[simp] theorem setFF_epc1 (c : Core) (v : FFlags) : (c.setFF v).epc1 = c.epc1 := rfl
@[simp] theorem setFF_epc0 (c : Core) (v : FFlags) : (c.setFF v).epc0 = c.epc0 := rfl
@[simp] theorem setFF_ecause1 (c : Core) (v : FFlags) : (c.setFF v).ecause1 = c.ecause1 := rfl
@[simp] theorem setFF_ecause0 (c : Core) (v : FFlags) : (c.setFF v).ecause0 = c.ecause0 := rfl
@[simp] theorem setFF_eaddr1 (c : Core) (v : FFlags) : (c.setFF v).eaddr1 = c.eaddr1 := rfl
@[simp] theorem setFF_eaddr0 (c : Core) (v : FFlags) : (c.setFF v).eaddr0 = c.eaddr0 := rfl
@[simp] theorem setFF_stklim (c : Core) (v : FFlags) : (c.setFF v).stklim = c.stklim := rfl
@[simp] theorem setFF_cyvec (c : Core) (v : FFlags) : (c.setFF v).cyvec = c.cyvec := rfl
@[simp] theorem setFF_scr1 (c : Core) (v : FFlags) : (c.setFF v).scr1 = c.scr1 := rfl
@[simp] theorem setFF_scr0 (c : Core) (v : FFlags) : (c.setFF v).scr0 = c.scr0 := rfl
@[simp] theorem setFF_trd (c : Core) (v : FFlags) : (c.setFF v).trd = c.trd := rfl
@[simp] theorem setFF_status (c : Core) (v : FFlags) : (c.setFF v).status = c.status := rfl
@[simp] theorem setFF_parts (c : Core) (v : FFlags) : (c.setFF v).parts = c.parts := rfl
@[simp] theorem setFF_arrived (c : Core) (v : FFlags) : (c.setFF v).arrived = c.arrived := rfl
@[simp] theorem setFF_released (c : Core) (v : FFlags) : (c.setFF v).released = c.released := rfl
@[simp] theorem setFF_posts (c : Core) (v : FFlags) : (c.setFF v).posts = c.posts := rfl
@[simp] theorem setFF_shed (c : Core) (v : FFlags) : (c.setFF v).shed = c.shed := rfl
@[simp] theorem setFF_puts (c : Core) (v : FFlags) : (c.setFF v).puts = c.puts := rfl
@[simp] theorem setFF_canStage (c : Core) (v : FFlags) : (c.setFF v).canStage = c.canStage := rfl
@[simp] theorem setFF_canResults (c : Core) (v : FFlags) : (c.setFF v).canResults = c.canResults := rfl
@[simp] theorem setFF_atBkpt (c : Core) (v : FFlags) : (c.setFF v).atBkpt = c.atBkpt := rfl

end Sys2Proof.Laws
end

