-- ==== Sys2Proof/Laws/Mem.lean ====
section
/-! SUPPORT. What the operations on memory and on registers do: which bytes and registers they change, that they change nothing else, and that they keep the canonical form of memory. -/

namespace Sys2Proof.Laws

open Sys2Proof.Machine

/-! ### One byte -/

/-- A write of one byte keeps the form of memory. -/
theorem wf_setByte {s : State} (h : Memory.wf s.mem = true) (a : Nat) (v : Byte) : Memory.wf (s.setByte a v).mem = true :=
  twf_tset memDefault s.mem a v h

/-! ### Lists of bytes -/

/-- A write of bytes changes memory alone. -/
theorem setBytes_frame (l : List Byte) (s : State) (a : Nat) : s.setBytes a l = { s with mem := (s.setBytes a l).mem } := by
  induction l generalizing s a with
  | nil => rfl
  | cons b l ih => simp only [State.setBytes]; rw [ih]; rfl

/-- The bytes after a write of bytes. -/
theorem byte_setBytes (l : List Byte) (s : State) (a x : Nat) :
    (s.setBytes a l).byte x = if a ≤ x ∧ x < a + l.length then l.getD (x - a) 0#8 else s.byte x := by
  induction l generalizing s a with
  | nil => simp only [State.setBytes, List.length_nil]; rw [if_neg (by omega)]
  | cons b l ih =>
    rw [State.setBytes, ih, byte_setByte, List.length_cons]
    by_cases h : x = a
    · subst h; rw [if_neg (by omega), if_pos rfl, if_pos (by omega), Nat.sub_self, List.getD_cons_zero]
    · by_cases h2 : a + 1 ≤ x ∧ x < a + 1 + l.length
      · rw [if_pos h2, if_pos (by omega), show x - a = (x - (a + 1)) + 1 by omega, List.getD_cons_succ]
      · rw [if_neg h2, if_neg h, if_neg (by omega)]

/-- A write of bytes keeps the form of memory. -/
theorem wf_setBytes (l : List Byte) {s : State} (h : Memory.wf s.mem = true) (a : Nat) : Memory.wf (s.setBytes a l).mem = true := by
  induction l generalizing s a with
  | nil => exact h
  | cons b l ih => exact ih (wf_setByte h a b) (a + 1)

/-! ### Numbers -/

/-- A store of a number changes memory alone. -/
theorem storeLE_frame (n : Nat) (s : State) (a v : Nat) : s.storeLE a n v = { s with mem := (s.storeLE a n v).mem } := by
  induction n generalizing s a v with
  | zero => rfl
  | succ n ih => simp only [State.storeLE]; rw [ih]; rfl

/-- The bytes after a store of a number. -/
theorem byte_storeLE (n : Nat) (s : State) (a v x : Nat) :
    (s.storeLE a n v).byte x = if a ≤ x ∧ x < a + n then BitVec.ofNat 8 (v / 256 ^ (x - a)) else s.byte x := by
  induction n generalizing s a v with
  | zero => simp only [State.storeLE]; rw [if_neg (by omega)]
  | succ n ih =>
    rw [State.storeLE, ih, byte_setByte]
    by_cases h : x = a
    · subst h; rw [if_neg (by omega), if_pos rfl, if_pos (by omega), Nat.sub_self, Nat.pow_zero, Nat.div_one]
    · by_cases h2 : a + 1 ≤ x ∧ x < a + 1 + n
      · rw [if_pos h2, if_pos (by omega), Nat.div_div_eq_div_mul, ← Nat.pow_succ', show (x - (a + 1)).succ = x - a by omega]
      · rw [if_neg h2, if_neg h, if_neg (by omega)]

/-- A store of a number keeps the form of memory. -/
theorem wf_storeLE (n : Nat) {s : State} (h : Memory.wf s.mem = true) (a v : Nat) : Memory.wf (s.storeLE a n v).mem = true := by
  induction n generalizing s a v with
  | zero => exact h
  | succ n ih => exact ih (wf_setByte h a _) (a + 1) _

/-- A load of a number that was stored gives it back, cut to its size. -/
theorem loadLE_eq_bytes (n : Nat) (s t : State) (a : Nat) (h : ∀ x, a ≤ x → x < a + n → s.byte x = t.byte x) :
    s.loadLE a n = t.loadLE a n := by
  induction n generalizing a with
  | zero => rfl
  | succ n ih =>
    rw [State.loadLE, State.loadLE, h a (by omega) (by omega), ih (a + 1) (fun x h1 h2 => h x (by omega) (by omega))]

/-! ### Scattered bytes, slots of the journal, a cold start -/

/-- Scattered bytes change memory alone. -/
theorem setCells_frame (l : List (Nat × Byte)) (s : State) : s.setCells l = { s with mem := (s.setCells l).mem } := by
  induction l generalizing s with
  | nil => rfl
  | cons e l ih => simp only [State.setCells]; rw [ih]; rfl

/-- Scattered bytes keep the form of memory. -/
theorem wf_setCells (l : List (Nat × Byte)) {s : State} (h : Memory.wf s.mem = true) : Memory.wf (s.setCells l).mem = true := by
  induction l generalizing s with
  | nil => exact h
  | cons e l ih => exact ih (wf_setByte h e.1 e.2)

/-- A record offered to the journal leaves memory alone. -/
theorem offer_mem (s : State) (r : JRec) : (s.offer r).mem = s.mem := by
  unfold State.offer
  extract_lets
  repeat' split
  all_goals rfl

theorem journalReg_mem (s : State) (p c o : Nat) : (s.journalReg p c o).mem = s.mem := offer_mem s _
theorem count_mem (s : State) (p o : Nat) : (s.count p o).mem = s.mem := rfl
theorem countN_mem (s : State) (p o n : Nat) : (s.countN p o n).mem = s.mem := rfl
theorem raise_mem (s : State) (p b : Nat) : (s.raise p b).mem = s.mem := rfl

/-- A refusal at a target leaves memory alone. -/
theorem targetRefusal_mem (s : State) (t mid : Nat) (bank : Bool) (reason rule a : Nat) (pr : Priv) (o : AccOp) :
    (s.targetRefusal t mid bank reason rule a pr o).mem = s.mem := by
  simp only [State.targetRefusal, apply_ite State.mem, count_mem, raise_mem, journalReg_mem, setReg_mem, ite_self]

/-- The check of an access of a fixed-function master leaves memory alone. -/
theorem fixedMay_mem (s : State) (mid : Nat) (o : AccOp) (a len : Nat) : (s.fixedMay mid o a len).1.mem = s.mem := by
  unfold State.fixedMay State.targetCheck State.targetRules
  dsimp only
  repeat' split
  all_goals first | rfl | exact targetRefusal_mem ..

/-- Clearing slots of the journal keeps the form of memory. -/
theorem wf_zeroFrom (n : Nat) {s : State} (h : Memory.wf s.mem = true) (cuts : List Nat) (hi lo : Nat) :
    Memory.wf (s.zeroFrom cuts hi n lo).mem = true := by
  induction n generalizing s lo with
  | zero => exact h
  | succ n ih =>
    rw [State.zeroFrom]
    have hm := fixedMay_mem s 0x038 .write (jrnAddr lo) 32
    split
    · exact h
    · dsimp only
      split
      · next s' he => exact ih (s := s'.zeroRun _ _) (twf_tclear memDefault s'.mem _ _ (by rw [he] at hm; rwa [hm])) _
      · next s' he => exact ih (s := s'.countN _ _ _) (by rw [countN_mem]; rw [he] at hm; rwa [hm]) _

theorem wf_zeroSlots {s : State} (h : Memory.wf s.mem = true) (lo hi : Nat) : Memory.wf (s.zeroSlots lo hi).mem = true :=
  wf_zeroFrom 34 h s.slotCuts hi lo

/-- A cold start keeps the form of memory. -/
theorem wf_cold {s : State} (h : Memory.wf s.mem = true) : Memory.wf s.cold.mem = true :=
  twf_filter memDefault _ s.mem h

/-! ### Registers with storage -/

/-- A counter after it counts. -/
theorem reg_count (s : State) (p o p' o' : Nat) :
    (s.count p o).reg p' o' = if p' * 0x1000 + o' = p * 0x1000 + o then satInc (s.reg p o) else s.reg p' o' :=
  reg_setReg s p o p' o' _

/-- An event changes INT_RAW of its page alone. -/
theorem raise_frame (s : State) (p b : Nat) : s.raise p b = { s with regs := (s.raise p b).regs } := rfl

/-- A count changes registers alone. -/
theorem count_frame (s : State) (p o : Nat) : s.count p o = { s with regs := (s.count p o).regs } := rfl

/-- An error count changes registers alone. -/
theorem err_frame (s : State) (p : Nat) : s.err p = { s with regs := (s.err p).regs } := rfl

end Sys2Proof.Laws
end

