-- ==== Sys2Proof/Laws/Frame.lean ====
section
/-! SUPPORT. Once for each shared operation: the only fields of the state that it changes. -/

namespace Sys2Proof.Laws

open Sys2Proof.Machine

/-! ### Journal intake (R525) -/

/-- A record offered to the intake changes the journal and its counters alone. -/
theorem offer_changes (s : State) (r : JRec) : ∃ j g, s.offer r = { s with jrn := j, regs := g } := by
  unfold State.offer
  extract_lets
  by_cases h1 : s.jrn.closed = true
  · rw [if_pos h1]; exact ⟨_, _, rfl⟩
  · rw [if_neg h1]
    by_cases h2 : s.jrn.full = true
    · rw [if_pos h2]; exact ⟨_, _, rfl⟩
    · rw [if_neg h2]
      split
      · exact ⟨_, _, rfl⟩
      · split <;> exact ⟨_, _, rfl⟩

/-- As `offer_changes`, for rewriting. -/
theorem offer_frame (s : State) (r : JRec) : s.offer r = { s with jrn := (s.offer r).jrn, regs := (s.offer r).regs } := by
  obtain ⟨j, g, h⟩ := offer_changes s r
  rw [h]

/-- A record of a page changes the journal and its counters alone. -/
theorem journal_frame (s : State) (p code off : Nat) (v : Word) :
    s.journal p code off v = { s with jrn := (s.journal p code off v).jrn, regs := (s.journal p code off v).regs } :=
  offer_frame s _

/-- As `journal_frame`, for a record that shows a register. -/
theorem journalReg_frame (s : State) (p code off : Nat) :
    s.journalReg p code off = { s with jrn := (s.journalReg p code off).jrn, regs := (s.journalReg p code off).regs } :=
  offer_frame s _

/-- A record of a cluster changes the journal and its counters alone. -/
theorem journalCluster_frame (s : State) (n code : Nat) (p0 p1 : Word) :
    s.journalCluster n code p0 p1 = { s with jrn := (s.journalCluster n code p0 p1).jrn, regs := (s.journalCluster n code p0 p1).regs } :=
  offer_frame s _

/-- A discard changes registers and the journal alone. -/
theorem discard_frame (s : State) (p off : Nat) :
    s.discard p off = { s with jrn := (s.discard p off).jrn, regs := (s.discard p off).regs } := by
  unfold State.discard
  rw [journalReg_frame]
  rfl

/-! ### Registers and things sent -/

/-- A cause for the error task changes registers alone (R62). -/
theorem cause_frame (s : State) (b : Nat) : s.cause b = { s with regs := (s.cause b).regs } := rfl

/-- A field of a register changes registers alone. -/
theorem setFld_frame (s : State) (p o lo n x : Nat) : s.setFld p o lo n x = { s with regs := (s.setFld p o lo n x).regs } := rfl

/-- A bit of a register changes registers alone. -/
theorem setBit_frame (s : State) (p o i : Nat) (b : Bool) : s.setBit p o i b = { s with regs := (s.setBit p o i b).regs } := rfl

/-- What is sent is added in front of what was sent. -/
theorem send_frame (s : State) (w : Out) (args : List Nat) : s.send w args = { s with sent := { what := w, args := args } :: s.sent } := rfl

/-! ### Units and clusters -/

/-- A unit after a write of it. -/
theorem unit_setUnit (s : State) (u v : Nat) (x : CUnit) : (s.setUnit u x).unit v = if v = u then x else s.unit v :=
  tget_tset (fun _ => ({} : CUnit)) s.units u v x

/-- A cluster's lockstep state after a change of it. -/
theorem cluster_setCluster (s : State) (n m : Nat) (c : ClSt) : (s.setCluster n c).cluster m = if m = n then c else s.cluster m :=
  tget_tset (fun _ => ClSt.failed) s.clusters n m c

end Sys2Proof.Laws
end

