-- ==== Sys2Proof/Laws/Isa.lean ====
section
/-! SUPPORT. The frame of an instruction of chapter 3: what the checks leave of the state and what a permitted fetch lets happen. -/

namespace Sys2Proof.Laws

open Sys2Proof.Machine

/-- An access that the rules of a target permit leaves the state as it was. -/
theorem targetRules_ok {s : State} {t mid : Nat} {pr : Priv} {o : AccOp} {a len : Nat}
    (h : (s.targetRules t mid pr o a len).2 = true) : s.targetRules t mid pr o a len = (s, true) := by
  unfold State.targetRules at h ⊢
  dsimp only at h ⊢
  repeat' split at h
  all_goals first
    | exact absurd h Bool.false_ne_true
    | (rename_i h1 h2 _ _; rw [if_neg h1, if_neg h2])

/-- A permitted access leaves the state as it was. -/
theorem targetCheck_ok {s : State} {mid : Nat} {pr : Priv} {o : AccOp} {a len : Nat}
    (h : (s.targetCheck mid pr o a len).2 = true) : s.targetCheck mid pr o a len = (s, true) := by
  unfold State.targetCheck at h ⊢
  split at h
  · cases h
  · dsimp only at h ⊢
    split at h
    · exact absurd h Bool.false_ne_true
    · next h1 =>
      split at h
      · exact absurd h Bool.false_ne_true
      · next h2 => rw [if_neg h1, if_neg h2]; exact targetRules_ok h

/-- A permitted access of a cluster leaves the state as it was. -/
theorem coreAccess_ok {s : State} {n : Nat} {pr : Priv} {o : AccOp} {a len : Nat}
    (h : (s.coreAccess n pr o a len).2 = true) : s.coreAccess n pr o a len = (s, true) := by
  unfold State.coreAccess at h ⊢
  dsimp only at h ⊢
  split at h
  · cases h
  · exact targetCheck_ok h

/-- A permitted fetch leaves the state as it was. -/
theorem fetchCheck_ok {s : State} {n : Nat} (h : (s.fetchCheck n).2 = true) : s.fetchCheck n = (s, true) := by
  unfold State.fetchCheck at h ⊢
  dsimp only at h ⊢
  split at h
  · cases h
  · next h1 =>
    rw [if_neg h1, coreAccess_ok (s := s) h]

/-- A read of a word that carries no error changes nothing. -/
theorem eccRead_sound {s : State} {a : Nat} (h : Sound s a) (src : Nat) : s.eccRead a src = (s, true) := by
  unfold State.eccRead
  exact if_pos h

/-- A permitted write of an input entry whose word carries no error is the write alone. -/
theorem inWrite_of_inMay {s : State} {h : Nat} (hm : s.inMay h = true) (v : Word) (st : Half) : s.inWrite h v st = s.inPut h v st := by
  have h0 := Bool.and_eq_true_iff.mp hm
  have h1 : s.fixedMay 0x028 .write (0x80000000 + h * 8) 8 = (s, true) := targetCheck_ok h0.1
  have h2 : s.eccRead (0x80000000 + h * 8) 4 = (s, true) := eccRead_sound (beq_iff_eq.mp h0.2) 4
  simp only [State.inWrite, h1, h2]

/-- What an instruction comes to where the cluster runs it. -/
theorem isa_of_runs {s : State} {n : Fin 16} (h : Runs s n) (clear : Core → Core) (k : State → Core → IsaRes) :
    s.isa n.val clear k = .next (match k s (s.core n.val) with
      | .ok s c cclk => s.retire n.val c (c.ip + 4#32) cclk
      | .jump s c dest cclk => s.retire n.val c dest cclk
      | .exc s e eaddr => s.except n.val e eaddr clear
      | .halt s => s) := by
  unfold State.isa
  rw [if_pos h.1, fetchCheck_ok h.2.1]
  dsimp only
  rw [eccRead_sound h.2.2 0]
  dsimp only
  cases k s (s.core n.val) <;> rfl

/-- An instruction that only computes, where the cluster runs it and its fields are legal. -/
theorem isaReg_of_runs {s : State} {n : Fin 16} (h : Runs s n) (legal : Bool) (w : Word) (cclk : Nat) (f : Core → Core) (hl : legal = true) :
    s.isaReg n.val legal w cclk f = .next (s.retire n.val (f (s.core n.val)) ((f (s.core n.val)).ip + 4#32) cclk) := by
  unfold State.isaReg
  rw [isa_of_runs h]
  simp [hl]

/-- A cluster that does not execute is not changed by an instruction. -/
theorem isa_of_not_executing {s : State} {n : Nat} (h : s.executing n = false) (clear : Core → Core) (k : State → Core → IsaRes) :
    s.isa n clear k = .next s := by
  unfold State.isa
  simp [h]

end Sys2Proof.Laws
end

