-- ==== Sys2Proof/Tests/Slice0.lean ====
section
/-! SUPPORT. Tests: for each statement states and operands that meet its hypotheses, one ill-formed term for each check, words decoded, single commands with results worked out from the manual. -/

namespace Sys2Proof.Tests

open Sys2Proof Sys2Proof.Machine Sys2Proof.Laws

set_option maxRecDepth 100000

/-! ### States -/

/-- Cluster 0 runs with registers c, in the open mode of reset. -/
def cpu (c : Core) : State := { State.reset with cores := [(0, { c with status := .running })], clusters := [(0, .triple)] }

/-- Cluster 0 at another privilege: one rule of its own check page and one of its region's target permit everything. -/
def grant (p : Nat) : List (Nat × Word) := [(p * 512, 1#32), (p * 512 + 2, 0xFFFFFFFF#32), (p * 512 + 3, 0xFFFFFFFF#32), (p * 512 + 4, 0xFFFFFFFF#32)]
def cpuAt (c : Core) : State := { cpu c with prot := { State.reset.prot with openMode := false, rules := grant (Page.msCl 0) ++ grant (Page.target 0) } }

/-- The state after a command. -/
def out (r : Host.Outcome State Fault Refusal) : State := match r with | .next s => s | _ => State.reset

/-! ### Instructions of chapter 3: states that meet the hypotheses -/

theorem witness_IntegerResults : Runs (cpu {}) 0 := by decide

theorem witness_ImmediateResults : Runs (cpu {}) 0 := by decide

theorem witness_DivisionResults : Runs (cpu { g := [(2, 7#32)] }) 0 := by decide

theorem witness_RegisterPairs : Runs (cpu {}) 0 ∧ (2#5).toNat % 2 = 0 ∧ (2#5) ≠ 0#5 := by decide

theorem witness_FloatResults : Runs (cpu { f := [(1, 0x3F800000#64)] }) 0 := by decide

theorem witness_FloatConversions : Runs (cpu {}) 0 ∧ (2#5).toNat % 2 = 0 ∧ 0 < 32 ∧ unpackF f32 0x7FC00000 = .nan false ∧ unpackF f32 0xFF800000 = .inf true := by decide

/-- An access at 0x800, and a pair operand that is odd. -/
theorem witness_LoadsAndStores :
    (∀ e ∈ loadForms, Runs (cpu { g := [(1, 0x800#32)] }) 0 ∧ (e.paired = true → (2#5).toNat % 2 = 0) ∧
      (dataAddress ((cpu { g := [(1, 0x800#32)] }).core 0) 1 0 0 e.size).toNat % e.size = 0 ∧
      MayAccess (cpu { g := [(1, 0x800#32)] }) 0 .read (dataAddress ((cpu { g := [(1, 0x800#32)] }).core 0) 1 0 0 e.size).toNat e.size ∧
      Sound (cpu { g := [(1, 0x800#32)] }) (dataAddress ((cpu { g := [(1, 0x800#32)] }).core 0) 1 0 0 e.size).toNat) ∧
    (∀ e ∈ storeForms, Runs (cpu { g := [(1, 0x800#32)] }) 0 ∧ (e.paired = true → (2#5).toNat % 2 = 0) ∧
      (dataAddress ((cpu { g := [(1, 0x800#32)] }).core 0) 1 0 0 e.size).toNat % e.size = 0 ∧
      MayAccess (cpu { g := [(1, 0x800#32)] }) 0 .write (dataAddress ((cpu { g := [(1, 0x800#32)] }).core 0) 1 0 0 e.size).toNat e.size ∧
      Sound (cpu { g := [(1, 0x800#32)] }) (dataAddress ((cpu { g := [(1, 0x800#32)] }).core 0) 1 0 0 e.size).toNat) ∧
    (∃ e ∈ loadForms, e.paired = true ∧ (3#5).toNat % 2 = 1) ∧ (∃ e ∈ storeForms, e.paired = true ∧ (3#5).toNat % 2 = 1) := by decide

/-- Region 2 for the accesses outside the own region, 0x801 and the image windows for the faults. -/
theorem witness_RemoteAccesses :
    (∀ e ∈ loadForms, Runs (cpu { g := [(1, 0x2000800#32)] }) 0 ∧
      (dataAddress ((cpu { g := [(1, 0x2000800#32)] }).core 0) 1 0 0 e.size).toNat = 0x2000800 ∧ 0x2000800 % e.size = 0 ∧
      coreReach 0x2000800 = true ∧ inPages 0x2000800 = false ∧ ownRegion 0 0x2000800 = false ∧
      ((cpu { g := [(1, 0x2000800#32)] }).coreAccess 0 ((cpu { g := [(1, 0x2000800#32)] }).core 0).priv .read 0x2000800 e.size).2 = true ∧
      Sound (cpu { g := [(1, 0x2000800#32)] }) 0x2000800) ∧
    (∀ e ∈ storeForms, 0x2000800 % e.size = 0 ∧ inLe 0x2000800 = none ∧
      ((cpu { g := [(1, 0x2000800#32)] }).coreAccess 0 ((cpu { g := [(1, 0x2000800#32)] }).core 0).priv .write 0x2000800 e.size).2 = true) ∧
    (∃ e ∈ loadForms, (dataAddress ((cpu { g := [(1, 0x801#32)] }).core 0) 1 0 0 e.size).toNat % e.size ≠ 0) ∧
    (∃ e ∈ storeForms, (dataAddress ((cpu { g := [(1, 0x801#32)] }).core 0) 1 0 0 e.size).toNat % e.size ≠ 0) ∧
    (∀ e ∈ loadForms, (dataAddress ((cpu { g := [(1, 0x80000000#32)] }).core 0) 1 0 0 e.size).toNat % e.size = 0) ∧
    (∀ e ∈ storeForms, (dataAddress ((cpu { g := [(1, 0x80000000#32)] }).core 0) 1 0 0 e.size).toNat % e.size = 0) ∧
    coreReach 0x80000000 = false := by decide

/-- A word stored and loaded again. -/
theorem witness_LoadAfterStore :
    ∃ t, exec (.stw 0 2 1 0 0) (cpu { g := [(1, 0x800#32), (2, 5#32)] }) = .next t ∧ Runs (cpu { g := [(1, 0x800#32), (2, 5#32)] }) 0 ∧
      MayAccess (cpu { g := [(1, 0x800#32), (2, 5#32)] }) 0 .write 0x800 4 ∧ Sound (cpu { g := [(1, 0x800#32), (2, 5#32)] }) 0x800 ∧
      Runs t 0 ∧ (dataAddress (t.core 0) 1 0 0 4).toNat = 0x800 ∧ MayAccess t 0 .read 0x800 4 :=
  ⟨_, rfl, by decide⟩

theorem witness_ControlFlow : Runs (cpu { lb := 0x800#32 }) 0 ∧ (0x800#32).toNat % 16 = 0 ∧ MayAccess (cpu { lb := 0x800#32 }) 0 .read 0x800 16 ∧
    Sound (cpu { lb := 0x800#32 }) 0x800 := by decide

theorem witness_BlockCalls : Runs (cpu { sp := 0x810#32, g := [(1, 0x40#32), (2, 0x41#32)] }) 0 ∧ 0 + 16 ≤ (0x810#32).toNat ∧
    (0x810#32 - 16#32).toNat % 16 = 0 ∧ MayAccess (cpu { sp := 0x810#32, g := [(1, 0x40#32), (2, 0x41#32)] }) 0 .write 0x800 16 ∧
    (0x40#32).toNat % 64 = 0 ∧ (0x41#32).toNat % 64 ≠ 0 ∧ Runs (cpu { sp := 0x800#32, stklim := 0x800#32 }) 0 ∧
    (0x800#32).toNat < (0x800#32).toNat + 16 := by decide

theorem witness_Exceptions : ((cpu { ps := 1#8 }).core 0).priv = .p1 ∧ ((cpu {}).core 0).priv = .p0 ∧ ((cpu {}).core 0).ps.getLsbD 7 = false ∧
    ((cpu { ps := 0x80#8 }).core 0).priv = .p0 ∧ ((cpu { ps := 0x80#8 }).core 0).ps.getLsbD 7 = true ∧ Runs (cpuAt { ps := 2#8 }) 0 := by decide

theorem witness_IsaRoundTrip : isaEncode (.add 0 1 2 3) = some (0, 0x00221800#32) := by decide
/-! ### Ill-formed commands: one for each check -/

def seal0 : Seal := { ver := 1, csum := 0#16, resv := [], bad := none }
def caps0 : Trailer := { seal0 with crc := 0#32 }

theorem test_wellFormed :
    wellFormed (.registerWrite 320 0 0#64 2 .p0) = false ∧ wellFormed (.registerWrite 319 0x1000 0#64 2 .p0) = false ∧
    wellFormed (.registerWrite 319 0xFFE 0#64 2 .p0) = false ∧ wellFormed (.registerWrite 319 0xFFC 0#64 2 .p0) = true ∧
    wellFormed (.registerWrite 319 0xFFC 0#64 3 .p0) = false ∧
    wellFormed (.quoin 320 0#32) = false ∧ wellFormed (.intRaw 320 0#32) = false ∧ wellFormed (.intSet 320 0#32) = false ∧
    wellFormed (.shadowBankWrite (Page.msDma 0) (rulesOf (Page.msDma 0) * 8) 0#32) = false ∧
    wellFormed (.comparatorMismatch 0 0#3 0#8 0#8 0#8 false) = false ∧ wellFormed (.proofTake 32) = false ∧ wellFormed (.proofTake 64) = true ∧
    wellFormed (.proofData 0#32 [] 0#32 seal0) = false ∧ wellFormed (.proofJournal 0#32 [] 0#32 seal0) = false ∧ wellFormed (.proofCtrl 0#32 [] 0#32 seal0) = false ∧
    wellFormed (.linkBlockLock [0#32] 0#8) = false ∧ wellFormed (.attestDone []) = false ∧ wellFormed (.xferData 0#32 0 (List.replicate 1025 0#8) caps0) = false ∧
    wellFormed (.stopMark (2 ^ 48) caps0) = false ∧ wellFormed .bell = true := by decide

/-! ### Words of chapter 3, written out from its formats and tables -/

/-- BEXT g1, g2, 4, 8; LUI g7, 0x1234; ADDL g2, g4, g6; POPC g3, g4; FSQRT.S f5, f6; STD g8, [ib + g0 + 0]; BBS g1, 31, −1; primary 0 with an fn that is not listed. -/
theorem test_words :
    isaDecode 0 0x0C2200E4#32 = some (.bext 0 1 2 0 0xE4#11) ∧ isaDecode 0 0x38E01234#32 = some (.lui 0 7 0 0x1234#16) ∧
    isaDecode 0 0x04443000#32 = some (.addl 0 2 4 6) ∧ isaDecode 0 0x14640003#32 = some (.popc 0 3 4 0) ∧
    isaDecode 0 0x08A60008#32 = some (.fsqrt 0 false 5 6 0) ∧ isaDecode 0 0x6D004000#32 = some (.std 0 8 0 1 0) ∧
    isaDecode 0 0x983FFFFF#32 = some (.bbs 0 1 31 0xFFFF#16) ∧ isaDecode 0 0x0000003F#32 = none := by decide

/-! ### Single instructions on cluster 0 -/

def two (a b : Word) : State := cpu { g := [(1, a), (2, b)] }
def reg3 (r : Host.Outcome State Fault Refusal) : Word := ((out r).core 0).greg 3

theorem test_add_wraps : reg3 (execAdd 0 3 1 2 (two 0xFFFFFFFF#32 1#32)) = 0#32 := by decide
theorem test_slt_signed : reg3 (execSlt 0 3 1 2 (two 0x80000000#32 1#32)) = 1#32 := by decide
theorem test_mulh_signed : reg3 (execMulh 0 3 1 2 (two 0xFFFFFFFF#32 2#32)) = 0xFFFFFFFF#32 := by decide
theorem test_mulhu : reg3 (execMulhu 0 3 1 2 (two 0xFFFFFFFF#32 2#32)) = 1#32 := by decide
theorem test_div_truncates : reg3 (execDiv 0 3 1 2 (two 0xFFFFFFF9#32 2#32)) = 0xFFFFFFFD#32 := by decide
theorem test_mod_sign : reg3 (execMod 0 3 1 2 (two 0xFFFFFFF9#32 2#32)) = 0xFFFFFFFF#32 := by decide
theorem test_sar : reg3 (execSar 0 3 1 2 (two 0x80000000#32 31#32)) = 0xFFFFFFFF#32 := by decide
theorem test_shl_count_mod_32 : reg3 (execShl 0 3 1 2 (two 1#32 33#32)) = 2#32 := by decide
theorem test_sexb : reg3 (execSexb 0 3 1 0 (two 0x180#32 0#32)) = 0xFFFFFF80#32 := by decide
theorem test_rise : reg3 (execRise 0 3 1 2 (two 0xC#32 0xA#32)) = 4#32 := by decide
theorem test_bext : reg3 (execBext 0 3 1 0 0xE4#11 (two 0xABCDE#32 0#32)) = 0xCD#32 := by decide
theorem test_g0_reads_zero : ((out (execAdd 0 0 1 2 (two 5#32 6#32))).core 0).greg 0 = 0#32 := by decide
/-- gk holds the low half of a pair: 0x80000000_FFFFFFFF doubled. -/
theorem test_addl_wraps : let t := out (execAddl 0 4 2 2 (cpu { g := [(2, 0xFFFFFFFF#32), (3, 0x80000000#32)] })); (t.core 0).greg 4 = 0xFFFFFFFE#32 ∧ (t.core 0).greg 5 = 1#32 := by decide
/-- 1.0 + 1.0, and 1.0 / 3.0 rounded to nearest even, in binary32. -/
theorem test_fadd : ((out (execFadd 0 false 3 1 2 (cpu { f := [(1, 0x3F800000#64), (2, 0x3F800000#64)] }))).core 0).freg 3 = 0x40000000#64 := by decide
theorem test_fdiv : ((out (execFdiv 0 false 3 1 2 (cpu { f := [(1, 0x3F800000#64), (2, 0x40400000#64)] }))).core 0).freg 3 = 0x3EAAAAAB#64 := by decide
/-- A byte of 0x80 is loaded with its sign. -/
theorem test_ldb : reg3 (execLdb 0 3 1 0 0 { two 0x800#32 0#32 with mem := [(0x800, 0x80#8)] }) = 0xFFFFFF80#32 := by decide
/-- A taken branch goes to its own address plus four times the displacement. -/
theorem test_beq_taken : ((out (execBeq 0 1 2 3#16 (cpu { ip := 0x100#32, g := [(1, 7#32), (2, 7#32)] }))).core 0).ip = 0x10C#32 := by decide
theorem test_beq_not_taken : ((out (execBeq 0 1 2 3#16 (cpu { ip := 0x100#32, g := [(1, 7#32), (2, 8#32)] }))).core 0).ip = 0x104#32 := by decide

/-! ### Single commands of the module -/

/-- Reset values of chapters 2, 7 and 9 to 22 that the manual lists. -/
theorem test_reset : State.reset.bell.cycle = 0 ∧ State.reset.pair.role = .starting ∧ State.reset.bell.mode = .stop ∧
    State.reset.mem = [] ∧ State.reset.pending = [] := by decide
/-- INT_SET raises bits of INT_RAW inside the mask, and writing INT_RAW clears them. -/
theorem test_intSet : ((out (execIntSet 0x120 0xFFFFFFFF#32 State.reset)).reg 0x120 Reg.com_INT_RAW).toNat = intMaskOf 0x120 := by decide
theorem test_canEn : (out (execCanEn 0 true State.reset)).rbit (Page.can 0) Reg.can_CAN_CFG 0 = true := by decide
theorem test_outvote : (out (execOutvote 3 1 0x11#8 { State.reset with clusters := [(3, .triple)], units := [(10, { st := .inVote })] })).cluster 3 = .dual := by decide
/-- Reset values of the bell controller page. -/
theorem test_reset_bell : (State.reset.reg Page.bell Reg.bell_WDG_TIME, State.reset.reg Page.bell Reg.bell_ERR_BUDGET, State.reset.reg Page.bell Reg.bell_ACK_TMO,
    State.reset.reg Page.bell Reg.bell_HOLD_LIMIT) = (0x2710#32, 0x3E8#32, 0x3C#32, 0x3C#32) := by decide
def bellOn : State := { State.reset with regs := [(Page.pwr * 0x1000 + Reg.pwr_DOM_STAT, 0x3FFF#32)] }
/-- MIN_CYCLE takes 100 µs; 99 µs is reserved: the field stays and ERRCNT counts. -/
theorem test_minCycle : (out (execRegisterWrite Page.bell 0x50 100#64 2 .p0 bellOn)).reg Page.bell Reg.bell_MIN_CYCLE = 100#32 := by decide
theorem test_minCycle_reserved : let t := out (execRegisterWrite Page.bell 0x50 99#64 2 .p0 bellOn); t.reg Page.bell Reg.bell_MIN_CYCLE = 0#32 ∧
    t.reg Page.bell Reg.com_ERRCNT = 1#32 := by decide
/-- MODE_CMD with RUN and STOP together is ignored and counted. -/
theorem test_modeCmd_two : (out (execRegisterWrite Page.bell 0x44 6#64 2 .p0 bellOn)).reg Page.bell Reg.com_ERRCNT = 1#32 := by decide
/-- The first record goes into slot 0 at 0x1000_0000, and JRN_HEAD becomes 1. -/
theorem test_journalWrite : let t := out (execJournalWrite { State.reset with jrn := { State.reset.jrn with cur := [{ code := 0x1234#16, source := 0#16, cal := 0#64, p0 := 0#32, p1 := 0#32, p2 := 0#32 }] } })
    t.jrnHead = 1 ∧ t.bytes 0x10000000 32 ≠ List.replicate 32 0#8 ∧ t.bytes 0x10000020 32 = List.replicate 32 0#8 := by decide

/-! ### Special registers, system calls and the machine -/

theorem witness_SpecialRegisters : Runs (cpu {}) 0 ∧ Runs (cpuAt { ps := 2#8 }) 0 ∧ (9 < (12#5).toNat ∧ (12#5).toNat < 16) ∧ 28 < (29#5).toNat ∧
    (5 ≤ (9#5).toNat ∧ (9#5).toNat < 16) ∧ 5 < (6#16).toNat := by decide

theorem witness_MailInstructions : Runs (cpu { arrived := 1#8 }) 0 ∧ ((cpu { arrived := 1#8 }).core 0).arrived.getLsbD 0 = true ∧
    ((cpu { arrived := 1#8 }).core 0).arrived.getLsbD 7 = false ∧ 7 < 8 ∧ 15 < 16 := by decide

/-- A cluster at P2 with two partitions left, and the module in Run with Hold permitted. -/
def sysRun : State := { cpuAt { ps := 2#8, parts := [.start, .main] } with
  proj := { entries := [(0, [some 0x400#32, none, some 0x800#32, none])], divzDefault := true } }
def holdRun : State := { (cpu {}).setReg Page.bell Reg.bell_HOLD_EN 1#32 with
  bell := { State.reset.bell with mode := .run }, pair := { State.reset.pair with role := .active } }

theorem witness_SystemInstructions : Runs (cpu { atBkpt := true }) 0 ∧ ((cpu { atBkpt := true }).core 0).atBkpt = true ∧
    Runs holdRun 0 ∧ (holdRun.core 0).atBkpt = false ∧ holdRun.holdOk = true ∧ holdRun.bell.mode = .run ∧ (cpu {}).holdOk = false ∧
    ((cpu {}).core 0).priv = .p0 ∧ ((cpu { ps := 1#8 }).core 0).priv = .p1 ∧ Runs (cpuAt { ps := 1#8 }) 0 ∧ Runs sysRun 0 ∧ (sysRun.core 0).priv = .p2 ∧
    (21#16 ≠ 0#16 ∧ ¬(16 ≤ (21#16).toNat ∧ (21#16).toNat ≤ 20)) ∧ (sysRun.core 0).parts = [.start, .main] ∧
    sysRun.partEntry 0 .main = some 0x800#32 ∧ sysRun.proj.divzDefault = true ∧
    ({ cpuAt { ps := 2#8 } with proj := { divzDefault := false } }).proj.divzDefault = false := by decide

theorem witness_RuntimeActions : ∀ x : Core, (fun c : Core => c.setG 3#5 0#32) x = x.setG 3#5 0#32 := fun _ => rfl

theorem witness_CycleEnds : Runs (cpu {}) 0 ∧ ((cpu {}).core 0).priv ≠ .p2 ∧ ((cpu { ps := 2#8 }).core 0).priv = .p2 ∧
    isaEncode (.add 0 1 2 3) = some (0, 0x00221800#32) ∧ State.reset.executing 0 = false ∧ State.reset.bell.mode ≠ .hold := by decide

theorem witness_CommandsComplete :
    (∃ t, step { State.reset with pending := [.openEnd, .bell] } = .next t) ∧ State.reset.pending = [] ∧ State.reset.freeTx = [] ∧ State.reset.fab.queues = [] ∧ State.reset.olc.stat ≠ .staging ∧
    (∃ s : State, s.pending = [] ∧ s.olc.stat = .staging ∧ s.olc.bad = true) ∧
    (∃ s : State, s.pending = [] ∧ s.olc.stat = .staging ∧ s.olc.bad = false ∧ s.pair.syncPair = false ∧ s.olc.pkg = some { idents := [], code := [], map := [], project := {}, rules := [], cfgBytes := [], bytes := [] }) :=
  ⟨⟨_, rfl⟩, rfl, rfl, rfl, by decide, ⟨{ State.reset with olc := { stat := .staging, bad := true } }, by decide⟩, ⟨{ State.reset with olc := { stat := .staging, pkg := some { idents := [], code := [], map := [], project := {}, rules := [], cfgBytes := [], bytes := [] } } }, by decide⟩⟩

/-! ### Images and banks -/

/-- A bank of five sound images of one generation. -/
def bankOf (st : BankSt) (gen : Word) (svn : Nat) : FwBank := { st := st, gen := gen, images := (List.range 5).map (fun c => (c, some { svn := svn })) }

def banks (a b : FwBank) : State := { State.reset with sec := { State.reset.sec with bankA := a, bankB := b } }

def bootOk : Boot := { bad := [], revoke := 0#4, noPower := none, inj := [], sigs := [], voter := [], lanes0 := 0#16, lanes1 := 0#16, bist := [], surr := { feedA := 0, feedB := 0, cap := 0, esr := 0, dioLoad := 0#16, loopR := [], cables := [], lanes := [], slot := 0#6, side := false, peerPres := false, peer := 0#2 }, linesOk := false }

theorem witness_SecurityCommands_fuses :
    1 ≤ (4#4).toNat ∧ (4#4).toNat ≤ 4 ∧ ((banks (bankOf .good 1 3) (bankOf .good 2 3)).bank false).st = .good ∧
    ((banks (bankOf .good 1 3) {}).bank false).svn 4 = some 3 ∧ (banks (bankOf .good 1 3) {}).saving = false ∧
    ((banks (bankOf .good 1 3) (bankOf .good 2 3)).bank true).svn 4 = some 3 ∧ 3 ≤ 3 ∧ ((banks (bankOf .good 1 3) {}).bank true).svn 4 = none ∧
    ((banks (bankOf .good 1 3) (bankOf .good 2 2)).bank true).svn 4 = some 2 ∧ 2 < 3 := by decide

theorem witness_SecurityCommands_session :
    ∃ s : State, s.sec.stage ≠ 0 ∧ s.toolOk 254 = true ∧ s.sessionRights true 0 = some 15#4 ∧ (∀ k, k < 3 → s.sec.sessions.any (fun e => e.ident == k) = true) ∧
      s.sec.sessions.any (fun e => e.ident == 3) = false := by
  refine ⟨{ State.reset with pair := { inUse := [0, 0, 0, 0, 254] }, sec := { stage := 1, sessions := (List.range 3).map (fun k => { ident := k, svc := false, rights := 0#4, ver := 0 }) } }, by decide, ?_, by decide, by decide, by decide⟩
  exact decide_eq_true (by have := ifMin_bounds 4; show ifMin 4 ≤ min 254 254; omega)

/-- A save has ended; the keepsake can be read. -/
def saved (a b : FwBank) (used : Nat) : State := { banks a b with pwr := { save := .off }, sec := { (banks a b).sec with trialUsed := used } }
theorem witness_Starts_banks :
    (∀ s ∈ [saved (bankOf .good 1 0) {} 0, saved (bankOf .good 1 0) (bankOf .trial 2 0) 0, saved (bankOf .good 1 0) (bankOf .trial 2 0) 3],
      s.pwr.save = .off ∧ s.rbit Page.pwr Reg.pwr_DOM_STAT 0 = true ∧ bootOk.noPower ≠ some 1 ∧ s.sec.bankA.st = .good ∧ s.bankFail bootOk false = none ∧ s.keepBad = []) ∧
    (saved (bankOf .good 1 0) {} 0).sec.bankB.bootable = false ∧
    (let s := saved (bankOf .good 1 0) (bankOf .trial 2 0) 0
     s.sec.bankB.st = .trial ∧ s.sec.bankA.gen.toNat < s.sec.bankB.gen.toNat ∧ s.sec.trialUsed < 3 ∧ s.bankFail bootOk true = none) ∧
    (saved (bankOf .good 1 0) (bankOf .trial 2 0) 3).sec.trialUsed = 3 ∧
    fieldNat 0x1B480#32 0 16 = 0xB480 ∧ bit 0x1B480#32 16 = true ∧
    ({ State.reset with regs := [(Page.pwr * 0x1000 + Reg.pwr_PWR_STAT, 0#32)] } : State).rbit Page.pwr Reg.pwr_PWR_STAT 2 = false := by decide

/-- Byte i of a number, little-endian. -/
def leBytesOf (x k : Nat) : List Byte := (List.range k).map (fun i => BitVec.ofNat 8 (x / 256 ^ i))

theorem natLE_leBytesOf (k : Nat) : ∀ x, natLE (leBytesOf x k) = x % 256 ^ k := by
  induction k with
  | zero => intro x; simp [leBytesOf, natLE, Nat.mod_one]
  | succ k ih =>
    intro x
    have h : leBytesOf x (k + 1) = BitVec.ofNat 8 x :: leBytesOf (x / 256) k := by
      simp [leBytesOf, List.range_succ_eq_map, Function.comp_def, Nat.div_div_eq_div_mul, Nat.pow_succ, Nat.mul_comm]
    rw [h, natLE, ih, BitVec.toNat_ofNat, show 256 ^ (k + 1) = 256 * 256 ^ k by rw [Nat.pow_succ, Nat.mul_comm], Nat.mod_mul]

/-- A signed image of a class: 32 header bytes, the digest, the signature of root key 0, reserved bytes, the body. -/
def imgHdr (c : Nat) (len : Nat) : List Byte := [0x4D#8, 0x49#8, 0x42#8, 0x50#8, 1#8, BitVec.ofNat 8 c, 0#8, 0#8, 0#8, 0#8, 0#8, 5#8] ++ leBytesOf len 4 ++ List.replicate 16 0#8
def imgDigest (h b : List Byte) : List Byte := leBytesOf (Config.shake512 (h ++ b)).toNat 64
def signed (h b : List Byte) : List Byte := h ++ (imgDigest h b ++ (List.ofFn (Config.rootSign 0 (imgDigest h b)) ++ (List.replicate 46 0#8 ++ b)))

theorem span_hdr (h r : List Byte) (hh : h.length = 32) (o n : Nat) (hn : o + n ≤ 32) : span (h ++ r) o n = span h o n := by
  simp only [span, List.drop_append_of_le_length (show o ≤ h.length by omega)]
  rw [List.take_append_of_le_length (by simp; omega)]

theorem span_seg (a b r : List Byte) (o n : Nat) (ha : a.length = o) (hb : b.length = n) : span (a ++ (b ++ r)) o n = b := by
  subst ha hb; simp [span]

variable {h b : List Byte}
theorem signed_digest (hh : h.length = 32) : span (signed h b) 0x20 64 = imgDigest h b :=
  span_seg _ _ _ _ _ hh (by simp [imgDigest, leBytesOf])
theorem signed_sig (hh : h.length = 32) : span (signed h b) 0x60 114 = List.ofFn (Config.rootSign 0 (imgDigest h b)) := by
  have := span_seg (h ++ imgDigest h b) (List.ofFn (Config.rootSign 0 (imgDigest h b))) (List.replicate 46 0#8 ++ b) 0x60 114
    (by simp [hh, imgDigest, leBytesOf]) (by simp)
  simpa [signed] using this
theorem signed_zero (hh : h.length = 32) : span (signed h b) 0xD2 46 = List.replicate 46 0#8 := by
  have := span_seg (h ++ imgDigest h b ++ List.ofFn (Config.rootSign 0 (imgDigest h b))) (List.replicate 46 0#8) b 0xD2 46
    (by simp [hh, imgDigest, leBytesOf]) (by simp)
  simpa [signed] using this
theorem signed_len (hh : h.length = 32) : (signed h b).length = 256 + b.length := by
  simp [signed, hh, imgDigest, leBytesOf]; omega
theorem signed_body (hh : h.length = 32) : (signed h b).drop 256 = b := by
  have : signed h b = (h ++ imgDigest h b ++ List.ofFn (Config.rootSign 0 (imgDigest h b)) ++ List.replicate 46 0#8) ++ b := by simp [signed]
  rw [this, List.drop_append_of_le_length (by simp [hh, imgDigest, leBytesOf])]
  rw [List.drop_of_length_le (by simp [hh, imgDigest, leBytesOf])]; rfl

set_option exponentiation.threshold 600 in
theorem natLE_imgDigest : BitVec.ofNat 512 (natLE (imgDigest h b)) = Config.shake512 (h ++ b) := by
  rw [imgDigest, natLE_leBytesOf, show 256 ^ 64 = 2 ^ 512 by rw [show (256 : Nat) = 2 ^ 8 by decide, ← Nat.pow_mul], Nat.mod_eq_of_lt (BitVec.isLt _), BitVec.ofNat_toNat, BitVec.setWidth_eq]

/-- What the header of a signed image says: that of its 32 bytes, and the digest. -/
theorem signed_image (hh : h.length = 32) : hdrImage (signed h b) = { hdrImage h with digest := Config.shake512 (h ++ b) } := by
  have e (o n) (hn : o + n ≤ 32) : span (signed h b) o n = span h o n := span_hdr h _ hh o n hn
  simp only [hdrImage, e _ _ (show 8 + 3 ≤ 32 by omega), e _ _ (show 0xB + 1 ≤ 32 by omega), e _ _ (show 0x18 + 1 ≤ 32 by omega), e _ _ (show 0xC + 4 ≤ 32 by omega), signed_digest hh]
  rw [natLE_imgDigest]

theorem signed_ok (s : State) (dir : List Byte) (hh : h.length = 32) (hm : natLE (span h 0 4) = 0x5042494D) (hv : natLE (span h 4 1) = 1) (hc : hdrClass h ≤ 4)
    (hz : (span h 6 2 ++ span h 0x19 7).all (fun b => b == 0#8) = true) (hs : (hdrImage h).svn ≤ 64) (hver : versionOk (hdrImage h).version = true)
    (hl : (hdrImage h).len = b.length) (hr : hdrClass h = 0 ∧ b.length ≤ 4096 ∨ b.length = 4096 ∧ dir = Config.dirWide)
    (hslot : (hdrImage h).slot = 0) (hrev : bit s.sec.revoked 0 = false) (hf : s.sec.fuse (hdrClass h) ≤ (hdrImage h).svn) :
    s.imageFails dir (signed h b) = none := by
  have e (o n) (hn : o + n ≤ 32) : span (signed h b) o n = span h o n := span_hdr h _ hh o n hn
  have ec : hdrClass (signed h b) = hdrClass h := by simp only [hdrClass, e _ _ (show 5 + 1 ≤ 32 by omega)]
  have ei := signed_image (h := h) (b := b) hh
  have h1 : hdrOk (signed h b) = true := by
    simp only [hdrOk, ec, ei, e _ _ (show 0 + 4 ≤ 32 by omega), e _ _ (show 4 + 1 ≤ 32 by omega), hm, hv, hdrZero, e _ _ (show 6 + 2 ≤ 32 by omega), e _ _ (show 0x19 + 7 ≤ 32 by omega), signed_zero hh,
      signed_len hh, List.all_append, hver]
    simp only [List.all_append, Bool.and_eq_true] at hz
    simp [hz.1, hz.2, hc, hs]
  have h2 : lenOk dir (signed h b) = true := by
    simp only [lenOk, ei, ec, signed_len hh, hl]
    rcases hr with ⟨ha, hb⟩ | ⟨ha, hb⟩
    · simp [ha, hb]
    · simp [ha, hb, Config.dirArea]
  simp only [State.imageFails, h1, h2, ei, ec, hslot, hrev, signed_body hh, signed_digest hh, signed_sig hh, e 0 32 (by omega)]
  have h3 : span h 0 32 = h := by simp [span, ← hh]
  rw [h3]
  simp [Config.rootVerify, Nat.not_lt.mpr hf]

/-- A bank directory and a LOADER image. -/
def hdr0 : List Byte := imgHdr 0 0
def hdr1 : List Byte := imgHdr 1 4096
def body1 : List Byte := List.replicate 4096 0#8

theorem directory_ok (s : State) (dir : List Byte) (hrev : bit s.sec.revoked 0 = false) (hf : s.sec.fuse 0 = 0) : s.imageFails dir (signed hdr0 []) = none :=
  signed_ok s dir (by decide) (by decide) (by decide) (by decide) (by decide) (by decide) (by decide) (by decide) (.inl (by decide)) (by decide) hrev (by rw [show hdrClass hdr0 = 0 by decide, hf]; omega)

theorem loader_ok (s : State) (hrev : bit s.sec.revoked 0 = false) (hf : s.sec.fuse 1 = 0) : s.imageFails Config.dirWide (signed hdr1 body1) = none :=
  signed_ok s _ (by decide) (by decide) (by decide) (by decide) (by decide) (by decide) (by decide) (by rw [body1, List.length_replicate]; decide) (.inr ⟨List.length_replicate, rfl⟩) (by decide) hrev (by rw [show hdrClass hdr1 = 1 by decide, hf]; omega)

theorem signed_class (hh : h.length = 32) : hdrClass (signed h b) = hdrClass h := by
  simp only [hdrClass]; rw [signed, span_hdr h _ hh 5 1 (by omega)]

/-- The loader session of recovery. -/
def loading (rec : Bool) (k : FwBank) : State :=
  { State.reset with sec := { State.reset.sec with recovery := rec, bankA := if rec then k else factoryBank, bankB := if rec then {} else k, sessions := [{ ident := 0, svc := true, rights := 15#4, ver := 1 }] } }

theorem signed_hdr0_class : hdrClass (signed hdr0 []) = 0 := by rw [signed_class (by decide)]; decide
theorem signed_hdr1_class : hdrClass (signed hdr1 body1) = 1 := by rw [signed_class (by decide)]; decide

theorem image_good (s : State) (k : Bool) (l : List Byte) (h : s.imageFails (s.bank k).dir l = none) (hf : s.bankFits k l = true) : s.imageBad k l = none := by
  simp [State.imageBad, h, hf]

/-- Directory and LOADER fit into a bank that holds the other classes as empty images. -/
theorem directory_fits (k : FwBank) (h : k.images = [] ∨ k.images = (List.range 5).map (fun c => (c, some {}))) :
    (loading false k).bankFits true (signed hdr0 []) = true := by
  rw [State.bankFits, signed_hdr0_class, signed_len (by decide), show (loading false k).bank true = k from rfl, show (loading false k).nand = State.reset.nand from rfl]
  rcases h with h | h <;> rw [h] <;> decide

theorem witness_SecurityCommands_images :
    (∃ (s : State) (l : List Byte), s.hasRight 0#2 3 = true ∧ s.sec.recovery = false ∧ (s.bank true).st = .empty ∧ s.imageBad true l = none ∧
      ((s.bank true).put l).has [0, 1, 2, 3, 4] = false) ∧
    (∃ (s : State) (l : List Byte), s.hasRight 0#2 3 = true ∧ s.sec.recovery = false ∧ (s.bank true).st = .empty ∧ s.imageBad true l = none ∧
      ((s.bank true).put l).has [0, 1, 2, 3, 4] = true) :=
  ⟨⟨loading false {}, signed hdr0 [], by decide, by decide, by decide, image_good _ _ _ (directory_ok _ _ (by decide) (by decide)) (directory_fits _ (.inl rfl)), by
    simp only [FwBank.has, FwBank.put, FwBank.image, signed_hdr0_class]; rfl⟩,
   ⟨loading false { images := (List.range 5).map (fun c => (c, some {})) }, signed hdr0 [], by decide, by decide, by decide,
    image_good _ _ _ (directory_ok _ _ (by decide) (by decide)) (directory_fits _ (.inr rfl)), by
    simp only [FwBank.has, FwBank.put, FwBank.image, signed_hdr0_class]; rfl⟩⟩

theorem witness_SecurityCommands_files :
    (∃ (s : State) (l : List Byte), s.hasRight 0#2 2 = true ∧ s.sec.recovery = false ∧ 0x800000 < l.length) ∧
    (∃ (s : State) (l : List Byte), s.hasRight 0#2 2 = true ∧ s.sec.recovery = false ∧ s.nand.projectRoom < l.length) :=
  ⟨⟨loading false {}, List.replicate 0x800001 0#8, by decide, by decide, by rw [List.length_replicate]; omega⟩,
   ⟨loading false {}, List.replicate ((loading false {}).nand.projectRoom + 1) 0#8, by decide, by decide, by rw [List.length_replicate]; omega⟩⟩

/-- A bank with every class but LOADER. -/
def lacks : FwBank := { dir := Config.dirWide, images := [(2, some {}), (3, some {}), (4, some {})] }
theorem loader_fits (k : FwBank) (h : k.images = [] ∨ k.images = lacks.images) : (loading true k).bankFits false (signed hdr1 body1) = true := by
  rw [State.bankFits, signed_hdr1_class, signed_len (by decide), body1, List.length_replicate, show (loading true k).bank false = k from rfl, show (loading true k).nand = State.reset.nand from rfl]
  rcases h with h | h <;> rw [h] <;> decide

theorem witness_Starts_recovery :
    (∃ (s : State) (l : List Byte), s.hasRight 0#2 3 = true ∧ s.sec.recovery = true ∧ s.imageBad false l = none ∧ hdrClass l ≠ 0 ∧ s.sec.bankA.st = .empty ∧
      (s.sec.bankA.put l).has [1, 2, 3, 4] = false) ∧
    (∃ (s : State) (l : List Byte), s.hasRight 0#2 3 = true ∧ s.sec.recovery = true ∧ s.imageBad false l = none ∧ hdrClass l ≠ 0 ∧ s.sec.bankA.st = .empty ∧
      (s.sec.bankA.put l).has [1, 2, 3, 4] = true ∧ (∀ e ∈ bootOk.bad, e.1 ≠ false) ∧ bootOk.noPower ≠ some 1 ∧ s.sec.bankB.bootable = false ∧
      (∀ c x, (s.sec.bankA.put l).image c = some x → bit s.sec.revoked x.slot = false ∧ s.sec.fuse c ≤ x.svn) ∧ bit s.sec.revoked 0 = false ∧ s.sec.fuse 0 = 0) :=
  ⟨⟨loading true { dir := Config.dirWide }, signed hdr1 body1, by decide, by decide, image_good _ _ _ (loader_ok _ (by decide) (by decide)) (loader_fits _ (.inl rfl)),
    by rw [signed_hdr1_class]; decide, by decide, by simp only [FwBank.has, FwBank.put, FwBank.image, signed_hdr1_class]; rfl⟩,
   ⟨loading true lacks, signed hdr1 body1, by decide, by decide, image_good _ _ _ (loader_ok _ (by decide) (by decide)) (loader_fits _ (.inr rfl)),
    by rw [signed_hdr1_class]; decide, by decide, by simp only [FwBank.has, FwBank.put, FwBank.image, signed_hdr1_class]; rfl,
    by decide, by decide, by decide, fun c x _ => ⟨BitVec.getLsbD_zero, Nat.zero_le _⟩, by decide, by decide⟩⟩

/-! ### What a constant of the implementation enters -/

/-- A frame as its sender forms it: type, LEN, code sum and CRC of its fields (R415). -/
def sealH (h0 : FabHdr) (w : Out) (args : List Nat) : FabHdr :=
  let n := (fabPayload w args).length
  let h : FabHdr := { h0 with type := BitVec.ofNat 8 (fabType w), len := BitVec.ofNat 16 n, ends := (n + 15) / 16 * 16, resv := [] }
  let b := h.bytes w args
  { h with crc := crc32c b, csum := codeSum (b.drop 16) }
theorem sealH_intact (h : FabHdr) (w : Out) (args : List Nat) : (sealH h w args).intact w args = true := by
  simp [FabHdr.intact, sealH, FabHdr.bytes]

def fhdr : FabHdr := { dst := 0xFFFF#16, src := 8#16, type := 0#8, ver := 1#8, tc := 0, hops := 1, seq := 0#32, len := 0, ends := 0, csum := 0, crc := 0 }
def lsa0 : FabLsa := { uid := 0#64, addr := 8#16, seq := 5#32, nbrs := [] }
def fabS (l : List FabLsa) : State := { State.reset with fab := { ver := 1, ports := [(0, .up)], lsas := l, reach := [0#64], routes := [(8, some { port := 0, next := 0, hops := 1, cost := 1 })] } }

theorem fabS_lowest : (fabS [lsa0]).fabLowest = 0#64 := by
  have h : (0#64).toNat < Config.uid.toNat := by
    have := uid_ne_zero
    rcases Nat.eq_zero_or_pos Config.uid.toNat with e | e
    · exact absurd (BitVec.eq_of_toNat_eq e) this
    · simpa using e
  rw [State.fabLowest, show (fabS [lsa0]).fab.reach = [0#64] from rfl, List.foldl_cons, List.foldl_nil, if_pos h]

/-- A sealed frame that comes in on port 0. -/
abbrev Taken0 (s : State) (h : FabHdr) (w : Out) (args : List Nat) : Prop := FabTaken s 0 (sealH h w args) w args

theorem witness_Fabric_roll : Taken0 (fabS [lsa0]) fhdr .roll [0, 0, 0, 0] ∧ (sealH fhdr .roll [0, 0, 0, 0]).dst = 0xFFFF#16 ∧ (sealH fhdr .roll [0, 0, 0, 0]).src ≠ (fabS [lsa0]).fab.addr ∧
    seqNewer (tget (fun _ => none) (fabS [lsa0]).fab.flood (sealH fhdr .roll [0, 0, 0, 0]).src.toNat) (sealH fhdr .roll [0, 0, 0, 0]).seq = true ∧
    0#64 = (fabS [lsa0]).fabLowest ∧ 0#64 ≠ Config.uid ∧ (fabS [lsa0]).fab.roll.toNat ≤ (0#32).toNat :=
  ⟨by decide, rfl, by decide, by decide, fabS_lowest.symm, uid_ne_zero.symm, by decide⟩

def lsaArgs : List Nat := [0, 8, 5, 0]
theorem witness_Fabric_lsa : ∀ l ∈ [[], [lsa0]], Taken0 (fabS l) fhdr .lsa lsaArgs ∧ (sealH fhdr .lsa lsaArgs).dst = 0xFFFF#16 ∧ (sealH fhdr .lsa lsaArgs).src ≠ (fabS l).fab.addr ∧
    seqNewer (tget (fun _ => none) (fabS l).fab.flood (sealH fhdr .lsa lsaArgs).src.toNat) (sealH fhdr .lsa lsaArgs).seq = true ∧ lsa0.uid ≠ Config.uid ∧
    seqNewer (((fabS l).fab.lsas.find? (fun m => m.uid == lsa0.uid)).map (·.seq)) lsa0.seq = l.isEmpty := by
  have h : lsa0.uid ≠ Config.uid := uid_ne_zero.symm
  intro l hl; refine ⟨?_, rfl, ?_, ?_, h, ?_⟩ <;> revert l hl <;> decide

theorem bytesLE_length (n v : Nat) : (bytesLE n v).length = n := by
  induction n generalizing v with
  | zero => rfl
  | succ n ih => simp [bytesLE, ih]
/-- A grant names this module's UID, which the manual leaves to the part. -/
theorem witness_Fabric_grant : ∀ (r : Nat), (r = 0 ∨ r = 1) → Taken0 (fabS []) { fhdr with dst := 0xFFFE#16 } .addrGrant [Config.uid.toNat, 5, r] ∧ (fabS []).fab.addr = 0#16 ∧ (fabS []).fab.negFail = false := by
  intro r _; refine ⟨⟨by decide, sealH_intact .., ?_, rfl, ?_, ?_⟩, by decide, by decide⟩
  · simp [FabHdr.lenOk, sealH, fabPayload, bytesBE, bytesLE_length]
  · show (1#8 : Byte) = 1#8; rfl
  · show (1#6 : BitVec 6) ≠ 0#6; decide

/-- A frame of each check of R417. -/
theorem witness_Fabric_checks :
    let s := fabS []
    (∃ i p h w args, fabFrame i = some (p, h, w, args) ∧ s.fportUp p.val = true ∧ h.intact w args = true ∧ h.lenOk w args = false) ∧
    (∃ i p h w args, fabFrame i = some (p, h, w, args) ∧ s.fportUp p.val = true ∧ h.intact w args = true ∧ h.lenOk w args = true ∧
      h.type ∉ [0x01#8, 0x02#8, 0x03#8, 0x04#8, 0x05#8, 0x10#8, 0x20#8, 0x30#8]) ∧
    (∃ i p h w args, fabFrame i = some (p, h, w, args) ∧ s.fportUp p.val = true ∧ h.intact w args = true ∧ h.lenOk w args = true ∧ h.type.toNat = fabType w ∧ ¬VerOk s h w) ∧
    (∃ i p h w args, fabFrame i = some (p, h, w, args) ∧ s.fportUp p.val = true ∧ h.intact w args = true ∧ h.lenOk w args = true ∧ h.type.toNat = fabType w ∧ VerOk s h w ∧
      h.dst = 0xFFFF#16 ∧ h.hops = 0#6) := by
  let b : List Nat := [1#8, 2#8].map BitVec.toNat
  let re (h : FabHdr) : FabHdr := { h with crc := crc32c (h.bytes .bulk b) }
  exact ⟨⟨.bulk 0 { sealH fhdr .bulk b with ends := 32 } [1#8, 2#8], 0, _, .bulk, b, rfl, by decide⟩,
    ⟨.bulk 0 (re { sealH fhdr .bulk b with type := 0x31#8 }) [1#8, 2#8], 0, _, .bulk, b, rfl, by decide⟩,
    ⟨.bulk 0 (sealH { fhdr with ver := 9#8 } .bulk b) [1#8, 2#8], 0, _, .bulk, b, rfl, by decide⟩,
    ⟨.bulk 0 (sealH { fhdr with hops := 0 } .bulk b) [1#8, 2#8], 0, _, .bulk, b, rfl, by decide⟩⟩

/-- A block of one handle, newer and stale. -/
def gvMsg : GvMsg := { gvId := 3#16, count := 1#16, epoch := 2#32, cyc := 7#48, entries := [(0x11#32, 0#16)] }
def gvCfg : GvSub := { gvId := 3#16, srcs := [8#16], handles := [(120, 0#32)], tmo := 0, subst := false }
def gvArgs : List Nat := [3, 1, 2, 7, 0x11, 0]
def gvS (rt : GvRt) : State := { State.reset with fab := { addr := 5#16, ver := 1, ports := [(0, .up)], subs := [(0, some gvCfg)], gvs := [(0, rt)] } }
theorem witness_Fabric_blocks : ∀ rt ∈ [({} : GvRt), { last := some (2, 7) }],
    let s := gvS rt
    let h := sealH { fhdr with dst := 5#16 } .gv gvArgs
    FabTaken s 0 h .gv gvArgs ∧ s.fab.lost = false ∧ h.dst = s.fab.addr ∧ s.fab.addr ≠ 0#16 ∧ h.dst.toNat ≤ 0x400 ∧
    (s.fab.subs.find? (fun e => match e.2 with
      | none => false
      | some c => c.gvId == gvMsg.gvId && c.srcs.contains h.src && c.handles.length == gvMsg.count.toNat && gvMsg.entries.length == gvMsg.count.toNat)) = some (0, some gvCfg) ∧
    (s.gvRt 0).last.all (fun l => decide (l.1 < gvMsg.epoch.toNat ∨ (l.1 = gvMsg.epoch.toNat ∧ l.2 < gvMsg.cyc.toNat))) = rt.last.isNone ∧
    (∀ x ∈ gvCfg.handles, s.inMay x.1 = true) := by decide

theorem witness_Fabric_keeper :
    (∃ s : State, s.fab.isKeeper = true ∧ s.fab.reach.contains 0#64 = false ∧ (0#64 : DWord) ≠ Config.uid ∧ (bookAddr s.fab.book 0#64).isSome = true) ∧
    (∃ s : State, s.fab.isKeeper = true ∧ s.fab.ver ≠ 0 ∧ s.fab.ver ≠ s.fabCap) :=
  ⟨⟨{ State.reset with fab := { isKeeper := true, book := [(0#64, 8#16)] } }, rfl, rfl, uid_ne_zero.symm, by decide⟩,
   ⟨{ State.reset with fab := { isKeeper := true, ver := State.reset.fabCap + 1 } }, rfl, by simp, by
    show State.reset.fabCap + 1 ≠ State.reset.fabCap; omega⟩⟩

theorem witness_PtpMessages_announce :
    ∃ (s : State) (h : PtpHdr) (a : PtpAnnounce), PtpTaken s 1 h ∧ a.data.gm ≠ Config.uid ∧ a.data.steps < 255 ∧ (s.ptpPort 1).foreign = none ∧
      (s.ptpPort 1).seen = some (h.sender, 0) ∧ s.now ≤ 0 + 4 * (2 ^ s.fld Page.ptp Reg.ptp_PTP_INTV 4 4 * 250000000) ∧ s.ptpSlaveOnly = true ∧
      (∀ j : Fin 4, j ≠ 1 → s.ptpOn j.val = false) ∧ s.tb.st = .freerun :=
  ⟨{ State.reset with regs := [(593996, 2#32), (593984, 0x208#32)], tb := { st := .freerun }, ptpPorts := [(1, { seen := (some (0x74#64, 0)) })] },
   { domain := 2#8, sdo := 0#4, carrier := .ethernet, kind := .plain, seq := 0#16, sender := 0x74#64, resid := 0 }, { data := {}, utc := 0, utcValid := false, leap61 := false, leap59 := false },
   by decide, uid_ne_zero.symm, by decide, by decide, by decide, by decide, by decide, by decide, by decide⟩

theorem witness_PtpMessages_first :
    ∃ (s : State) (h : PtpHdr) (a : PtpAnnounce), PtpTaken s 0 h ∧ a.data.gm ≠ Config.uid ∧ a.data.steps < 255 ∧ (s.ptpPort 0).seen.map Prod.fst ≠ some h.sender :=
  ⟨{ State.reset with regs := [(593996, 1#32)] }, { domain := 0#8, sdo := 0#4, carrier := .ethernet, kind := .plain, seq := 0#16, sender := 0#64, resid := 0 },
   { data := {}, utc := 0, utcValid := false, leap61 := false, leap59 := false }, by decide, uid_ne_zero.symm, by decide, by decide⟩

theorem witness_UnitEvents_tests :
    (∃ (s : State) (lead check : Word), (s.unit 47).st = .testing ∧
      ((s.unit 47).lasting || decide (((if lead = Config.lbistExp then 0 else 1) + (if check = Config.lbistExp then 0 else 2)) ≠ 0)) = true) ∧
    (∃ (s : State) (lead check : Word), (s.unit 47).st = .testing ∧
      ((s.unit 47).lasting || decide (((if lead = Config.lbistExp then 0 else 1) + (if check = Config.lbistExp then 0 else 2)) ≠ 0)) = false) :=
  ⟨⟨{ State.reset with units := [(47, { st := .testing, lasting := true })] }, 0, 0, by decide, by rw [show (_ : CUnit).lasting = true from rfl, Bool.true_or]⟩,
   ⟨{ State.reset with units := [(47, { st := .testing })] }, Config.lbistExp, Config.lbistExp, by decide, by rw [if_pos rfl, if_pos rfl]; decide⟩⟩

def xferS (x : Xfer) : State := { State.reset with proj := { inst := [(0, 0)] }, pair := { agreedOk := true }, link := { gotPeer := true, xfer := x } }
theorem witness_Transfers_package :
    let s := xferS { ident := 1#32, kind := .package, busy := true, digest := Config.shake256 [] }
    Passes s .xferClose 1#32 [1] (sealed .xferClose 1#32 [1] 0) ∧ Receiving s 1#32 ∧ s.link.xfer.kind = .package ∧ s.link.xfer.content.length = s.link.xfer.length ∧
      Config.shake256 s.link.xfer.content = s.link.xfer.digest ∧ s.proj.uses 0 = true :=
  ⟨by decide, ⟨rfl, rfl, rfl⟩, rfl, rfl, rfl, by decide⟩

theorem witness_LinkFrames_noAgree :
    ∃ (s : State) (c : Caps), Passes s .caps 0#32 c.args (sealed .caps 0#32 c.args 1) ∧ s.link.gotPeer = false ∧ s.negotiate c = false ∧ s.pair.role = .standbyUnsync := by
  refine ⟨{ State.reset with pair := { role := .standbyUnsync } }, { ifs := [(255, 255)] }, by decide, rfl, ?_, rfl⟩
  have h : agreeOk { ifs := [(255, 255)] } 0 = false := by
    have := (ifMin_bounds 0).2.2
    have h2 : ¬ (255 ≤ min (ifMax 0) 255) := by omega
    rw [agreeOk, show decide ((Caps.range { ifs := [(255, 255)] } 0).1 ≤ agreedVer { ifs := [(255, 255)] } 0) = false from decide_eq_false h2, Bool.and_false]
  rw [State.negotiate, ifaces, List.all_cons, h]; rfl

theorem witness_StationLink_joins :
    (∃ (s : State) (f : StnFrame) (c : StnCfg), LaneFrame s 0 f 1#8 ∧ f.len = 28#16 ∧ s.isActive = true ∧ s.pair.gate = true ∧ s.stnCfgOf (stnIx 0 f) = some c ∧
      s.joinReason (stnIx 0 f) f.payload = (0, 254) ∧ StnMay s (stnIx 0 f) ∧ (s.stn (stnIx 0 f)).st = .running) := by
  refine ⟨{ State.reset with pair := { role := .active, own1 := true, own2 := true, inUse := [0, 0, 254, 0, 0] }, stnCfg := [(0, (some { uid := 0#64, k := 0, outPhase := 0, inPhase := 0, wdg := 0, inLen := 8, outLen := 8, caps := 0#16, cfg := [] }))], stns := [(0, { st := .running })] },
    { fcsOk := true, da := 0x3000000b480#48, sa := 0#48, etherType := 0x88b6#16, ver := 0#8, type := 1#8, addr := 1#8, flags := 0#8, epoch := 0#32, cyc := 0#48, seq := 0#16, len := 0x1c#16, payload := [0#8, 0#8, 0#8, 0#8, 0#8, 0#8, 0#8, 0#8, 0#8, 254#8, 0#8, 1#8, 0#8, 8#8, 0#8, 8#8, 0#8, 0#8, 0#8, 0#8, 0#8, 0#8, 0#8, 0#8, 0#8, 0#8, 0#8, 0#8] },
    _, by decide, rfl, by decide, by decide, rfl, ?_, by decide, by decide⟩
  have h : ¬ 254 < ifMin 2 := by have := ifMin_bounds 2; omega
  show (if 254 < 0 ∨ 254 < ifMin 2 then 3 else 0, 254) = (0, 254)
  simp [h]
/-- The last step depends on what the conversion of the map gives, which the manual does not state. -/
def mapStep : MigStep := { src := 0, len := 0, conv := 0, dst := 0x100 }
def mapPkg : OlcPkg := { idents := [], code := [], map := [mapStep], project := {}, rules := [], cfgBytes := [], bytes := [] }
def mapS : State := { State.reset with olc := { stat := .migrating, pkg := some mapPkg } }
theorem witness_OnlineChange_map (h : Config.migConv 0 [] = [7#8]) :
    mapS.olc.stat = .migrating ∧ mapS.olc.migrated = false ∧ mapS.olc.pkg = some mapPkg ∧ mapS.upsets = [] ∧ mapPkg.map = [mapStep] ∧ (mapS.migrate mapPkg.map).2 = true ∧
      0 < (Config.migConv mapStep.conv (mapS.bytes mapStep.src mapStep.len)).length ∧ mapS.proj.uses mapStep.dst = false := by
  have e : Config.migConv mapStep.conv (mapS.bytes mapStep.src mapStep.len) = [7#8] := h
  have e1 : mapS.migRead 0 mapStep = (mapS, some []) := by rfl
  have e2 : mapS.migStep mapStep = mapS.migWrite 0 0x100 [7#8] := by
    rw [← h, State.migStep]; exact congrArg (fun r : State × Option (List Byte) => match r with | (s, none) => (s, false) | (s, some l) => s.migWrite 0 0x100 (Config.migConv 0 l)) e1
  have e3 : ∀ r : State × Bool, r.2 = true → (match r with | (s, false) => (s, false) | (s, true) => s.migrate []).2 = true := by
    intro (s, b) hb; subst hb; rfl
  refine ⟨rfl, rfl, rfl, rfl, rfl, ?_, by rw [e]; decide, by decide⟩
  show (mapS.migrate [mapStep]).2 = true
  rw [State.migrate, e2]; exact e3 (mapS.migWrite 0 0x100 [7#8]) (by decide)

theorem witness_ProofStream_frame :
    ∃ (s : State) (c : RxCycle) (seq : Word) (ver : Nat), s.pair.role = .standbySync ∧ s.prx.cycles = [c] ∧ c.frames = [] ∧ seq = c.head.firstSeq ∧ s.prx.nextSeq = some seq ∧
      (∀ body ∈ [ProofBody.lines [], .posts [], .ctrls []], let f : ProofFrame := { seq := seq, body := body, crc := (sealed body.out 0#32 ({ seq := seq, body := body, crc := 0#32 } : ProofFrame).args ver).crc }
        Passes s body.out 0#32 f.args (sealed body.out 0#32 f.args ver) ∧ s.frameBad f = false) :=
  ⟨{ State.reset with pair := { role := .standbySync, agreedOk := true, agreed := [3] }, link := { gotPeer := true }, prx := { cycles := [{ head := { cyc := 0, mode := 0, stopTask := false, start := false, wait := false, bellTime := {}, errCause := 0#32, flipTime := {}, firstSeq := 1#32 }, frames := [], tail := none, naks := [] }], nextSeq := (some 1#32) } },
   { head := { cyc := 0, mode := 0, stopTask := false, start := false, wait := false, bellTime := {}, errCause := 0#32, flipTime := {}, firstSeq := 1#32 }, frames := [], tail := none, naks := [] }, 1#32, 3, by decide⟩

theorem witness_ProofStream_end :
    ∃ (s : State) (c : RxCycle) (e : ProofEnd) (ver : Nat), Passes s .proofEnd 0#32 e.args (sealed .proofEnd 0#32 e.args ver) ∧ s.pair.role = .standbySync ∧ s.prx.cycles = [c] ∧
      c.tail = none ∧ c.head.cyc = e.cyc ∧ ({ c with tail := some e } : RxCycle).missing (s.prx.nextSeq.getD c.head.firstSeq) = [] :=
  ⟨{ State.reset with pair := { role := .standbySync, agreedOk := true, agreed := [3] }, link := { gotPeer := true }, prx := { cycles := [{ head := { cyc := 0, mode := 0, stopTask := false, start := false, wait := false, bellTime := {}, errCause := 0#32, flipTime := {}, firstSeq := 0#32 }, frames := [], tail := none, naks := [] }] } },
   { head := { cyc := 0, mode := 0, stopTask := false, start := false, wait := false, bellTime := {}, errCause := 0#32, flipTime := {}, firstSeq := 0#32 }, frames := [], tail := none, naks := [] },
   { cyc := 0, lines := 0, frames := 0, posts := 0, ctrls := 0, digest := 0#32, overRun := false, sweep := false, recCyc := 0 }, 3, by decide⟩

theorem witness_DigitalChannels_supply :
    let s := { State.reset with regs := [(917640, 1#32)], proj := { chHandle := [(18, (some 0))] }, dios := [(2, { written := true })], dioGroups := [(0, { low := 99 })] }
    (∀ c : Fin 16, ChMay s (16 + c.val) ∧ ChMay s (48 + c.val)) ∧ (s.dioGroup 0).fsLow = false ∧ 100 ≤ (if 1799 < 1800 then (s.dioGroup 0).low + 1 else 0) ∧
    s.dioMode 2 = 1 ∧ (s.dio 2).written = true ∧ s.chHandle 18 = some 0 ∧ ∀ k, k ≠ 18 → s.chHandle k ≠ some 0 := by
  refine ⟨by decide, by decide, by decide, by decide, by decide, by decide, ?_⟩
  intro k hk
  show tget (fun _ => none) [(18, some 0)] k ≠ some 0
  simp [tget, hk]

def postRec : JRec := { code := 0#16, source := 0#16, cal := 0#64, p0 := 0#32, p1 := 0#32, p2 := 0#32 }
/-- In the open mode of reset the journal's writer may write every slot. -/
theorem summarise_ok (l : List (Nat × LineRes)) (h : ∀ e ∈ l, e.2 = .ok) : summarise l = none := by
  have h' : l.find? (fun e => e.2 ≠ .ok) = none := by
    rw [List.find?_eq_none]; intro e he; simp [h e he]
  unfold summarise; rw [h']
/-- Reset with the journal at j. -/
def journalAt (j : Journal) : State := { State.reset with jrn := j }
theorem checkLines_ok (j : Journal) (p : Nat) (b t : Bool) (r m : Nat) (o : AccOp) : ∀ n line, ∀ e ∈ (journalAt j).checkLines p b t r m .p0 o line n, e.2 = .ok := by
  intro n
  induction n with
  | zero => intro line e he; cases he
  | succ n ih =>
    intro line e he
    rcases List.mem_cons.mp he with h | h
    · subst h; rfl
    · exact ih _ e h
theorem journal_slotMay (j : Journal) (i : Nat) (hi : i < jrnSlots) : SlotMay (journalAt j) i := by
  have h9 : targetOf (jrnAddr i) = some 9 := by
    simp only [jrnSlots] at hi
    rw [targetOf, jrnAddr, if_neg (by omega), if_pos (by omega)]
  have hf (a : Nat) (h1 : 0x10000000 ≤ a) (h2 : a < 0x10400000) : fixedOk false 0x38 .p0 .write a = true := by
    rw [fixedOk, if_neg (by omega), if_neg (by omega), if_neg (by omega), if_pos ⟨h1, h2⟩]; rfl
  simp only [jrnSlots] at hi
  show ((journalAt j).targetCheck 0x38 .p0 .write (jrnAddr i) 32).2 = true
  have e1 := hf (jrnAddr i) (by simp [jrnAddr]) (by simp only [jrnAddr]; omega)
  have e2 := hf (jrnAddr i + (32 - 1)) (by simp only [jrnAddr]; omega) (by simp only [jrnAddr]; omega)
  have e3 : (journalAt j).checkAccess (Page.target 9) ((journalAt j).bankOf 0x38) true 16 0x38 .p0 .write (jrnAddr i) 32 = none :=
    summarise_ok _ (checkLines_ok _ _ _ _ _ _ _ _ _)
  have e4 : (!State.reset.swapBusy && State.reset.bankOf 0x38 != State.reset.epochBit) = false := by decide
  simp only [State.targetCheck, h9]
  rw [if_neg (by decide), show ((journalAt j).pair.role == .standbySync || (journalAt j).pair.role == .standbyUnsync) = false from rfl, e1, e2]
  simp only [Bool.not_true, Bool.or_self, Bool.false_eq_true, if_false, State.targetRules, e3]
  rw [show (journalAt j).prot.openMode = true from rfl, Bool.not_true, Bool.false_and, if_neg Bool.false_ne_true, show (!(journalAt j).swapBusy && (journalAt j).bankOf 0x38 != (journalAt j).epochBit) = false from e4, if_neg Bool.false_ne_true]
theorem reset_sound (a : Nat) : Sound State.reset a := rfl
theorem witness_EventJournal_commands : State.reset.jrn.waiting = none ∧ State.reset.jrn.running = none ∧ State.reset.jrn.closed = false ∧ State.reset.jrn.archives = [] ∧
    State.reset.jrnHead ≤ jrnSlots ∧ (∀ i, i < jrnSlots → SlotMay State.reset i) ∧ 32 * State.reset.jrnHead ≤ State.reset.nand.archiveRoom ∧ (∀ a, jrnAddr 0 ≤ a → a < jrnAddr State.reset.jrnHead → Sound State.reset a) ∧
    State.reset.jrn.cur = [] ∧ ({ State.reset with jrn := { cur := [postRec] } } : State).jrn.cur ≠ [] ∧ jrnAddr 1 ≤ jrnAddr jrnSlots - 1 ∧ jrnAddr jrnSlots - 1 < jrnAddr jrnSlots :=
  ⟨rfl, rfl, rfl, rfl, by decide, journal_slotMay {}, by decide, fun a _ _ => reset_sound a, rfl, by decide, by decide, by decide⟩

theorem witness_PowerCommands_copy :
    let s := { State.reset with pwr := { save := .copy, loaded := true } }
    s.pwr.save = .copy ∧ s.pwr.loaded = true ∧ s.jrnClose.retainBytes s.cfg.retain = (s.jrnClose, some []) ∧ (0 : Nat) < 0x3BF000 ∧
      (s.jrnClose.fixedMay 0x041 .write 0x10440000 (0x1000 + 0)).2 = true := by
  refine ⟨rfl, rfl, rfl, by decide, by rfl⟩

theorem witness_NetworkPorts_gated :
    let s := { State.reset with launch := [(40, [{ launch := 0, what := .roll, args := [] }])] }
    s.dueFrame 5 s.tb.time.toNs = some (0, { launch := 0, what := .roll, args := [] }) ∧ s.tb.time.toNs ≤ 0 + s.lateMax 5 0 ∧ s.held 5 = [] ∧ s.pair.gate = false ∧ 4 ≤ 5 := by decide

/-- A stream that asks for synchronisation, and a frame of it with one ASDU: too late in its second, and not synchronised. -/
def svc : SvCfg := { profile := .le4000, dstMac := 0x10C#48, appid := 0x4000#16, vlan := 0, svid := [], confRev := 0#32, noAsdu := 1, nval := 0, scale := [], group := 0, reqSync := 1, lossN := 0, recoverN := 0, simAccept := false }
def svAsdu (cnt sync : Nat) : SvAsdu := { svid := [], confRev := 0#32, smpCnt := cnt, smpSynch := sync, bytes := 0, vals := [] }
def svf (a : SvAsdu) : SvFrame := { etherType := 0x88BA#16, dstMac := 0x10C#48, vlan := none, appid := 0x4000#16, lenOk := true, sim := false, noAsdu := 1, asdus := [a] }
theorem witness_ProcessBus_order :
    let s := { State.reset with net := { streams := [(127, some svc)] } }
    SvFits s 127#7 svc (svf (svAsdu 4000 1)) (svAsdu 4000 1) ∧ svc.profile.rate ≤ 4000 ∧ SvFits s 127#7 svc (svf (svAsdu 0 0)) (svAsdu 0 0) ∧ 0 < svc.reqSync := by decide

/-- Every domain is supplied. -/
def pagesOn : State := { State.reset with regs := [(Page.pwr * 0x1000 + Reg.pwr_DOM_STAT, 0x3FFF#32)] }

theorem witness_RegisterPages_common :
    pagesOn.pageOn 16 = true ∧ pageTy (pagesOn.shown 16) = some .cluster ∧ PageTy.cluster.hasRwl = true ∧ pageTy (pagesOn.shown 0) = some .sys ∧ PageTy.sys.hasRwl = false ∧
    State.reset.pageOn 16 = false := by decide

/-- MISM_WINDOW of cluster 15 at both ends of its range and outside, open and locked. -/
theorem plain_cluster : PlainPage .cluster := by simp [PlainPage]
theorem witness_RegisterPages_fields :
    let p := 31
    let locked := pagesOn.setReg p Reg.com_QUOIN 1#32
    pagesOn.pageOn p = true ∧ ¬ (0x20 ≤ p ∧ p < 0x30) ∧ pageTy p = some .cluster ∧ (PageTy.cluster ≠ .le ∧ PageTy.cluster ≠ .region) ∧ 0x040 ≤ 72 ∧ isReg .cluster 72 = true ∧
    pagesOn.cmdWrite .cluster p 72 1#32 .p1 = none ∧ pagesOn.flagWrite .cluster p 72 1#32 = none ∧ (regDesc p 72).map (·.flds) = some [⟨0, 32, .rwl, .range 1 86400⟩] ∧
    fixedPage p = false ∧ (Legal.range 1 86400).ok 1 = true ∧ (Legal.range 1 86400).ok 86400 = true ∧ (Legal.range 1 86400).ok 0 = false ∧ (Legal.range 1 86400).ok 86401 = false ∧
    pagesOn.locked p = false ∧ locked.locked p = true ∧ locked.pageOn p = true ∧ isReg .cluster 0xFFC = false := by decide

theorem witness_RegisterPages_fixed : pagesOn.pageOn 56 = true ∧ pagesOn.pageOn 95 = true ∧ fixedPage 56 = true ∧ fixedPage 95 = true ∧ Priv.p1 ≠ .p0 ∧
    0 ≠ Page.target 10 ∧ 0 ≠ Page.pctrl ∧ 0 ≠ Page.jrn ∧ Reg.com_SCRATCH < 0x1000 := by decide

/-! ### A loop of one state, one measurement and one output -/

def capOf (lost fault : Bool) : LoopCap := { j := 1, y := [0#32], good := [true], stale := false, fault := fault, preset := false, lost := lost }
def evalOf : LoopEval := { nu := [], xh := [], v := [], u := [0#32], w := [], xp := [], clamped := [], rated := [], nonfinite := false, sat := false }
/-- Loop 0 of engine 0: n, p and m 1, a period of 2,500 TCLK, LAT 1,000 CCLK, one slot 5,300 CCLK into the frame. -/
def loopMem : List (Nat × Byte) :=
  [(0x40000000, 1#8), (0x40000001, 0x11#8), (0x40000004, 0xC4#8), (0x40000005, 9#8), (0x4000000A, 0xE8#8), (0x4000000B, 3#8), (0x40120000, 0xB4#8), (0x40120001, 0x14#8)]
def loopS (x : LoopRt) (fbAct : Byte) : State := { State.reset with
  mem := if fbAct = 0#8 then loopMem else loopMem.take 6 ++ [(0x4000000D, fbAct)] ++ loopMem.drop 6
  engines := [(0, { st := .running, mf := 2500 })], loops := [(0, { x with shadow := !State.reset.holdsPass })]
  regs := [(Page.le 0 * 0x1000 + Reg.le_ACTIVE_LEN, 1#32)], bell := { State.reset.bell with mode := .run } }

theorem witness_LoopSamples_slot : (loopS { mode := 0, cap := some (capOf false false) } 0).loopRuns 0 0 = true ∧ ((loopS { mode := 0, cap := some (capOf false false) } 0).loop 0 0).cap = some (capOf false false) ∧
    (loopS { mode := 0 } 0).slotDue 0 0 1 = true ∧ ({ loopS { mode := 0 } 0 with regs := [] } : State).slotDue 0 0 1 = false := by decide

theorem witness_LoopSamples_output :
    Steady (loopS { mode := 0, cap := some (capOf false false), res := some evalOf } 0) 0 0#9 ∧ evalOf.nonfinite = false ∧ evalOf.sat = false ∧
    (∀ c ∈ [capOf false false, capOf true false, capOf false true], ∀ r ∈ [none, some evalOf], Steady (loopS { mode := 0, cap := some c, res := r } 0) 0 0#9) := by decide

/-- A module that holds the pass, with each FB_ACT. -/
theorem witness_LoopSamples_fallback : ∀ n : Fin 3,
    let s := { loopS { mode := 1, cap := some (capOf false true), res := some evalOf } (BitVec.ofNat 8 n.val) with
      pair := { State.reset.pair with driveEn := true, own1 := true, own2 := true }, loops := [(0, { mode := 1, shadow := false, cap := some (capOf false true), res := some evalOf })] }
    Steady s 0 0#9 ∧ s.fbActOf 0 0 = n.val := by decide

theorem witness_SignalRecorder_read :
    let s : State := { State.reset with recd := { expSt := .busy } }
    s.recd.expSt = .busy ∧ s.recd.st ≠ .stoppedFull ∧ s.recRead s.recd.expSeg (segOrder s.preRecs (s.seg s.recd.expSeg)) = (s, true) := ⟨rfl, by decide, rfl⟩


/-- No rule of target 8 permits the image windows. -/
theorem witness_ImageInstructions_denied :
    let s : State := { cpuAt { ps := 1#8 } with proj := { owner := [(7, 1)] } }
    Runs s 0 ∧ ((s.core 0).greg 1).toNat + 7 ≤ 65535 ∧ tget (fun _ => 0) s.proj.owner 7 = 1 ∧
    (∀ w ∈ [0x80000000, 0x80080000, 0x80100000], (s.imgAccess 0 (s.core 0).priv .read (w + 7 * 8)).2 = false) ∧
    (s.imgAccess 0 (s.core 0).priv .write (0x80080000 + 7 * 8)).2 = false := by decide
theorem witness_ImageInstructions :
    (∃ (n : Fin 16) (d a : BitVec 5) (imm : BitVec 16) (s : State), Runs s n ∧ (d.toNat % 2 = 0 → BitVec.toNat ((s.core n.val).greg a) + imm.toNat ≤ 65535 → ImgMay s n AccOp.read ((Instr.imgrdi, 52, 2147483648, fun (s : State) (x : Fin 16) (h : Nat) => s.inRead h).snd.snd.fst + (BitVec.toNat ((s.core n.val).greg a) + imm.toNat) * 8) ∧ Sound s ((Instr.imgrdi, 52, 2147483648, fun (s : State) (x : Fin 16) (h : Nat) => s.inRead h).snd.snd.fst + (BitVec.toNat ((s.core n.val).greg a) + imm.toNat) * 8))) ∧
    (∃ (n : Fin 16) (d a : BitVec 5) (imm : BitVec 16) (s : State), Runs s n ∧ (d.toNat % 2 = 0 → BitVec.toNat ((s.core n.val).greg a) + imm.toNat ≤ 65535 → ImgMay s n AccOp.read ((Instr.imgrdw, 53, 2148007936, fun (s : State) (n : Fin 16) (h : Nat) => have x := s.workSlot n.val (BitVec.toNat (s.core n.val).ct) h; (x.value, x.status, ageOf (cycNext s.bell.cycle) x.since)).snd.snd.fst + (BitVec.toNat ((s.core n.val).greg a) + imm.toNat) * 8) ∧ Sound s ((Instr.imgrdw, 53, 2148007936, fun (s : State) (n : Fin 16) (h : Nat) => have x := s.workSlot n.val (BitVec.toNat (s.core n.val).ct) h; (x.value, x.status, ageOf (cycNext s.bell.cycle) x.since)).snd.snd.fst + (BitVec.toNat ((s.core n.val).greg a) + imm.toNat) * 8))) ∧
    (∃ (n : Fin 16) (d a : BitVec 5) (imm : BitVec 16) (s : State), Runs s n ∧ (d.toNat % 2 = 0 → BitVec.toNat ((s.core n.val).greg a) + imm.toNat ≤ 65535 → ImgMay s n AccOp.read ((Instr.imgrdf, 54, 2148532224, fun (s : State) (x : Fin 16) (h : Nat) => ((s.formeSlot h).value, (s.formeSlot h).status, ageOf s.bell.cycle (s.formeSlot h).since)).snd.snd.fst + (BitVec.toNat ((s.core n.val).greg a) + imm.toNat) * 8) ∧ Sound s ((Instr.imgrdf, 54, 2148532224, fun (s : State) (x : Fin 16) (h : Nat) => ((s.formeSlot h).value, (s.formeSlot h).status, ageOf s.bell.cycle (s.formeSlot h).since)).snd.snd.fst + (BitVec.toNat ((s.core n.val).greg a) + imm.toNat) * 8))) ∧
    (∃ (n : Fin 16) (b : BitVec 5) (fn : BitVec 11) (s : State), Runs s n ∧ 65535 < BitVec.toNat ((s.core n.val).greg b) + fn.toNat) ∧
    (∃ (n : Fin 16) (b : BitVec 5) (fn : BitVec 11) (s : State), Runs s n ∧ BitVec.toNat ((s.core n.val).greg b) + fn.toNat ≤ 65535 ∧ tget (fun (x : Nat) => 0) s.proj.owner (BitVec.toNat ((s.core n.val).greg b) + fn.toNat) ≠ n.val + 1) ∧
    (∃ (n : Fin 16) (b : BitVec 5) (fn : BitVec 11) (s : State) (m : Nat), Runs s n ∧ BitVec.toNat ((s.core n.val).greg b) + fn.toNat ≤ 65535 ∧ tget (fun (x : Nat) => 0) s.proj.owner (BitVec.toNat ((s.core n.val).greg b) + fn.toNat) = n.val + 1 ∧ ImgMay s n AccOp.write (2148007936 + (BitVec.toNat ((s.core n.val).greg b) + fn.toNat) * 8) ∧ Sound s (2148007936 + (BitVec.toNat ((s.core n.val).greg b) + fn.toNat) * 8) ∧ m ≠ n.val) :=
  ⟨⟨0, 0#5, 0#5, 0#16, { State.reset with cores := [(0, { status := .running })], clusters := [(0, .triple)] }, by decide⟩,
    ⟨0, 0#5, 0#5, 0#16, { State.reset with cores := [(0, { status := .running })], clusters := [(0, .triple)] }, by decide⟩,
    ⟨0, 0#5, 0#5, 0#16, { State.reset with cores := [(0, { status := .running })], clusters := [(0, .triple)] }, by decide⟩,
    ⟨0, 0x1e#5, 0x7fe#11, { State.reset with cores := [(0, { g := [(30, 0xf802#32)], status := .running })], clusters := [(0, .triple)] }, by decide⟩,
    ⟨0, 0#5, 0#11, { State.reset with cores := [(0, { status := .running })], clusters := [(0, .triple)] }, by decide⟩,
    ⟨0, 0#5, 0x7fe#11, { State.reset with cores := [(0, { status := .running })], proj := { owner := [(2046, 1)] }, clusters := [(0, .triple)] }, 1, by decide⟩⟩

theorem witness_CycleCommands :
    (∃ (s : State) (h : Nat), s.bellMay = true ∧ (s.pair.degradeReq && s.synced) = false ∧ s.upsets = [] ∧ s.forceOf false h = none) ∧
    (∃ (s : State) (h : Nat) (v : Word) (q : BitVec 2), s.bellMay = true ∧ (s.pair.degradeReq && s.synced) = false ∧ s.upsets = [] ∧ s.forceOf false h = some (v, q)) ∧
    (∃ (s : State), s.isActive = false ∧ s.exercises = true ∧ s.bellsOn = true) ∧
    (∃ (s : State), s.isActive = false ∧ (s.exercises = false ∨ s.bellsOn = false)) ∧
    (∃ (s : State), s.isActive = true ∧ s.bellMay = false) ∧
    (∃ (s : State), s.bellMay = true ∧ s.pair.degradeReq = true ∧ s.synced = true) ∧
    (∃ (s : State) (n : Fin 16) (u : Nat), s.isActive = true ∧ s.bell.cycleOpen = true ∧ s.bell.coresStarted = false ∧ s.bell.mode = Mode.run ∧ s.cluster n.val ≠ ClSt.failed ∧ u / 3 = n.val ∧ (s.unit u).joining = true) ∧
    (∃ (s : State), s.isActive = true ∧ s.bell.cycleOpen = true ∧ s.bell.coresStarted = false ∧ s.bell.mode = Mode.stop ∧ s.upsets = []) ∧
    (∃ (s : State) (n : Fin 16), s.exercises = true ∧ s.bellsOn = true ∧ s.bell.coresStarted = false ∧ s.cluster n.val ≠ ClSt.failed) ∧
    (∃ (s : State) (b : Fin 8) (n m : Fin 16), s.bell.mode = Mode.run ∧ s.participant b.val n.val = true ∧ (∀ (m : Fin 16), s.participant b.val m.val = true → bit (s.core m.val).arrived b.val = true ∧ bit (s.core m.val).released b.val = false) ∧ s.participant b.val m.val = false) ∧
    (∃ (s : State) (b : Fin 8) (n m : Fin 16), s.bell.mode = Mode.run ∧ s.participant b.val n.val = true ∧ (∀ (m : Fin 16), s.participant b.val m.val = true → bit (s.core m.val).arrived b.val = true ∧ bit (s.core m.val).released b.val = false) ∧ s.participant b.val m.val = true) ∧
    (∃ (s : State) (b : Fin 8) (n : Fin 16), s.bell.mode = Mode.run ∧ s.participant b.val n.val = true ∧ (∀ (m : Fin 16), s.participant b.val m.val = true → bit (s.core m.val).arrived b.val = true ∧ bit (s.core m.val).released b.val = false) ∧ ∀ (m : Fin 16), s.participant b.val m.val = true → BitVec.toNat (s.core m.val).ct ≤ BitVec.toNat (s.core n.val).ct) ∧
    (∃ (s : State) (h : Nat), FlipReady s ∧ s.bell.finalCycle = false ∧ tmem s.outDirty h = true ∧ s.forceOf true h = none) ∧
    (∃ (s : State) (h : Nat) (v : Word) (q : BitVec 2), FlipReady s ∧ s.bell.finalCycle = false ∧ s.forceOf true h = some (v, q)) ∧
    (∃ (s : State) (h : Nat), FlipReady s ∧ s.bell.finalCycle = false ∧ s.bell.rebuild = false ∧ ¬h ∈ List.map Prod.fst s.outDirty ∧ s.forceOf true h = none ∧ ¬h ∈ List.map Prod.fst s.outForce) ∧
    (∃ (s : State) (h : Nat) (v : Word), FlipReady s ∧ s.bell.finalCycle = true ∧ h ∈ s.outputs ∧ tget (fun (x : Nat) => none) s.proj.safe h = some (SafeAct.subst v)) ∧
    (∃ (s : State) (h : Nat), FlipReady s ∧ s.bell.finalCycle = true ∧ h ∈ s.outputs ∧ tget (fun (x : Nat) => none) s.proj.safe h = some SafeAct.off) ∧
    (∃ (s : State), s.isActive = true ∧ s.bell.mode = Mode.run ∧ s.complete = false ∧ s.bell.waitAck = true ∧ s.bell.proofEndSent = true ∧ s.bell.ackRcvd = false) ∧
    (∃ (s : State) (h : Nat), FormeFree s (flipHandles s) ∧ s.isActive = true ∧ s.saving = false ∧ s.bell.mode = Mode.run ∧ s.complete = true ∧ s.bell.waitAck = true ∧ s.bell.proofEndSent = true ∧ s.bell.ackRcvd = false ∧ s.bell.finalCycle = false ∧ tmem s.outDirty h = true ∧ s.forceOf true h = none) ∧
    (∃ (s : State) (h : Nat) (v : Word) (q : BitVec 2), FormeFree s (flipHandles s) ∧ s.isActive = true ∧ s.saving = false ∧ s.bell.mode = Mode.run ∧ s.complete = true ∧ s.bell.waitAck = true ∧ s.bell.proofEndSent = true ∧ s.bell.ackRcvd = false ∧ s.bell.finalCycle = false ∧ s.forceOf true h = some (v, q)) ∧
    (∃ (s : State) (h : Nat), FormeFree s (flipHandles s) ∧ s.isActive = true ∧ s.saving = false ∧ s.bell.mode = Mode.run ∧ s.complete = true ∧ s.bell.waitAck = true ∧ s.bell.proofEndSent = true ∧ s.bell.ackRcvd = false ∧ s.bell.finalCycle = false ∧ s.bell.rebuild = false ∧ ¬h ∈ List.map Prod.fst s.outDirty ∧ s.forceOf true h = none ∧ ¬h ∈ List.map Prod.fst s.outForce) :=
  ⟨⟨{ State.reset with regs := [(393224, 1#32)], prot := { openMode := false }, pair := { role := .active } }, 0, by decide⟩,
    ⟨{ State.reset with regs := [(393224, 1#32)], forces := [(0, { handle := 32, attr := 1#4 })], prot := { openMode := false }, pair := { role := .active } }, 32, 0#32, 0#2, by decide⟩,
    ⟨{ State.reset with regs := [(393224, 1#32)], prot := { openMode := false }, pair := { role := .maintenance } }, by decide⟩,
    ⟨State.reset, by decide⟩,
    ⟨{ State.reset with pair := { role := .active } }, by decide⟩,
    ⟨{ State.reset with regs := [(393224, 1#32)], prot := { openMode := false }, pair := { role := .active, syncPair := true, degradeReq := true } }, by decide⟩,
    ⟨{ State.reset with bell := { mode := .run, cycleOpen := true }, units := [(0, { joining := true })], clusters := [(0, .triple)], pair := { role := .active } }, 0, 0, by decide⟩,
    ⟨{ State.reset with bell := { cycleOpen := true }, pair := { role := .active } }, by decide⟩,
    ⟨{ State.reset with regs := [(393224, 1#32)], clusters := [(1, .triple)], prot := { openMode := false }, pair := { role := .maintenance } }, 1, by decide⟩,
    ⟨{ State.reset with cores := [(0, { arrived := 2#8 })], bell := { mode := .run }, proj := { barMask := [(1, 1#16)] } }, 1, 0, 13, by decide⟩,
    ⟨{ State.reset with cores := [(0, { arrived := 2#8 })], bell := { mode := .run }, proj := { barMask := [(1, 1#16)] } }, 1, 0, 0, by decide⟩,
    ⟨{ State.reset with cores := [(0, { arrived := 1#8 })], bell := { mode := .run }, proj := { barMask := [(0, 1#16)] } }, 0, 0, by decide⟩,
    ⟨{ State.reset with regs := [(393344, 0xffff#32)], outDirty := [(1, true)], bell := { mode := .run, cycleOpen := true, coresStarted := true }, pair := { role := .active } }, 1, by decide⟩,
    ⟨{ State.reset with regs := [(393344, 0xffff#32)], forces := [(0, { attr := 3#4 })], bell := { mode := .run, cycleOpen := true, coresStarted := true }, pair := { role := .active } }, 0, 0#32, 0#2, by decide⟩,
    ⟨{ State.reset with regs := [(393344, 0xffff#32)], bell := { mode := .run, cycleOpen := true, coresStarted := true, rebuild := false }, pair := { role := .active } }, 0, by decide⟩,
    ⟨{ State.reset with regs := [(393344, 0xffff#32)], bell := { mode := .run, finalCycle := true, cycleOpen := true, coresStarted := true }, proj := { owner := [(67, 1)], safe := [(67, (some (.subst 3#32)))] }, pair := { role := .active } }, 67, 3#32, by decide⟩,
    ⟨{ State.reset with regs := [(393344, 0xffff#32)], bell := { mode := .run, finalCycle := true, cycleOpen := true, coresStarted := true }, proj := { owner := [(67, 1)], safe := [(67, (some .off))] }, pair := { role := .active } }, 67, by decide⟩,
    ⟨{ State.reset with bell := { mode := .run, proofEndSent := true, waitAck := true }, pair := { role := .active } }, by decide⟩,
    ⟨{ State.reset with regs := [(393344, 0xffff#32)], outDirty := [(0, true)], bell := { mode := .run, cycleOpen := true, coresStarted := true, proofEndSent := true, waitAck := true }, pair := { role := .active } }, 0, by decide⟩,
    ⟨{ State.reset with regs := [(393344, 0xffff#32)], forces := [(0, { handle := 4, attr := 3#4 })], bell := { mode := .run, cycleOpen := true, coresStarted := true, proofEndSent := true, waitAck := true }, pair := { role := .active } }, 4, 0#32, 0#2, by decide⟩,
    ⟨{ State.reset with regs := [(393344, 0xffff#32)], bell := { mode := .run, cycleOpen := true, coresStarted := true, proofEndSent := true, waitAck := true, rebuild := false }, pair := { role := .active } }, 0, by decide⟩⟩

theorem witness_ModeCommands :
    (∃ (s : State) (p : Priv), p ≠ Priv.p2 ∧ s.isActive = true ∧ s.bell.stopTask = false ∧ s.bell.mode = Mode.stop) ∧
    (∃ (s : State) (p : Priv), p ≠ Priv.p2 ∧ s.isActive = true ∧ s.bell.stopTask = false ∧ s.bell.mode = Mode.run) ∧
    (∃ (s : State) (p : Priv), p ≠ Priv.p2 ∧ s.isActive = true ∧ s.bell.stopTask = false ∧ s.bell.mode = Mode.hold ∧ twf (fun (x : Nat) => false) s.outDirty = true) ∧
    (∃ (s : State) (p : Priv) (h : Nat) (v : Word), p ≠ Priv.p2 ∧ s.isActive = true ∧ s.bell.stopTask = false ∧ s.bell.mode = Mode.hold ∧ FormeFree s s.outputs ∧ h ∈ s.outputs ∧ tget (fun (x : Nat) => none) s.proj.safe h = some (SafeAct.subst v)) ∧
    (∃ (s : State) (p : Priv) (h : Nat), p ≠ Priv.p2 ∧ s.isActive = true ∧ s.bell.stopTask = false ∧ s.bell.mode = Mode.hold ∧ FormeFree s s.outputs ∧ h ∈ s.outputs ∧ tget (fun (x : Nat) => none) s.proj.safe h = some SafeAct.off) ∧
    (∃ (s : State) (p : Priv) (h : Nat), p ≠ Priv.p2 ∧ s.isActive = true ∧ s.bell.stopTask = false ∧ s.bell.mode = Mode.hold ∧ FormeFree s s.outputs ∧ h ∈ s.outputs ∧ tget (fun (x : Nat) => none) s.proj.safe h = some SafeAct.hold) ∧
    (∃ (s : State) (p : Priv), p ≠ Priv.p2 ∧ s.isActive = true ∧ s.bell.stopTask = false ∧ s.bell.mode ≠ Mode.stop) ∧
    (∃ (s : State) (p : Priv), p ≠ Priv.p2 ∧ s.isActive = true ∧ s.bell.stopTask = false ∧ s.bell.mode ≠ Mode.hold) ∧
    (∃ (s : State) (p : Priv), p ≠ Priv.p2 ∧ s.isActive = false) ∧
    (∃ (s : State) (n : Fin 16), s.isActive = true ∧ s.bell.mode = Mode.run ∧ s.bell.cycleOpen = true ∧ s.bell.coresStarted = true ∧ Part.error ∈ (s.core n.val).parts ∧ twf (fun (x : Nat) => false) s.outDirty = true) ∧
    (∃ (s : State) (n : Fin 16) (h : Nat) (v : Word), s.isActive = true ∧ s.bell.mode = Mode.run ∧ s.bell.cycleOpen = true ∧ s.bell.coresStarted = true ∧ Part.error ∈ (s.core n.val).parts ∧ FormeFree s s.outputs ∧ h ∈ s.outputs ∧ tget (fun (x : Nat) => none) s.proj.safe h = some (SafeAct.subst v)) ∧
    (∃ (s : State) (n : Fin 16) (h : Nat), s.isActive = true ∧ s.bell.mode = Mode.run ∧ s.bell.cycleOpen = true ∧ s.bell.coresStarted = true ∧ Part.error ∈ (s.core n.val).parts ∧ FormeFree s s.outputs ∧ h ∈ s.outputs ∧ tget (fun (x : Nat) => none) s.proj.safe h = some SafeAct.off) ∧
    (∃ (s : State) (n : Fin 16) (h : Nat), s.isActive = true ∧ s.bell.mode = Mode.run ∧ s.bell.cycleOpen = true ∧ s.bell.coresStarted = true ∧ Part.error ∈ (s.core n.val).parts ∧ FormeFree s s.outputs ∧ h ∈ s.outputs ∧ tget (fun (x : Nat) => none) s.proj.safe h = some SafeAct.hold) ∧
    (∃ (s : State), s.holdFree = true) ∧
    (∃ (s : State), s.holdFree = false) :=
  ⟨⟨{ State.reset with pair := { role := .active } }, .p0, by decide⟩,
    ⟨{ State.reset with bell := { mode := .run }, pair := { role := .active } }, .p0, by decide⟩,
    ⟨{ State.reset with bell := { mode := .hold }, pair := { role := .active } }, .p0, by decide⟩,
    ⟨{ State.reset with bell := { mode := .hold }, proj := { owner := [(17, 1)], safe := [(17, (some (.subst 0x1b1#32)))] }, pair := { role := .active } }, .p0, 17, 0x1b1#32, by decide⟩,
    ⟨{ State.reset with bell := { mode := .hold }, proj := { owner := [(17, 1)], safe := [(17, (some .off))] }, pair := { role := .active } }, .p1, 17, by decide⟩,
    ⟨{ State.reset with bell := { mode := .hold }, proj := { owner := [(17, 1)], safe := [(17, (some .hold))] }, pair := { role := .active } }, .p1, 17, by decide⟩,
    ⟨{ State.reset with bell := { mode := .run }, pair := { role := .active } }, .p0, by decide⟩,
    ⟨{ State.reset with pair := { role := .active } }, .p0, by decide⟩,
    ⟨State.reset, .p1, by decide⟩,
    ⟨{ State.reset with cores := [(1, { parts := [.error] })], bell := { mode := .run, cycleOpen := true, coresStarted := true }, pair := { role := .active } }, 1, by decide⟩,
    ⟨{ State.reset with cores := [(1, { parts := [.error] })], bell := { mode := .run, cycleOpen := true, coresStarted := true }, proj := { owner := [(2, 1)], safe := [(2, (some (.subst 8#32)))] }, pair := { role := .active } }, 1, 2, 8#32, by decide⟩,
    ⟨{ State.reset with cores := [(1, { parts := [.error] })], bell := { mode := .run, cycleOpen := true, coresStarted := true }, proj := { owner := [(2, 1)], safe := [(2, (some .off))] }, pair := { role := .active } }, 1, 2, by decide⟩,
    ⟨{ State.reset with cores := [(1, { parts := [.error] })], bell := { mode := .run, cycleOpen := true, coresStarted := true }, proj := { owner := [(2, 1)], safe := [(2, (some .hold))] }, pair := { role := .active } }, 1, 2, by decide⟩,
    ⟨{ State.reset with pair := { role := .active } }, by decide⟩,
    ⟨State.reset, by decide⟩⟩

theorem witness_ForceTable :
    (∃ (s : State), s.forceClash s.forceSel s.forceRegs = false) ∧
    (∃ (s : State), s.forceClash s.forceSel s.forceRegs = true) ∧
    (∃ (s : State), twf (fun (x : Nat) => { }) s.forces = true) :=
  ⟨⟨State.reset, by decide⟩,
    ⟨{ State.reset with regs := [(393388, 3#32)], forces := [(1, { attr := 3#4 })] }, by decide⟩,
    ⟨State.reset, by decide⟩⟩

theorem witness_OnlineChange :
    (∃ (s : State), s.olc.stat.final = false ∨ s.isActive = false) ∧
    (∃ (s : State) (p : OlcPkg), s.olc.stat.final = true ∧ s.isActive = true ∧ s.olcForced p = true) ∧
    (∃ (s : State) (p : OlcPkg) (ok : Bool), s.olc.stat.final = true ∧ s.isActive = true ∧ s.olcForced p = false ∧ ok = false) ∧
    (∃ (s : State) (p : OlcPkg) (ok : Bool), s.olc.stat.final = true ∧ s.isActive = true ∧ s.olcForced p = false ∧ ok = true ∧ s.projOk p.project.proj = false) ∧
    (∃ (s : State) (p : OlcPkg) (ok : Bool), s.olc.stat.final = true ∧ s.isActive = true ∧ s.olcForced p = false ∧ ok = true ∧ s.projOk p.project.proj = true ∧ s.pair.syncPair = false) ∧
    (∃ (s : State) (p : OlcPkg) (ok : Bool), s.olc.stat.final = true ∧ s.isActive = true ∧ s.olcForced p = false ∧ ok = true ∧ s.projOk p.project.proj = true ∧ s.pair.syncPair = true) ∧
    (∃ (s : State), s.isActive = true ∧ s.olc.stat = OlcStat.staged ∧ 4 ≤ cycSince s.olcTarget s.bell.cycle ∧ cycSince s.olcTarget s.bell.cycle < 2 ^ 47 ∧ s.pair.syncPair = false) ∧
    (∃ (s : State), s.isActive = true ∧ s.olc.stat = OlcStat.staged ∧ 4 ≤ cycSince s.olcTarget s.bell.cycle ∧ cycSince s.olcTarget s.bell.cycle < 2 ^ 47 ∧ s.pair.syncPair = true) ∧
    (∃ (s : State), s.isActive = false ∨ s.olc.stat ≠ OlcStat.staged ∨ cycSince s.olcTarget s.bell.cycle < 4) ∧
    (∃ (s : State), s.olc.stat.final = false) ∧
    (∃ (s : State) (p : OlcPkg) (x : Nat), s.olc.stat = OlcStat.migrating ∧ s.olc.migrated = false ∧ s.olc.pkg = some p ∧ s.upsets = [] ∧ (s.migrate p.map).snd = true ∧ s.proj.uses x = true) :=
  ⟨⟨State.reset, by decide⟩,
    ⟨{ State.reset with forces := [(0, { attr := 1#4 })], pair := { role := .active } }, { idents := [0#32], code := [], map := [], project := {}, rules := [], cfgBytes := [], bytes := [] }, by decide⟩,
    ⟨{ State.reset with pair := { role := .active } }, { idents := [], code := [], map := [], project := {}, rules := [], cfgBytes := [], bytes := [] }, false, by decide⟩,
    ⟨{ State.reset with pair := { role := .active } }, { idents := [], code := [], map := [], project := { proj := { bars := [(0, 0#16)] } }, rules := [], cfgBytes := [], bytes := [] }, true, by decide⟩,
    ⟨{ State.reset with pair := { role := .active } }, { idents := [], code := [], map := [], project := {}, rules := [], cfgBytes := [], bytes := [] }, true, by decide⟩,
    ⟨{ State.reset with pair := { role := .active, syncPair := true } }, { idents := [], code := [], map := [], project := {}, rules := [], cfgBytes := [], bytes := [] }, true, by decide⟩,
    ⟨{ State.reset with bell := { cycle := 281474976704654 }, olc := { stat := .staged }, pair := { role := .active, driveEn := true } }, by decide⟩,
    ⟨{ State.reset with bell := { cycle := 281474976698655 }, olc := { stat := .staged }, pair := { role := .active, syncPair := true } }, by decide⟩,
    ⟨State.reset, by decide⟩,
    ⟨{ State.reset with olc := { stat := .staged } }, by decide⟩,
    ⟨{ State.reset with proj := { inst := [(0, 0)] }, olc := { stat := .migrating, pkg := (some { idents := [], code := [], map := [], project := {}, rules := [], cfgBytes := [], bytes := [] }) } }, { idents := [], code := [], map := [], project := {}, rules := [], cfgBytes := [], bytes := [] }, 0, by decide⟩⟩

theorem witness_CanChannels :
    (∃ (s : State) (c : Fin 4) (p : Priv) (d : Fin 4), p ≠ Priv.p2 ∧ (s.canCh c.val).galley.length < 32 ∧ s.canMayPush c.val (s.reg (Page.can c.val) Reg.can_TX_ID) (s.reg (Page.can c.val) Reg.can_TX_CTRL) = true ∧ s.pair.gate = true ∧ d ≠ c) ∧
    (∃ (s : State) (c : Fin 4) (p : Priv), p ≠ Priv.p2 ∧ (s.canCh c.val).galley = [] ∧ (s.canCh c.val).busy = false ∧ (s.canCh c.val).results.length < 32 ∧ s.canMayPush c.val (s.reg (Page.can c.val) Reg.can_TX_ID) (s.reg (Page.can c.val) Reg.can_TX_CTRL) = true ∧ s.pair.gate = false) ∧
    (∃ (s : State) (c : Fin 4) (p : Priv), p ≠ Priv.p2 ∧ (32 ≤ (s.canCh c.val).galley.length ∨ s.canMayPush c.val (s.reg (Page.can c.val) Reg.can_TX_ID) (s.reg (Page.can c.val) Reg.can_TX_CTRL) = false)) ∧
    (∃ (s : State) (c : Fin 4), s.canMode c.val = 1 ∧ (s.canCh c.val).off = false ∧ (s.canCh c.val).busy = false ∧ (s.canCh c.val).galley ≠ [] ∧ (s.canCh c.val).results.length < 32) ∧
    (∃ (s : State) (c : Fin 4), s.canMode c.val ≠ 1 ∨ 32 ≤ (s.canCh c.val).results.length) ∧
    (∃ (s : State) (c : Fin 4) (r : CanEnd) (e : CanEntry) (l : List CanEntry) (o : Nat), (s.canCh c.val).galley = e :: l ∧ (s.canCh c.val).busy = true ∧ s.canMode c.val = 1 ∧ s.canOutcome c.val e r = some o ∧ r = CanEnd.done) ∧
    (∃ (s : State) (c : Fin 4) (r : CanEnd) (e : CanEntry) (l : List CanEntry) (o : Nat), (s.canCh c.val).galley = e :: l ∧ (s.canCh c.val).busy = true ∧ s.canMode c.val = 1 ∧ s.canOutcome c.val e r = some o ∧ r = CanEnd.lost) ∧
    (∃ (s : State) (c : Fin 4) (r : CanEnd) (e : CanEntry) (l : List CanEntry) (o : Nat), (s.canCh c.val).galley = e :: l ∧ (s.canCh c.val).busy = true ∧ s.canMode c.val = 1 ∧ s.canOutcome c.val e r = some o ∧ r = CanEnd.error) ∧
    (∃ (s : State) (c : Fin 4) (r : CanEnd) (e : CanEntry) (l : List CanEntry) (o : Nat), (s.canCh c.val).galley = e :: l ∧ (s.canCh c.val).busy = true ∧ s.canMode c.val = 1 ∧ s.canOutcome c.val e r = some o ∧ r = CanEnd.bitError true CanPart.content) ∧
    (∃ (s : State) (c : Fin 4) (r : CanEnd) (e : CanEntry) (l : List CanEntry) (o : Nat) (part : CanPart), (s.canCh c.val).galley = e :: l ∧ (s.canCh c.val).busy = true ∧ s.canMode c.val = 1 ∧ s.canOutcome c.val e r = some o ∧ r = CanEnd.bitError false part) ∧
    (∃ (s : State) (c : Fin 4) (r : CanEnd) (e : CanEntry) (l : List CanEntry) (o : Nat) (w : Bool), (s.canCh c.val).galley = e :: l ∧ (s.canCh c.val).busy = true ∧ s.canMode c.val = 1 ∧ s.canOutcome c.val e r = some o ∧ r = CanEnd.bitError w CanPart.tail) ∧
    (∃ (s : State) (c : Fin 4) (r : CanEnd) (e : CanEntry) (l : List CanEntry) (o : Nat), (s.canCh c.val).galley = e :: l ∧ (s.canCh c.val).busy = true ∧ s.canMode c.val = 1 ∧ s.canOutcome c.val e r = some o ∧ r ≠ CanEnd.done) ∧
    (∃ (s : State) (c : Fin 4), (s.canCh c.val).busy = false ∨ s.canMode c.val ≠ 1) ∧
    (∃ (s : State) (c : Fin 4) (a b : Nat) (v : BitVec 7) (e : CanEntry) (l : List CanEntry), (s.canCh c.val).galley = e :: l ∧ (s.canCh c.val).busy = true ∧ s.canMode c.val = 1 ∧ e.fdf = true ∧ e.brs = true ∧ s.rbit (Page.can c.val) Reg.can_TDC_CFG 0 = true ∧ a ≤ v.toNat + s.fld (Page.can c.val) Reg.can_TDC_CFG 8 7 ∧ v.toNat + s.fld (Page.can c.val) Reg.can_TDC_CFG 8 7 < b) ∧
    (∃ (s : State) (c : Fin 4), s.alive = false ∨ s.canEn c.val = false ∨ (s.canCh c.val).off = true) ∧
    (∃ (s : State) (c : Fin 4) (f : CanFrame), s.alive = true ∧ s.canEn c.val = true ∧ (s.canCh c.val).off = false ∧ List.find? (fun (i : Nat) => s.filtHit c.val i f) (List.range (s.filtLen c.val)) = none) ∧
    (∃ (s : State) (c : Fin 4) (f : CanFrame) (i : Nat), s.alive = true ∧ s.canEn c.val = true ∧ (s.canCh c.val).off = false ∧ List.find? (fun (i : Nat) => s.filtHit c.val i f) (List.range (s.filtLen c.val)) = some i ∧ fieldNat (s.filt c.val i 2) 8 2 = 0) ∧
    (∃ (s : State) (c : Fin 4) (f : CanFrame) (i : Nat), s.alive = true ∧ s.canEn c.val = true ∧ (s.canCh c.val).off = false ∧ List.find? (fun (i : Nat) => s.filtHit c.val i f) (List.range (s.filtLen c.val)) = some i ∧ fieldNat (s.filt c.val i 2) 8 2 = 1 ∧ bit (s.reg (Page.canRx c.val) (Reg.canrx_ND (fieldNat (s.filt c.val i 2) 0 7 / 32))) (fieldNat (s.filt c.val i 2) 0 7 % 32) = true) ∧
    (∃ (s : State) (c : Fin 4) (f : CanFrame) (i : Nat), s.alive = true ∧ s.canEn c.val = true ∧ (s.canCh c.val).off = false ∧ List.find? (fun (i : Nat) => s.filtHit c.val i f) (List.range (s.filtLen c.val)) = some i ∧ fieldNat (s.filt c.val i 2) 8 2 = 1 ∧ s.bindF c.val (fieldNat (s.filt c.val i 2) 0 7) 16 5 = 1 ∧ s.inMay (s.bindF c.val (fieldNat (s.filt c.val i 2) 0 7) 0 16) = true) ∧
    (∃ (s : State) (c : Fin 4) (f : CanFrame) (i : Nat), s.alive = true ∧ s.canEn c.val = true ∧ (s.canCh c.val).off = false ∧ List.find? (fun (i : Nat) => s.filtHit c.val i f) (List.range (s.filtLen c.val)) = some i ∧ fieldNat (s.filt c.val i 2) 8 2 = 2 ∧ (s.canCh c.val).fifo0.length < 64) ∧
    (∃ (s : State) (c : Fin 4) (f : CanFrame) (i : Nat), s.alive = true ∧ s.canEn c.val = true ∧ (s.canCh c.val).off = false ∧ List.find? (fun (i : Nat) => s.filtHit c.val i f) (List.range (s.filtLen c.val)) = some i ∧ fieldNat (s.filt c.val i 2) 8 2 = 3 ∧ (s.canCh c.val).fifo1.length < 64) ∧
    (∃ (s : State) (c : Fin 4) (f : CanFrame) (i : Nat), s.alive = true ∧ s.canEn c.val = true ∧ (s.canCh c.val).off = false ∧ List.find? (fun (i : Nat) => s.filtHit c.val i f) (List.range (s.filtLen c.val)) = some i ∧ fieldNat (s.filt c.val i 2) 8 2 = 2 ∧ 64 ≤ (s.canCh c.val).fifo0.length) ∧
    (∃ (s : State) (c : Fin 4), (s.canCh c.val).fifo0 ≠ []) ∧
    (∃ (s : State) (c : Fin 4), (s.canCh c.val).fifo0 = []) ∧
    (∃ (s : State) (c : Fin 4) (b : BitVec 7), s.bindF c.val b.toNat 24 8 ≠ 0 ∧ (s.canCh c.val).busOff = false ∧ b.toNat ∈ (s.canCh c.val).had ∧ s.bindF c.val b.toNat 16 5 = 1 ∧ s.inMay (s.bindF c.val b.toNat 0 16) = true) ∧
    (∃ (s : State) (c : Fin 4), s.locked (Page.can c.val) = false ∧ s.canEn c.val = false ∧ List.find? (s.filtBad c.val) (List.range (s.filtLen c.val)) = none ∧ s.canTimingOk c.val = true ∧ s.pair.gate = true) ∧
    (∃ (s : State) (c : Fin 4), s.locked (Page.can c.val) = false ∧ s.canEn c.val = false ∧ List.find? (s.filtBad c.val) (List.range (s.filtLen c.val)) = none ∧ s.canTimingOk c.val = false) ∧
    (∃ (s : State) (c : Fin 4) (i : Nat), s.locked (Page.can c.val) = false ∧ s.canEn c.val = false ∧ List.find? (s.filtBad c.val) (List.range (s.filtLen c.val)) = some i) ∧
    (∃ (s : State) (c : Fin 4), s.canEn c.val = true ∧ s.pair.gate = true) ∧
    (∃ (s : State) (c : Fin 4), s.canEn c.val = false ∨ s.pair.gate = false) ∧
    (∃ (s : State) (c : Fin 4), s.canMode c.val ≠ 1) ∧
    (∃ (s : State) (c : Fin 4), (s.canCh c.val).busOff = false ∧ 255 < (s.canCh c.val).tec) ∧
    (∃ (s : State) (c : Fin 4), (s.canCh c.val).busOff = true ∧ ((s.canCh c.val).recover = true ∨ s.canCfg c.val 2 1 = 1 ∧ (s.canCh c.val).lasting = false)) ∧
    (∃ (s : State) (c : Fin 4), (s.canCh c.val).busOff = true ∧ (s.canCh c.val).recover = false ∧ (s.canCfg c.val 2 1 ≠ 1 ∨ (s.canCh c.val).lasting = true)) :=
  ⟨⟨{ State.reset with regs := [(852036, 1#32)], pair := { own1 := true, own2 := true } }, 0, .p0, 1, by decide⟩,
    ⟨{ State.reset with regs := [(852036, 1#32)] }, 0, .p1, by decide⟩,
    ⟨State.reset, 0, .p0, by decide⟩,
    ⟨{ State.reset with regs := [(901188, 1#32)], pair := { own1 := true, own2 := true }, cans := [(3, { normal := true, galley := [{ ident := 0#32, ctrl := 0#32, data := [], owner := none }] })] }, 3, by decide⟩,
    ⟨State.reset, 0, by decide⟩,
    ⟨{ State.reset with regs := [(901188, 1#32)], pair := { own1 := true, own2 := true }, cans := [(3, { normal := true, galley := [{ ident := 0#32, ctrl := 0#32, data := [], owner := none }], busy := true })] }, 3, .done, { ident := 0#32, ctrl := 0#32, data := [], owner := none }, [], 1, by decide⟩,
    ⟨{ State.reset with regs := [(901188, 1#32)], pair := { own1 := true, own2 := true }, cans := [(3, { normal := true, galley := [{ ident := 0#32, ctrl := 0#32, data := [], owner := none }], busy := true })] }, 3, .lost, { ident := 0#32, ctrl := 0#32, data := [], owner := none }, [], 2, by decide⟩,
    ⟨{ State.reset with regs := [(901188, 1#32)], pair := { own1 := true, own2 := true }, cans := [(3, { normal := true, galley := [{ ident := 0#32, ctrl := 0#32, data := [], owner := none }], busy := true })] }, 3, .error, { ident := 0#32, ctrl := 0#32, data := [], owner := none }, [], 3, by decide⟩,
    ⟨{ State.reset with regs := [(901188, 1#32)], pair := { own1 := true, own2 := true }, cans := [(3, { normal := true, galley := [{ ident := 0#32, ctrl := 0#32, data := [], owner := none }], busy := true })] }, 3, (.bitError true .content), { ident := 0#32, ctrl := 0#32, data := [], owner := none }, [], 7, by decide⟩,
    ⟨{ State.reset with regs := [(901188, 1#32)], pair := { own1 := true, own2 := true }, cans := [(3, { normal := true, galley := [{ ident := 0#32, ctrl := 0#32, data := [], owner := none }], busy := true })] }, 3, (.bitError false .content), { ident := 0#32, ctrl := 0#32, data := [], owner := none }, [], 3, .content, by decide⟩,
    ⟨{ State.reset with regs := [(901188, 1#32)], pair := { own1 := true, own2 := true }, cans := [(3, { normal := true, galley := [{ ident := 0#32, ctrl := 0#32, data := [], owner := none }], busy := true })] }, 3, (.bitError true .tail), { ident := 0#32, ctrl := 0#32, data := [], owner := none }, [], 3, true, by decide⟩,
    ⟨{ State.reset with regs := [(901188, 1#32)], pair := { own1 := true, own2 := true }, cans := [(3, { normal := true, galley := [{ ident := 0#32, ctrl := 0#32, data := [], owner := none }], busy := true })] }, 3, (.bitError false .tail), { ident := 0#32, ctrl := 0#32, data := [], owner := none }, [], 3, by decide⟩,
    ⟨State.reset, 0, by decide⟩,
    ⟨{ State.reset with regs := [(901188, 1#32)], pair := { own1 := true, own2 := true }, cans := [(3, { normal := true, galley := [{ ident := 0#32, ctrl := 0x30#32, data := [], owner := none }], busy := true })] }, 3, 0, 21, 0#7, { ident := 0#32, ctrl := 0x30#32, data := [], owner := none }, [], by decide⟩,
    ⟨State.reset, 0, by decide⟩,
    ⟨{ State.reset with regs := [(901188, 1#32)] }, 3, { ident := 0#29, xtd := false, rtr := false, dlc := 0#4, fdf := false, brs := false, esi := false, data := [] }, by decide⟩,
    ⟨{ State.reset with regs := [(852036, 1#32), (856128, 1#32), (857096, 0x80000000#32)] }, 0, { ident := 0#29, xtd := false, rtr := false, dlc := 0#4, fdf := false, brs := false, esi := false, data := [] }, 0, by decide⟩,
    ⟨{ State.reset with regs := [(852036, 1#32), (856128, 1#32), (857096, 0x80000105#32), (860240, 0x20#32)] }, 0, { ident := 0#29, xtd := false, rtr := false, dlc := 0#4, fdf := false, brs := false, esi := false, data := [] }, 0, by decide⟩,
    ⟨{ State.reset with regs := [(853012, 0x10000#32), (852036, 1#32), (856128, 1#32), (857096, 0x80000105#32)] }, 0, { ident := 0#29, xtd := false, rtr := false, dlc := 0#4, fdf := false, brs := false, esi := false, data := [] }, 0, by decide⟩,
    ⟨{ State.reset with regs := [(852036, 1#32), (856128, 1#32), (857096, 0x80000200#32)] }, 0, { ident := 0#29, xtd := false, rtr := false, dlc := 0#4, fdf := false, brs := false, esi := false, data := [] }, 0, by decide⟩,
    ⟨{ State.reset with regs := [(852036, 1#32), (856128, 1#32), (857096, 0x80000300#32)] }, 0, { ident := 0#29, xtd := false, rtr := false, dlc := 0#4, fdf := false, brs := false, esi := false, data := [] }, 0, by decide⟩,
    ⟨{ State.reset with regs := [(852036, 1#32), (856128, 1#32), (857096, 0x80000200#32)], cans := [(0, { fifo0 := [[], [], [], [], [], [], [], [], [], [], [], [], [], [], [], [], [], [], [], [], [], [], [], [], [], [], [], [], [], [], [], [], [], [], [], [], [], [], [], [], [], [], [], [], [], [], [], [], [], [], [], [], [], [], [], [], [], [], [], [], [], [], [], []] })] }, 0, { ident := 0#29, xtd := false, rtr := false, dlc := 0#4, fdf := false, brs := false, esi := false, data := [] }, 0, by decide⟩,
    ⟨{ State.reset with cans := [(0, { fifo0 := [[]] })] }, 0, by decide⟩,
    ⟨State.reset, 0, by decide⟩,
    ⟨{ State.reset with regs := [(853004, 0x1010000#32)], cans := [(0, { had := [3] })] }, 0, 3#7, by decide⟩,
    ⟨{ State.reset with pair := { own1 := true, own2 := true } }, 0, by decide⟩,
    ⟨{ State.reset with regs := [(852044, 0#32), (852036, 2#32)] }, 0, by decide⟩,
    ⟨{ State.reset with regs := [(856128, 1#32), (857088, 0xc0000000#32), (857096, 0x80000000#32)] }, 0, 0, by decide⟩,
    ⟨{ State.reset with regs := [(852036, 1#32)], pair := { own1 := true, own2 := true } }, 0, by decide⟩,
    ⟨State.reset, 0, by decide⟩,
    ⟨State.reset, 0, by decide⟩,
    ⟨{ State.reset with cans := [(1, { tec := 256 })] }, 1, by decide⟩,
    ⟨{ State.reset with cans := [(0, { busOff := true })] }, 0, by decide⟩,
    ⟨{ State.reset with cans := [(0, { busOff := true, lasting := true })] }, 0, by decide⟩⟩

theorem witness_DigitalChannels :
    (∃ (s : State), s.alive = false) ∧
    (∃ (s : State) (g : Fin 2), s.alive = true ∧ (∀ (c : Fin 16), ChMay s (16 + c.val) ∧ ChMay s (48 + c.val)) ∧ s.rbit Page.dio (if g = 0 then Reg.dio_FS_STAT else Reg.dio_FS_STAT1) 16 = (s.dioGroup g.val).fsLow) ∧
    (∃ (s : State) (c : Fin 16), s.alive = false ∨ s.dioMode c.val ≠ 1) ∧
    (∃ (s : State) (c d : Fin 16), s.alive = true ∧ s.dioMode c.val = 1 ∧ ChMay s (16 + c.val) ∧ d ≠ c) ∧
    (∃ (s : State) (c : Fin 16) (mv : Int) (h : Nat), s.alive = true ∧ s.dioMode c.val = 1 ∧ ChMay s (16 + c.val) ∧ ((!(s.dio c.val).written && decide (s.filtN c.val ≤ min 16 ((s.dio c.val).count + 1))) = true ∨ (decide ((if (if s.dioCfg c.val 2 1 = 1 then 11000 else 15000) ≤ mv then true else if mv ≤ 5000 then false else (s.dio c.val).prev) ≠ (s.dio c.val).filt) && decide (s.filtN c.val ≤ (s.dio c.val).run + 1)) = true ∧ (s.dio c.val).written = true) ∧ s.chHandle (16 + c.val) = some h) ∧
    (∃ (s : State) (c : Fin 16) (mv : Int), s.alive = true ∧ s.dioMode c.val = 1 ∧ ChMay s (16 + c.val) ∧ (!(s.dio c.val).written && decide (s.filtN c.val ≤ min 16 ((s.dio c.val).count + 1))) = false ∧ ((decide ((if (if s.dioCfg c.val 2 1 = 1 then 11000 else 15000) ≤ mv then true else if mv ≤ 5000 then false else (s.dio c.val).prev) ≠ (s.dio c.val).filt) && decide (s.filtN c.val ≤ (s.dio c.val).run + 1)) = false ∨ (s.dio c.val).written = false)) ∧
    (∃ (s : State) (c : Fin 16) (mv : Int), s.alive = true ∧ s.dioMode c.val = 1 ∧ ChMay s (16 + c.val) ∧ (decide ((if (if s.dioCfg c.val 2 1 = 1 then 11000 else 15000) ≤ mv then true else if mv ≤ 5000 then false else (s.dio c.val).prev) ≠ (s.dio c.val).filt) && decide (s.filtN c.val ≤ (s.dio c.val).run + 1)) = false) ∧
    (∃ (s : State) (c : Fin 16), s.alive = false ∨ s.dioMode c.val < 2) ∧
    (∃ (s : State) (c : Fin 16) (mv : Int) (h : Nat), s.alive = true ∧ 2 ≤ s.dioMode c.val ∧ ChMay s (48 + c.val) ∧ ((s.dio c.val).rbWritten = false ∨ (s.dio c.val).rb ≠ if 15000 < mv then 1 else if mv < 5000 then 0 else 2) ∧ s.chHandle (48 + c.val) = some h) ∧
    (∃ (s : State) (c : Fin 16) (mv : Int), s.alive = true ∧ 2 ≤ s.dioMode c.val ∧ ChMay s (48 + c.val) ∧ s.dioDrives c.val = true ∧ s.dioLevel c.val ≠ Level.high ∧ (s.dio c.val).pulse = false ∧ (if 15000 < mv then 1 else if mv < 5000 then 0 else 2) = 1) ∧
    (∃ (s : State) (c : Fin 16), s.alive = true ∧ 2 ≤ s.dioMode c.val ∧ ChMay s (48 + c.val) ∧ s.dioDrives c.val = true ∧ (s.dio c.val).tpShort = false ∧ s.dioLevel c.val = Level.high) ∧
    (∃ (s : State) (c : Fin 16), s.alive = true ∧ 2 ≤ s.dioMode c.val ∧ ChMay s (48 + c.val) ∧ s.dioDrives c.val = false) ∧
    (∃ (s : State) (c : Fin 16), s.dioDrives c.val = true ∧ ChMay s (48 + c.val) ∧ (s.dio c.val).pulse = false ∧ (s.dio c.val).rb ≠ 2 ∧ bit (s.reg Page.dio (Reg.dio_DIO_DIAG c.val)) 0 = false ∧ bit (s.reg Page.dio (Reg.dio_DIO_DIAG c.val)) (8 + 0) = false) ∧
    (∃ (s : State) (c : Fin 16), s.dioDrives c.val = true ∧ ChMay s (48 + c.val) ∧ (s.dio c.val).pulse = false ∧ (s.dio c.val).rb ≠ 2 ∧ bit (s.reg Page.dio (Reg.dio_DIO_DIAG c.val)) 0 = false ∧ s.rbit Page.dio Reg.dio_CAUSE_EN c.val = true) ∧
    (∃ (s : State) (c : Fin 16) (j : Fin 8), s.dioDrives c.val = true ∧ ChMay s (48 + c.val) ∧ (s.dio c.val).pulse = false ∧ (s.dio c.val).rb = 2 ∧ (s.dioLive c.val).testBit 4 = false ∧ s.soOn j.val = true ∧ s.soCfg j.val 0 4 = c.val ∧ (s.so j.val).st ≠ SoSt.lockout) ∧
    (∃ (s : State) (c : Fin 16), s.dioDrives c.val = true ∧ ChMay s (48 + c.val) ∧ bit (s.reg Page.dio (Reg.dio_DIO_DIAG c.val)) 1 = false ∧ bit (s.reg Page.dio (Reg.dio_DIO_DIAG c.val)) (8 + 1) = false) ∧
    (∃ (s : State) (c : Fin 16), s.dioDrives c.val = true ∧ ChMay s (48 + c.val) ∧ bit (s.reg Page.dio (Reg.dio_DIO_DIAG c.val)) 1 = false ∧ s.rbit Page.dio Reg.dio_CAUSE_EN c.val = true) ∧
    (∃ (s : State) (c : Fin 16) (j : Fin 8), s.dioDrives c.val = true ∧ ChMay s (48 + c.val) ∧ (s.dioLive c.val).testBit 1 = false ∧ s.soOn j.val = true ∧ s.soCfg j.val 0 4 = c.val ∧ (s.so j.val).st ≠ SoSt.lockout) ∧
    (∃ (s : State) (c : Fin 16), s.dioDrives c.val = true ∧ ChMay s (48 + c.val) ∧ s.dioCfg c.val 18 1 = 1 ∧ (s.dioLevel c.val = if s.dioMode c.val = 2 then Level.high else Level.off) ∧ bit (s.reg Page.dio (Reg.dio_DIO_DIAG c.val)) 3 = false ∧ bit (s.reg Page.dio (Reg.dio_DIO_DIAG c.val)) (8 + 3) = false) ∧
    (∃ (s : State) (c : Fin 16), s.dioDrives c.val = true ∧ ChMay s (48 + c.val) ∧ s.dioCfg c.val 18 1 = 1 ∧ (s.dioLevel c.val = if s.dioMode c.val = 2 then Level.high else Level.off) ∧ bit (s.reg Page.dio (Reg.dio_DIO_DIAG c.val)) 3 = false ∧ s.rbit Page.dio Reg.dio_CAUSE_EN c.val = true) ∧
    (∃ (s : State) (c : Fin 16), s.dioDrives c.val = true ∧ ChMay s (48 + c.val) ∧ bit (s.reg Page.dio (Reg.dio_DIO_DIAG c.val)) 5 = false ∧ bit (s.reg Page.dio (Reg.dio_DIO_DIAG c.val)) (8 + 5) = false) ∧
    (∃ (s : State) (c : Fin 16), s.dioDrives c.val = true ∧ ChMay s (48 + c.val) ∧ bit (s.reg Page.dio (Reg.dio_DIO_DIAG c.val)) 5 = false ∧ s.rbit Page.dio Reg.dio_CAUSE_EN c.val = true) ∧
    (∃ (s : State) (c : Fin 16) (j : Fin 8), s.dioDrives c.val = true ∧ ChMay s (48 + c.val) ∧ (s.dioLive c.val).testBit 5 = false ∧ s.soOn j.val = true ∧ s.soCfg j.val 0 4 = c.val ∧ (s.so j.val).st ≠ SoSt.lockout) ∧
    (∃ (s : State) (g : Fin 2) (c d : Fin 16), c.val / 8 = g.val ∧ s.dioDrives c.val = true ∧ (∀ (d : Fin 16), ChMay s (48 + d.val)) ∧ d.val / 8 ≠ g.val) ∧
    (∃ (s : State) (c : Fin 16), (s.dio c.val).held = false) ∧
    (∃ (s : State) (c d : Fin 16), (s.dio c.val).held = true ∧ ChMay s (48 + c.val) ∧ d ≠ c) ∧
    (∃ (s : State) (c d : Fin 16), s.dioDrives c.val = true ∧ s.tpEn c.val = true ∧ s.dioLevel c.val = Level.high ∧ s.ruleOn c.val = none ∧ d ≠ c) ∧
    (∃ (s : State) (c : Fin 16), s.dioDrives c.val = false ∨ s.tpEn c.val = false ∨ s.dioLevel c.val ≠ Level.high) ∧
    (∃ (s : State) (c : Fin 16) (k : Fin 8), (s.dio c.val).pulse = true ∧ ChMay s (48 + c.val) ∧ s.siOn k.val = true ∧ s.siCfg k.val 2 1 = 1 ∧ (s.si k.val).st ≠ SiSt.fault ∧ s.siCfg k.val 4 4 = c.val ∧ (s.dio k.val).rawOff = false) ∧
    (∃ (s : State) (c : Fin 16) (k : Fin 8), (s.dio c.val).pulse = true ∧ ChMay s (48 + c.val) ∧ s.siOn k.val = true ∧ s.siCfg k.val 2 1 = 1 ∧ (s.si k.val).st ≠ SiSt.fault ∧ s.siCfg k.val 8 4 = c.val ∧ (s.dio (k.val + 8)).rawOff = false ∧ (s.siCfg k.val 4 4 ≠ c.val ∨ (s.dio k.val).rawOff = true)) :=
  ⟨⟨{ State.reset with pair := { role := .failed } }, by decide⟩,
    ⟨State.reset, 0, by decide⟩,
    ⟨State.reset, 0, by decide⟩,
    ⟨{ State.reset with regs := [(917632, 1#32)] }, 0, 9, by decide⟩,
    ⟨{ State.reset with regs := [(917632, 1#32)], proj := { chHandle := [(16, (some 0))] } }, 0, 0, 0, by decide⟩,
    ⟨{ State.reset with regs := [(917640, 1#32)], dios := [(2, { written := true })] }, 2, 0, by decide⟩,
    ⟨{ State.reset with regs := [(917632, 1#32)] }, 0, 0, by decide⟩,
    ⟨State.reset, 0, by decide⟩,
    ⟨{ State.reset with regs := [(917632, 2#32)], proj := { chHandle := [(48, (some 0))] } }, 0, 0, 0, by decide⟩,
    ⟨{ State.reset with regs := [(917632, 2#32)], pair := { own1 := true, own2 := true, driveEn := true } }, 0, 15001, by decide⟩,
    ⟨{ State.reset with regs := [(917632, 2#32)], forme := [(1900, { value := 1#32 })], proj := { chHandle := [(16, (some 1900))] }, pair := { own1 := true, own2 := true, driveEn := true } }, 0, by decide⟩,
    ⟨{ State.reset with regs := [(917632, 2#32)] }, 0, by decide⟩,
    ⟨{ State.reset with regs := [(917632, 2#32)], pair := { own1 := true, own2 := true, driveEn := true } }, 0, by decide⟩,
    ⟨{ State.reset with regs := [(917584, 1#32), (917632, 2#32)], pair := { own1 := true, own2 := true, driveEn := true } }, 0, by decide⟩,
    ⟨{ State.reset with regs := [(983232, 0x80000000#32), (983108, 1#32), (917632, 2#32)], pair := { own1 := true, own2 := true, driveEn := true }, dios := [(0, { rb := 2 })] }, 0, 0, by decide⟩,
    ⟨{ State.reset with regs := [(917632, 2#32)], pair := { own1 := true, own2 := true, driveEn := true } }, 0, by decide⟩,
    ⟨{ State.reset with regs := [(917584, 1#32), (917632, 2#32)], pair := { own1 := true, own2 := true, driveEn := true } }, 0, by decide⟩,
    ⟨{ State.reset with regs := [(983248, 0x80000000#32), (983108, 1#32), (917632, 2#32)], pair := { own1 := true, own2 := true, driveEn := true } }, 0, 4, by decide⟩,
    ⟨{ State.reset with regs := [(917632, 0x40003#32)], pair := { own1 := true, own2 := true, driveEn := true } }, 0, by decide⟩,
    ⟨{ State.reset with regs := [(917584, 1#32), (917632, 0x40002#32)], forme := [(1900, { value := 1#32 })], proj := { chHandle := [(16, (some 1900))] }, pair := { own1 := true, own2 := true, driveEn := true } }, 0, by decide⟩,
    ⟨{ State.reset with regs := [(917632, 2#32)], pair := { own1 := true, own2 := true, driveEn := true } }, 0, by decide⟩,
    ⟨{ State.reset with regs := [(917584, 1#32), (917632, 2#32)], pair := { own1 := true, own2 := true, driveEn := true } }, 0, by decide⟩,
    ⟨{ State.reset with regs := [(983236, 0x80000000#32), (983108, 1#32), (917632, 2#32)], pair := { own1 := true, own2 := true, driveEn := true } }, 0, 1, by decide⟩,
    ⟨{ State.reset with regs := [(917632, 2#32)], pair := { own1 := true, own2 := true, driveEn := true } }, 0, 0, 14, by decide⟩,
    ⟨State.reset, 0, by decide⟩,
    ⟨{ State.reset with dios := [(1, { held := true })] }, 1, 0, by decide⟩,
    ⟨{ State.reset with regs := [(917632, 0x80002#32)], forme := [(1900, { value := 1#32 })], proj := { chHandle := [(16, (some 1900))] }, pair := { own1 := true, own2 := true, driveEn := true } }, 0, 1, by decide⟩,
    ⟨State.reset, 0, by decide⟩,
    ⟨{ State.reset with regs := [(983184, 5#32), (983108, 1#32)], dios := [(0, { pulse := true })] }, 0, 4, by decide⟩,
    ⟨{ State.reset with regs := [(983184, 5#32), (983108, 1#32)], dios := [(4, { rawOff := true }), (0, { pulse := true })] }, 0, 4, by decide⟩⟩

theorem witness_AnalogueChannels :
    (∃ (s : State) (a : Fin 4), s.alive = false ∨ s.aioMode a.val = 0) ∧
    (∃ (s : State) (a : Fin 4), s.alive = true ∧ s.aioMode a.val ≠ 0 ∧ ChMay s (40 + a.val) ∧ s.aioMode a.val = 3 ∧ s.multidrop a.val = false) ∧
    (∃ (s : State) (a : Fin 4) (ua h : Nat), s.alive = true ∧ s.aioMode a.val ≠ 0 ∧ ChMay s (40 + a.val) ∧ s.chHandle (40 + a.val) = some h ∧ ∀ (l : Nat), (s.aio a.val).last = some l → 1 < ((↑ua : Int) - (↑l : Int)).natAbs) ∧
    (∃ (s : State) (a : Fin 4), (s.aioMode a.val = 1 ∨ s.aioMode a.val = 2) ∧ s.gateOpen = true ∧ bit (s.reg (Page.aio a.val) Reg.aio_AIO_DIAG) 0 = false ∧ bit (s.reg (Page.aio a.val) Reg.aio_AIO_DIAG) (8 + 0) = false) ∧
    (∃ (s : State) (a : Fin 4), (s.aioMode a.val = 1 ∨ s.aioMode a.val = 2) ∧ s.gateOpen = true ∧ bit (s.reg (Page.aio a.val) Reg.aio_AIO_DIAG) 0 = false ∧ (s.aioCfg a.val 8 1 == 1) = true) ∧
    (∃ (s : State) (a : Fin 4), (s.aioMode a.val = 1 ∨ s.aioMode a.val = 2) ∧ s.gateOpen = true ∧ bit (s.reg (Page.aio a.val) Reg.aio_AIO_DIAG) 1 = false ∧ bit (s.reg (Page.aio a.val) Reg.aio_AIO_DIAG) (8 + 1) = false) ∧
    (∃ (s : State) (a : Fin 4), (s.aioMode a.val = 1 ∨ s.aioMode a.val = 2) ∧ s.gateOpen = true ∧ bit (s.reg (Page.aio a.val) Reg.aio_AIO_DIAG) 1 = false ∧ (s.aioCfg a.val 8 1 == 1) = true) ∧
    (∃ (s : State), s.gateOpen = false) ∧
    (∃ (s : State) (a : Fin 4), BitVec.toNat (s.reg (Page.aio a.val) Reg.aio_AIO_MEAS) < 3500) ∧
    (∃ (s : State) (a : Fin 4), 3500 ≤ BitVec.toNat (s.reg (Page.aio a.val) Reg.aio_AIO_MEAS) ∧ s.aioMode a.val = 1) ∧
    (∃ (s : State) (a : Fin 4), 3500 ≤ BitVec.toNat (s.reg (Page.aio a.val) Reg.aio_AIO_MEAS) ∧ s.aioMode a.val = 2) ∧
    (∃ (s : State) (a : Fin 4), s.alive = false ∨ s.aioCfg a.val 6 1 = 0) ∧
    (∃ (s : State) (a : Fin 4) (i : Nat) (vals : List Word) (k : Nat), s.alive = true ∧ s.aioCfg a.val 6 1 = 1 ∧ i < s.pollLen a.val ∧ (∀ (k : Fin 5), s.inMay (s.pollHandle a.val i + k.val) = true) ∧ vals.length = 5 ∧ k < 5) ∧
    (∃ (s : State) (a : Fin 4) (f : List Byte) (w : Nat), s.alive = true ∧ s.aioCfg a.val 6 1 = 1 ∧ f.length < 255 ∧ (s.aio a.val).reqRun = true ∧ w < 64) ∧
    (∃ (s : State) (a : Fin 4) (f : List Byte), s.alive = true ∧ s.aioCfg a.val 6 1 = 1 ∧ 255 ≤ f.length) ∧
    (∃ (s : State) (a : Fin 4) (k : Nat), s.alive = true ∧ s.aioCfg a.val 6 1 = 1 ∧ (s.aio a.val).reqRun = false ∧ (s.aio a.val).turn < s.pollLen a.val ∧ (∀ (k : Fin 5), s.inMay (s.pollHandle a.val (s.aio a.val).turn + k.val) = true) ∧ ((s.aio a.val).dev (s.aio a.val).turn).miss = 2 ∧ k < 5) ∧
    (∃ (s : State) (a : Fin 4), s.alive = true ∧ s.aioCfg a.val 6 1 = 1 ∧ (s.aio a.val).reqRun = false ∧ (s.aio a.val).turn < s.pollLen a.val ∧ (∀ (k : Fin 5), s.inMay (s.pollHandle a.val (s.aio a.val).turn + k.val) = true) ∧ ((s.aio a.val).dev (s.aio a.val).turn).miss ≠ 2) ∧
    (∃ (s : State) (a : Fin 4) (p : Priv), p ≠ Priv.p2 ∧ s.fld (Page.aio a.val) (Reg.aio_HART_REQ 0) 0 8 = 255) ∧
    (∃ (s : State) (a : Fin 4) (p : Priv), p ≠ Priv.p2 ∧ s.fld (Page.aio a.val) (Reg.aio_HART_REQ 0) 0 8 ≠ 255 ∧ s.pollLen a.val ≠ 0) ∧
    (∃ (s : State) (a : Fin 4) (p : Priv), p ≠ Priv.p2 ∧ s.fld (Page.aio a.val) (Reg.aio_HART_REQ 0) 0 8 ≠ 255 ∧ s.pollLen a.val = 0 ∧ (s.aio a.val).reqRun = false) :=
  ⟨⟨State.reset, 0, by decide⟩,
    ⟨{ State.reset with regs := [(921664, 3#32)] }, 0, by decide⟩,
    ⟨{ State.reset with regs := [(921664, 2#32)], proj := { chHandle := [(40, (some 0))] } }, 0, 0, 0, by decide⟩,
    ⟨{ State.reset with regs := [(921664, 2#32)], pair := { own1 := true, own2 := true, driveEn := true } }, 0, by decide⟩,
    ⟨{ State.reset with regs := [(921664, 0x102#32)], pair := { own1 := true, own2 := true, driveEn := true } }, 0, by decide⟩,
    ⟨{ State.reset with regs := [(921664, 2#32)], pair := { own1 := true, own2 := true, driveEn := true } }, 0, by decide⟩,
    ⟨{ State.reset with regs := [(921664, 0x102#32)], pair := { own1 := true, own2 := true, driveEn := true } }, 0, by decide⟩,
    ⟨State.reset, by decide⟩,
    ⟨State.reset, 0, by decide⟩,
    ⟨{ State.reset with regs := [(921664, 1#32), (921680, 0xdac#32)] }, 0, by decide⟩,
    ⟨{ State.reset with regs := [(921664, 2#32), (921680, 0xdac#32)] }, 0, by decide⟩,
    ⟨State.reset, 0, by decide⟩,
    ⟨{ State.reset with regs := [(921664, 0x40#32), (921736, 1#32)] }, 0, 0, [0#32, 0#32, 0#32, 0#32, 0#32], 0, by decide⟩,
    ⟨{ State.reset with regs := [(921664, 0x40#32)], aios := [(0, { reqRun := true })] }, 0, [], 0, by decide⟩,
    ⟨{ State.reset with regs := [(921664, 0x40#32)] }, 0, [0#8, 0#8, 0#8, 0#8, 0#8, 0#8, 0#8, 0#8, 0#8, 0#8, 0#8, 0#8, 0#8, 0#8, 0#8, 0#8, 0#8, 0#8, 0#8, 0#8, 0#8, 0#8, 0#8, 0#8, 0#8, 0#8, 0#8, 0#8, 0#8, 0#8, 0#8, 0#8, 0#8, 0#8, 0#8, 0#8, 0#8, 0#8, 0#8, 0#8, 0#8, 0#8, 0#8, 0#8, 0#8, 0#8, 0#8, 0#8, 0#8, 0#8, 0#8, 0#8, 0#8, 0#8, 0#8, 0#8, 0#8, 0#8, 0#8, 0#8, 0#8, 0#8, 0#8, 0#8, 0#8, 0#8, 0#8, 0#8, 0#8, 0#8, 0#8, 0#8, 0#8, 0#8, 0#8, 0#8, 0#8, 0#8, 0#8, 7#8, 7#8, 7#8, 7#8, 7#8, 7#8, 7#8, 7#8, 7#8, 7#8, 7#8, 7#8, 7#8, 7#8, 7#8, 7#8, 7#8, 7#8, 7#8, 7#8, 7#8, 7#8, 7#8, 7#8, 7#8, 7#8, 7#8, 7#8, 7#8, 7#8, 7#8, 7#8, 7#8, 7#8, 7#8, 7#8, 7#8, 7#8, 7#8, 7#8, 7#8, 7#8, 7#8, 7#8, 7#8, 7#8, 7#8, 7#8, 7#8, 7#8, 7#8, 7#8, 7#8, 7#8, 7#8, 7#8, 7#8, 7#8, 7#8, 7#8, 7#8, 7#8, 7#8, 7#8, 7#8, 7#8, 7#8, 7#8, 7#8, 7#8, 7#8, 7#8, 7#8, 7#8, 7#8, 7#8, 7#8, 7#8, 7#8, 7#8, 7#8, 7#8, 7#8, 7#8, 7#8, 7#8, 7#8, 7#8, 7#8, 7#8, 7#8, 7#8, 7#8, 7#8, 7#8, 7#8, 7#8, 7#8, 7#8, 7#8, 7#8, 7#8, 7#8, 7#8, 7#8, 7#8, 7#8, 7#8, 7#8, 7#8, 7#8, 7#8, 7#8, 7#8, 0#8, 0#8, 0#8, 0#8, 0#8, 0#8, 0#8, 0#8, 0#8, 0#8, 0#8, 0#8, 0#8, 0#8, 0#8, 0#8, 0#8, 0#8, 0#8, 0#8, 0#8, 0#8, 0#8, 0#8, 0#8, 0#8, 0#8, 0#8, 0#8, 0#8, 0#8, 0#8, 0#8, 0#8, 0#8, 0#8, 0#8, 0#8, 0#8, 0#8, 0#8, 0#8, 0#8, 0#8, 0#8, 0#8, 9#8, 9#8, 9#8, 9#8, 9#8, 9#8, 9#8, 9#8, 9#8, 9#8, 9#8, 9#8, 9#8, 9#8, 9#8, 9#8], by decide⟩,
    ⟨{ State.reset with regs := [(921664, 0x40#32), (921736, 1#32)], aios := [(0, { devs := [(0, { miss := 2 })] })] }, 0, 0, by decide⟩,
    ⟨{ State.reset with regs := [(921664, 0x40#32), (921736, 1#32)] }, 0, by decide⟩,
    ⟨{ State.reset with regs := [(934144, 0xff#32)] }, 3, .p1, by decide⟩,
    ⟨{ State.reset with regs := [(921736, 1#32)] }, 0, .p1, by decide⟩,
    ⟨State.reset, 0, .p1, by decide⟩⟩

theorem witness_ReflexTable :
    (∃ (s : State), s.alive = false) ∧
    (∃ (s : State) (r : Fin 64), s.alive = true ∧ (∀ (c : Fin 16), ChMay s (48 + c.val)) ∧ s.ruleFires s.rfxIn r.val = true ∧ bit s.rfxAct r.val = false ∧ bit (s.rule r.val 5) 8 = true) ∧
    (∃ (s : State) (r : Fin 64) (c : Fin 16), s.alive = true ∧ (∀ (c : Fin 16), ChMay s (48 + c.val)) ∧ bit (s.rule r.val 4) c.val = true ∧ 2 ≤ s.dioMode c.val ∧ s.gateOpen = true ∧ s.safeHolds c.val = false ∧ (s.dio c.val).held = false) ∧
    (∃ (s : State) (m : BitVec 64) (r : Fin 64), (∀ (c : Fin 16), ChMay s (48 + c.val)) ∧ bit m r.val = true ∧ bit s.rfxAct r.val = true ∧ bit (s.rule r.val 5) 8 = true ∧ s.ruleFires s.rfxIn r.val = true) ∧
    (∃ (p : Priv), p ≠ Priv.p2) ∧
    (∃ (s : State), s.locked Page.rfx = false ∧ ∀ (r : Fin 64), s.ruleOk r.val = true) ∧
    (∃ (s : State) (r : Fin 64), s.locked Page.rfx = false ∧ s.ruleOk r.val = false ∧ ∀ (q : Fin 64), q < r → s.ruleOk q.val = true) ∧
    (∃ (s : State), s.locked Page.rfx = false ∧ ∀ (c : Fin 16), ChMay s (48 + c.val)) ∧
    (∃ (s : State), s.locked Page.rfx = true) :=
  ⟨⟨{ State.reset with pair := { role := .failed } }, by decide⟩,
    ⟨{ State.reset with regs := [(938048, 1#32), (940052, 0x80000100#32)] }, 0, by decide⟩,
    ⟨{ State.reset with regs := [(917632, 2#32), (940048, 1#32)], pair := { own1 := true, own2 := true, driveEn := true } }, 0, 0, by decide⟩,
    ⟨{ State.reset with regs := [(938048, 1#32), (940052, 0x80000100#32)], rfxAct := 1#64 }, 1#64, 0, by decide⟩,
    ⟨.p0, by decide⟩,
    ⟨State.reset, by decide⟩,
    ⟨{ State.reset with regs := [(940052, 0x80000000#32)] }, 0, by decide⟩,
    ⟨State.reset, by decide⟩,
    ⟨{ State.reset with regs := [(938016, 1#32)] }, by decide⟩⟩

theorem witness_SafetyFunctions :
    (∃ (s : State) (k i : Fin 8), s.siOn k.val = true ∧ (s.si k.val).st = SiSt.discrepant ∧ i ≠ k) ∧
    (∃ (s : State) (k j : Fin 8), s.siOn k.val = true ∧ (s.si k.val).st = SiSt.discrepant ∧ s.soOn j.val = true ∧ (s.soCfg j.val 8 8).testBit k.val = true ∧ (s.so j.val).st ≠ SoSt.lockout) ∧
    (∃ (s : State) (k : Fin 8), s.siOn k.val = false ∨ (s.si k.val).st ≠ SiSt.discrepant) ∧
    (∃ (s : State) (j : Fin 8), s.safeEn = true ∧ s.bell.mode = Mode.run ∧ s.soOn j.val = true ∧ (s.so j.val).st ≠ SoSt.lockout) ∧
    (∃ (s : State), s.safeEn = false ∨ s.bell.mode ≠ Mode.run) ∧
    (∃ (s : State) (mv : Int) (j : Fin 8), mv ≤ 5000 ∧ SrstFalls s ∧ s.safe.winOpen = true ∧ 100 ≤ s.safe.highMs + 1 ∧ s.safe.highMs + 1 < 5000 ∧ s.soOn j.val = true ∧ s.soEntry j.val = true ∧ ((s.so j.val).st = SoSt.tripped ∧ s.soCfg j.val 16 1 = 1 ∨ (s.so j.val).st = SoSt.lockout ∧ s.soFaultEnded j.val = true)) ∧
    (∃ (s : State) (mv : Int) (j : Fin 8), mv ≤ 5000 ∧ SrstFalls s ∧ s.safe.winOpen = true ∧ 100 ≤ s.safe.highMs + 1 ∧ s.safe.highMs + 1 < 5000 ∧ s.soOn j.val = true ∧ (s.so j.val).st = SoSt.lockout ∧ (s.soEntry j.val = false ∨ s.soFaultEnded j.val = false)) ∧
    (∃ (s : State) (mv : Int) (i : Fin 64), mv ≤ 5000 ∧ SrstFalls s ∧ s.safe.winOpen = true ∧ 100 ≤ s.safe.highMs + 1 ∧ s.safe.highMs + 1 < 5000 ∧ (s.pst i.val).st = PstSt.tripped ∧ (s.pst i.val).since = true) ∧
    (∃ (s : State) (mv : Int), mv ≤ 5000 ∧ SrstFalls s ∧ (s.safe.winOpen = false ∨ s.safe.highMs + 1 < 100 ∨ 5000 ≤ s.safe.highMs + 1)) ∧
    (∃ (s : State) (mv : Int), ¬(SrstFalls s ∧ (if 15000 ≤ mv then true else if mv ≤ 5000 then false else s.safe.raw) = false)) ∧
    (∃ (s : State), s.safe.high = true) ∧
    (∃ (s : State), s.safe.high = false) ∧
    (∃ (p : Priv), p ≠ Priv.p2) ∧
    (∃ (s : State) (j : Fin 8), s.locked Page.safe = false ∧ (∀ (k : Fin 8), s.siCfgOk k.val = true) ∧ (∀ (j : Fin 8), s.soCfgOk j.val = true) ∧ s.soCfg j.val 31 1 = 1 ∧ s.soCfg j.val 16 1 = 1 ∧ (s.so j.val).st = SoSt.disabled) ∧
    (∃ (s : State), s.locked Page.safe = false ∧ ((∃ (k : Fin 8), s.siCfgOk k.val = false) ∨ ∃ (j : Fin 8), s.soCfgOk j.val = false)) ∧
    (∃ (s : State), s.locked Page.safe = true) ∧
    (∃ (s : State) (j : Fin 8), s.soCfg j.val 31 1 = 1 ∧ (s.so j.val).st ≠ SoSt.ready) :=
  ⟨⟨{ State.reset with regs := [(983172, 1#32), (983108, 1#32)], sis := [(1, { st := .discrepant })] }, 1, 0, by decide⟩,
    ⟨{ State.reset with regs := [(983236, 0x80000200#32), (983172, 1#32), (983108, 1#32)], sis := [(1, { st := .discrepant })] }, 1, 1, by decide⟩,
    ⟨State.reset, 0, by decide⟩,
    ⟨{ State.reset with regs := [(983232, 0x80000000#32), (983108, 1#32)], bell := { mode := .run } }, 0, by decide⟩,
    ⟨State.reset, by decide⟩,
    ⟨{ State.reset with regs := [(983236, 0x80000000#32), (983108, 1#32)], bell := { mode := .run }, sos := [(1, { st := .lockout })], safe := { winOpen := true, run := 2, high := true, highMs := 99 } }, 0, 1, by decide⟩,
    ⟨{ State.reset with regs := [(983236, 0x80000000#32), (983108, 1#32)], sos := [(1, { st := .lockout })], safe := { winOpen := true, run := 2, high := true, highMs := 99 } }, 0, 1, by decide⟩,
    ⟨{ State.reset with safe := { winOpen := true, run := 2, high := true, highMs := 99 }, psts := [(33, { st := .tripped, since := true })] }, 0, 33, by decide⟩,
    ⟨{ State.reset with safe := { run := 2, high := true } }, 0, by decide⟩,
    ⟨State.reset, 0, by decide⟩,
    ⟨{ State.reset with safe := { high := true } }, by decide⟩,
    ⟨State.reset, by decide⟩,
    ⟨.p0, by decide⟩,
    ⟨{ State.reset with regs := [(917632, 0x80003#32), (983232, 0x80010000#32)], proj := { chHandle := [(16, (some 0))] } }, 0, by decide⟩,
    ⟨{ State.reset with regs := [(983172, 1#32)] }, by decide⟩,
    ⟨{ State.reset with regs := [(983072, 1#32)] }, by decide⟩,
    ⟨{ State.reset with regs := [(983232, 0x80000000#32)] }, 0, by decide⟩⟩

theorem witness_SafeTransport :
    (∃ (s : State), s.alive = false ∨ s.fab.lost = true) ∧
    (∃ (s : State) (b : List Byte), s.alive = true ∧ s.fab.lost = false ∧ (b.length ≠ 52 ∨ natBE (sliceB b 0 2) ≠ 257 ∨ unitLen b = 0 ∨ 32 < unitLen b)) ∧
    (∃ (s : State) (src : Nat) (b : List Byte) (i : BitVec 6) (c : PstCfg), PstNames s i c b ∧ ¬src ∈ c.srcB) ∧
    (∃ (s : State) (src : Nat) (b : List Byte) (i : BitVec 6) (c : PstCfg), PstNames s i c b ∧ src ∈ c.srcB ∧ BitVec.toNat (scrc c.key (List.take 48 b)) ≠ natBE (sliceB b 48 4)) ∧
    (∃ (s : State) (src : Nat) (b : List Byte) (i : BitVec 6) (c : PstCfg), PstNames s i c b ∧ src ∈ c.srcB ∧ BitVec.toNat (scrc c.key (List.take 48 b)) = natBE (sliceB b 48 4) ∧ (s.pst i.toNat).stale (unitEpoch b) (unitCyc b) = true) ∧
    (∃ (x : PstRt) (e c : Nat), x.last = some (e, c)) ∧
    (∃ (s : State) (src : Nat) (b : List Byte) (i : BitVec 6) (c : PstCfg), PstPasses s i c src b ∧ PstMay s i ∧ (s.pst i.toNat).copies = []) ∧
    (∃ (s : State) (src : Nat) (b : List Byte) (i : BitVec 6) (c : PstCfg) (y : PstCopy) (k : Nat), PstPasses s i c src b ∧ PstMay s i ∧ (s.pst i.toNat).copies = [y] ∧ sliceB y.bytes 4 10 = sliceB b 4 10 ∧ y.netB = false ∧ y.bytes = b ∧ (s.pst i.toNat).failA = false ∧ (s.pst i.toNat).failB = false ∧ (s.pst i.toNat).st ≠ PstSt.tripped ∧ k < (c.len + 3) / 4) ∧
    (∃ (s : State) (src : Nat) (b : List Byte) (i : BitVec 6) (c : PstCfg) (y : PstCopy) (d : BitVec 6), PstPasses s i c src b ∧ PstMay s i ∧ (s.pst i.toNat).copies = [y] ∧ sliceB y.bytes 4 10 = sliceB b 4 10 ∧ y.netB = false ∧ y.bytes = b ∧ (s.pst i.toNat).failA = false ∧ (s.pst i.toNat).failB = false ∧ (s.pst i.toNat).st ≠ PstSt.tripped ∧ d ≠ i) ∧
    (∃ (s : State) (src : Nat) (b : List Byte) (i : BitVec 6) (c : PstCfg) (y : PstCopy), PstPasses s i c src b ∧ PstMay s i ∧ (s.pst i.toNat).copies = [y] ∧ sliceB y.bytes 4 10 = sliceB b 4 10 ∧ y.netB = false ∧ List.take 52 y.bytes ≠ List.take 52 b ∧ (s.pst i.toNat).st ≠ PstSt.tripped ∧ (s.pst i.toNat).st ≠ PstSt.unused ∧ s.pair.role ≠ Role.standbySync ∧ s.pair.role ≠ Role.standbyUnsync) ∧
    (∃ (s : State) (src : Nat) (b : List Byte) (i : BitVec 6) (c : PstCfg) (y : PstCopy), PstPasses s i c src b ∧ PstMay s i ∧ (s.pst i.toNat).copies = [y] ∧ sliceB y.bytes 4 10 = sliceB b 4 10 ∧ y.netB = false ∧ List.take 52 y.bytes ≠ List.take 52 b ∧ (s.pst i.toNat).st ≠ PstSt.tripped ∧ (s.pst i.toNat).st ≠ PstSt.unused ∧ s.pair.role = Role.standbySync) ∧
    (∃ (s : State) (src : Nat) (b : List Byte) (i : BitVec 6) (c : PstCfg) (y : PstCopy) (c_1 : PstCfg) (k : Nat), PstPasses s i c src b ∧ PstMay s i ∧ (s.pst i.toNat).copies = [y] ∧ sliceB y.bytes 4 10 = sliceB b 4 10 ∧ y.netB = false ∧ List.take 52 y.bytes ≠ List.take 52 b ∧ (s.pst i.toNat).st ≠ PstSt.tripped ∧ (s.pst i.toNat).st ≠ PstSt.unused ∧ s.pstConn i.toNat = some c_1 ∧ k < (c_1.len + 3) / 4) ∧
    (∃ (s : State) (src : Nat) (b : List Byte) (i : BitVec 6) (c : PstCfg) (y : PstCopy) (j : Fin 8), PstPasses s i c src b ∧ PstMay s i ∧ (s.pst i.toNat).copies = [y] ∧ sliceB y.bytes 4 10 = sliceB b 4 10 ∧ y.netB = false ∧ List.take 52 y.bytes ≠ List.take 52 b ∧ (s.pst i.toNat).st ≠ PstSt.tripped ∧ (s.pst i.toNat).st ≠ PstSt.unused ∧ s.soOn j.val = true ∧ (s.so j.val).st = SoSt.ready ∧ i.toNat ∈ s.soPst j.val) ∧
    (∃ (s : State) (src : Nat) (b : List Byte) (i : BitVec 6) (c : PstCfg) (y : PstCopy) (d : BitVec 6), PstPasses s i c src b ∧ PstMay s i ∧ (s.pst i.toNat).copies = [y] ∧ sliceB y.bytes 4 10 = sliceB b 4 10 ∧ y.netB = false ∧ List.take 52 y.bytes ≠ List.take 52 b ∧ (s.pst i.toNat).st ≠ PstSt.tripped ∧ (s.pst i.toNat).st ≠ PstSt.unused ∧ d ≠ i) ∧
    (∃ (s : State) (src : Nat) (b : List Byte) (i : BitVec 6) (c : PstCfg) (y : PstCopy), PstPasses s i c src b ∧ PstMay s i ∧ (s.pst i.toNat).copies = [y] ∧ sliceB y.bytes 4 10 = sliceB b 4 10 ∧ y.netB = false ∧ y.bytes = b ∧ (s.pst i.toNat).st = PstSt.tripped) ∧
    (∃ (s : State) (i : BitVec 6) (c : PstCfg) (y : PstCopy) (l : List PstCopy), (s.pst i.toNat).copies = y :: l ∧ s.pstConn i.toNat = some c ∧ s.alive = true ∧ PstMay s i ∧ c.tolerant = false) ∧
    (∃ (s : State) (i : BitVec 6) (c : PstCfg) (y : PstCopy) (l : List PstCopy), (s.pst i.toNat).copies = y :: l ∧ s.pstConn i.toNat = some c ∧ s.alive = true ∧ PstMay s i ∧ c.tolerant = true ∧ (s.pst i.toNat).st ≠ PstSt.tripped ∧ (s.pst i.toNat).st ≠ PstSt.degraded) ∧
    (∃ (s : State) (i : BitVec 6) (c : PstCfg) (y : PstCopy) (l : List PstCopy) (k : Nat), (s.pst i.toNat).copies = y :: l ∧ s.pstConn i.toNat = some c ∧ s.alive = true ∧ PstMay s i ∧ c.tolerant = true ∧ (s.pst i.toNat).st ≠ PstSt.tripped ∧ k < (c.len + 3) / 4) ∧
    (∃ (s : State) (i : BitVec 6), s.alive = true ∧ PstMay s i ∧ ((s.pst i.toNat).st = PstSt.running ∨ (s.pst i.toNat).st = PstSt.degraded) ∧ s.pair.role ≠ Role.standbySync ∧ s.pair.role ≠ Role.standbyUnsync) ∧
    (∃ (s : State) (i : BitVec 6), s.alive = true ∧ PstMay s i ∧ ((s.pst i.toNat).st = PstSt.running ∨ (s.pst i.toNat).st = PstSt.degraded) ∧ s.pair.role = Role.standbySync) ∧
    (∃ (s : State) (i : BitVec 6) (c : PstCfg) (k : Nat), s.alive = true ∧ PstMay s i ∧ ((s.pst i.toNat).st = PstSt.running ∨ (s.pst i.toNat).st = PstSt.degraded) ∧ s.pstConn i.toNat = some c ∧ k < (c.len + 3) / 4) ∧
    (∃ (s : State) (i : BitVec 6) (j : Fin 8), s.alive = true ∧ PstMay s i ∧ ((s.pst i.toNat).st = PstSt.running ∨ (s.pst i.toNat).st = PstSt.degraded) ∧ s.soOn j.val = true ∧ (s.so j.val).st = SoSt.ready ∧ i.toNat ∈ s.soPst j.val) ∧
    (∃ (s : State) (i d : BitVec 6), s.alive = true ∧ PstMay s i ∧ ((s.pst i.toNat).st = PstSt.running ∨ (s.pst i.toNat).st = PstSt.degraded) ∧ d ≠ i) ∧
    (∃ (s : State) (i : BitVec 6), s.alive = true ∧ PstMay s i ∧ (s.pst i.toNat).st = PstSt.degraded ∧ s.pair.role ≠ Role.standbySync ∧ s.pair.role ≠ Role.standbyUnsync) ∧
    (∃ (s : State) (i : BitVec 6), s.alive = true ∧ PstMay s i ∧ (s.pst i.toNat).st = PstSt.degraded ∧ s.pair.role = Role.standbySync) ∧
    (∃ (s : State) (i : BitVec 6) (c : PstCfg) (k : Nat), s.alive = true ∧ PstMay s i ∧ (s.pst i.toNat).st = PstSt.degraded ∧ s.pstConn i.toNat = some c ∧ k < (c.len + 3) / 4) ∧
    (∃ (s : State) (i : BitVec 6) (j : Fin 8), s.alive = true ∧ PstMay s i ∧ (s.pst i.toNat).st = PstSt.degraded ∧ s.soOn j.val = true ∧ (s.so j.val).st = SoSt.ready ∧ i.toNat ∈ s.soPst j.val) ∧
    (∃ (s : State) (i d : BitVec 6), s.alive = true ∧ PstMay s i ∧ (s.pst i.toNat).st = PstSt.degraded ∧ d ≠ i) ∧
    (∃ (s : State) (i : BitVec 6), (s.pst i.toNat).st ≠ PstSt.degraded ∧ (s.pst i.toNat).st ≠ PstSt.running) :=
  ⟨⟨{ State.reset with pair := { role := .failed } }, by decide⟩,
    ⟨State.reset, [], by decide⟩,
    ⟨{ State.reset with pstCfg := [(0, (some { connId := 7#16, srcA := [3], srcB := [3], group := 0#48, len := 8, key := 0x1234#32, tolerant := true, tmo := 5, handle := 200 }))] }, 0, [1#8, 1#8, 0#8, 7#8, 0#8, 0#8, 0#8, 0#8, 0#8, 0#8, 0#8, 0#8, 0#8, 0#8, 8#8, 0#8, 0#8, 0#8, 0#8, 0#8, 0#8, 0#8, 0#8, 0#8, 0#8, 0#8, 0#8, 0#8, 0#8, 0#8, 0#8, 0#8, 0#8, 0#8, 0#8, 0#8, 0#8, 0#8, 0#8, 0#8, 0#8, 0#8, 0#8, 0#8, 0#8, 0#8, 0#8, 0#8, 0#8, 0#8, 0#8, 0#8], 0#6, { connId := 7#16, srcA := [3], srcB := [3], group := 0#48, len := 8, key := 0x1234#32, tolerant := true, tmo := 5, handle := 200 }, by decide⟩,
    ⟨{ State.reset with pstCfg := [(0, (some { connId := 7#16, srcA := [3], srcB := [3], group := 0#48, len := 8, key := 0x1234#32, tolerant := false, tmo := 5, handle := 200 }))] }, 3, [1#8, 1#8, 0#8, 7#8, 0#8, 0#8, 0#8, 0#8, 0#8, 0#8, 0#8, 0#8, 0#8, 0#8, 8#8, 0#8, 0#8, 0#8, 0#8, 0#8, 0#8, 0#8, 0#8, 0#8, 0#8, 0#8, 0#8, 0#8, 0#8, 0#8, 0#8, 0#8, 0#8, 0#8, 0#8, 0#8, 0#8, 0#8, 0#8, 0#8, 0#8, 0#8, 0#8, 0#8, 0#8, 0#8, 0#8, 0#8, 0#8, 0#8, 0#8, 0#8], 0#6, { connId := 7#16, srcA := [3], srcB := [3], group := 0#48, len := 8, key := 0x1234#32, tolerant := false, tmo := 5, handle := 200 }, by decide⟩,
    ⟨{ State.reset with pstCfg := [(0, (some { connId := 7#16, srcA := [3], srcB := [3], group := 0#48, len := 8, key := 0x1234#32, tolerant := false, tmo := 5, handle := 200 }))], psts := [(0, { last := (some (3, 0)) })] }, 3, [1#8, 1#8, 0#8, 7#8, 0#8, 0#8, 0#8, 2#8, 0#8, 0#8, 0#8, 0#8, 0#8, 0x4d#8, 8#8, 0#8, 0#8, 0#8, 0#8, 0#8, 0#8, 0#8, 0#8, 0#8, 0#8, 0#8, 0#8, 0#8, 0#8, 0#8, 0#8, 0#8, 0#8, 0#8, 0#8, 0#8, 0#8, 0#8, 0#8, 0#8, 0#8, 0#8, 0#8, 0#8, 0#8, 0#8, 0#8, 0#8, 0x43#8, 0x4c#8, 0xcc#8, 0x60#8], 0#6, { connId := 7#16, srcA := [3], srcB := [3], group := 0#48, len := 8, key := 0x1234#32, tolerant := false, tmo := 5, handle := 200 }, by decide⟩,
    ⟨{ last := (some (0, 0)) }, 0, 0, by decide⟩,
    ⟨{ State.reset with pstCfg := [(0, (some { connId := 7#16, srcA := [3], srcB := [3], group := 0#48, len := 8, key := 0x1234#32, tolerant := false, tmo := 5, handle := 200 }))] }, 3, [1#8, 1#8, 0#8, 7#8, 0#8, 0#8, 0#8, 2#8, 0#8, 0#8, 0#8, 0#8, 0#8, 0x4d#8, 8#8, 1#8, 0#8, 0#8, 0#8, 0#8, 0#8, 0#8, 0#8, 0#8, 0#8, 0#8, 0#8, 0#8, 0#8, 0#8, 0#8, 0#8, 0#8, 0#8, 0#8, 0#8, 0#8, 0#8, 0#8, 0xe2#8, 0#8, 0#8, 0#8, 0#8, 0#8, 0#8, 0#8, 0#8, 0x57#8, 0xae#8, 0x2f#8, 0x48#8], 0#6, { connId := 7#16, srcA := [3], srcB := [3], group := 0#48, len := 8, key := 0x1234#32, tolerant := false, tmo := 5, handle := 200 }, by decide⟩,
    ⟨{ State.reset with pstCfg := [(0, (some { connId := 7#16, srcA := [3], srcB := [3], group := 0#48, len := 8, key := 0x1234#32, tolerant := true, tmo := 5, handle := 200 }))], psts := [(0, { copies := [{ netB := false, bytes := [1#8, 1#8, 0#8, 7#8, 0#8, 0#8, 0#8, 2#8, 0#8, 0#8, 0#8, 0#8, 0#8, 0x4d#8, 8#8, 0#8, 0#8, 0#8, 0#8, 0#8, 0#8, 0#8, 0#8, 0#8, 0#8, 0#8, 0#8, 0#8, 0#8, 0#8, 0#8, 0#8, 0#8, 0#8, 0#8, 0#8, 0#8, 0#8, 0#8, 0#8, 0#8, 0#8, 0#8, 0#8, 0#8, 0#8, 0#8, 0#8, 0x43#8, 0x4c#8, 0xcc#8, 0x60#8] }] })] }, 3, [1#8, 1#8, 0#8, 7#8, 0#8, 0#8, 0#8, 2#8, 0#8, 0#8, 0#8, 0#8, 0#8, 0x4d#8, 8#8, 0#8, 0#8, 0#8, 0#8, 0#8, 0#8, 0#8, 0#8, 0#8, 0#8, 0#8, 0#8, 0#8, 0#8, 0#8, 0#8, 0#8, 0#8, 0#8, 0#8, 0#8, 0#8, 0#8, 0#8, 0#8, 0#8, 0#8, 0#8, 0#8, 0#8, 0#8, 0#8, 0#8, 0x43#8, 0x4c#8, 0xcc#8, 0x60#8], 0#6, { connId := 7#16, srcA := [3], srcB := [3], group := 0#48, len := 8, key := 0x1234#32, tolerant := true, tmo := 5, handle := 200 }, { netB := false, bytes := [1#8, 1#8, 0#8, 7#8, 0#8, 0#8, 0#8, 2#8, 0#8, 0#8, 0#8, 0#8, 0#8, 0x4d#8, 8#8, 0#8, 0#8, 0#8, 0#8, 0#8, 0#8, 0#8, 0#8, 0#8, 0#8, 0#8, 0#8, 0#8, 0#8, 0#8, 0#8, 0#8, 0#8, 0#8, 0#8, 0#8, 0#8, 0#8, 0#8, 0#8, 0#8, 0#8, 0#8, 0#8, 0#8, 0#8, 0#8, 0#8, 0x43#8, 0x4c#8, 0xcc#8, 0x60#8] }, 0, by decide⟩,
    ⟨{ State.reset with pstCfg := [(0, (some { connId := 7#16, srcA := [3], srcB := [3], group := 0#48, len := 8, key := 0x1234#32, tolerant := true, tmo := 5, handle := 200 }))], psts := [(0, { copies := [{ netB := false, bytes := [1#8, 1#8, 0#8, 7#8, 0#8, 0#8, 0#8, 2#8, 0#8, 0#8, 0#8, 0#8, 0#8, 0x4d#8, 8#8, 1#8, 0#8, 0#8, 0#8, 0#8, 0#8, 0#8, 0#8, 0#8, 0#8, 0#8, 0#8, 0#8, 0#8, 0#8, 0#8, 0#8, 0#8, 0#8, 0#8, 0#8, 0#8, 0#8, 0#8, 0#8, 0#8, 0#8, 0#8, 0#8, 0#8, 0#8, 0#8, 0#8, 0x5b#8, 0x5f#8, 0xee#8, 0x12#8] }] })] }, 3, [1#8, 1#8, 0#8, 7#8, 0#8, 0#8, 0#8, 2#8, 0#8, 0#8, 0#8, 0#8, 0#8, 0x4d#8, 8#8, 1#8, 0#8, 0#8, 0#8, 0#8, 0#8, 0#8, 0#8, 0#8, 0#8, 0#8, 0#8, 0#8, 0#8, 0#8, 0#8, 0#8, 0#8, 0#8, 0#8, 0#8, 0#8, 0#8, 0#8, 0#8, 0#8, 0#8, 0#8, 0#8, 0#8, 0#8, 0#8, 0#8, 0x5b#8, 0x5f#8, 0xee#8, 0x12#8], 0#6, { connId := 7#16, srcA := [3], srcB := [3], group := 0#48, len := 8, key := 0x1234#32, tolerant := true, tmo := 5, handle := 200 }, { netB := false, bytes := [1#8, 1#8, 0#8, 7#8, 0#8, 0#8, 0#8, 2#8, 0#8, 0#8, 0#8, 0#8, 0#8, 0x4d#8, 8#8, 1#8, 0#8, 0#8, 0#8, 0#8, 0#8, 0#8, 0#8, 0#8, 0#8, 0#8, 0#8, 0#8, 0#8, 0#8, 0#8, 0#8, 0#8, 0#8, 0#8, 0#8, 0#8, 0#8, 0#8, 0#8, 0#8, 0#8, 0#8, 0#8, 0#8, 0#8, 0#8, 0#8, 0x5b#8, 0x5f#8, 0xee#8, 0x12#8] }, 2#6, by decide⟩,
    ⟨{ State.reset with pstCfg := [(0, (some { connId := 7#16, srcA := [3], srcB := [3], group := 0#48, len := 8, key := 0x1234#32, tolerant := true, tmo := 5, handle := 200 }))], psts := [(0, { st := .running, copies := [{ netB := false, bytes := [0#8, 0#8, 0#8, 0#8, 0#8, 0#8, 0#8, 2#8, 0#8, 0#8, 0#8, 0#8, 0#8, 0x4d#8] }] })] }, 3, [1#8, 1#8, 0#8, 7#8, 0#8, 0#8, 0#8, 2#8, 0#8, 0#8, 0#8, 0#8, 0#8, 0x4d#8, 8#8, 0#8, 0#8, 0#8, 0#8, 0#8, 0#8, 0#8, 0#8, 0#8, 0#8, 0#8, 0#8, 0#8, 0#8, 1#8, 0#8, 0#8, 0#8, 0#8, 0#8, 0#8, 0#8, 0#8, 0#8, 0#8, 0#8, 0#8, 0#8, 0#8, 0x80#8, 3#8, 0#8, 0#8, 0xa1#8, 0xb9#8, 2#8, 0xad#8], 0#6, { connId := 7#16, srcA := [3], srcB := [3], group := 0#48, len := 8, key := 0x1234#32, tolerant := true, tmo := 5, handle := 200 }, { netB := false, bytes := [0#8, 0#8, 0#8, 0#8, 0#8, 0#8, 0#8, 2#8, 0#8, 0#8, 0#8, 0#8, 0#8, 0x4d#8] }, by decide⟩,
    ⟨{ State.reset with pair := { role := .standbySync }, pstCfg := [(0, (some { connId := 7#16, srcA := [3], srcB := [3], group := 0#48, len := 8, key := 0x1234#32, tolerant := true, tmo := 5, handle := 200 }))], psts := [(0, { st := .running, copies := [{ netB := false, bytes := [0#8, 0#8, 0#8, 0#8, 0#8, 0#8, 0#8, 2#8, 0#8, 0#8, 0#8, 0#8, 0#8, 0x4d#8] }] })] }, 3, [1#8, 1#8, 0#8, 7#8, 0#8, 0#8, 0#8, 2#8, 0#8, 0#8, 0#8, 0#8, 0#8, 0x4d#8, 8#8, 0#8, 0#8, 0#8, 0#8, 0#8, 0#8, 0#8, 0#8, 0#8, 0#8, 0#8, 0#8, 0#8, 0#8, 0#8, 0#8, 0#8, 0#8, 0#8, 0#8, 0#8, 0#8, 0#8, 0#8, 0#8, 0#8, 0#8, 0#8, 0#8, 0#8, 0#8, 0#8, 0#8, 0x43#8, 0x4c#8, 0xcc#8, 0x60#8], 0#6, { connId := 7#16, srcA := [3], srcB := [3], group := 0#48, len := 8, key := 0x1234#32, tolerant := true, tmo := 5, handle := 200 }, { netB := false, bytes := [0#8, 0#8, 0#8, 0#8, 0#8, 0#8, 0#8, 2#8, 0#8, 0#8, 0#8, 0#8, 0#8, 0x4d#8] }, by decide⟩,
    ⟨{ State.reset with pstCfg := [(0, (some { connId := 7#16, srcA := [3], srcB := [3], group := 0#48, len := 8, key := 0x1234#32, tolerant := false, tmo := 5, handle := 200 }))], psts := [(0, { st := .degraded, copies := [{ netB := false, bytes := [0#8, 0#8, 0#8, 0#8, 0#8, 0#8, 0#8, 2#8, 0#8, 0#8, 0#8, 0#8, 0#8, 0x4d#8] }] })] }, 3, [1#8, 1#8, 0#8, 7#8, 0#8, 0#8, 0#8, 2#8, 0#8, 0#8, 0#8, 0#8, 0#8, 0x4d#8, 8#8, 1#8, 0#8, 0#8, 0#8, 0#8, 0#8, 0#8, 0#8, 0#8, 0#8, 0#8, 0#8, 0#8, 0#8, 0#8, 0#8, 0#8, 0#8, 0#8, 0#8, 0#8, 0#8, 0#8, 0#8, 0#8, 0#8, 0#8, 0#8, 0#8, 0#8, 0#8, 0#8, 0#8, 0x5b#8, 0x5f#8, 0xee#8, 0x12#8], 0#6, { connId := 7#16, srcA := [3], srcB := [3], group := 0#48, len := 8, key := 0x1234#32, tolerant := false, tmo := 5, handle := 200 }, { netB := false, bytes := [0#8, 0#8, 0#8, 0#8, 0#8, 0#8, 0#8, 2#8, 0#8, 0#8, 0#8, 0#8, 0#8, 0x4d#8] }, { connId := 7#16, srcA := [3], srcB := [3], group := 0#48, len := 8, key := 0x1234#32, tolerant := false, tmo := 5, handle := 200 }, 0, by decide⟩,
    ⟨{ State.reset with regs := [(983296, 1#32), (983232, 0x80000000#32), (983108, 1#32)], sos := [(0, { st := .ready })], pstCfg := [(0, (some { connId := 7#16, srcA := [3], srcB := [3], group := 0#48, len := 8, key := 0x1234#32, tolerant := false, tmo := 5, handle := 200 }))], psts := [(0, { st := .degraded, copies := [{ netB := false, bytes := [0#8, 0#8, 0#8, 0#8, 0#8, 0#8, 0#8, 2#8, 0#8, 0#8, 0#8, 0#8, 0#8, 0x4d#8] }] })] }, 3, [1#8, 1#8, 0#8, 7#8, 0#8, 0#8, 0#8, 2#8, 0#8, 0#8, 0#8, 0#8, 0#8, 0x4d#8, 8#8, 1#8, 0#8, 0#8, 0#8, 0#8, 0#8, 0#8, 0#8, 0#8, 0#8, 0#8, 0#8, 0#8, 0#8, 0#8, 0#8, 0#8, 0#8, 0#8, 0#8, 0#8, 0#8, 0#8, 0#8, 0#8, 0#8, 0#8, 0#8, 0#8, 0#8, 0#8, 0#8, 0#8, 0x5b#8, 0x5f#8, 0xee#8, 0x12#8], 0#6, { connId := 7#16, srcA := [3], srcB := [3], group := 0#48, len := 8, key := 0x1234#32, tolerant := false, tmo := 5, handle := 200 }, { netB := false, bytes := [0#8, 0#8, 0#8, 0#8, 0#8, 0#8, 0#8, 2#8, 0#8, 0#8, 0#8, 0#8, 0#8, 0x4d#8] }, 0, by decide⟩,
    ⟨{ State.reset with pstCfg := [(0, (some { connId := 7#16, srcA := [3], srcB := [3], group := 0#48, len := 8, key := 0x1234#32, tolerant := false, tmo := 5, handle := 200 }))], psts := [(0, { st := .degraded, copies := [{ netB := false, bytes := [0#8, 0#8, 0#8, 0#8, 0#8, 0#8, 0#8, 2#8, 0#8, 0#8, 0#8, 0#8, 0#8, 0x4d#8] }] })] }, 3, [1#8, 1#8, 0#8, 7#8, 0#8, 0#8, 0#8, 2#8, 0#8, 0#8, 0#8, 0#8, 0#8, 0x4d#8, 8#8, 0#8, 0#8, 0#8, 0#8, 0#8, 0#8, 0#8, 0#8, 0#8, 0#8, 0#8, 0#8, 0#8, 0#8, 0#8, 0#8, 0#8, 0#8, 0#8, 0#8, 0#8, 0#8, 0#8, 0#8, 0#8, 0#8, 0#8, 0#8, 0#8, 0#8, 0#8, 0#8, 0#8, 0x43#8, 0x4c#8, 0xcc#8, 0x60#8], 0#6, { connId := 7#16, srcA := [3], srcB := [3], group := 0#48, len := 8, key := 0x1234#32, tolerant := false, tmo := 5, handle := 200 }, { netB := false, bytes := [0#8, 0#8, 0#8, 0#8, 0#8, 0#8, 0#8, 2#8, 0#8, 0#8, 0#8, 0#8, 0#8, 0x4d#8] }, 4#6, by decide⟩,
    ⟨{ State.reset with pstCfg := [(0, (some { connId := 7#16, srcA := [3], srcB := [3], group := 0#48, len := 8, key := 0x1234#32, tolerant := true, tmo := 5, handle := 200 }))], psts := [(0, { st := .tripped, copies := [{ netB := false, bytes := [1#8, 1#8, 0#8, 7#8, 0#8, 0#8, 0#8, 2#8, 0#8, 0#8, 0#8, 0#8, 0#8, 0x4d#8, 8#8, 0#8, 0#8, 0#8, 0#8, 0#8, 0#8, 0#8, 0#8, 0#8, 0#8, 0#8, 0#8, 0#8, 0#8, 0#8, 0#8, 0#8, 0#8, 0#8, 0#8, 0#8, 0#8, 0#8, 0#8, 0#8, 0#8, 0#8, 0#8, 0#8, 0#8, 0#8, 0#8, 0#8, 0x43#8, 0x4c#8, 0xcc#8, 0x60#8] }] })] }, 3, [1#8, 1#8, 0#8, 7#8, 0#8, 0#8, 0#8, 2#8, 0#8, 0#8, 0#8, 0#8, 0#8, 0x4d#8, 8#8, 0#8, 0#8, 0#8, 0#8, 0#8, 0#8, 0#8, 0#8, 0#8, 0#8, 0#8, 0#8, 0#8, 0#8, 0#8, 0#8, 0#8, 0#8, 0#8, 0#8, 0#8, 0#8, 0#8, 0#8, 0#8, 0#8, 0#8, 0#8, 0#8, 0#8, 0#8, 0#8, 0#8, 0x43#8, 0x4c#8, 0xcc#8, 0x60#8], 0#6, { connId := 7#16, srcA := [3], srcB := [3], group := 0#48, len := 8, key := 0x1234#32, tolerant := true, tmo := 5, handle := 200 }, { netB := false, bytes := [1#8, 1#8, 0#8, 7#8, 0#8, 0#8, 0#8, 2#8, 0#8, 0#8, 0#8, 0#8, 0#8, 0x4d#8, 8#8, 0#8, 0#8, 0#8, 0#8, 0#8, 0#8, 0#8, 0#8, 0#8, 0#8, 0#8, 0#8, 0#8, 0#8, 0#8, 0#8, 0#8, 0#8, 0#8, 0#8, 0#8, 0#8, 0#8, 0#8, 0#8, 0#8, 0#8, 0#8, 0#8, 0#8, 0#8, 0#8, 0#8, 0x43#8, 0x4c#8, 0xcc#8, 0x60#8] }, by decide⟩,
    ⟨{ State.reset with pstCfg := [(0, (some { connId := 0#16, srcA := [], srcB := [], group := 0#48, len := 0, key := 0#32, tolerant := false, tmo := 0, handle := 0 }))], psts := [(0, { copies := [{ netB := false, bytes := [] }] })] }, 0#6, { connId := 0#16, srcA := [], srcB := [], group := 0#48, len := 0, key := 0#32, tolerant := false, tmo := 0, handle := 0 }, { netB := false, bytes := [] }, [], by decide⟩,
    ⟨{ State.reset with pstCfg := [(0, (some { connId := 0#16, srcA := [], srcB := [], group := 0#48, len := 0, key := 0#32, tolerant := true, tmo := 0, handle := 0 }))], psts := [(0, { copies := [{ netB := false, bytes := [] }] })] }, 0#6, { connId := 0#16, srcA := [], srcB := [], group := 0#48, len := 0, key := 0#32, tolerant := true, tmo := 0, handle := 0 }, { netB := false, bytes := [] }, [], by decide⟩,
    ⟨{ State.reset with pstCfg := [(0, (some { connId := 0#16, srcA := [], srcB := [], group := 0#48, len := 1, key := 0#32, tolerant := true, tmo := 0, handle := 0 }))], psts := [(0, { copies := [{ netB := false, bytes := [] }] })] }, 0#6, { connId := 0#16, srcA := [], srcB := [], group := 0#48, len := 1, key := 0#32, tolerant := true, tmo := 0, handle := 0 }, { netB := false, bytes := [] }, [], 0, by decide⟩,
    ⟨{ State.reset with psts := [(0, { st := .running })] }, 0#6, by decide⟩,
    ⟨{ State.reset with pair := { role := .standbySync }, psts := [(0, { st := .running })] }, 0#6, by decide⟩,
    ⟨{ State.reset with pstCfg := [(0, (some { connId := 0#16, srcA := [], srcB := [], group := 0#48, len := 1, key := 0#32, tolerant := false, tmo := 0, handle := 0 }))], psts := [(0, { st := .running })] }, 0#6, { connId := 0#16, srcA := [], srcB := [], group := 0#48, len := 1, key := 0#32, tolerant := false, tmo := 0, handle := 0 }, 0, by decide⟩,
    ⟨{ State.reset with regs := [(983108, 1#32), (983232, 0x80000000#32), (983296, 1#32)], sos := [(0, { st := .ready })], psts := [(0, { st := .running })] }, 0#6, 0, by decide⟩,
    ⟨{ State.reset with psts := [(0, { st := .running })] }, 0#6, 0x10#6, by decide⟩,
    ⟨{ State.reset with psts := [(0, { st := .degraded })] }, 0#6, by decide⟩,
    ⟨{ State.reset with pair := { role := .standbySync }, psts := [(0, { st := .degraded })] }, 0#6, by decide⟩,
    ⟨{ State.reset with pstCfg := [(0, (some { connId := 0#16, srcA := [], srcB := [], group := 0#48, len := 1, key := 0#32, tolerant := false, tmo := 0, handle := 0 }))], psts := [(0, { st := .degraded })] }, 0#6, { connId := 0#16, srcA := [], srcB := [], group := 0#48, len := 1, key := 0#32, tolerant := false, tmo := 0, handle := 0 }, 0, by decide⟩,
    ⟨{ State.reset with regs := [(983108, 1#32), (983232, 0x80000000#32), (983296, 1#32)], sos := [(0, { st := .ready })], psts := [(0, { st := .degraded })] }, 0#6, 0, by decide⟩,
    ⟨{ State.reset with psts := [(0, { st := .degraded })] }, 0#6, 0x10#6, by decide⟩,
    ⟨State.reset, 0#6, by decide⟩⟩

theorem witness_EventJournal :
    (∃ (s : State), s.jrn.paused = true ∨ s.jrn.full = true) ∧
    (∃ (s : State) (r : JRec) (rs : List JRec) (a : Nat), s.jrn.paused = false ∧ s.jrn.full = false ∧ s.jrn.waiting = none ∧ s.jrnHead + 2 < jrnSlots ∧ SlotMay s s.jrnHead ∧ s.jrn.cur = r :: rs ∧ (a < jrnAddr s.jrnHead ∨ jrnAddr (s.jrnHead + 1) ≤ a)) ∧
    (∃ (s : State) (r : JRec) (q : Nat) (rs : List JRec) (a : Nat), s.jrn.paused = false ∧ s.jrn.full = false ∧ s.jrn.waiting = none ∧ s.jrnHead + 2 < jrnSlots ∧ SlotMay s s.jrnHead ∧ s.jrn.cur = [] ∧ s.jrn.blocks = [] ∧ s.jrn.blockShed = 0 ∧ nextQueue s.jrn.queues s.jrn.turn = some q ∧ tget (fun (x : Nat) => []) s.jrn.queues q = r :: rs ∧ (a < jrnAddr s.jrnHead ∨ jrnAddr (s.jrnHead + 1) ≤ a)) ∧
    (∃ (s : State) (r : JRec) (q : Nat) (rs : List JRec) (k : Nat), s.jrn.paused = false ∧ s.jrn.full = false ∧ s.jrn.waiting = none ∧ s.jrnHead + 2 < jrnSlots ∧ SlotMay s s.jrnHead ∧ s.jrn.cur = [] ∧ s.jrn.blocks = [] ∧ s.jrn.blockShed = 0 ∧ nextQueue s.jrn.queues s.jrn.turn = some q ∧ tget (fun (x : Nat) => []) s.jrn.queues q = r :: rs ∧ k ≠ q) ∧
    (∃ (s : State) (r : JRec) (rs : List JRec), s.jrn.paused = false ∧ s.jrn.full = false ∧ s.jrn.waiting = none ∧ s.jrnHead + 2 = jrnSlots ∧ SlotMay s s.jrnHead ∧ SlotMay s (s.jrnHead + 1) ∧ s.jrn.cur = r :: rs) ∧
    (∃ (s : State) (r : JRec) (rs : List JRec), s.jrn.paused = false ∧ s.jrn.full = false ∧ s.jrn.waiting = none ∧ s.jrnHead + 2 < jrnSlots ∧ ¬SlotMay s s.jrnHead ∧ s.jrn.queues = [] ∧ s.jrn.cur = r :: rs) ∧
    (∃ (s : State), s.jrn.closed = false ∧ s.jrn.full = true) ∧
    (∃ (s : State) (r : JRec) (k : Nat), s.jrn.closed = false ∧ s.jrn.full = false ∧ rateLimited r = false ∧ (tget (fun (x : Nat) => []) s.jrn.queues (queueOf r.source)).length < 8 ∧ k ≠ queueOf r.source) ∧
    (∃ (s : State) (r : JRec), s.jrn.closed = false ∧ s.jrn.full = false ∧ rateLimited r = false ∧ 8 ≤ (tget (fun (x : Nat) => []) s.jrn.queues (queueOf r.source)).length) ∧
    (∃ (s : State) (r : JRec), s.jrn.closed = false ∧ s.jrn.full = false ∧ rateLimited r = true ∧ s.jrn.rateSec = s.tb.time.sec ∧ s.fld Page.jrn Reg.jrn_JRN_CFG 0 8 ≤ tget (fun (x : Nat) => 0) s.jrn.rate (BitVec.toNat r.source)) ∧
    (∃ (s : State) (src n : Nat), s.jrn.supp = [(src, n)] ∧ s.jrn.closed = false ∧ s.jrn.full = false ∧ (tget (fun (x : Nat) => []) s.jrn.queues 16).length < 8) ∧
    (∃ (s : State), s.jrn.supp = []) ∧
    (∃ (s : State), s.jrn.waiting ≠ none ∨ s.jrn.running ≠ none) ∧
    (∃ (s : State) (p : Priv), p ≠ Priv.p2 ∧ s.jrn.waiting = none ∧ s.jrn.running = none ∧ s.jrn.closed = false ∧ s.jrn.archives = [] ∧ s.jrnHead ≤ jrnSlots ∧ 32 * s.jrnHead ≤ s.nand.archiveRoom ∧ (∀ (a : Nat), jrnAddr 0 ≤ a → a < jrnAddr s.jrnHead → Sound s a) ∧ (JCmd.clear = JCmd.clear ∨ ∀ (i : Nat), i < s.jrnHead → (s.fixedMay 56 AccOp.read (jrnAddr i) 32).snd = true) ∧ s.jrn.cur ≠ []) ∧
    (∃ (s : State) (p : Priv), p ≠ Priv.p2 ∧ s.jrn.waiting = none ∧ s.jrn.running = none ∧ s.jrn.closed = false ∧ s.jrn.archives = [] ∧ s.jrnHead ≤ jrnSlots ∧ 32 * s.jrnHead ≤ s.nand.archiveRoom ∧ (∀ (a : Nat), jrnAddr 0 ≤ a → a < jrnAddr s.jrnHead → Sound s a) ∧ (JCmd.archive = JCmd.clear ∨ ∀ (i : Nat), i < s.jrnHead → (s.fixedMay 56 AccOp.read (jrnAddr i) 32).snd = true) ∧ s.jrn.cur ≠ []) ∧
    (∃ (s : State) (p : Priv), p ≠ Priv.p2 ∧ s.jrn.waiting = none ∧ s.jrn.running = none ∧ s.jrn.closed = false ∧ s.jrn.archives = [] ∧ s.jrnHead ≤ jrnSlots ∧ 32 * s.jrnHead ≤ s.nand.archiveRoom ∧ (∀ (a : Nat), jrnAddr 0 ≤ a → a < jrnAddr s.jrnHead → Sound s a) ∧ (JCmd.archive = JCmd.clear ∨ ∀ (i : Nat), i < s.jrnHead → (s.fixedMay 56 AccOp.read (jrnAddr i) 32).snd = true) ∧ s.jrn.cur = [] ∧ JCmd.archive ≠ JCmd.clear) ∧
    (∃ (s : State) (p : Priv), p ≠ Priv.p2 ∧ s.jrn.waiting = none ∧ s.jrn.running = none ∧ s.jrn.closed = false ∧ s.jrn.archives = [] ∧ s.jrnHead ≤ jrnSlots ∧ 32 * s.jrnHead ≤ s.nand.archiveRoom ∧ (∀ (a : Nat), jrnAddr 0 ≤ a → a < jrnAddr s.jrnHead → Sound s a) ∧ (JCmd.archiveClear = JCmd.clear ∨ ∀ (i : Nat), i < s.jrnHead → (s.fixedMay 56 AccOp.read (jrnAddr i) 32).snd = true) ∧ s.jrn.cur ≠ []) ∧
    (∃ (s : State) (p : Priv), p ≠ Priv.p2 ∧ s.jrn.waiting = none ∧ s.jrn.running = none ∧ s.jrn.closed = false ∧ s.jrn.archives = [] ∧ s.jrnHead ≤ jrnSlots ∧ 32 * s.jrnHead ≤ s.nand.archiveRoom ∧ (∀ (a : Nat), jrnAddr 0 ≤ a → a < jrnAddr s.jrnHead → Sound s a) ∧ (JCmd.archiveClear = JCmd.clear ∨ ∀ (i : Nat), i < s.jrnHead → (s.fixedMay 56 AccOp.read (jrnAddr i) 32).snd = true) ∧ s.jrn.cur = [] ∧ JCmd.archiveClear ≠ JCmd.clear) ∧
    (∃ (s : State) (a : Nat), s.jrn.clearing = true ∧ (∀ (i : Nat), i < jrnSlots → SlotMay s i) ∧ s.jrn.cur = [] ∧ s.jrn.running = some JCmd.clear ∧ (a < jrnAddr 0 ∨ jrnAddr jrnSlots ≤ a)) ∧
    (∃ (s : State), s.jrn.clearing = true ∧ (∀ (i : Nat), i < jrnSlots → SlotMay s i) ∧ s.jrn.cur = [] ∧ s.jrn.running = some JCmd.archiveClear) ∧
    (∃ (s : State), s.jrn.running = some JCmd.archive ∧ s.jrn.cur ≠ []) ∧
    (∃ (s : State) (a : Nat), s.jrn.running = some JCmd.archive ∧ s.jrn.cur = [] ∧ s.jrn.full = false ∧ s.jrnHead + 2 < jrnSlots ∧ SlotMay s s.jrnHead ∧ (a < jrnAddr s.jrnHead ∨ jrnAddr (s.jrnHead + 1) ≤ a)) ∧
    (∃ (s : State), s.jrn.running = some JCmd.archiveClear ∧ s.jrn.clearing = false) ∧
    (∃ (s : State), s.jrn.running ≠ some JCmd.archive ∧ s.jrn.running ≠ some JCmd.archiveClear) ∧
    (∃ (s : State), s.jrn.closed = true) ∧
    (∃ (s : State), s.jrn.closed = false ∧ s.jrn.clearing = false ∧ s.jrn.full = false ∧ s.jrn.cur = [] ∧ s.jrn.blocks = [] ∧ s.jrn.blockShed = 0 ∧ s.jrn.queues = [] ∧ s.upsets = [] ∧ (s.jrnSearch 18 0 jrnSlots).snd + 2 < jrnSlots ∧ SlotMay s (s.jrnSearch 18 0 jrnSlots).snd) :=
  ⟨⟨{ State.reset with jrn := { running := (some .archiveClear) } }, by decide⟩,
    ⟨{ State.reset with jrn := { cur := [{ code := 2#16, source := 0xfffe#16, cal := 2#64, p0 := 0#32, p1 := 0#32, p2 := 0#32 }] } }, { code := 2#16, source := 0xfffe#16, cal := 2#64, p0 := 0#32, p1 := 0#32, p2 := 0#32 }, [], 0, by decide⟩,
    ⟨{ State.reset with jrn := { queues := [(0, [{ code := 0x10#16, source := 3#16, cal := 0#64, p0 := 0#32, p1 := 0x82#32, p2 := 0#32 }])] } }, { code := 0x10#16, source := 3#16, cal := 0#64, p0 := 0#32, p1 := 0x82#32, p2 := 0#32 }, 0, [], 0, by decide⟩,
    ⟨{ State.reset with jrn := { queues := [(0, [{ code := 2#16, source := 0xd0b3#16, cal := 0#64, p0 := 0xa5#32, p1 := 1#32, p2 := 0#32 }])] } }, { code := 2#16, source := 0xd0b3#16, cal := 0#64, p0 := 0xa5#32, p1 := 1#32, p2 := 0#32 }, 0, [], 1, by decide⟩,
    ⟨{ State.reset with regs := [(1048652, 0x1fffe#32)], jrn := { cur := [{ code := 0#16, source := 0#16, cal := 0#64, p0 := 0#32, p1 := 0#32, p2 := 0#32 }] } }, { code := 0#16, source := 0#16, cal := 0#64, p0 := 0#32, p1 := 0#32, p2 := 0#32 }, [], by decide⟩,
    ⟨{ State.reset with prot := { openMode := false }, jrn := { cur := [{ code := 0#16, source := 0#16, cal := 0#64, p0 := 0#32, p1 := 0#32, p2 := 0#32 }] } }, { code := 0#16, source := 0#16, cal := 0#64, p0 := 0#32, p1 := 0#32, p2 := 0#32 }, [], by decide⟩,
    ⟨{ State.reset with jrn := { full := true } }, by decide⟩,
    ⟨State.reset, { code := 0#16, source := 0#16, cal := 0#64, p0 := 0#32, p1 := 0#32, p2 := 0#32 }, 1, by decide⟩,
    ⟨{ State.reset with jrn := { queues := [(227, [{ code := 0#16, source := 0#16, cal := 0#64, p0 := 0#32, p1 := 0#32, p2 := 0#32 }, { code := 0#16, source := 0#16, cal := 0#64, p0 := 0#32, p1 := 0#32, p2 := 0#32 }, { code := 0#16, source := 0#16, cal := 0#64, p0 := 0#32, p1 := 0#32, p2 := 0#32 }, { code := 0#16, source := 0#16, cal := 0#64, p0 := 0#32, p1 := 0#32, p2 := 0#32 }, { code := 0#16, source := 0#16, cal := 0#64, p0 := 0#32, p1 := 0#32, p2 := 0#32 }, { code := 0#16, source := 0#16, cal := 0#64, p0 := 0#32, p1 := 0#32, p2 := 0#32 }, { code := 0#16, source := 0#16, cal := 0#64, p0 := 0#32, p1 := 0#32, p2 := 0#32 }, { code := 0#16, source := 0#16, cal := 0#64, p0 := 0#32, p1 := 0#32, p2 := 0#32 }])] } }, { code := 0#16, source := 0xe300#16, cal := 0#64, p0 := 0#32, p1 := 0#32, p2 := 0#32 }, by decide⟩,
    ⟨{ State.reset with jrn := { rate := [(2, 10)] } }, { code := 0x200#16, source := 2#16, cal := 0#64, p0 := 0#32, p1 := 0#32, p2 := 0#32 }, by decide⟩,
    ⟨{ State.reset with jrn := { supp := [(0, 0)] } }, 0, 0, by decide⟩,
    ⟨State.reset, by decide⟩,
    ⟨{ State.reset with jrn := { running := (some .archiveClear) } }, by decide⟩,
    ⟨{ State.reset with jrn := { cur := [{ code := 0#16, source := 0#16, cal := 0#64, p0 := 0#32, p1 := 0#32, p2 := 0#32 }] } }, .p1, by decide, rfl, rfl, rfl, rfl, by decide, by decide, fun a _ _ => reset_sound a, by decide, by decide⟩,
    ⟨{ State.reset with jrn := { cur := [{ code := 0#16, source := 0#16, cal := 0#64, p0 := 0#32, p1 := 0#32, p2 := 0#32 }] } }, .p1, by decide, rfl, rfl, rfl, rfl, by decide, by decide, fun a _ _ => reset_sound a, by decide, by decide⟩,
    ⟨State.reset, .p1, by decide, rfl, rfl, rfl, rfl, by decide, by decide, fun a _ _ => reset_sound a, by decide, rfl, by decide⟩,
    ⟨{ State.reset with jrn := { cur := [{ code := 0#16, source := 0#16, cal := 0#64, p0 := 0#32, p1 := 0#32, p2 := 0#32 }] } }, .p1, by decide, rfl, rfl, rfl, rfl, by decide, by decide, fun a _ _ => reset_sound a, by decide, by decide⟩,
    ⟨State.reset, .p1, by decide, rfl, rfl, rfl, rfl, by decide, by decide, fun a _ _ => reset_sound a, by decide, rfl, by decide⟩,
    ⟨{ State.reset with jrn := { clearing := true, running := (some .clear) } }, 0, rfl, fun i hi => journal_slotMay _ i hi, rfl, rfl, by decide⟩,
    ⟨{ State.reset with jrn := { clearing := true, running := (some .archiveClear) } }, rfl, fun i hi => journal_slotMay _ i hi, rfl, rfl⟩,
    ⟨{ State.reset with jrn := { cur := [{ code := 0#16, source := 0#16, cal := 0#64, p0 := 0#32, p1 := 0#32, p2 := 0#32 }], running := (some .archive) } }, by decide⟩,
    ⟨{ State.reset with jrn := { running := (some .archive) } }, 0, by decide⟩,
    ⟨{ State.reset with jrn := { running := (some .archiveClear) } }, by decide⟩,
    ⟨State.reset, by decide⟩,
    ⟨{ State.reset with jrn := { closed := true } }, by decide⟩,
    ⟨State.reset, by decide⟩⟩

theorem witness_SignalRecorder :
    (∃ (s : State) (sig : BitVec 31) (v : Word), tmem s.recd.sel sig.toNat = false ∨ tget (fun (x : Nat) => none) s.recd.last sig.toNat = some v ∨ s.recCfg 0 = false) ∧
    (∃ (s : State) (sig : BitVec 31) (v : Word) (a : Nat), Recordable s sig.toNat v ∧ (s.recd.st = RecSt.filling ∨ s.recd.st = RecSt.armed ∨ s.recd.st = RecSt.waitHoldoff) ∧ 0 < s.preRecs ∧ RecMay s (s.seg s.recd.cur).prePos ∧ (a < s.recAddr s.recd.cur (s.seg s.recd.cur).prePos ∨ s.recAddr s.recd.cur (s.seg s.recd.cur).prePos + 16 ≤ a)) ∧
    (∃ (s : State) (sig : BitVec 31) (v : Word), Recordable s sig.toNat v ∧ s.recd.st = RecSt.capturing ∧ (s.seg s.recd.cur).post + 1 + s.preRecs < s.segRecs ∧ RecMay s (s.preRecs + (s.seg s.recd.cur).post)) ∧
    (∃ (s : State) (sig : BitVec 31) (v : Word), Recordable s sig.toNat v ∧ s.recd.st.writing = true ∧ RecMay s (if s.recd.st = RecSt.capturing then s.preRecs + (s.seg s.recd.cur).post else (s.seg s.recd.cur).prePos)) ∧
    (∃ (s : State) (sig : BitVec 31) (v : Word), Recordable s sig.toNat v ∧ s.recd.st = RecSt.stoppedOvf) ∧
    (∃ (s : State), s.recCfg 0 = false ∨ s.recd.st.writing = false) ∧
    (∃ (s : State) (k : Nat) (b : Bool) (v : Word), s.alive = true ∧ s.recCfg 0 = true ∧ s.recd.st.writing = true ∧ s.recd.sel = [(k, b)] ∧ s.saving = false ∧ 0 < s.preRecs ∧ s.recd.st ≠ RecSt.capturing ∧ RecMay s (s.seg s.recd.cur).prePos ∧ tget (fun (x : Nat) => none) s.recd.last k = some v) ∧
    (∃ (s : State), s.alive = false) ∧
    (∃ (s : State) (c : BitVec 7), s.alive = true ∧ s.recCfg 0 = true ∧ c.toNat < 71 ∧ s.trigEnabled c.toNat = true ∧ (s.recd.st = RecSt.filling ∨ s.recd.st = RecSt.waitHoldoff ∨ s.recd.st = RecSt.capturing)) ∧
    (∃ (s : State) (c : BitVec 7), s.alive = true ∧ s.recCfg 0 = true ∧ c.toNat < 71 ∧ s.trigEnabled c.toNat = true ∧ (s.recd.st = RecSt.idle ∨ s.recd.st = RecSt.stoppedOvf ∨ s.recd.st = RecSt.stoppedFull)) ∧
    (∃ (s : State) (c d : BitVec 7), s.alive = true ∧ s.recCfg 0 = true ∧ c.toNat < 71 ∧ s.trigEnabled c.toNat = true ∧ s.recd.st = RecSt.armed ∧ 0 < s.preRecs ∧ RecMay s (s.seg s.recd.cur).prePos ∧ c < d ∧ d.toNat < 71 ∧ s.trigEnabled d.toNat = true ∧ s.recCfg 2 = false) ∧
    (∃ (s : State) (n : Fin 4), s.alive = true ∧ s.recCfg 0 = true ∧ s.trigEnabled (64 + n.val) = true ∧ s.recd.st = RecSt.armed ∧ 0 < s.preRecs ∧ RecMay s (s.seg s.recd.cur).prePos) ∧
    (∃ (s : State) (n : Fin 4), s.alive = true ∧ s.recCfg 0 = true ∧ s.trigEnabled (64 + n.val) = true ∧ (s.recd.st = RecSt.filling ∨ s.recd.st = RecSt.waitHoldoff ∨ s.recd.st = RecSt.capturing)) ∧
    (∃ (s : State) (n : Fin 4), s.alive = true ∧ s.recCfg 0 = true ∧ s.trigEnabled (64 + n.val) = true ∧ (s.recd.st = RecSt.idle ∨ s.recd.st = RecSt.stoppedOvf ∨ s.recd.st = RecSt.stoppedFull)) ∧
    (∃ (s : State) (p : Priv), p ≠ Priv.p2 ∧ s.recCfg 0 = true ∧ s.recd.st = RecSt.armed ∧ 0 < s.preRecs ∧ RecMay s (s.seg s.recd.cur).prePos) ∧
    (∃ (s : State) (p : Priv), p ≠ Priv.p2 ∧ s.recCfg 0 = true ∧ (s.recd.st = RecSt.filling ∨ s.recd.st = RecSt.waitHoldoff ∨ s.recd.st = RecSt.capturing)) ∧
    (∃ (s : State) (p : Priv), p ≠ Priv.p2 ∧ s.recCfg 0 = true ∧ (s.recd.st = RecSt.idle ∨ s.recd.st = RecSt.stoppedOvf ∨ s.recd.st = RecSt.stoppedFull)) ∧
    (∃ (s : State), s.alive = true ∧ s.recd.holdOn = true ∧ s.recCfg 2 = false) ∧
    (∃ (s : State), s.recd.holdOn = false ∨ s.recCfg 2 = true) ∧
    (∃ (s : State) (p : Priv) (i : Nat), p ≠ Priv.p2 ∧ s.recCfg 0 = true ∧ (s.recd.st = RecSt.idle ∨ s.recd.st = RecSt.stoppedOvf) ∧ 0 < s.preRecs ∧ i < s.capCount ∧ (s.seg i).st = SegSt.free ∧ ∀ (k : Nat), k < i → (s.seg k).st ≠ SegSt.free) ∧
    (∃ (s : State) (p : Priv), p ≠ Priv.p2 ∧ s.recCfg 0 = true ∧ (s.recd.st = RecSt.idle ∨ s.recd.st = RecSt.stoppedOvf) ∧ 0 < s.preRecs ∧ (∀ (k : Nat), k < s.capCount → (s.seg k).st ≠ SegSt.free) ∧ s.recCfg 1 = false) ∧
    (∃ (s : State) (i : Nat), s.alive = true ∧ s.recd.st = RecSt.capturing ∧ (s.seg s.recd.cur).st = SegSt.inUse ∧ 0 < s.preRecs ∧ i < s.capCount ∧ (s.seg i).st = SegSt.free ∧ ∀ (k : Nat), k < i → (s.seg k).st ≠ SegSt.free) ∧
    (∃ (s : State), s.alive = true ∧ s.recd.st = RecSt.capturing ∧ (s.seg s.recd.cur).st = SegSt.inUse ∧ 0 < s.preRecs ∧ (∀ (k : Nat), k < s.capCount → (s.seg k).st ≠ SegSt.free) ∧ s.recCfg 1 = false) ∧
    (∃ (s : State) (p : Priv), p ≠ Priv.p2 ∧ s.recd.st = RecSt.capturing) ∧
    (∃ (s : State) (g : BitVec 6) (p : Priv) (i : Nat), p ≠ Priv.p2 ∧ (s.seg g.toNat).st = SegSt.closed ∧ g.toNat < s.capCount ∧ s.recd.st ≠ RecSt.stoppedFull ∧ i ≠ g.toNat) ∧
    (∃ (s : State) (g : BitVec 6) (p : Priv), p ≠ Priv.p2 ∧ (s.seg g.toNat).st = SegSt.closed ∧ g.toNat < s.capCount ∧ s.recd.st = RecSt.stoppedFull ∧ 0 < s.preRecs ∧ ∀ (k : Nat), k < g.toNat → (s.seg k).st ≠ SegSt.free) ∧
    (∃ (s : State) (g : BitVec 6), (s.seg g.toNat).st ≠ SegSt.closed) ∧
    (∃ (s : State) (g : BitVec 6) (p : Priv), p ≠ Priv.p2 ∧ s.recd.expSt ≠ ExpSt.busy ∧ (s.seg g.toNat).st = SegSt.closed) ∧
    (∃ (s : State) (g : BitVec 6) (p : Priv), p = Priv.p2 ∨ s.recd.expSt = ExpSt.busy ∨ (s.seg g.toNat).st ≠ SegSt.closed) ∧
    (∃ (s : State), s.recd.expSt = ExpSt.busy ∧ s.recd.st ≠ RecSt.stoppedFull ∧ s.recRead s.recd.expSeg (segOrder s.preRecs (s.seg s.recd.expSeg)) = (s, true)) ∧
    (∃ (s : State) (p : Priv), s.recd.expSt = ExpSt.busy ∧ s.recd.st ≠ RecSt.stoppedFull ∧ p ≠ Priv.p2) ∧
    (∃ (s : State) (p : Priv), p = Priv.p2 ∨ s.recd.expSt ≠ ExpSt.busy) :=
  ⟨⟨State.reset, 0#31, 0#32, by decide⟩,
    ⟨{ State.reset with regs := [(1052740, 1#32)], recd := { st := .filling, sel := [(422, true)] } }, 0x1a6#31, 0#32, 0, by decide⟩,
    ⟨{ State.reset with regs := [(1052740, 1#32)], recd := { st := .capturing, sel := [(2, true)] } }, 2#31, 0#32, by decide⟩,
    ⟨{ State.reset with regs := [(1052740, 1#32)], recd := { st := .capturing, sel := [(2, true)] } }, 2#31, 0#32, by decide⟩,
    ⟨{ State.reset with regs := [(1052740, 1#32)], recd := { st := .stoppedOvf, sel := [(2, true)] } }, 2#31, 0#32, by decide⟩,
    ⟨State.reset, by decide⟩,
    ⟨{ State.reset with regs := [(1052740, 1#32)], recd := { st := .filling, sel := [(422, false)], last := [(422, (some 0#32))] } }, 422, false, 0#32, by decide⟩,
    ⟨{ State.reset with pair := { role := .failed } }, by decide⟩,
    ⟨{ State.reset with regs := [(1052740, 1#32)], recd := { st := .filling } }, 0x46#7, by decide⟩,
    ⟨{ State.reset with regs := [(1052764, 0x80000000#32), (1052740, 1#32)] }, 0x1f#7, by decide⟩,
    ⟨{ State.reset with regs := [(1052764, 0x800000#32), (1052740, 1#32)], recd := { st := .armed } }, 0x17#7, 0x46#7, by decide⟩,
    ⟨{ State.reset with regs := [(1052772, 1#32), (1052740, 1#32)], recd := { st := .armed } }, 0, by decide⟩,
    ⟨{ State.reset with regs := [(1052772, 1#32), (1052740, 1#32)], recd := { st := .waitHoldoff } }, 0, by decide⟩,
    ⟨{ State.reset with regs := [(1052772, 1#32), (1052740, 1#32)] }, 0, by decide⟩,
    ⟨{ State.reset with regs := [(1052740, 1#32)], recd := { st := .armed } }, .p0, by decide⟩,
    ⟨{ State.reset with regs := [(1052740, 1#32)], recd := { st := .capturing } }, .p1, by decide⟩,
    ⟨{ State.reset with regs := [(1052740, 1#32)] }, .p0, by decide⟩,
    ⟨{ State.reset with recd := { holdOn := true } }, by decide⟩,
    ⟨State.reset, by decide⟩,
    ⟨{ State.reset with regs := [(1052740, 1#32)] }, .p1, 0, by decide⟩,
    ⟨{ State.reset with regs := [(1052740, 1#32)], recd := { segs := [(0, { st := .exporting })] } }, .p0, by decide⟩,
    ⟨{ State.reset with recd := { st := .capturing, segs := [(0, { st := .inUse })] } }, 1, by decide⟩,
    ⟨{ State.reset with regs := [(1052740, 0#32)], recd := { st := .capturing, segs := [(0, { st := .inUse })] } }, by decide⟩,
    ⟨{ State.reset with recd := { st := .capturing } }, .p0, by decide⟩,
    ⟨{ State.reset with regs := [(1052740, 0x1d00#32)], recd := { segs := [(29, { st := .closed })] } }, 0x1d#6, .p0, 0, by decide⟩,
    ⟨{ State.reset with recd := { st := .stoppedFull, segs := [(0, { st := .inUse }), (1, { st := .closed })] } }, 1#6, .p1, by decide⟩,
    ⟨State.reset, 0#6, by decide⟩,
    ⟨{ State.reset with recd := { segs := [(1, { st := .closed })] } }, 1#6, .p1, by decide⟩,
    ⟨State.reset, 0#6, .p2, by decide⟩,
    ⟨{ State.reset with recd := { expSt := .busy } }, rfl, by decide, rfl⟩,
    ⟨{ State.reset with recd := { expSt := .busy } }, .p1, by decide⟩,
    ⟨State.reset, .p1, by decide⟩⟩

theorem witness_SecurityCommands :
    (∃ (s : State) (c : BitVec 4) (v k : Nat), 1 ≤ c.toNat ∧ c.toNat ≤ 4 ∧ (s.bank s.sec.runB).st = BankSt.good ∧ (s.bank s.sec.runB).svn c.toNat = some v ∧ s.saving = false ∧ (∀ (w : Nat), (s.bank !s.sec.runB).svn c.toNat = some w → (s.bank !s.sec.runB).st = BankSt.good → v ≤ w) ∧ k ≠ c.toNat) ∧
    (∃ (s : State) (c : BitVec 4) (v w : Nat), 1 ≤ c.toNat ∧ c.toNat ≤ 4 ∧ (s.bank s.sec.runB).st = BankSt.good ∧ (s.bank s.sec.runB).svn c.toNat = some v ∧ s.saving = false ∧ (s.bank !s.sec.runB).svn c.toNat = some w ∧ (s.bank !s.sec.runB).st = BankSt.good ∧ w < v) ∧
    (∃ (s : State) (p : Priv), p ≠ Priv.p0 ∨ (s.bank s.sec.runB).st ≠ BankSt.good ∨ s.saving = true) ∧
    (∃ (s : State) (p : Priv) (i : Nat), p ≠ Priv.p2 ∧ s.sec.att ≠ AttSt.busy ∧ i < 8) ∧
    (∃ (s : State) (p : Priv), p = Priv.p2 ∨ s.sec.att = AttSt.busy) ∧
    (∃ (s : State) (sig : List Byte), s.sec.att = AttSt.busy ∧ sig.length = 114) ∧
    (∃ (s : State) (p : Priv), p ≠ Priv.p2 ∧ s.sec.stage ≠ 0 ∧ (s.bank !s.sec.runB).st = BankSt.loaded) ∧
    (∃ (s : State) (p : Priv), p ≠ Priv.p2 ∧ s.sec.stage ≠ 0 ∧ (s.bank s.sec.runB).st = BankSt.trial) ∧
    (∃ (s : State) (p : Priv), p ≠ Priv.p2 ∧ s.sec.stage ≠ 0 ∧ (s.bank !s.sec.runB).st ≠ BankSt.loaded) ∧
    (∃ (s : State) (p : Priv), p ≠ Priv.p2 ∧ s.sec.stage ≠ 0 ∧ (s.bank s.sec.runB).st ≠ BankSt.trial) ∧
    (∃ (s : State) (svc : Bool) (key tool : Nat) (ok : Bool), s.sec.stage ≠ 0 ∧ (ok = false ∨ s.toolOk tool = false ∨ s.sessionRights svc key = none ∨ s.sec.freeSession = none)) ∧
    (∃ (s : State), s.sec.stage = 0 ∧ s.sec.recovery = false) ∧
    (∃ (s : State) (i : BitVec 2), s.hasRight i 0 = false) ∧
    (∃ (s : State) (i : BitVec 2), s.hasRight i 1 = false) ∧
    (∃ (s : State) (i : BitVec 2) (a : Archive) (n : Nat) (l : List Archive), s.hasRight i 0 = true ∧ s.sessionVia i = none ∧ s.jrn.archives = a :: l ∧ a.number = n) ∧
    (∃ (s : State) (i : BitVec 2) (e : Export) (k : Nat) (l : List Export), s.hasRight i 0 = true ∧ s.sessionVia i = none ∧ s.recd.exports = e :: l ∧ e.seg = k) ∧
    (∃ (s : State) (i : BitVec 2) (n : Nat), s.hasRight i 0 = true ∧ (s.jrn.archives.any fun (a : Archive) => a.number == n) = false) ∧
    (∃ (s : State) (i : BitVec 2), s.hasRight i 1 = true) ∧
    (∃ (s : State) (i : BitVec 2), s.hasRight i 3 = false) ∧
    (∃ (s : State) (i : BitVec 2), s.hasRight i 3 = true ∧ s.sec.recovery = false ∧ (s.bank !s.sec.runB).st ≠ BankSt.empty) ∧
    (∃ (s : State) (i : BitVec 2) (l : List Byte) (c : Nat), s.hasRight i 3 = true ∧ s.sec.recovery = false ∧ (s.bank !s.sec.runB).st = BankSt.empty ∧ s.imageBad (!s.sec.runB) l = some c) ∧
    (∃ (s : State) (k : Bool) (l : List Byte) (c : Nat), s.imageFails (s.bank k).dir l = some c) ∧
    (∃ (s : State) (i : BitVec 2) (l : List Byte), s.hasRight i 2 = true ∧ s.sec.recovery = false ∧ l.length ≤ 8388608) ∧
    (∃ (s : State) (i : BitVec 2) (l : List Byte), s.hasRight i 2 = true ∧ s.sec.recovery = false ∧ l.length ≤ s.nand.projectRoom) ∧
    (∃ (s : State) (i : BitVec 2), s.hasRight i 2 = false) :=
  ⟨⟨banks (bankOf .good 1 3) {}, 4#4, 3, 0, by decide, by decide, rfl, rfl, rfl, fun w h => (by cases h), by decide⟩,
    ⟨{ State.reset with sec := { runB := true, bankA := { st := .good, images := [(2, (some {}))] }, bankB := { st := .good, images := [(2, (some { svn := 1 }))] } } }, 2#4, 1, 0, by decide⟩,
    ⟨State.reset, .p2, by decide⟩,
    ⟨State.reset, .p1, 0, by decide⟩,
    ⟨State.reset, .p2, by decide⟩,
    ⟨{ State.reset with sec := { att := .busy } }, [0#8, 0#8, 0#8, 0#8, 0#8, 0#8, 0#8, 0#8, 0#8, 0#8, 0#8, 0#8, 0#8, 0#8, 0#8, 0#8, 0#8, 0#8, 0#8, 0#8, 0#8, 0#8, 0#8, 0#8, 0#8, 0#8, 0#8, 0#8, 0#8, 0#8, 0#8, 0#8, 0#8, 0#8, 0#8, 0#8, 0#8, 0#8, 0#8, 0#8, 0#8, 0#8, 0#8, 0#8, 0#8, 0#8, 0#8, 0#8, 0#8, 0#8, 0#8, 0#8, 0#8, 0#8, 0#8, 0#8, 0#8, 0#8, 0#8, 0#8, 1#8, 1#8, 1#8, 1#8, 1#8, 1#8, 1#8, 1#8, 1#8, 1#8, 1#8, 1#8, 1#8, 1#8, 1#8, 1#8, 1#8, 1#8, 1#8, 1#8, 1#8, 1#8, 1#8, 1#8, 1#8, 1#8, 1#8, 1#8, 1#8, 1#8, 1#8, 1#8, 1#8, 1#8, 1#8, 1#8, 1#8, 1#8, 1#8, 1#8, 1#8, 1#8, 1#8, 1#8, 1#8, 1#8, 1#8, 1#8, 1#8, 1#8, 1#8, 1#8, 1#8, 1#8], by decide⟩,
    ⟨{ State.reset with sec := { stage := 1, bankB := { st := .loaded } } }, .p1, by decide⟩,
    ⟨{ State.reset with sec := { stage := 1, runB := true, bankB := { st := .trial } } }, .p0, by decide⟩,
    ⟨{ State.reset with sec := { stage := 1 } }, .p1, by decide⟩,
    ⟨{ State.reset with sec := { stage := 1 } }, .p0, by decide⟩,
    ⟨{ State.reset with sec := { stage := 1 } }, false, 0, 0, false, by decide⟩,
    ⟨State.reset, by decide⟩,
    ⟨State.reset, 0#2, by decide⟩,
    ⟨State.reset, 0#2, by decide⟩,
    ⟨{ State.reset with jrn := { archives := [{ number := 0, firstSeq := 0#32, lastSeq := 0#32, content := [] }] }, sec := { sessions := [{ ident := 1, svc := false, rights := 1#4, ver := 0, via := none }] } }, 1#2, { number := 0, firstSeq := 0#32, lastSeq := 0#32, content := [] }, 0, [], by decide⟩,
    ⟨{ State.reset with recd := { exports := [{ seg := 0, trigger := 0, tmq := 0, leapsec := false, rows := [] }] }, sec := { sessions := [{ ident := 1, svc := false, rights := 1#4, ver := 0, via := none }] } }, 1#2, { seg := 0, trigger := 0, tmq := 0, leapsec := false, rows := [] }, 0, [], by decide⟩,
    ⟨{ State.reset with sec := { sessions := [{ ident := 0, svc := false, rights := 1#4, ver := 0, via := none }] } }, 0#2, 0, by decide⟩,
    ⟨{ State.reset with sec := { sessions := [{ ident := 1, svc := false, rights := 2#4, ver := 0, via := none }] } }, 1#2, by decide⟩,
    ⟨State.reset, 0#2, by decide⟩,
    ⟨{ State.reset with sec := { bankB := { st := .trial }, sessions := [{ ident := 1, svc := false, rights := 8#4, ver := 0, via := none }] } }, 1#2, by decide⟩,
    ⟨{ State.reset with sec := { sessions := [{ ident := 1, svc := false, rights := 8#4, ver := 0, via := none }] } }, 1#2, [], 1, by decide⟩,
    ⟨State.reset, false, [], 1, by decide⟩,
    ⟨{ State.reset with sec := { sessions := [{ ident := 0, svc := false, rights := 4#4, ver := 0, via := none }] } }, 0#2, [], by decide⟩,
    ⟨{ State.reset with sec := { sessions := [{ ident := 0, svc := false, rights := 4#4, ver := 0, via := none }] } }, 0#2, [], by decide⟩,
    ⟨State.reset, 0#2, by decide⟩⟩

theorem witness_Starts :
    (∃ (s : State) (b : Boot), s.pwr.save = SaveSt.off ∧ s.rbit Page.pwr Reg.pwr_DOM_STAT 0 = true ∧ b.noPower ≠ some 1 ∧ s.sec.bankA.bootable = false ∧ s.sec.bankB.bootable = false) ∧
    (∃ (s : State), s.pwr.save ≠ SaveSt.off) ∧
    (∃ (s : State) (b : Boot), s.rbit Page.pwr Reg.pwr_PWR_STAT 2 = false ∧ b.noPower ≠ some 1 ∧ s.sec.bankA.bootable = false ∧ s.sec.bankB.bootable = false) ∧
    (∃ (s : State) (b : Boot), s.rbit Page.pwr Reg.pwr_PWR_STAT 2 = false ∧ b.noPower ≠ some 1 ∧ s.sec.bankA.st = BankSt.good ∧ s.sec.bankB.bootable = false ∧ s.bankFail b false = none) ∧
    (∃ (s : State) (b : Boot), s.rbit Page.pwr Reg.pwr_PWR_STAT 2 = false ∧ b.noPower ≠ some 1 ∧ s.sec.bankA.st = BankSt.good ∧ s.sec.bankB.st = BankSt.trial ∧ BitVec.toNat s.sec.bankA.gen < BitVec.toNat s.sec.bankB.gen ∧ s.sec.trialUsed < 3 ∧ s.keepBad = [] ∧ s.bankFail b true = none) ∧
    (∃ (s : State) (b : Boot), s.rbit Page.pwr Reg.pwr_PWR_STAT 2 = false ∧ b.noPower ≠ some 1 ∧ s.sec.bankA.st = BankSt.good ∧ s.sec.bankB.st = BankSt.trial ∧ BitVec.toNat s.sec.bankA.gen < BitVec.toNat s.sec.bankB.gen ∧ s.sec.trialUsed = 3 ∧ s.keepBad = [] ∧ s.bankFail b false = none) ∧
    (∃ (s : State), s.rbit Page.pwr Reg.pwr_PWR_STAT 2 = true) ∧
    (∃ (s : State) (b : Boot) (v : Word), fieldNat v 0 16 = 46208 ∧ bit v 16 = true ∧ b.noPower ≠ some 1 ∧ s.sec.bankA.bootable = false ∧ s.sec.bankB.bootable = false) ∧
    (∃ (s : State) (b : Boot) (v : Word), fieldNat v 0 16 = 46208 ∧ bit v 16 = true ∧ b.noPower ≠ some 1 ∧ s.sec.bankA.st = BankSt.good ∧ s.sec.bankB.bootable = false ∧ s.bankFail b false = none) ∧
    (∃ (s : State) (b : Boot) (v : Word), fieldNat v 0 16 = 46208 ∧ bit v 16 = true ∧ b.noPower ≠ some 1 ∧ s.sec.bankA.st = BankSt.good ∧ s.sec.bankB.st = BankSt.trial ∧ BitVec.toNat s.sec.bankA.gen < BitVec.toNat s.sec.bankB.gen ∧ s.sec.trialUsed < 3 ∧ s.keepBad = [] ∧ s.bankFail b true = none) ∧
    (∃ (s : State) (b : Boot) (v : Word), fieldNat v 0 16 = 46208 ∧ bit v 16 = true ∧ b.noPower ≠ some 1 ∧ s.sec.bankA.st = BankSt.good ∧ s.sec.bankB.st = BankSt.trial ∧ BitVec.toNat s.sec.bankA.gen < BitVec.toNat s.sec.bankB.gen ∧ s.sec.trialUsed = 3 ∧ s.keepBad = [] ∧ s.bankFail b false = none) ∧
    (∃ (s : State) (v : Word) (p : Priv), s.pwr.restart = false ∧ (p ≠ Priv.p0 ∨ fieldNat v 0 16 ≠ 46208 ∨ bit v 16 = false)) ∧
    (∃ (s : State) (b : Boot), s.sec.wdg = true ∧ s.alive = true ∧ b.noPower ≠ some 1 ∧ s.sec.bankA.bootable = false ∧ s.sec.bankB.bootable = false) ∧
    (∃ (s : State) (b : Boot), s.sec.wdg = true ∧ s.alive = true ∧ b.noPower ≠ some 1 ∧ s.sec.bankA.st = BankSt.good ∧ s.sec.bankB.bootable = false ∧ s.bankFail b false = none) ∧
    (∃ (s : State) (b : Boot), s.sec.wdg = true ∧ s.alive = true ∧ b.noPower ≠ some 1 ∧ s.sec.bankA.st = BankSt.good ∧ s.sec.bankB.st = BankSt.trial ∧ BitVec.toNat s.sec.bankA.gen < BitVec.toNat s.sec.bankB.gen ∧ s.sec.trialUsed < 3 ∧ s.keepBad = [] ∧ s.bankFail b true = none) ∧
    (∃ (s : State) (b : Boot), s.sec.wdg = true ∧ s.alive = true ∧ b.noPower ≠ some 1 ∧ s.sec.bankA.st = BankSt.good ∧ s.sec.bankB.st = BankSt.trial ∧ BitVec.toNat s.sec.bankA.gen < BitVec.toNat s.sec.bankB.gen ∧ s.sec.trialUsed = 3 ∧ s.keepBad = [] ∧ s.bankFail b false = none) ∧
    (∃ (s : State), s.sec.wdg = true ∧ s.pair.role = Role.failed) ∧
    (∃ (s : State), s.sec.wdg = false) :=
  ⟨⟨{ State.reset with sec := {}, pwr := { save := .off } }, { bad := [], revoke := 0#4, noPower := none, inj := [], sigs := [], voter := [], lanes0 := 0#16, lanes1 := 0#16, bist := [], surr := { feedA := 0, feedB := 0, cap := 0, esr := 0, dioLoad := 0#16, loopR := [], cables := [], lanes := [], slot := 0#6, side := false, peerPres := false, peer := 0#2 }, linesOk := false }, by decide⟩,
    ⟨State.reset, by decide⟩,
    ⟨{ State.reset with sec := {} }, { bad := [], revoke := 0#4, noPower := none, inj := [], sigs := [], voter := [], lanes0 := 0#16, lanes1 := 0#16, bist := [], surr := { feedA := 0, feedB := 0, cap := 0, esr := 0, dioLoad := 0#16, loopR := [], cables := [], lanes := [], slot := 0#6, side := false, peerPres := false, peer := 0#2 }, linesOk := false }, by decide⟩,
    ⟨{ saved (bankOf .good 1 0) {} 0 with regs := [(Page.pwr * 0x1000 + Reg.pwr_PWR_STAT, 0#32)] }, bootOk, by decide⟩,
    ⟨{ State.reset with sec := { bankA := { st := .good }, bankB := { st := .trial, gen := 4#32, images := [(0, (some {})), (1, (some {})), (2, (some {})), (3, (some {})), (4, (some {}))] } } }, { bad := [], revoke := 0#4, noPower := none, inj := [], sigs := [], voter := [], lanes0 := 0#16, lanes1 := 0#16, bist := [], surr := { feedA := 0, feedB := 0, cap := 0, esr := 0, dioLoad := 0#16, loopR := [], cables := [], lanes := [], slot := 0#6, side := false, peerPres := false, peer := 0#2 }, linesOk := false }, by decide⟩,
    ⟨{ State.reset with sec := { bankA := { st := .good, images := [(0, (some {})), (1, (some {})), (2, (some {})), (3, (some {})), (4, (some {}))] }, bankB := { st := .trial, gen := 4#32 }, trialUsed := 3 } }, { bad := [], revoke := 0#4, noPower := none, inj := [], sigs := [], voter := [], lanes0 := 0#16, lanes1 := 0#16, bist := [], surr := { feedA := 0, feedB := 0, cap := 0, esr := 0, dioLoad := 0#16, loopR := [], cables := [], lanes := [], slot := 0#6, side := false, peerPres := false, peer := 0#2 }, linesOk := false }, by decide⟩,
    ⟨{ State.reset with regs := [(1179712, 4#32)] }, by decide⟩,
    ⟨{ State.reset with sec := {} }, { bad := [], revoke := 0#4, noPower := none, inj := [], sigs := [], voter := [], lanes0 := 0#16, lanes1 := 0#16, bist := [], surr := { feedA := 0, feedB := 0, cap := 0, esr := 0, dioLoad := 0#16, loopR := [], cables := [], lanes := [], slot := 0#6, side := false, peerPres := false, peer := 0#2 }, linesOk := false }, 0x1b480#32, by decide⟩,
    ⟨saved (bankOf .good 1 0) {} 0, bootOk, 0x1b480#32, by decide⟩,
    ⟨{ State.reset with sec := { bankA := { st := .good }, bankB := { st := .trial, gen := 4#32, images := [(0, (some {})), (1, (some {})), (2, (some {})), (3, (some {})), (4, (some {}))] } } }, { bad := [], revoke := 0#4, noPower := none, inj := [], sigs := [], voter := [], lanes0 := 0#16, lanes1 := 0#16, bist := [], surr := { feedA := 0, feedB := 0, cap := 0, esr := 0, dioLoad := 0#16, loopR := [], cables := [], lanes := [], slot := 0#6, side := false, peerPres := false, peer := 0#2 }, linesOk := false }, 0x1b480#32, by decide⟩,
    ⟨{ State.reset with sec := { bankA := { st := .good, images := [(0, (some {})), (1, (some {})), (2, (some {})), (3, (some {})), (4, (some {}))] }, bankB := { st := .trial, gen := 2#32 }, trialUsed := 3 } }, { bad := [], revoke := 0#4, noPower := none, inj := [], sigs := [], voter := [], lanes0 := 0#16, lanes1 := 0#16, bist := [], surr := { feedA := 0, feedB := 0, cap := 0, esr := 0, dioLoad := 0#16, loopR := [], cables := [], lanes := [], slot := 0#6, side := false, peerPres := false, peer := 0#2 }, linesOk := false }, 0x1b480#32, by decide⟩,
    ⟨State.reset, 0#32, .p1, by decide⟩,
    ⟨{ State.reset with sec := { wdg := true } }, { bad := [], revoke := 0#4, noPower := none, inj := [], sigs := [], voter := [], lanes0 := 0#16, lanes1 := 0#16, bist := [], surr := { feedA := 0, feedB := 0, cap := 0, esr := 0, dioLoad := 0#16, loopR := [], cables := [], lanes := [], slot := 0#6, side := false, peerPres := false, peer := 0#2 }, linesOk := false }, by decide⟩,
    ⟨{ State.reset with sec := { bankA := { st := .good, images := [(0, (some {})), (1, (some {})), (2, (some {})), (3, (some {})), (4, (some {}))] }, wdg := true } }, { bad := [], revoke := 0#4, noPower := none, inj := [], sigs := [], voter := [], lanes0 := 0#16, lanes1 := 0#16, bist := [], surr := { feedA := 0, feedB := 0, cap := 0, esr := 0, dioLoad := 0#16, loopR := [], cables := [], lanes := [], slot := 0#6, side := false, peerPres := false, peer := 0#2 }, linesOk := false }, by decide⟩,
    ⟨{ State.reset with sec := { bankA := { st := .good }, bankB := { st := .trial, gen := 4#32, images := [(0, (some {})), (1, (some {})), (2, (some {})), (3, (some {})), (4, (some {}))] }, wdg := true } }, { bad := [], revoke := 0#4, noPower := none, inj := [], sigs := [], voter := [], lanes0 := 0#16, lanes1 := 0#16, bist := [], surr := { feedA := 0, feedB := 0, cap := 0, esr := 0, dioLoad := 0#16, loopR := [], cables := [], lanes := [], slot := 0#6, side := false, peerPres := false, peer := 0#2 }, linesOk := false }, by decide⟩,
    ⟨{ State.reset with sec := { bankA := { st := .good, images := [(0, (some {})), (1, (some {})), (2, (some {})), (3, (some {})), (4, (some {}))] }, bankB := { st := .trial, gen := 4#32 }, trialUsed := 3, wdg := true } }, { bad := [], revoke := 0#4, noPower := none, inj := [], sigs := [], voter := [], lanes0 := 0#16, lanes1 := 0#16, bist := [], surr := { feedA := 0, feedB := 0, cap := 0, esr := 0, dioLoad := 0#16, loopR := [], cables := [], lanes := [], slot := 0#6, side := false, peerPres := false, peer := 0#2 }, linesOk := false }, by decide⟩,
    ⟨{ State.reset with pair := { role := .failed }, sec := { wdg := true } }, by decide⟩,
    ⟨State.reset, by decide⟩⟩

theorem witness_PowerCommands :
    (∃ (s : State), s.pair.role = Role.starting) ∧
    (∃ (s : State), s.pair.role ≠ Role.starting) ∧
    (∃ (d e : Fin 3), e ≠ d) ∧
    (∃ (s : State), s.alive = false) ∧
    (∃ (s : State) (d : Fin 3) (k : Nat), s.alive = true ∧ k ∈ dieDomains d.val) ∧
    (∃ (s : State) (d : Fin 3) (u : Nat), s.alive = true ∧ u ∈ dieUnits d.val) ∧
    (∃ (s : State) (u : Nat), s.alive = true ∧ u < 48) ∧
    (∃ (s : State) (c : Bool) (p : Priv), ¬(c = true ∧ p = Priv.p2) ∧ s.fld Page.hu Reg.hu_HU_STAT 3 2 = 0) ∧
    (∃ (s : State) (p : Priv), p = Priv.p2 ∨ s.fld Page.hu Reg.hu_HU_STAT 3 2 ≠ 0) ∧
    (∃ (s : State), s.fld Page.hu Reg.hu_HU_STAT 3 2 ≠ 0) ∧
    (∃ (s : State), s.rbit Page.hu Reg.hu_HU_STAT 3 = false) ∧
    (∃ (s : State), s.rbit Page.hu Reg.hu_HU_STAT 3 = true) ∧
    (∃ (s : State) (slot : BitVec 6) (side : Bool), bit (s.reg Page.surr Reg.surr_SURR_STAT) 0 = true ∧ (fieldNat (s.reg Page.surr Reg.surr_SURR_STAT) 4 6 ≠ slot.toNat ∨ bit (s.reg Page.surr Reg.surr_SURR_STAT) 10 ≠ side)) ∧
    (∃ (s : State) (slot : BitVec 6) (side : Bool), bit (s.reg Page.surr Reg.surr_SURR_STAT) 0 = false ∨ fieldNat (s.reg Page.surr Reg.surr_SURR_STAT) 4 6 = slot.toNat ∧ bit (s.reg Page.surr Reg.surr_SURR_STAT) 10 = side) ∧
    (∃ (s : State), s.saving = false ∧ s.bell.cycleOpen = true) ∧
    (∃ (s : State), s.saving = false ∧ s.bell.cycleOpen = false ∧ s.pwr.loaded = false) ∧
    (∃ (s : State), s.saving = false ∧ s.bell.cycleOpen = false ∧ s.pwr.loaded = true) ∧
    (∃ (s : State) (a : Nat), s.saving = false ∧ s.bell.cycleOpen = false ∧ (a < 272891904 ∨ 272891920 ≤ a)) ∧
    (∃ (s : State) (d : Nat), s.saving = false ∧ d ∈ [6, 7, 9, 10, 11, 12, 13]) ∧
    (∃ (s : State) (u : Nat), s.saving = false ∧ u < 48) ∧
    (∃ (s : State) (removal : Bool), s.saving = false ∧ removal = true) ∧
    (∃ (s : State), s.saving = true) ∧
    (∃ (s : State), s.pwr.save = SaveSt.grace ∧ s.pwr.loaded = false) ∧
    (∃ (s : State), s.pwr.save = SaveSt.grace ∧ s.pwr.loaded = true) ∧
    (∃ (s : State) (a : Nat), s.pwr.save = SaveSt.grace ∧ (a < 272891904 ∨ 272891920 ≤ a)) ∧
    (∃ (s : State), s.pwr.save ≠ SaveSt.grace) ∧
    (∃ (s : State), s.pwr.save = SaveSt.grace ∧ s.isActive = true ∧ s.bell.mode = Mode.run ∧ s.complete = true ∧ s.upsets = []) ∧
    (∃ (s : State) (data : List Byte), s.pwr.save = SaveSt.copy ∧ s.pwr.loaded = true ∧ s.jrnClose.retainBytes s.cfg.retain = (s.jrnClose, some data) ∧ data.length < 3928064 ∧ (s.jrnClose.fixedMay 65 AccOp.write 272891904 (4096 + data.length)).snd = true) ∧
    (∃ (s : State), s.pwr.save ≠ SaveSt.copy) ∧
    (∃ (s : State), s.pwr.save = SaveSt.off) ∧
    (∃ (s : State), s.pwr.save ≠ SaveSt.off) :=
  ⟨⟨State.reset, by decide⟩,
    ⟨{ State.reset with pair := { role := .active } }, by decide⟩,
    ⟨0, 1, by decide⟩,
    ⟨{ State.reset with pair := { role := .failed } }, by decide⟩,
    ⟨State.reset, 0, 2, by decide⟩,
    ⟨State.reset, 0, 0, by decide⟩,
    ⟨State.reset, 0, by decide⟩,
    ⟨State.reset, false, .p2, by decide⟩,
    ⟨State.reset, .p2, by decide⟩,
    ⟨{ State.reset with regs := [(1183808, 8#32)] }, by decide⟩,
    ⟨State.reset, by decide⟩,
    ⟨{ State.reset with regs := [(1183808, 8#32)] }, by decide⟩,
    ⟨{ State.reset with regs := [(1192000, 1#32)] }, 0#6, true, by decide⟩,
    ⟨State.reset, 0#6, false, by decide⟩,
    ⟨{ State.reset with bell := { cycleOpen := true } }, by decide⟩,
    ⟨State.reset, by decide⟩,
    ⟨{ State.reset with pwr := { loaded := true } }, by decide⟩,
    ⟨State.reset, 0, by decide⟩,
    ⟨State.reset, 6, by decide⟩,
    ⟨State.reset, 0, by decide⟩,
    ⟨State.reset, true, by decide⟩,
    ⟨{ State.reset with pwr := { save := .off } }, by decide⟩,
    ⟨{ State.reset with pwr := { save := .grace } }, by decide⟩,
    ⟨{ State.reset with pwr := { save := .grace, loaded := true } }, by decide⟩,
    ⟨{ State.reset with pwr := { save := .grace } }, 0, by decide⟩,
    ⟨State.reset, by decide⟩,
    ⟨{ State.reset with regs := [(393344, 0xffff#32)], bell := { mode := .run, cycleOpen := true, coresStarted := true }, pair := { role := .active }, pwr := { save := .grace } }, by decide⟩,
    ⟨{ State.reset with pwr := { save := .copy, loaded := true } }, [], rfl, rfl, rfl, by decide, by rfl⟩,
    ⟨State.reset, by decide⟩,
    ⟨{ State.reset with pwr := { save := .off } }, by decide⟩,
    ⟨State.reset, by decide⟩⟩

theorem witness_RegisterPages :
    (∃ (s : State) (p : Nat) (v : Word), s.pageOn p = true ∧ v ≠ 39550#32) ∧
    (∃ (s : State) (p : Nat), s.pageOn p = false) ∧
    (∃ (p : Nat), p < 1072) ∧
    (∃ (o : Nat), o < 4096 ∧ o ≠ Reg.com_ERRCNT) ∧
    (∃ (p : Priv), p ≠ Priv.p0) ∧
    (∃ (s : State) (p : Nat) (size : BitVec 2) (pr : Priv), s.pageOn p = true ∧ (pr = Priv.p0 ∨ fixedPage p = false) ∧ size.toNat < 2) :=
  ⟨⟨State.reset, 0, 0#32, by decide⟩,
    ⟨State.reset, 2, by decide⟩,
    ⟨0, by decide⟩,
    ⟨0, by decide⟩,
    ⟨.p2, by decide⟩,
    ⟨State.reset, 0, 0#2, .p0, by decide⟩⟩

theorem witness_UnitEvents :
    (∃ (s : State) (n : Fin 16) (units : BitVec 3) (k : Fin 3), s.cluster n.val ≠ ClSt.failed ∧ List.filter (fun (u : Nat) => bit units (u % 3)) (s.voters n.val) ≠ [] ∧ (s.unit (3 * n.val + k.val)).st = UnitSt.inVote ∧ bit units k.val = true) ∧
    (∃ (s : State) (n : Fin 16) (units : BitVec 3) (u : Nat), s.cluster n.val ≠ ClSt.failed ∧ List.filter (fun (u : Nat) => bit units (u % 3)) (s.voters n.val) ≠ [] ∧ u / 3 ≠ n.val) ∧
    (∃ (s : State) (n : Fin 16) (units : BitVec 3) (disagree : Bool), s.cluster n.val ≠ ClSt.failed ∧ List.filter (fun (u : Nat) => bit units (u % 3)) (s.voters n.val) ≠ [] ∧ ((List.filter (fun (u : Nat) => !bit units (u % 3)) (s.voters n.val)).length = 0 ∨ (List.filter (fun (u : Nat) => !bit units (u % 3)) (s.voters n.val)).length = 2 ∧ disagree = true)) ∧
    (∃ (s : State) (n : Fin 16) (units : BitVec 3) (disagree : Bool) (u : Nat), s.cluster n.val ≠ ClSt.failed ∧ List.filter (fun (u : Nat) => bit units (u % 3)) (s.voters n.val) ≠ [] ∧ ¬((List.filter (fun (u : Nat) => !bit units (u % 3)) (s.voters n.val)).length = 0 ∨ (List.filter (fun (u : Nat) => !bit units (u % 3)) (s.voters n.val)).length = 2 ∧ disagree = true) ∧ u ∈ List.filter (fun (u : Nat) => !bit units (u % 3)) (s.voters n.val)) ∧
    (∃ (s : State) (n : Fin 16) (k : Fin 3) (u : Nat), s.cluster n.val = ClSt.triple ∧ (s.unit (3 * n.val + k.val)).st = UnitSt.inVote ∧ u ≠ 3 * n.val + k.val) ∧
    (∃ (s : State) (n : Fin 16) (k : Fin 3), s.cluster n.val = ClSt.dual ∧ (s.unit (3 * n.val + k.val)).st = UnitSt.inVote) ∧
    (∃ (s : State) (n : Fin 16) (k : Fin 3), (s.unit (3 * n.val + k.val)).st ≠ UnitSt.inVote ∨ s.cluster n.val = ClSt.single ∨ s.cluster n.val = ClSt.failed) ∧
    (∃ (s : State) (u : Fin 48) (lead check : Word), (s.unit u.val).st = UnitSt.testing ∧ ((s.unit u.val).lasting || decide (((if lead = Config.lbistExp then 0 else 1) + if check = Config.lbistExp then 0 else 2) ≠ 0)) = true) ∧
    (∃ (s : State) (u : Fin 48) (lead check : Word), (s.unit u.val).st = UnitSt.testing ∧ ((s.unit u.val).lasting || decide (((if lead = Config.lbistExp then 0 else 1) + if check = Config.lbistExp then 0 else 2) ≠ 0)) = false) ∧
    (∃ (s : State) (u : Fin 48) (v : Nat), (s.unit u.val).st = UnitSt.testing ∧ v ≠ u.val) ∧
    (∃ (s : State) (n : Fin 16) (k : Fin 3) (u : Nat), (s.unit (3 * n.val + k.val)).st ≠ UnitSt.retired ∧ (s.unit (3 * n.val + k.val)).st ≠ UnitSt.notEnabled ∧ s.voters n.val ≠ [3 * n.val + k.val] ∧ u ≠ 3 * n.val + k.val) ∧
    (∃ (s : State) (n : Fin 16) (k : BitVec 2) (p : Priv), p ≠ Priv.p0 ∨ k = 3#2 ∨ (s.unit (3 * n.val + k.toNat)).st = UnitSt.retired ∨ (s.unit (3 * n.val + k.toNat)).st = UnitSt.notEnabled ∨ s.voters n.val = [3 * n.val + k.toNat]) ∧
    (∃ (k : BitVec 2), k ≠ 3#2) :=
  ⟨⟨{ State.reset with units := [(0, { st := .inVote })], clusters := [(0, .triple)] }, 0, 1#3, 0, by decide⟩,
    ⟨{ State.reset with units := [(0, { st := .inVote })], clusters := [(0, .triple)] }, 0, 1#3, 3, by decide⟩,
    ⟨{ State.reset with units := [(0, { st := .inVote })], clusters := [(0, .triple)] }, 0, 1#3, false, by decide⟩,
    ⟨{ State.reset with units := [(1, { st := .inVote }), (0, { st := .inVote })], clusters := [(0, .triple)] }, 0, 1#3, false, 1, by decide⟩,
    ⟨{ State.reset with units := [(0, { st := .inVote })], clusters := [(0, .triple)] }, 0, 0, 1, by decide⟩,
    ⟨{ State.reset with units := [(1, { st := .inVote })], clusters := [(0, .dual)] }, 0, 1, by decide⟩,
    ⟨State.reset, 0, 0, by decide⟩,
    ⟨{ State.reset with units := [(47, { st := .testing, lasting := true })] }, 47, 0#32, 0#32, by decide, by rw [show (_ : CUnit).lasting = true from rfl, Bool.true_or]⟩,
    ⟨{ State.reset with units := [(47, { st := .testing })] }, 47, Config.lbistExp, Config.lbistExp, by decide, by rw [if_pos rfl, if_pos rfl]; decide⟩,
    ⟨{ State.reset with units := [(7, { st := .testing })] }, 7, 0, by decide⟩,
    ⟨{ State.reset with units := [(1, { st := .inVote }), (0, { st := .inVote })] }, 0, 0, 1, by decide⟩,
    ⟨State.reset, 0, 0#2, .p0, by decide⟩,
    ⟨0#2, by decide⟩⟩

theorem witness_CodeCorrects :
    (∃ (e : BitVec 144), syndrome e 36 = (0#4, 0#4, 0#4, 0#4)) ∧
    (∃ (e : BitVec 144) (j : Fin 36) (v : BitVec 4), v ≠ 0#4 ∧ syndrome e 36 = columnTimes j v) ∧
    (∃ (e : BitVec 144), syndrome e 36 ≠ (0#4, 0#4, 0#4, 0#4) ∧ ∀ (j : Fin 36) (v : BitVec 4), syndrome e 36 ≠ columnTimes j v) ∧
    (∃ (j k : Fin 36) (v w : BitVec 4), j ≠ k ∧ v ≠ 0#4 ∧ w ≠ 0#4) :=
  ⟨⟨0#144, by decide⟩,
    ⟨1#144, 0, 1#4, by decide⟩,
    ⟨0x140#144, by decide⟩,
    ⟨0, 1, 8#4, 8#4, by decide⟩⟩

theorem witness_RuleSwap :
    (∃ (s : State) (mid : BitVec 12) (m : Nat), mid.toNat ∈ s.prot.pend ∧ s.maySwitch mid.toNat = true ∧ m ≠ mid.toNat) ∧
    (∃ (s : State) (mid : BitVec 12), mid.toNat ∈ s.prot.pend ∧ s.maySwitch mid.toNat = true ∧ s.prot.pend = [mid.toNat]) ∧
    (∃ (s : State) (p i j : Nat), s.swapBusy = false ∧ i < rulesOf p * 8 ∧ j < 256 ∧ j ≠ i) ∧
    (∃ (s : State) (p i : Nat), s.swapBusy = true ∧ i < rulesOf p * 8) :=
  ⟨⟨{ State.reset with prot := { pend := [12] } }, 0xc#12, 0, by decide⟩,
    ⟨{ State.reset with prot := { pend := [12] } }, 0xc#12, by decide⟩,
    ⟨State.reset, 56, 0, 1, by decide⟩,
    ⟨{ State.reset with prot := { pend := [0] } }, 56, 0, by decide⟩⟩

theorem witness_MemoryUpkeep :
    (∃ (s : State) (m : Fin 14) (err : BitVec 144) (j : Fin 36) (v : BitVec 4), m.val ≠ 10 ∧ s.alive = true ∧ s.scrubOn m.val = true ∧ BitVec.toNat (s.reg (memPage m.val) Reg.rg_SCRUB_POS) + 1 < memWords m.val ∧ Sound s (memBase m.val + BitVec.toNat (s.reg (memPage m.val) Reg.rg_SCRUB_POS) * 16) ∧ v ≠ 0#4 ∧ err = oneSymbol j v) ∧
    (∃ (s : State) (m : Fin 14) (err : BitVec 144), m.val ≠ 10 ∧ s.alive = true ∧ s.scrubOn m.val = true ∧ BitVec.toNat (s.reg (memPage m.val) Reg.rg_SCRUB_POS) + 1 < memWords m.val ∧ Sound s (memBase m.val + BitVec.toNat (s.reg (memPage m.val) Reg.rg_SCRUB_POS) * 16) ∧ eccDecode err = EccRes.uncorrectable ∧ (m.val < 8 ∨ 11 ≤ m.val)) ∧
    (∃ (s : State) (m : Fin 14) (err : BitVec 144), m.val ≠ 10 ∧ s.alive = true ∧ s.scrubOn m.val = true ∧ BitVec.toNat (s.reg (memPage m.val) Reg.rg_SCRUB_POS) + 1 < memWords m.val ∧ Sound s (memBase m.val + BitVec.toNat (s.reg (memPage m.val) Reg.rg_SCRUB_POS) * 16) ∧ err = 0#144) ∧
    (∃ (s : State) (m : Fin 14) (line k : Nat) (rest : List (Nat × Nat)), (s.corr m.val).copying = (line, k) :: rest ∧ s.alive = false) ∧
    (∃ (s : State) (m : Fin 14) (line k : Nat) (rest : List (Nat × Nat)), (s.corr m.val).copying = (line, k) :: rest ∧ s.alive = true ∧ Sound s (line + 16 * k) ∧ k < 3) ∧
    (∃ (s : State) (m : Fin 14) (line k : Nat) (rest : List (Nat × Nat)), (s.corr m.val).copying = (line, k) :: rest ∧ s.alive = true ∧ Sound s (line + 16 * k) ∧ k = 3) ∧
    (∃ (s : State) (block : BitVec 15) (r : Fin 4) (bad : Bool), ¬(bad = true ∧ (r.val = 0 ∨ r.val = 3) ∧ ¬block.toNat ∈ s.nand.bad)) ∧
    (∃ (s : State) (block : BitVec 15) (r : Fin 4), 0 < r.val ∧ s.nand.retry ≠ some block.toNat) ∧
    (∃ (s : State) (block : BitVec 15) (r : Fin 4) (bad : Bool), (bad = true ∧ (r.val = 0 ∨ r.val = 3) ∧ ¬block.toNat ∈ s.nand.bad) ∧ BitVec.toNat (s.reg (Page.mem 2) 128) < 65535) ∧
    (∃ (s : State) (block : BitVec 15) (r : Fin 4) (bad : Bool), (bad = true ∧ (r.val = 0 ∨ r.val = 3) ∧ ¬block.toNat ∈ s.nand.bad) ∧ s.nand.moved.length < 4096) ∧
    (∃ (s : State) (block : BitVec 15) (r : Fin 4) (bad : Bool), (bad = true ∧ (r.val = 0 ∨ r.val = 3) ∧ ¬block.toNat ∈ s.nand.bad) ∧ s.nand.moved.length = 4096) ∧
    (∃ (o : Nat), o < 4096) ∧
    (∃ (len : Word), len = 0#32) ∧
    (∃ (len : Word), 65536 < BitVec.toNat len) ∧
    (∃ (s : State) (g : Fin 8) (src dst : BitVec 40) (len : Word) (p : Priv), 0 < BitVec.toNat len ∧ BitVec.toNat len ≤ 65536 ∧ (((s.drainAck (16 + g.val)).dmaCheck g.val p AccOp.read src.toNat (BitVec.toNat len)).snd = false ∨ ((s.drainAck (16 + g.val)).dmaCheck g.val p AccOp.write dst.toNat (BitVec.toNat len)).snd = false)) ∧
    (∃ (s : State) (g : Fin 8) (src dst : BitVec 40) (len : Word) (p : Priv) (i : Nat), 0 < BitVec.toNat len ∧ BitVec.toNat len ≤ 65536 ∧ p = Priv.p0 ∧ s.prot.openMode = true ∧ s.bankOf (16 + g.val) = s.epochBit ∧ (∀ (i : Nat), i < BitVec.toNat len → ∃ (r : Nat), r < 8 ∧ targetOf (src.toNat + i) = some r) ∧ (∀ (i : Nat), i < BitVec.toNat len → ∃ (r : Nat), r < 8 ∧ targetOf (dst.toNat + i) = some r) ∧ (∀ (i : Nat), i < BitVec.toNat len → Sound s (src.toNat + i) ∧ Sound s (dst.toNat + i)) ∧ (src.toNat + BitVec.toNat len ≤ dst.toNat ∨ dst.toNat + BitVec.toNat len ≤ src.toNat) ∧ i < BitVec.toNat len) ∧
    (∃ (s : State) (g : Fin 8) (src dst : BitVec 40) (len : Word) (p : Priv) (a : Nat), 0 < BitVec.toNat len ∧ BitVec.toNat len ≤ 65536 ∧ p = Priv.p0 ∧ s.prot.openMode = true ∧ s.bankOf (16 + g.val) = s.epochBit ∧ (∀ (i : Nat), i < BitVec.toNat len → ∃ (r : Nat), r < 8 ∧ targetOf (src.toNat + i) = some r) ∧ (∀ (i : Nat), i < BitVec.toNat len → ∃ (r : Nat), r < 8 ∧ targetOf (dst.toNat + i) = some r) ∧ (∀ (i : Nat), i < BitVec.toNat len → Sound s (src.toNat + i) ∧ Sound s (dst.toNat + i)) ∧ (src.toNat + BitVec.toNat len ≤ dst.toNat ∨ dst.toNat + BitVec.toNat len ≤ src.toNat) ∧ (a < dst.toNat ∨ dst.toNat + BitVec.toNat len ≤ a)) :=
  ⟨⟨State.reset, 0, 1#144, 0, 1#4, by decide⟩,
    ⟨State.reset, 0, 0x81#144, by decide⟩,
    ⟨State.reset, 0, 0#144, by decide⟩,
    ⟨{ State.reset with memCorr := [(0, { copying := [(0, 0)] })], pair := { role := .failed } }, 0, 0, 0, [], by decide⟩,
    ⟨{ State.reset with memCorr := [(0, { copying := [(0, 0)] })] }, 0, 0, 0, [], by decide⟩,
    ⟨{ State.reset with memCorr := [(2, { copying := [(0, 3)] })] }, 2, 0, 3, [], by decide⟩,
    ⟨State.reset, 0#15, 0, false, by decide⟩,
    ⟨State.reset, 0#15, 1, by decide⟩,
    ⟨State.reset, 0#15, 0, true, by decide⟩,
    ⟨State.reset, 0#15, 0, true, by decide⟩,
    ⟨{ State.reset with nand := { moved := [(0, 0), (0, 0), (0, 0), (0, 0), (0, 0), (0, 0), (0, 0), (0, 0), (0, 0), (0, 0), (0, 0), (0, 0), (0, 0), (0, 0), (0, 0), (0, 0), (0, 0), (0, 0), (0, 0), (0, 0), (0, 0), (0, 0), (0, 0), (0, 0), (0, 0), (0, 0), (0, 0), (0, 0), (0, 0), (0, 0), (0, 0), (0, 0), (0, 0), (0, 0), (0, 0), (0, 0), (0, 0), (0, 0), (0, 0), (0, 0), (0, 0), (0, 0), (0, 0), (0, 0), (0, 0), (0, 0), (0, 0), (0, 0), (0, 0), (0, 0), (0, 0), (0, 0), (0, 0), (0, 0), (0, 0), (0, 0), (0, 0), (0, 0), (0, 0), (0, 0), (208, 2), (208, 2), (208, 2), (208, 2), (208, 2), (208, 2), (208, 2), (208, 2), (208, 2), (208, 2), (208, 2), (208, 2), (208, 2), (208, 2), (208, 2), (208, 2), (208, 2), (208, 2), (208, 2), (208, 2), (208, 2), (208, 2), (208, 2), (208, 2), (208, 2), (208, 2), (208, 2), (208, 2), (208, 2), (208, 2), (208, 2), (208, 2), (208, 2), (208, 2), (208, 2), (208, 2), (208, 2), (208, 2), (208, 2), (208, 2), (208, 2), (208, 2), (208, 2), (208, 2), (208, 2), (208, 2), (208, 2), (208, 2), (208, 2), (208, 2), (208, 2), (208, 2), (208, 2), (208, 2), (208, 2), (208, 2), (208, 2), (208, 2), (208, 2), (208, 2), (208, 2), (208, 2), (208, 2), (208, 2), (208, 2), (208, 2), (208, 2), (208, 2), (208, 2), (208, 2), (208, 2), (208, 2), (208, 2), (208, 2), (208, 2), (208, 2), (208, 2), (208, 2), (208, 2), (208, 2), (208, 2), (208, 2), (208, 2), (208, 2), (208, 2), (208, 2), (208, 2), (208, 2), (208, 2), (208, 2), (208, 2), (208, 2), (208, 2), (208, 2), (208, 2), (208, 2), (208, 2), (208, 2), (208, 2), (208, 2), (208, 2), (208, 2), (208, 2), (208, 2), (208, 2), (208, 2), (208, 2), (208, 2), (208, 2), (208, 2), (208, 2), (208, 2), (208, 2), (208, 2), (208, 2), (208, 2), (208, 2), (208, 2), (208, 2), (208, 2), (208, 2), (208, 2), (208, 2), (208, 2), (208, 2), (208, 2), (208, 2), (208, 2), (208, 2), (208, 2), (208, 2), (208, 2), (208, 2), (208, 2), (208, 2), (208, 2), (208, 2), (208, 2), (208, 2), (208, 2), (208, 2), (208, 2), (208, 2), (208, 2), (208, 2), (208, 2), (208, 2), (208, 2), (208, 2), (208, 2), (208, 2), (208, 2), (208, 2), (208, 2), (208, 2), (208, 2), (208, 2), (208, 2), (208, 2), (208, 2), (208, 2), (208, 2), (208, 2), (208, 2), (208, 2), (208, 2), (208, 2), (208, 2), (208, 2), (208, 2), (208, 2), (208, 2), (208, 2), (208, 2), (208, 2), (208, 2), (208, 2), (208, 2), (208, 2), (208, 2), (208, 2), (208, 2), (208, 2), (208, 2), (208, 2), (208, 2), (208, 2), (208, 2), (208, 2), (208, 2), (208, 2), (208, 2), (208, 2), (208, 2), (208, 2), (208, 2), (208, 2), (208, 2), (208, 2), (208, 2), (208, 2), (208, 2), (208, 2), (208, 2), (208, 2), (208, 2), (208, 2), (208, 2), (208, 2), (208, 2), (208, 2), (208, 2), (208, 2), (208, 2), (208, 2), (208, 2), (208, 2), (208, 2), (208, 2), (208, 2), (208, 2), (208, 2), (208, 2), (208, 2), (208, 2), (208, 2), (208, 2), (208, 2), (208, 2), (208, 2), (208, 2), (208, 2), (208, 2), (208, 2), (208, 2), (208, 2), (208, 2), (208, 2), (208, 2), (208, 2), (208, 2), (208, 2), (208, 2), (208, 2), (208, 2), (208, 2), (208, 2), (208, 2), (208, 2), (208, 2), (208, 2), (208, 2), (208, 2), (208, 2), (208, 2), (208, 2), (208, 2), (208, 2), (208, 2), (208, 2), (208, 2), (208, 2), (208, 2), (208, 2), (208, 2), (208, 2), (208, 2), (208, 2), (208, 2), (208, 2), (208, 2), (208, 2), (208, 2), (208, 2), (208, 2), (208, 2), (208, 2), (208, 2), (208, 2), (208, 2), (208, 2), (208, 2), (208, 2), (208, 2), (208, 2), (208, 2), (208, 2), (208, 2), (208, 2), (208, 2), (208, 2), (208, 2), (208, 2), (208, 2), (208, 2), (208, 2), (208, 2), (208, 2), (208, 2), (208, 2), (208, 2), (208, 2), (208, 2), (208, 2), (208, 2), (208, 2), (208, 2), (208, 2), (208, 2), (208, 2), (208, 2), (208, 2), (208, 2), (208, 2), (208, 2), (208, 2), (208, 2), (208, 2), (208, 2), (208, 2), (208, 2), (208, 2), (208, 2), (208, 2), (208, 2), (208, 2), (208, 2), (208, 2), (208, 2), (208, 2), (208, 2), (208, 2), (208, 2), (208, 2), (208, 2), (208, 2), (208, 2), (208, 2), (208, 2), (208, 2), (208, 2), (208, 2), (208, 2), (208, 2), (208, 2), (208, 2), (208, 2), (208, 2), (208, 2), (208, 2), (208, 2), (208, 2), (208, 2), (208, 2), (208, 2), (208, 2), (208, 2), (208, 2), (208, 2), (208, 2), (208, 2), (208, 2), (208, 2), (208, 2), (208, 2), (208, 2), (208, 2), (208, 2), (208, 2), (208, 2), (208, 2), (208, 2), (208, 2), (208, 2), (208, 2), (208, 2), (208, 2), (208, 2), (208, 2), (208, 2), (208, 2), (208, 2), (208, 2), (208, 2), (208, 2), (208, 2), (208, 2), (208, 2), (208, 2), (208, 2), (208, 2), (208, 2), (208, 2), (208, 2), (208, 2), (208, 2), (208, 2), (208, 2), (208, 2), (208, 2), (208, 2), (208, 2), (208, 2), (208, 2), (208, 2), (208, 2), (208, 2), (208, 2), (208, 2), (208, 2), (208, 2), (208, 2), (208, 2), (208, 2), (208, 2), (208, 2), (208, 2), (208, 2), (208, 2), (208, 2), (208, 2), (208, 2), (208, 2), (208, 2), (208, 2), (208, 2), (208, 2), (208, 2), (208, 2), (208, 2), (208, 2), (208, 2), (208, 2), (208, 2), (208, 2), (208, 2), (208, 2), (208, 2), (208, 2), (208, 2), (208, 2), (208, 2), (208, 2), (208, 2), (208, 2), (208, 2), (208, 2), (208, 2), (208, 2), (208, 2), (208, 2), (208, 2), (208, 2), (208, 2), (208, 2), (208, 2), (208, 2), (208, 2), (208, 2), (208, 2), (208, 2), (208, 2), (208, 2), (208, 2), (208, 2), (208, 2), (208, 2), (208, 2), (208, 2), (208, 2), (208, 2), (208, 2), (208, 2), (208, 2), (208, 2), (208, 2), (208, 2), (208, 2), (208, 2), (208, 2), (208, 2), (208, 2), (208, 2), (208, 2), (208, 2), (208, 2), (208, 2), (208, 2), (208, 2), (208, 2), (208, 2), (208, 2), (208, 2), (208, 2), (208, 2), (208, 2), (208, 2), (208, 2), (208, 2), (208, 2), (208, 2), (208, 2), (208, 2), (208, 2), (208, 2), (208, 2), (208, 2), (208, 2), (208, 2), (208, 2), (208, 2), (208, 2), (208, 2), (208, 2), (208, 2), (208, 2), (208, 2), (208, 2), (208, 2), (208, 2), (208, 2), (208, 2), (208, 2), (208, 2), (208, 2), (208, 2), (208, 2), (208, 2), (208, 2), (208, 2), (208, 2), (208, 2), (208, 2), (208, 2), (208, 2), (208, 2), (208, 2), (208, 2), (208, 2), (208, 2), (208, 2), (208, 2), (208, 2), (208, 2), (208, 2), (208, 2), (208, 2), (208, 2), (208, 2), (208, 2), (208, 2), (208, 2), (208, 2), (208, 2), (208, 2), (208, 2), (208, 2), (208, 2), (208, 2), (208, 2), (208, 2), (208, 2), (208, 2), (208, 2), (208, 2), (208, 2), (208, 2), (208, 2), (208, 2), (208, 2), (208, 2), (208, 2), (208, 2), (208, 2), (208, 2), (208, 2), (208, 2), (208, 2), (208, 2), (208, 2), (208, 2), (208, 2), (208, 2), (208, 2), (208, 2), (208, 2), (208, 2), (208, 2), (208, 2), (208, 2), (208, 2), (208, 2), (208, 2), (208, 2), (208, 2), (208, 2), (208, 2), (208, 2), (208, 2), (208, 2), (208, 2), (208, 2), (208, 2), (208, 2), (208, 2), (208, 2), (208, 2), (208, 2), (208, 2), (208, 2), (208, 2), (208, 2), (208, 2), (208, 2), (208, 2), (208, 2), (208, 2), (208, 2), (208, 2), (208, 2), (208, 2), (208, 2), (208, 2), (208, 2), (208, 2), (208, 2), (208, 2), (208, 2), (208, 2), (208, 2), (208, 2), (208, 2), (208, 2), (208, 2), (208, 2), (208, 2), (208, 2), (208, 2), (208, 2), (208, 2), (208, 2), (208, 2), (208, 2), (208, 2), (208, 2), (208, 2), (208, 2), (208, 2), (208, 2), (208, 2), (208, 2), (208, 2), (208, 2), (208, 2), (208, 2), (208, 2), (208, 2), (208, 2), (208, 2), (208, 2), (208, 2), (208, 2), (208, 2), (208, 2), (208, 2), (208, 2), (208, 2), (208, 2), (208, 2), (208, 2), (208, 2), (208, 2), (208, 2), (208, 2), (208, 2), (208, 2), (208, 2), (208, 2), (208, 2), (208, 2), (208, 2), (208, 2), (208, 2), (208, 2), (208, 2), (208, 2), (208, 2), (208, 2), (208, 2), (208, 2), (208, 2), (208, 2), (208, 2), (208, 2), (208, 2), (208, 2), (208, 2), (208, 2), (208, 2), (208, 2), (208, 2), (208, 2), (208, 2), (208, 2), (208, 2), (208, 2), (208, 2), (208, 2), (208, 2), (208, 2), (208, 2), (208, 2), (208, 2), (208, 2), (208, 2), (208, 2), (208, 2), (208, 2), (208, 2), (208, 2), (208, 2), (208, 2), (208, 2), (208, 2), (208, 2), (208, 2), (208, 2), (208, 2), (208, 2), (208, 2), (208, 2), (208, 2), (208, 2), (208, 2), (208, 2), (208, 2), (208, 2), (208, 2), (208, 2), (208, 2), (208, 2), (208, 2), (208, 2), (208, 2), (208, 2), (208, 2), (208, 2), (208, 2), (208, 2), (208, 2), (208, 2), (208, 2), (208, 2), (208, 2), (208, 2), (208, 2), (208, 2), (208, 2), (208, 2), (208, 2), (208, 2), (208, 2), (208, 2), (208, 2), (208, 2), (208, 2), (208, 2), (208, 2), (208, 2), (208, 2), (208, 2), (208, 2), (208, 2), (208, 2), (208, 2), (208, 2), (208, 2), (208, 2), (208, 2), (208, 2), (208, 2), (208, 2), (208, 2), (208, 2), (208, 2), (208, 2), (208, 2), (208, 2), (208, 2), (208, 2), (208, 2), (208, 2), (208, 2), (208, 2), (208, 2), (208, 2), (208, 2), (208, 2), (208, 2), (208, 2), (208, 2), (208, 2), (208, 2), (208, 2), (208, 2), (208, 2), (208, 2), (208, 2), (208, 2), (208, 2), (208, 2), (208, 2), (208, 2), (208, 2), (208, 2), (208, 2), (208, 2), (208, 2), (208, 2), (208, 2), (208, 2), (208, 2), (208, 2), (208, 2), (208, 2), (208, 2), (208, 2), (208, 2), (208, 2), (208, 2), (208, 2), (208, 2), (208, 2), (208, 2), (208, 2), (208, 2), (208, 2), (208, 2), (208, 2), (208, 2), (208, 2), (208, 2), (208, 2), (208, 2), (208, 2), (208, 2), (208, 2), (208, 2), (208, 2), (208, 2), (208, 2), (208, 2), (208, 2), (208, 2), (208, 2), (208, 2), (208, 2), (208, 2), (208, 2), (208, 2), (208, 2), (208, 2), (208, 2), (208, 2), (208, 2), (208, 2), (208, 2), (208, 2), (208, 2), (208, 2), (208, 2), (208, 2), (208, 2), (208, 2), (208, 2), (208, 2), (208, 2), (208, 2), (208, 2), (208, 2), (208, 2), (208, 2), (208, 2), (208, 2), (208, 2), (208, 2), (208, 2), (208, 2), (208, 2), (208, 2), (208, 2), (208, 2), (208, 2), (208, 2), (208, 2), (208, 2), (208, 2), (208, 2), (208, 2), (208, 2), (208, 2), (208, 2), (208, 2), (208, 2), (208, 2), (208, 2), (208, 2), (208, 2), (208, 2), (208, 2), (208, 2), (208, 2), (208, 2), (208, 2), (208, 2), (208, 2), (208, 2), (208, 2), (208, 2), (208, 2), (208, 2), (208, 2), (208, 2), (208, 2), (208, 2), (208, 2), (208, 2), (208, 2), (208, 2), (208, 2), (208, 2), (208, 2), (208, 2), (208, 2), (208, 2), (208, 2), (208, 2), (208, 2), (208, 2), (208, 2), (208, 2), (208, 2), (208, 2), (208, 2), (208, 2), (208, 2), (208, 2), (208, 2), (208, 2), (208, 2), (208, 2), (208, 2), (208, 2), (208, 2), (208, 2), (208, 2), (208, 2), (208, 2), (208, 2), (208, 2), (208, 2), (208, 2), (208, 2), (208, 2), (208, 2), (208, 2), (208, 2), (208, 2), (208, 2), (208, 2), (208, 2), (208, 2), (208, 2), (208, 2), (208, 2), (208, 2), (208, 2), (208, 2), (208, 2), (208, 2), (208, 2), (208, 2), (208, 2), (208, 2), (208, 2), (208, 2), (208, 2), (208, 2), (208, 2), (208, 2), (208, 2), (208, 2), (208, 2), (208, 2), (208, 2), (208, 2), (208, 2), (208, 2), (208, 2), (208, 2), (208, 2), (208, 2), (208, 2), (208, 2), (208, 2), (208, 2), (208, 2), (208, 2), (208, 2), (208, 2), (208, 2), (208, 2), (208, 2), (208, 2), (208, 2), (208, 2), (208, 2), (208, 2), (208, 2), (208, 2), (208, 2), (208, 2), (208, 2), (208, 2), (208, 2), (208, 2), (208, 2), (208, 2), (208, 2), (208, 2), (208, 2), (208, 2), (208, 2), (208, 2), (208, 2), (208, 2), (208, 2), (208, 2), (208, 2), (208, 2), (208, 2), (208, 2), (208, 2), (208, 2), (208, 2), (208, 2), (208, 2), (208, 2), (208, 2), (208, 2), (208, 2), (208, 2), (208, 2), (208, 2), (208, 2), (208, 2), (208, 2), (208, 2), (208, 2), (208, 2), (208, 2), (208, 2), (208, 2), (208, 2), (208, 2), (208, 2), (208, 2), (208, 2), (208, 2), (208, 2), (208, 2), (208, 2), (208, 2), (208, 2), (208, 2), (208, 2), (208, 2), (208, 2), (208, 2), (208, 2), (208, 2), (208, 2), (208, 2), (208, 2), (208, 2), (208, 2), (208, 2), (208, 2), (208, 2), (208, 2), (208, 2), (208, 2), (208, 2), (208, 2), (208, 2), (208, 2), (208, 2), (208, 2), (208, 2), (208, 2), (208, 2), (208, 2), (208, 2), (208, 2), (208, 2), (208, 2), (208, 2), (208, 2), (208, 2), (208, 2), (208, 2), (208, 2), (208, 2), (208, 2), (208, 2), (208, 2), (208, 2), (208, 2), (208, 2), (208, 2), (208, 2), (208, 2), (208, 2), (208, 2), (208, 2), (208, 2), (208, 2), (208, 2), (208, 2), (208, 2), (208, 2), (208, 2), (208, 2), (208, 2), (208, 2), (208, 2), (208, 2), (208, 2), (208, 2), (208, 2), (208, 2), (208, 2), (208, 2), (208, 2), (208, 2), (208, 2), (208, 2), (208, 2), (208, 2), (208, 2), (208, 2), (208, 2), (208, 2), (208, 2), (208, 2), (208, 2), (208, 2), (208, 2), (208, 2), (208, 2), (208, 2), (208, 2), (208, 2), (208, 2), (208, 2), (208, 2), (208, 2), (208, 2), (208, 2), (208, 2), (208, 2), (208, 2), (208, 2), (208, 2), (208, 2), (208, 2), (208, 2), (208, 2), (208, 2), (208, 2), (208, 2), (208, 2), (208, 2), (208, 2), (208, 2), (208, 2), (208, 2), (208, 2), (208, 2), (208, 2), (208, 2), (208, 2), (208, 2), (208, 2), (208, 2), (208, 2), (208, 2), (208, 2), (208, 2), (208, 2), (208, 2), (208, 2), (208, 2), (208, 2), (208, 2), (208, 2), (208, 2), (208, 2), (208, 2), (208, 2), (208, 2), (208, 2), (208, 2), (208, 2), (208, 2), (208, 2), (208, 2), (208, 2), (208, 2), (208, 2), (208, 2), (208, 2), (208, 2), (208, 2), (208, 2), (208, 2), (208, 2), (208, 2), (208, 2), (208, 2), (208, 2), (208, 2), (208, 2), (208, 2), (208, 2), (208, 2), (208, 2), (208, 2), (208, 2), (208, 2), (208, 2), (208, 2), (208, 2), (208, 2), (208, 2), (208, 2), (208, 2), (208, 2), (208, 2), (208, 2), (208, 2), (208, 2), (208, 2), (208, 2), (208, 2), (208, 2), (208, 2), (208, 2), (208, 2), (208, 2), (208, 2), (208, 2), (208, 2), (208, 2), (208, 2), (208, 2), (208, 2), (208, 2), (208, 2), (208, 2), (208, 2), (208, 2), (208, 2), (208, 2), (208, 2), (208, 2), (208, 2), (208, 2), (208, 2), (208, 2), (208, 2), (208, 2), (208, 2), (208, 2), (208, 2), (208, 2), (208, 2), (208, 2), (208, 2), (208, 2), (208, 2), (208, 2), (208, 2), (208, 2), (208, 2), (208, 2), (208, 2), (208, 2), (208, 2), (208, 2), (208, 2), (208, 2), (208, 2), (208, 2), (208, 2), (208, 2), (208, 2), (208, 2), (208, 2), (208, 2), (208, 2), (208, 2), (208, 2), (208, 2), (208, 2), (208, 2), (208, 2), (208, 2), (208, 2), (208, 2), (208, 2), (208, 2), (208, 2), (208, 2), (208, 2), (208, 2), (208, 2), (208, 2), (208, 2), (208, 2), (208, 2), (208, 2), (208, 2), (208, 2), (208, 2), (208, 2), (208, 2), (208, 2), (208, 2), (208, 2), (208, 2), (208, 2), (208, 2), (208, 2), (208, 2), (208, 2), (208, 2), (208, 2), (208, 2), (208, 2), (208, 2), (208, 2), (208, 2), (208, 2), (208, 2), (208, 2), (208, 2), (208, 2), (208, 2), (208, 2), (208, 2), (208, 2), (208, 2), (208, 2), (208, 2), (208, 2), (208, 2), (208, 2), (208, 2), (208, 2), (208, 2), (208, 2), (208, 2), (208, 2), (208, 2), (208, 2), (208, 2), (208, 2), (208, 2), (208, 2), (208, 2), (208, 2), (208, 2), (208, 2), (208, 2), (208, 2), (208, 2), (208, 2), (208, 2), (208, 2), (208, 2), (208, 2), (208, 2), (208, 2), (208, 2), (208, 2), (208, 2), (208, 2), (208, 2), (208, 2), (208, 2), (208, 2), (208, 2), (208, 2), (208, 2), (208, 2), (208, 2), (208, 2), (208, 2), (208, 2), (208, 2), (208, 2), (208, 2), (208, 2), (208, 2), (208, 2), (208, 2), (208, 2), (208, 2), (208, 2), (208, 2), (208, 2), (208, 2), (208, 2), (208, 2), (208, 2), (208, 2), (208, 2), (208, 2), (208, 2), (208, 2), (208, 2), (208, 2), (208, 2), (208, 2), (208, 2), (208, 2), (208, 2), (208, 2), (208, 2), (208, 2), (208, 2), (208, 2), (208, 2), (208, 2), (208, 2), (208, 2), (208, 2), (208, 2), (208, 2), (208, 2), (208, 2), (208, 2), (208, 2), (208, 2), (208, 2), (208, 2), (208, 2), (208, 2), (208, 2), (208, 2), (208, 2), (208, 2), (208, 2), (208, 2), (208, 2), (208, 2), (208, 2), (208, 2), (208, 2), (208, 2), (208, 2), (208, 2), (208, 2), (208, 2), (208, 2), (208, 2), (208, 2), (208, 2), (208, 2), (208, 2), (208, 2), (208, 2), (208, 2), (208, 2), (208, 2), (208, 2), (208, 2), (208, 2), (208, 2), (208, 2), (208, 2), (208, 2), (208, 2), (208, 2), (208, 2), (208, 2), (208, 2), (208, 2), (208, 2), (208, 2), (208, 2), (208, 2), (208, 2), (208, 2), (208, 2), (208, 2), (208, 2), (208, 2), (208, 2), (208, 2), (208, 2), (208, 2), (208, 2), (208, 2), (208, 2), (208, 2), (208, 2), (208, 2), (208, 2), (208, 2), (208, 2), (208, 2), (208, 2), (208, 2), (208, 2), (208, 2), (208, 2), (208, 2), (208, 2), (208, 2), (208, 2), (208, 2), (208, 2), (208, 2), (208, 2), (208, 2), (208, 2), (208, 2), (208, 2), (208, 2), (208, 2), (208, 2), (208, 2), (208, 2), (208, 2), (208, 2), (208, 2), (208, 2), (208, 2), (208, 2), (208, 2), (208, 2), (208, 2), (208, 2), (208, 2), (208, 2), (208, 2), (208, 2), (208, 2), (208, 2), (208, 2), (208, 2), (208, 2), (208, 2), (208, 2), (208, 2), (208, 2), (208, 2), (208, 2), (208, 2), (208, 2), (208, 2), (208, 2), (208, 2), (208, 2), (208, 2), (208, 2), (208, 2), (208, 2), (208, 2), (208, 2), (208, 2), (208, 2), (208, 2), (208, 2), (208, 2), (208, 2), (208, 2), (208, 2), (208, 2), (208, 2), (208, 2), (208, 2), (208, 2), (208, 2), (208, 2), (208, 2), (208, 2), (208, 2), (208, 2), (208, 2), (208, 2), (208, 2), (208, 2), (208, 2), (208, 2), (208, 2), (208, 2), (208, 2), (208, 2), (208, 2), (208, 2), (208, 2), (208, 2), (208, 2), (208, 2), (208, 2), (208, 2), (208, 2), (208, 2), (208, 2), (208, 2), (208, 2), (208, 2), (208, 2), (208, 2), (208, 2), (208, 2), (208, 2), (208, 2), (208, 2), (208, 2), (208, 2), (208, 2), (208, 2), (208, 2), (208, 2), (208, 2), (208, 2), (208, 2), (208, 2), (208, 2), (208, 2), (208, 2), (208, 2), (208, 2), (208, 2), (208, 2), (208, 2), (208, 2), (208, 2), (208, 2), (208, 2), (208, 2), (208, 2), (208, 2), (208, 2), (208, 2), (208, 2), (208, 2), (208, 2), (208, 2), (208, 2), (208, 2), (208, 2), (208, 2), (208, 2), (208, 2), (208, 2), (208, 2), (208, 2), (208, 2), (208, 2), (208, 2), (208, 2), (208, 2), (208, 2), (208, 2), (208, 2), (208, 2), (208, 2), (208, 2), (208, 2), (208, 2), (208, 2), (208, 2), (208, 2), (208, 2), (208, 2), (208, 2), (208, 2), (208, 2), (208, 2), (208, 2), (208, 2), (208, 2), (208, 2), (208, 2), (208, 2), (208, 2), (208, 2), (208, 2), (208, 2), (208, 2), (208, 2), (208, 2), (208, 2), (208, 2), (208, 2), (208, 2), (208, 2), (208, 2), (208, 2), (208, 2), (208, 2), (208, 2), (208, 2), (208, 2), (208, 2), (208, 2), (208, 2), (208, 2), (208, 2), (208, 2), (208, 2), (208, 2), (208, 2), (208, 2), (208, 2), (208, 2), (208, 2), (208, 2), (208, 2), (208, 2), (208, 2), (208, 2), (208, 2), (208, 2), (208, 2), (208, 2), (208, 2), (208, 2), (208, 2), (208, 2), (208, 2), (208, 2), (208, 2), (208, 2), (208, 2), (208, 2), (208, 2), (208, 2), (208, 2), (208, 2), (208, 2), (208, 2), (208, 2), (208, 2), (208, 2), (208, 2), (208, 2), (208, 2), (208, 2), (208, 2), (208, 2), (208, 2), (208, 2), (208, 2), (208, 2), (208, 2), (208, 2), (208, 2), (208, 2), (208, 2), (208, 2), (208, 2), (208, 2), (208, 2), (208, 2), (208, 2), (208, 2), (208, 2), (208, 2), (208, 2), (208, 2), (208, 2), (208, 2), (208, 2), (208, 2), (208, 2), (208, 2), (208, 2), (208, 2), (208, 2), (208, 2), (208, 2), (208, 2), (208, 2), (208, 2), (208, 2), (208, 2), (208, 2), (208, 2), (208, 2), (208, 2), (208, 2), (208, 2), (208, 2), (208, 2), (208, 2), (208, 2), (208, 2), (208, 2), (208, 2), (208, 2), (208, 2), (208, 2), (208, 2), (208, 2), (208, 2), (208, 2), (208, 2), (208, 2), (208, 2), (208, 2), (208, 2), (208, 2), (208, 2), (208, 2), (208, 2), (208, 2), (208, 2), (208, 2), (208, 2), (208, 2), (208, 2), (208, 2), (208, 2), (208, 2), (208, 2), (208, 2), (208, 2), (208, 2), (208, 2), (208, 2), (208, 2), (208, 2), (208, 2), (208, 2), (208, 2), (208, 2), (208, 2), (208, 2), (208, 2), (208, 2), (208, 2), (208, 2), (208, 2), (208, 2), (208, 2), (208, 2), (208, 2), (208, 2), (208, 2), (208, 2), (208, 2), (208, 2), (208, 2), (208, 2), (208, 2), (208, 2), (208, 2), (208, 2), (208, 2), (208, 2), (208, 2), (208, 2), (208, 2), (208, 2), (208, 2), (208, 2), (208, 2), (208, 2), (208, 2), (208, 2), (208, 2), (208, 2), (208, 2), (208, 2), (208, 2), (208, 2), (208, 2), (208, 2), (208, 2), (208, 2), (208, 2), (208, 2), (208, 2), (208, 2), (208, 2), (208, 2), (208, 2), (208, 2), (208, 2), (208, 2), (208, 2), (208, 2), (208, 2), (208, 2), (208, 2), (208, 2), (208, 2), (208, 2), (208, 2), (208, 2), (208, 2), (208, 2), (208, 2), (208, 2), (208, 2), (208, 2), (208, 2), (208, 2), (208, 2), (208, 2), (208, 2), (208, 2), (208, 2), (208, 2), (208, 2), (208, 2), (208, 2), (208, 2), (208, 2), (208, 2), (208, 2), (208, 2), (208, 2), (208, 2), (208, 2), (208, 2), (208, 2), (208, 2), (208, 2), (208, 2), (208, 2), (208, 2), (208, 2), (208, 2), (208, 2), (208, 2), (208, 2), (208, 2), (208, 2), (208, 2), (208, 2), (208, 2), (208, 2), (208, 2), (208, 2), (208, 2), (208, 2), (208, 2), (208, 2), (208, 2), (208, 2), (208, 2), (208, 2), (208, 2), (208, 2), (208, 2), (208, 2), (208, 2), (208, 2), (208, 2), (208, 2), (208, 2), (208, 2), (208, 2), (208, 2), (208, 2), (208, 2), (208, 2), (208, 2), (208, 2), (208, 2), (208, 2), (208, 2), (208, 2), (208, 2), (208, 2), (208, 2), (208, 2), (208, 2), (208, 2), (208, 2), (208, 2), (208, 2), (208, 2), (208, 2), (208, 2), (208, 2), (208, 2), (208, 2), (208, 2), (208, 2), (208, 2), (208, 2), (208, 2), (208, 2), (208, 2), (208, 2), (208, 2), (208, 2), (208, 2), (208, 2), (208, 2), (208, 2), (208, 2), (208, 2), (208, 2), (208, 2), (208, 2), (208, 2), (208, 2), (208, 2), (208, 2), (208, 2), (208, 2), (208, 2), (208, 2), (208, 2), (208, 2), (208, 2), (208, 2), (208, 2), (208, 2), (208, 2), (208, 2), (208, 2), (208, 2), (208, 2), (208, 2), (208, 2), (208, 2), (208, 2), (208, 2), (208, 2), (208, 2), (208, 2), (208, 2), (208, 2), (208, 2), (208, 2), (208, 2), (208, 2), (208, 2), (208, 2), (208, 2), (208, 2), (208, 2), (208, 2), (208, 2), (208, 2), (208, 2), (208, 2), (208, 2), (208, 2), (208, 2), (208, 2), (208, 2), (208, 2), (208, 2), (208, 2), (208, 2), (208, 2), (208, 2), (208, 2), (208, 2), (208, 2), (208, 2), (208, 2), (208, 2), (208, 2), (208, 2), (208, 2), (208, 2), (208, 2), (208, 2), (208, 2), (208, 2), (208, 2), (208, 2), (208, 2), (208, 2), (208, 2), (208, 2), (208, 2), (208, 2), (208, 2), (208, 2), (208, 2), (208, 2), (208, 2), (208, 2), (208, 2), (208, 2), (208, 2), (208, 2), (208, 2), (208, 2), (208, 2), (208, 2), (208, 2), (208, 2), (208, 2), (208, 2), (208, 2), (208, 2), (208, 2), (208, 2), (208, 2), (208, 2), (208, 2), (208, 2), (208, 2), (208, 2), (208, 2), (208, 2), (208, 2), (208, 2), (208, 2), (208, 2), (208, 2), (208, 2), (208, 2), (208, 2), (208, 2), (208, 2), (208, 2), (208, 2), (208, 2), (208, 2), (208, 2), (208, 2), (208, 2), (208, 2), (208, 2), (208, 2), (208, 2), (208, 2), (208, 2), (208, 2), (208, 2), (208, 2), (208, 2), (208, 2), (208, 2), (208, 2), (208, 2), (208, 2), (208, 2), (208, 2), (208, 2), (208, 2), (208, 2), (208, 2), (208, 2), (208, 2), (208, 2), (208, 2), (208, 2), (208, 2), (208, 2), (208, 2), (208, 2), (208, 2), (208, 2), (208, 2), (208, 2), (208, 2), (208, 2), (208, 2), (208, 2), (208, 2), (208, 2), (208, 2), (208, 2), (208, 2), (208, 2), (208, 2), (208, 2), (208, 2), (208, 2), (208, 2), (208, 2), (208, 2), (208, 2), (208, 2), (208, 2), (208, 2), (208, 2), (208, 2), (208, 2), (208, 2), (208, 2), (208, 2), (208, 2), (208, 2), (208, 2), (208, 2), (208, 2), (208, 2), (208, 2), (208, 2), (208, 2), (208, 2), (208, 2), (208, 2), (208, 2), (208, 2), (208, 2), (208, 2), (208, 2), (208, 2), (208, 2), (208, 2), (208, 2), (208, 2), (208, 2), (208, 2), (208, 2), (208, 2), (208, 2), (208, 2), (208, 2), (208, 2), (208, 2), (208, 2), (208, 2), (208, 2), (208, 2), (208, 2), (208, 2), (208, 2), (208, 2), (208, 2), (208, 2), (208, 2), (208, 2), (208, 2), (208, 2), (208, 2), (208, 2), (208, 2), (208, 2), (208, 2), (208, 2), (208, 2), (208, 2), (208, 2), (208, 2), (208, 2), (208, 2), (208, 2), (208, 2), (208, 2), (208, 2), (208, 2), (208, 2), (208, 2), (208, 2), (208, 2), (208, 2), (208, 2), (208, 2), (208, 2), (208, 2), (208, 2), (208, 2), (208, 2), (208, 2), (208, 2), (208, 2), (208, 2), (208, 2), (208, 2), (208, 2), (208, 2), (208, 2), (208, 2), (208, 2), (208, 2), (208, 2), (208, 2), (208, 2), (208, 2), (208, 2), (208, 2), (208, 2), (208, 2), (208, 2), (208, 2), (208, 2), (208, 2), (208, 2), (208, 2), (208, 2), (208, 2), (208, 2), (208, 2), (208, 2), (208, 2), (208, 2), (208, 2), (208, 2), (208, 2), (208, 2), (208, 2), (208, 2), (208, 2), (208, 2), (208, 2), (208, 2), (208, 2), (208, 2), (208, 2), (208, 2), (208, 2), (208, 2), (208, 2), (208, 2), (208, 2), (208, 2), (208, 2), (208, 2), (208, 2), (208, 2), (208, 2), (208, 2), (208, 2), (208, 2), (208, 2), (208, 2), (208, 2), (208, 2), (208, 2), (208, 2), (208, 2), (208, 2), (208, 2), (208, 2), (208, 2), (208, 2), (208, 2), (208, 2), (208, 2), (208, 2), (208, 2), (208, 2), (208, 2), (208, 2), (208, 2), (208, 2), (208, 2), (208, 2), (208, 2), (208, 2), (208, 2), (208, 2), (208, 2), (208, 2), (208, 2), (208, 2), (208, 2), (208, 2), (208, 2), (208, 2), (208, 2), (208, 2), (208, 2), (208, 2), (208, 2), (208, 2), (208, 2), (208, 2), (208, 2), (208, 2), (208, 2), (208, 2), (208, 2), (208, 2), (208, 2), (208, 2), (208, 2), (208, 2), (208, 2), (208, 2), (208, 2), (208, 2), (208, 2), (208, 2), (208, 2), (208, 2), (208, 2), (208, 2), (208, 2), (208, 2), (208, 2), (208, 2), (208, 2), (208, 2), (208, 2), (208, 2), (208, 2), (208, 2), (208, 2), (208, 2), (208, 2), (208, 2), (208, 2), (208, 2), (208, 2), (208, 2), (208, 2), (208, 2), (208, 2), (208, 2), (208, 2), (208, 2), (208, 2), (208, 2), (208, 2), (208, 2), (208, 2), (208, 2), (208, 2), (208, 2), (208, 2), (208, 2), (208, 2), (208, 2), (208, 2), (208, 2), (208, 2), (208, 2), (208, 2), (208, 2), (208, 2), (208, 2), (208, 2), (208, 2), (208, 2), (208, 2), (208, 2), (208, 2), (208, 2), (208, 2), (208, 2), (208, 2), (208, 2), (208, 2), (208, 2), (208, 2), (208, 2), (208, 2), (208, 2), (208, 2), (208, 2), (208, 2), (208, 2), (208, 2), (208, 2), (208, 2), (208, 2), (208, 2), (208, 2), (208, 2), (208, 2), (208, 2), (208, 2), (208, 2), (208, 2), (208, 2), (208, 2), (208, 2), (208, 2), (208, 2), (208, 2), (208, 2), (208, 2), (208, 2), (208, 2), (208, 2), (208, 2), (208, 2), (208, 2), (208, 2), (208, 2), (208, 2), (208, 2), (208, 2), (208, 2), (208, 2), (208, 2), (208, 2), (208, 2), (208, 2), (208, 2), (208, 2), (208, 2), (208, 2), (208, 2), (208, 2), (208, 2), (208, 2), (208, 2), (208, 2), (208, 2), (208, 2), (208, 2), (208, 2), (208, 2), (208, 2), (208, 2), (208, 2), (208, 2), (208, 2), (208, 2), (208, 2), (208, 2), (208, 2), (208, 2), (208, 2), (208, 2), (208, 2), (208, 2), (208, 2), (208, 2), (208, 2), (208, 2), (208, 2), (208, 2), (208, 2), (208, 2), (208, 2), (208, 2), (208, 2), (208, 2), (208, 2), (208, 2), (208, 2), (208, 2), (208, 2), (208, 2), (208, 2), (208, 2), (208, 2), (208, 2), (208, 2), (208, 2), (208, 2), (208, 2), (208, 2), (208, 2), (208, 2), (208, 2), (208, 2), (208, 2), (208, 2), (208, 2), (208, 2), (208, 2), (208, 2), (208, 2), (208, 2), (208, 2), (208, 2), (208, 2), (208, 2), (208, 2), (208, 2), (208, 2), (208, 2), (208, 2), (208, 2), (208, 2), (208, 2), (208, 2), (208, 2), (208, 2), (208, 2), (208, 2), (208, 2), (208, 2), (208, 2), (208, 2), (208, 2), (208, 2), (208, 2), (208, 2), (208, 2), (208, 2), (208, 2), (208, 2), (208, 2), (208, 2), (208, 2), (208, 2), (208, 2), (208, 2), (208, 2), (208, 2), (208, 2), (208, 2), (208, 2), (208, 2), (208, 2), (208, 2), (208, 2), (208, 2), (208, 2), (208, 2), (208, 2), (208, 2), (208, 2), (208, 2), (208, 2), (208, 2), (208, 2), (208, 2), (208, 2), (208, 2), (208, 2), (208, 2), (208, 2), (208, 2), (208, 2), (208, 2), (208, 2), (208, 2), (208, 2), (208, 2), (208, 2), (208, 2), (208, 2), (208, 2), (208, 2), (208, 2), (208, 2), (208, 2), (208, 2), (208, 2), (208, 2), (208, 2), (208, 2), (208, 2), (208, 2), (208, 2), (208, 2), (208, 2), (208, 2), (208, 2), (208, 2), (208, 2), (208, 2), (208, 2), (208, 2), (208, 2), (208, 2), (208, 2), (208, 2), (208, 2), (208, 2), (208, 2), (208, 2), (208, 2), (208, 2), (208, 2), (208, 2), (208, 2), (208, 2), (208, 2), (208, 2), (208, 2), (208, 2), (208, 2), (208, 2), (208, 2), (208, 2), (208, 2), (208, 2), (208, 2), (208, 2), (208, 2), (208, 2), (208, 2), (208, 2), (208, 2), (208, 2), (208, 2), (208, 2), (208, 2), (208, 2), (208, 2), (208, 2), (208, 2), (208, 2), (208, 2), (208, 2), (208, 2), (208, 2), (208, 2), (208, 2), (208, 2), (208, 2), (208, 2), (208, 2), (208, 2), (208, 2), (208, 2), (208, 2), (208, 2), (208, 2), (208, 2), (208, 2), (208, 2), (208, 2), (208, 2), (208, 2), (208, 2), (208, 2), (208, 2), (208, 2), (208, 2), (208, 2), (208, 2), (208, 2), (208, 2), (208, 2), (208, 2), (208, 2), (208, 2), (208, 2), (208, 2), (208, 2), (208, 2), (208, 2), (208, 2), (208, 2), (208, 2), (208, 2), (208, 2), (208, 2), (208, 2), (208, 2), (208, 2), (208, 2), (208, 2), (208, 2), (208, 2), (208, 2), (208, 2), (208, 2), (208, 2), (208, 2), (208, 2), (208, 2), (208, 2), (208, 2), (208, 2), (208, 2), (208, 2), (208, 2), (208, 2), (208, 2), (208, 2), (208, 2), (208, 2), (208, 2), (208, 2), (208, 2), (208, 2), (208, 2), (208, 2), (208, 2), (208, 2), (208, 2), (208, 2), (208, 2), (208, 2), (208, 2), (208, 2), (208, 2), (208, 2), (208, 2), (208, 2), (208, 2), (208, 2), (208, 2), (208, 2), (208, 2), (208, 2), (208, 2), (208, 2), (208, 2), (208, 2), (208, 2), (208, 2), (208, 2), (208, 2), (208, 2), (208, 2), (208, 2), (208, 2), (208, 2), (208, 2), (208, 2), (208, 2), (208, 2), (208, 2), (208, 2), (208, 2), (208, 2), (208, 2), (208, 2), (208, 2), (208, 2), (208, 2), (208, 2), (208, 2), (208, 2), (208, 2), (208, 2), (208, 2), (208, 2), (208, 2), (208, 2), (208, 2), (208, 2), (208, 2), (208, 2), (208, 2), (208, 2), (208, 2), (208, 2), (208, 2), (208, 2), (208, 2), (208, 2), (208, 2), (208, 2), (208, 2), (208, 2), (208, 2), (208, 2), (208, 2), (208, 2), (208, 2), (208, 2), (208, 2), (208, 2), (208, 2), (208, 2), (208, 2), (208, 2), (208, 2), (208, 2), (208, 2), (208, 2), (208, 2), (208, 2), (208, 2), (208, 2), (208, 2), (208, 2), (208, 2), (208, 2), (208, 2), (208, 2), (208, 2), (208, 2), (208, 2), (208, 2), (208, 2), (208, 2), (208, 2), (208, 2), (208, 2), (208, 2), (208, 2), (208, 2), (208, 2), (208, 2), (208, 2), (208, 2), (208, 2), (208, 2), (208, 2), (208, 2), (208, 2), (208, 2), (208, 2), (208, 2), (208, 2), (208, 2), (208, 2), (208, 2), (208, 2), (208, 2), (208, 2), (208, 2), (208, 2), (208, 2), (208, 2), (208, 2), (208, 2), (208, 2), (208, 2), (208, 2), (208, 2), (208, 2), (208, 2), (208, 2), (208, 2), (208, 2), (208, 2), (208, 2), (208, 2), (208, 2), (208, 2), (208, 2), (208, 2), (208, 2), (208, 2), (208, 2), (208, 2), (208, 2), (208, 2), (208, 2), (208, 2), (208, 2), (208, 2), (208, 2), (208, 2), (208, 2), (208, 2), (208, 2), (208, 2), (208, 2), (208, 2), (208, 2), (208, 2), (208, 2), (208, 2), (208, 2), (208, 2), (208, 2), (208, 2), (208, 2), (208, 2), (208, 2), (208, 2), (208, 2), (208, 2), (208, 2), (208, 2), (208, 2), (208, 2), (208, 2), (208, 2), (208, 2), (208, 2), (208, 2), (208, 2), (208, 2), (208, 2), (208, 2), (208, 2), (208, 2), (208, 2), (208, 2), (208, 2), (208, 2), (208, 2), (208, 2), (208, 2), (208, 2), (208, 2), (208, 2), (208, 2), (208, 2), (208, 2), (208, 2), (208, 2), (208, 2), (208, 2), (208, 2), (208, 2), (208, 2), (208, 2), (208, 2), (208, 2), (208, 2), (208, 2), (208, 2), (208, 2), (208, 2), (208, 2), (208, 2), (208, 2), (208, 2), (208, 2), (208, 2), (208, 2), (208, 2), (208, 2), (208, 2), (208, 2), (208, 2), (208, 2), (208, 2), (208, 2), (208, 2), (208, 2), (208, 2), (208, 2), (208, 2), (208, 2), (208, 2), (208, 2), (208, 2), (208, 2), (208, 2), (208, 2), (208, 2), (208, 2), (208, 2), (208, 2), (208, 2), (208, 2), (208, 2), (208, 2), (208, 2), (208, 2), (208, 2), (208, 2), (208, 2), (208, 2), (208, 2), (208, 2), (208, 2), (208, 2), (208, 2), (208, 2), (208, 2), (208, 2), (208, 2), (208, 2), (208, 2), (208, 2), (208, 2), (208, 2), (208, 2), (208, 2), (208, 2), (208, 2), (208, 2), (208, 2), (208, 2), (208, 2), (208, 2), (208, 2), (208, 2), (208, 2), (208, 2), (208, 2), (208, 2), (208, 2), (208, 2), (208, 2), (208, 2), (208, 2), (208, 2), (208, 2), (208, 2), (208, 2), (208, 2), (208, 2), (208, 2), (208, 2), (208, 2), (208, 2), (208, 2), (208, 2), (208, 2), (208, 2), (208, 2), (208, 2), (208, 2), (208, 2), (208, 2), (208, 2), (208, 2), (208, 2), (208, 2), (208, 2), (208, 2), (208, 2), (208, 2), (208, 2), (208, 2), (208, 2), (208, 2), (208, 2), (208, 2), (208, 2), (208, 2), (208, 2), (208, 2), (208, 2), (208, 2), (208, 2), (208, 2), (208, 2), (208, 2), (208, 2), (208, 2), (208, 2), (208, 2), (208, 2), (208, 2), (208, 2), (208, 2), (208, 2), (208, 2), (208, 2), (208, 2), (208, 2), (208, 2), (208, 2), (208, 2), (208, 2), (208, 2), (208, 2), (208, 2), (208, 2), (208, 2), (208, 2), (208, 2), (208, 2), (208, 2), (208, 2), (208, 2), (208, 2), (208, 2), (208, 2), (208, 2), (208, 2), (208, 2), (208, 2), (208, 2), (208, 2), (208, 2), (208, 2), (208, 2), (208, 2), (208, 2), (208, 2), (208, 2), (208, 2), (208, 2), (208, 2), (208, 2), (208, 2), (208, 2), (208, 2), (208, 2), (208, 2), (208, 2), (208, 2), (208, 2), (208, 2), (208, 2), (208, 2), (208, 2), (208, 2), (208, 2), (208, 2), (208, 2), (208, 2), (208, 2), (208, 2), (208, 2), (208, 2), (208, 2), (208, 2), (208, 2), (208, 2), (208, 2), (208, 2), (208, 2), (208, 2), (208, 2), (208, 2), (208, 2), (208, 2), (208, 2), (208, 2), (208, 2), (208, 2), (208, 2), (208, 2), (208, 2), (208, 2), (208, 2), (208, 2), (208, 2), (208, 2), (208, 2), (208, 2), (208, 2), (208, 2), (208, 2), (208, 2), (208, 2), (208, 2), (208, 2), (208, 2), (208, 2), (208, 2), (208, 2), (208, 2), (208, 2), (208, 2), (208, 2), (208, 2), (208, 2), (208, 2), (208, 2), (208, 2), (208, 2), (208, 2), (208, 2), (208, 2), (208, 2), (208, 2), (208, 2), (208, 2), (208, 2), (208, 2), (208, 2), (208, 2), (208, 2), (208, 2), (208, 2), (208, 2), (208, 2), (208, 2), (208, 2), (208, 2), (208, 2), (208, 2), (208, 2), (208, 2), (208, 2), (208, 2), (208, 2), (208, 2), (208, 2), (208, 2), (208, 2), (208, 2), (208, 2), (208, 2), (208, 2), (208, 2), (208, 2), (208, 2), (208, 2), (208, 2), (208, 2), (208, 2), (208, 2), (208, 2), (208, 2), (208, 2), (208, 2), (208, 2), (208, 2), (208, 2), (208, 2), (208, 2), (208, 2), (208, 2), (208, 2), (208, 2), (208, 2), (208, 2), (208, 2), (208, 2), (208, 2), (208, 2), (208, 2), (208, 2), (208, 2), (208, 2), (208, 2), (208, 2), (208, 2), (208, 2), (208, 2), (208, 2), (208, 2), (208, 2), (208, 2), (208, 2), (208, 2), (208, 2), (208, 2), (208, 2), (208, 2), (208, 2), (208, 2), (208, 2), (208, 2), (208, 2), (208, 2), (208, 2), (208, 2), (208, 2), (208, 2), (208, 2), (208, 2), (208, 2), (208, 2), (208, 2), (208, 2), (208, 2), (208, 2), (208, 2), (208, 2), (208, 2), (208, 2), (208, 2), (208, 2), (208, 2), (208, 2), (208, 2), (208, 2), (208, 2), (208, 2), (208, 2), (208, 2), (208, 2), (208, 2), (208, 2), (208, 2), (208, 2), (208, 2), (208, 2), (208, 2), (208, 2), (208, 2), (208, 2), (208, 2), (208, 2), (208, 2), (208, 2), (208, 2), (208, 2), (208, 2), (208, 2), (208, 2), (208, 2), (208, 2), (208, 2), (208, 2), (208, 2), (208, 2), (208, 2), (208, 2), (208, 2), (208, 2), (208, 2), (208, 2), (208, 2), (208, 2), (208, 2), (208, 2), (208, 2), (208, 2), (208, 2), (208, 2), (208, 2), (208, 2), (208, 2), (208, 2), (208, 2), (208, 2), (208, 2), (208, 2), (208, 2), (208, 2), (208, 2), (208, 2), (208, 2), (208, 2), (208, 2), (208, 2), (208, 2), (208, 2), (208, 2), (208, 2), (208, 2), (208, 2), (208, 2), (208, 2), (208, 2), (208, 2), (208, 2), (208, 2), (208, 2), (208, 2), (208, 2), (208, 2), (208, 2), (208, 2), (208, 2), (208, 2), (208, 2), (208, 2), (208, 2), (208, 2), (208, 2), (208, 2), (208, 2), (208, 2), (208, 2), (208, 2), (208, 2), (208, 2), (208, 2), (208, 2), (208, 2), (208, 2), (208, 2), (208, 2), (208, 2), (208, 2), (208, 2), (208, 2), (208, 2), (208, 2), (208, 2), (208, 2), (208, 2), (208, 2), (208, 2), (208, 2), (208, 2), (208, 2), (208, 2), (208, 2), (208, 2), (208, 2), (208, 2), (208, 2), (208, 2), (208, 2), (208, 2), (208, 2), (208, 2), (208, 2), (208, 2), (208, 2), (208, 2), (208, 2), (208, 2), (208, 2), (208, 2), (208, 2), (208, 2), (208, 2), (208, 2), (208, 2), (208, 2), (208, 2), (208, 2), (208, 2), (208, 2), (208, 2), (208, 2), (208, 2), (208, 2), (208, 2), (208, 2), (208, 2), (208, 2), (208, 2), (208, 2), (208, 2), (208, 2), (208, 2), (208, 2), (208, 2), (208, 2), (208, 2), (208, 2), (208, 2), (208, 2), (208, 2), (208, 2), (208, 2), (208, 2), (208, 2), (208, 2), (208, 2), (208, 2), (208, 2), (208, 2), (208, 2), (208, 2), (208, 2), (208, 2), (208, 2), (208, 2), (208, 2), (208, 2), (208, 2), (208, 2), (208, 2), (208, 2), (208, 2), (208, 2), (208, 2), (208, 2), (208, 2), (208, 2), (208, 2), (208, 2), (208, 2), (208, 2), (208, 2), (208, 2), (208, 2), (208, 2), (208, 2), (208, 2), (208, 2), (208, 2), (208, 2), (208, 2), (208, 2), (208, 2), (208, 2), (208, 2), (208, 2), (208, 2), (208, 2), (208, 2), (208, 2), (208, 2), (208, 2), (208, 2), (208, 2), (208, 2), (208, 2), (208, 2), (208, 2), (208, 2), (208, 2), (208, 2), (208, 2), (208, 2), (208, 2), (208, 2), (208, 2), (208, 2), (208, 2), (208, 2), (208, 2), (208, 2), (208, 2), (208, 2), (208, 2), (208, 2), (208, 2), (208, 2), (208, 2), (208, 2), (208, 2), (208, 2), (208, 2), (208, 2), (208, 2), (208, 2), (208, 2), (208, 2), (208, 2), (208, 2), (208, 2), (208, 2), (208, 2), (208, 2), (208, 2), (208, 2), (208, 2), (208, 2), (208, 2), (208, 2), (208, 2), (208, 2), (208, 2), (208, 2), (208, 2), (208, 2), (208, 2), (208, 2), (208, 2), (208, 2), (208, 2), (208, 2), (208, 2), (208, 2), (208, 2), (208, 2), (208, 2), (208, 2), (208, 2), (208, 2), (208, 2), (208, 2), (208, 2), (208, 2), (208, 2), (208, 2), (208, 2), (208, 2), (208, 2), (208, 2), (208, 2), (208, 2), (208, 2), (208, 2), (208, 2), (208, 2), (208, 2), (208, 2), (208, 2), (208, 2), (208, 2), (208, 2), (208, 2), (208, 2), (208, 2), (208, 2), (208, 2), (208, 2), (208, 2), (208, 2), (208, 2), (208, 2), (208, 2), (208, 2), (208, 2), (208, 2), (208, 2), (208, 2), (208, 2), (208, 2), (208, 2), (208, 2), (208, 2), (208, 2), (208, 2), (208, 2), (208, 2), (208, 2), (208, 2), (208, 2), (208, 2), (208, 2), (208, 2), (208, 2), (208, 2), (208, 2), (208, 2), (208, 2), (208, 2), (208, 2), (208, 2), (208, 2), (208, 2), (208, 2), (208, 2), (208, 2), (208, 2), (208, 2), (208, 2), (208, 2), (208, 2), (208, 2), (208, 2), (208, 2), (208, 2), (208, 2), (208, 2), (208, 2), (208, 2), (208, 2), (208, 2), (208, 2), (208, 2), (208, 2), (208, 2), (208, 2), (208, 2), (208, 2), (208, 2), (208, 2), (208, 2), (208, 2), (208, 2), (208, 2), (208, 2), (208, 2), (208, 2), (208, 2), (208, 2), (208, 2), (208, 2), (208, 2), (208, 2), (208, 2), (208, 2), (208, 2), (208, 2), (208, 2), (208, 2), (208, 2), (208, 2), (208, 2), (208, 2), (208, 2), (208, 2), (208, 2), (208, 2), (208, 2), (208, 2), (208, 2), (208, 2), (208, 2), (208, 2), (208, 2), (208, 2), (208, 2), (208, 2), (208, 2), (208, 2), (208, 2), (208, 2), (208, 2), (208, 2), (208, 2), (208, 2), (208, 2), (208, 2), (208, 2), (208, 2), (208, 2), (208, 2), (208, 2), (208, 2), (208, 2), (208, 2), (208, 2), (208, 2), (208, 2), (208, 2), (208, 2), (208, 2), (208, 2), (208, 2), (208, 2), (208, 2), (208, 2), (208, 2), (208, 2), (208, 2), (208, 2), (208, 2), (208, 2), (208, 2), (208, 2), (208, 2), (208, 2), (208, 2), (208, 2), (208, 2), (208, 2), (208, 2), (208, 2), (208, 2), (208, 2), (208, 2), (208, 2), (208, 2), (208, 2), (208, 2), (208, 2), (208, 2), (208, 2), (208, 2), (208, 2), (208, 2), (208, 2), (208, 2), (208, 2), (208, 2), (208, 2), (208, 2), (208, 2), (208, 2), (208, 2), (208, 2), (208, 2), (208, 2), (208, 2), (208, 2), (208, 2), (208, 2), (208, 2), (208, 2), (208, 2), (208, 2), (208, 2), (208, 2), (208, 2), (208, 2), (208, 2), (208, 2), (208, 2), (208, 2), (208, 2), (208, 2), (208, 2), (208, 2), (208, 2), (208, 2), (208, 2), (208, 2), (208, 2), (208, 2), (208, 2), (208, 2), (208, 2), (208, 2), (208, 2), (208, 2), (208, 2), (208, 2), (208, 2), (208, 2), (208, 2), (208, 2), (208, 2), (208, 2), (208, 2), (208, 2), (208, 2), (208, 2), (208, 2), (208, 2), (208, 2), (208, 2), (208, 2), (208, 2), (208, 2), (208, 2), (208, 2), (208, 2), (208, 2), (208, 2), (208, 2), (208, 2), (208, 2), (208, 2), (208, 2), (208, 2), (208, 2), (208, 2), (208, 2), (208, 2), (208, 2), (208, 2), (208, 2), (208, 2), (208, 2), (208, 2), (208, 2), (208, 2), (208, 2), (208, 2), (208, 2), (208, 2), (208, 2), (208, 2), (208, 2), (208, 2), (208, 2), (208, 2), (208, 2), (208, 2), (208, 2), (208, 2), (208, 2), (208, 2), (208, 2), (208, 2), (208, 2), (208, 2), (208, 2), (208, 2), (208, 2), (208, 2), (208, 2), (208, 2), (208, 2), (208, 2), (208, 2), (208, 2), (208, 2), (208, 2), (208, 2), (208, 2), (208, 2), (208, 2), (208, 2), (208, 2), (208, 2), (208, 2), (208, 2), (208, 2), (208, 2), (208, 2), (208, 2), (208, 2), (208, 2), (208, 2), (208, 2), (208, 2), (208, 2), (208, 2), (208, 2), (208, 2), (208, 2), (208, 2), (208, 2), (208, 2), (208, 2), (208, 2), (208, 2), (208, 2), (208, 2), (208, 2), (208, 2), (208, 2), (208, 2), (208, 2), (208, 2), (208, 2), (208, 2), (208, 2), (208, 2), (208, 2), (208, 2), (208, 2), (208, 2), (208, 2), (208, 2), (208, 2), (208, 2), (208, 2), (208, 2), (208, 2), (208, 2), (208, 2), (208, 2), (208, 2), (208, 2), (208, 2), (208, 2), (208, 2), (208, 2), (208, 2), (208, 2), (208, 2), (208, 2), (208, 2), (208, 2), (208, 2), (208, 2), (208, 2), (208, 2), (208, 2), (208, 2), (208, 2), (208, 2), (208, 2), (208, 2), (208, 2), (208, 2), (208, 2), (208, 2), (208, 2), (208, 2), (208, 2), (208, 2), (208, 2), (208, 2), (208, 2), (208, 2), (208, 2), (208, 2), (208, 2), (208, 2), (208, 2), (208, 2), (208, 2), (208, 2), (208, 2), (208, 2), (208, 2), (208, 2)] } }, 0#15, 0, true, by decide⟩,
    ⟨0, by decide⟩,
    ⟨0#32, by decide⟩,
    ⟨0x10001#32, by decide⟩,
    ⟨State.reset, 0, 0#40, 0#40, 2#32, .p1, by decide⟩,
    ⟨State.reset, 0, 0#40, 0x100#40, 2#32, .p0, 0, by decide⟩,
    ⟨State.reset, 0, 0#40, 8#40, 2#32, .p0, 0, by decide⟩⟩

theorem witness_PairCommands :
    (∃ (s : State) (tx : AttendTx), tx.strobe = true ∧ s.pair.role.attends = true ∧ s.linkUp = true) ∧
    (∃ (s : State) (tx : AttendTx), tx.strobe = false ∨ s.pair.role.attends = false ∨ s.linkUp = false) ∧
    (∃ (s : State), s.pair.attSeen = true ∧ s.pair.attLost = false ∧ s.pair.role = Role.active) ∧
    (∃ (s : State), s.pair.attSeen = true ∧ s.pair.attLost = false ∧ s.pair.role = Role.standbySync ∧ (s.pair.peer1 = true ∨ s.pair.peer2 = true)) ∧
    (∃ (s : State), s.pair.attSeen = true ∧ s.pair.attLost = false ∧ s.pair.role = Role.standbySync ∧ s.pair.peer1 = false ∧ s.pair.peer2 = false) ∧
    (∃ (s : State), s.pair.attSeen = true ∧ s.pair.attLost = false ∧ (s.pair.role = Role.standbyUnsync ∨ s.pair.role = Role.maintenance)) ∧
    (∃ (s : State) (p : Priv), p ≠ Priv.p2 ∧ s.pairMay PairCmd.switchover = true) ∧
    (∃ (s : State) (p : Priv), p ≠ Priv.p2 ∧ s.pairMay PairCmd.suspend = true) ∧
    (∃ (s : State) (p : Priv), p ≠ Priv.p2 ∧ s.pairMay PairCmd.maintEnter = true ∧ s.isActive = true) ∧
    (∃ (s : State) (p : Priv), p ≠ Priv.p2 ∧ s.pair.role = Role.maintenance) ∧
    (∃ (s : State) (p : Priv), p ≠ Priv.p2 ∧ s.canResync = true) ∧
    (∃ (s : State) (p : Priv), p ≠ Priv.p2 ∧ s.synced = true) ∧
    (∃ (s : State) (p : Priv), p ≠ Priv.p2 ∧ s.pairMay PairCmd.switchover = false) ∧
    (∃ (s : State) (p : Priv), p ≠ Priv.p2 ∧ s.pairMay PairCmd.suspend = false) ∧
    (∃ (s : State) (p : Priv), p ≠ Priv.p2 ∧ s.pairMay PairCmd.resume = false) ∧
    (∃ (s : State) (p : Priv), p ≠ Priv.p2 ∧ s.pairMay PairCmd.maintEnter = false) ∧
    (∃ (s : State) (p : Priv), p ≠ Priv.p2 ∧ s.pairMay PairCmd.maintLeave = false) ∧
    (∃ (s : State) (p : Priv), p ≠ Priv.p2 ∧ s.pairMay PairCmd.resync = false) ∧
    (∃ (s : State) (p : Priv), p ≠ Priv.p2 ∧ s.pairMay PairCmd.raise = false) :=
  ⟨⟨{ State.reset with pair := { role := .active }, link := { st := .up } }, { strobe := true, peer := 0#2 }, by decide⟩,
    ⟨State.reset, { strobe := false, peer := 0#2 }, by decide⟩,
    ⟨{ State.reset with pair := { role := .active, attSeen := true } }, by decide⟩,
    ⟨{ State.reset with pair := { role := .standbySync, peer2 := true, attSeen := true } }, by decide⟩,
    ⟨{ State.reset with pair := { role := .standbySync, attSeen := true } }, by decide⟩,
    ⟨{ State.reset with pair := { role := .maintenance, attSeen := true } }, by decide⟩,
    ⟨{ State.reset with pair := { role := .active, syncPair := true } }, .p1, by decide⟩,
    ⟨{ State.reset with pair := { role := .active } }, .p1, by decide⟩,
    ⟨{ State.reset with pair := { role := .active } }, .p0, by decide⟩,
    ⟨{ State.reset with pair := { role := .maintenance } }, .p1, by decide⟩,
    ⟨{ State.reset with pair := { role := .standbyUnsync, agreedOk := true }, link := { st := .up, gotPeer := true, capsDone := true } }, .p1, by decide⟩,
    ⟨{ State.reset with pair := { role := .active, syncPair := true } }, .p0, by decide⟩,
    ⟨State.reset, .p1, by decide⟩,
    ⟨State.reset, .p1, by decide⟩,
    ⟨State.reset, .p1, by decide⟩,
    ⟨State.reset, .p0, by decide⟩,
    ⟨State.reset, .p0, by decide⟩,
    ⟨State.reset, .p0, by decide⟩,
    ⟨State.reset, .p0, by decide⟩⟩

theorem witness_LinkFrames :
    (∃ (s : State) (i : Nat), s.link.st = LinkSt.training ∧ i < 4) ∧
    (∃ (s : State), s.link.st = LinkSt.aligned) ∧
    (∃ (s : State), s.link.st = LinkSt.up) ∧
    (∃ (s : State), s.link.st = LinkSt.down) ∧
    (∃ (s : State), s.linkUp = true ∧ s.alive = true ∧ s.link.capsDone = false) ∧
    (∃ (s : State), s.linkUp = false ∨ s.alive = false ∨ s.link.capsDone = true) ∧
    (∃ (c : Caps) (tr : Trailer) (s : State) (f : Out × Word × List Nat × Trailer), some (Out.caps, 0#32, c.args, tr) = some f ∧ s.alive = false) ∧
    (∃ (c : Caps) (tr : Trailer) (s : State) (f : Out × Word × List Nat × Trailer) (e : LinkErr) (x : LinkErr × Nat), some (Out.caps, 0#32, c.args, tr) = some f ∧ s.linkCheck f.fst f.snd.fst f.snd.snd.fst f.snd.snd.snd = some e ∧ s.alive = true ∧ x ∈ [(LinkErr.crc, Reg.link_CRC_ERR), (LinkErr.csum, Reg.link_CSUM_ERR), (LinkErr.len, Reg.link_LEN_ERR), (LinkErr.ver, Reg.link_VER_ERR)]) ∧
    (∃ (a : Attend) (tr : Trailer) (s : State) (f : Out × Word × List Nat × Trailer), some (Out.attend, 0#32, a.args, tr) = some f ∧ s.alive = false) ∧
    (∃ (a : Attend) (tr : Trailer) (s : State) (f : Out × Word × List Nat × Trailer) (e : LinkErr) (x : LinkErr × Nat), some (Out.attend, 0#32, a.args, tr) = some f ∧ s.linkCheck f.fst f.snd.fst f.snd.snd.fst f.snd.snd.snd = some e ∧ s.alive = true ∧ x ∈ [(LinkErr.crc, Reg.link_CRC_ERR), (LinkErr.csum, Reg.link_CSUM_ERR), (LinkErr.len, Reg.link_LEN_ERR), (LinkErr.ver, Reg.link_VER_ERR)]) ∧
    (∃ (reason : Nat) (tr : Trailer) (s : State) (f : Out × Word × List Nat × Trailer), some (Out.resign, 0#32, [reason], tr) = some f ∧ s.alive = false) ∧
    (∃ (reason : Nat) (tr : Trailer) (s : State) (f : Out × Word × List Nat × Trailer) (e : LinkErr) (x : LinkErr × Nat), some (Out.resign, 0#32, [reason], tr) = some f ∧ s.linkCheck f.fst f.snd.fst f.snd.snd.fst f.snd.snd.snd = some e ∧ s.alive = true ∧ x ∈ [(LinkErr.crc, Reg.link_CRC_ERR), (LinkErr.csum, Reg.link_CSUM_ERR), (LinkErr.len, Reg.link_LEN_ERR), (LinkErr.ver, Reg.link_VER_ERR)]) ∧
    (∃ (b : ProofBegin) (tr : Trailer) (s : State) (f : Out × Word × List Nat × Trailer), some (Out.proofBegin, 0#32, b.args, tr) = some f ∧ s.alive = false) ∧
    (∃ (b : ProofBegin) (tr : Trailer) (s : State) (f : Out × Word × List Nat × Trailer) (e : LinkErr) (x : LinkErr × Nat), some (Out.proofBegin, 0#32, b.args, tr) = some f ∧ s.linkCheck f.fst f.snd.fst f.snd.snd.fst f.snd.snd.snd = some e ∧ s.alive = true ∧ x ∈ [(LinkErr.crc, Reg.link_CRC_ERR), (LinkErr.csum, Reg.link_CSUM_ERR), (LinkErr.len, Reg.link_LEN_ERR), (LinkErr.ver, Reg.link_VER_ERR)]) ∧
    (∃ (e : ProofEnd) (tr : Trailer) (s : State) (f : Out × Word × List Nat × Trailer), some (Out.proofEnd, 0#32, e.args, tr) = some f ∧ s.alive = false) ∧
    (∃ (e : ProofEnd) (tr : Trailer) (s : State) (f : Out × Word × List Nat × Trailer) (e_1 : LinkErr) (x : LinkErr × Nat), some (Out.proofEnd, 0#32, e.args, tr) = some f ∧ s.linkCheck f.fst f.snd.fst f.snd.snd.fst f.snd.snd.snd = some e_1 ∧ s.alive = true ∧ x ∈ [(LinkErr.crc, Reg.link_CRC_ERR), (LinkErr.csum, Reg.link_CSUM_ERR), (LinkErr.len, Reg.link_LEN_ERR), (LinkErr.ver, Reg.link_VER_ERR)]) ∧
    (∃ (cyc : Nat) (tr : Trailer) (s : State) (f : Out × Word × List Nat × Trailer), some (Out.stopMark, 0#32, [cyc], tr) = some f ∧ s.alive = false) ∧
    (∃ (cyc : Nat) (tr : Trailer) (s : State) (f : Out × Word × List Nat × Trailer) (e : LinkErr) (x : LinkErr × Nat), some (Out.stopMark, 0#32, [cyc], tr) = some f ∧ s.linkCheck f.fst f.snd.fst f.snd.snd.fst f.snd.snd.snd = some e ∧ s.alive = true ∧ x ∈ [(LinkErr.crc, Reg.link_CRC_ERR), (LinkErr.csum, Reg.link_CSUM_ERR), (LinkErr.len, Reg.link_LEN_ERR), (LinkErr.ver, Reg.link_VER_ERR)]) ∧
    (∃ (ack : AckBody) (tr : Trailer) (s : State) (f : Out × Word × List Nat × Trailer), some (Out.proofAck, 0#32, [ack.cyc, ack.lines, ack.frames], tr) = some f ∧ s.alive = false) ∧
    (∃ (ack : AckBody) (tr : Trailer) (s : State) (f : Out × Word × List Nat × Trailer) (e : LinkErr) (x : LinkErr × Nat), some (Out.proofAck, 0#32, [ack.cyc, ack.lines, ack.frames], tr) = some f ∧ s.linkCheck f.fst f.snd.fst f.snd.snd.fst f.snd.snd.snd = some e ∧ s.alive = true ∧ x ∈ [(LinkErr.crc, Reg.link_CRC_ERR), (LinkErr.csum, Reg.link_CSUM_ERR), (LinkErr.len, Reg.link_LEN_ERR), (LinkErr.ver, Reg.link_VER_ERR)]) ∧
    (∃ (cyc : Nat) (seqs : List Word) (tr : Trailer) (s : State) (f : Out × Word × List Nat × Trailer), some (Out.proofNak, 0#32, cyc :: List.map BitVec.toNat seqs, tr) = some f ∧ s.alive = false) ∧
    (∃ (cyc : Nat) (seqs : List Word) (tr : Trailer) (s : State) (f : Out × Word × List Nat × Trailer) (e : LinkErr) (x : LinkErr × Nat), some (Out.proofNak, 0#32, cyc :: List.map BitVec.toNat seqs, tr) = some f ∧ s.linkCheck f.fst f.snd.fst f.snd.snd.fst f.snd.snd.snd = some e ∧ s.alive = true ∧ x ∈ [(LinkErr.crc, Reg.link_CRC_ERR), (LinkErr.csum, Reg.link_CSUM_ERR), (LinkErr.len, Reg.link_LEN_ERR), (LinkErr.ver, Reg.link_VER_ERR)]) ∧
    (∃ (ident : Word) (kind : XferKind) (len : Nat) (digest : BitVec 256) (tr : Trailer) (s : State) (f : Out × Word × List Nat × Trailer), some (Out.xferOpen, ident, [BitVec.toNat ident, kind.code, len, digest.toNat], tr) = some f ∧ s.alive = false) ∧
    (∃ (ident : Word) (kind : XferKind) (len : Nat) (digest : BitVec 256) (tr : Trailer) (s : State) (f : Out × Word × List Nat × Trailer) (e : LinkErr) (x : LinkErr × Nat), some (Out.xferOpen, ident, [BitVec.toNat ident, kind.code, len, digest.toNat], tr) = some f ∧ s.linkCheck f.fst f.snd.fst f.snd.snd.fst f.snd.snd.snd = some e ∧ s.alive = true ∧ x ∈ [(LinkErr.crc, Reg.link_CRC_ERR), (LinkErr.csum, Reg.link_CSUM_ERR), (LinkErr.len, Reg.link_LEN_ERR), (LinkErr.ver, Reg.link_VER_ERR)]) ∧
    (∃ (ident : Word) (off : Nat) (bytes : List Byte) (tr : Trailer) (s : State) (f : Out × Word × List Nat × Trailer), some (Out.xferData, ident, BitVec.toNat ident :: off :: List.map BitVec.toNat bytes, tr) = some f ∧ s.alive = false) ∧
    (∃ (ident : Word) (off : Nat) (bytes : List Byte) (tr : Trailer) (s : State) (f : Out × Word × List Nat × Trailer) (e : LinkErr) (x : LinkErr × Nat), some (Out.xferData, ident, BitVec.toNat ident :: off :: List.map BitVec.toNat bytes, tr) = some f ∧ s.linkCheck f.fst f.snd.fst f.snd.snd.fst f.snd.snd.snd = some e ∧ s.alive = true ∧ x ∈ [(LinkErr.crc, Reg.link_CRC_ERR), (LinkErr.csum, Reg.link_CSUM_ERR), (LinkErr.len, Reg.link_LEN_ERR), (LinkErr.ver, Reg.link_VER_ERR)]) ∧
    (∃ (ident : Word) (off : Nat) (tr : Trailer) (s : State) (f : Out × Word × List Nat × Trailer), some (Out.xferAck, ident, [BitVec.toNat ident, off], tr) = some f ∧ s.alive = false) ∧
    (∃ (ident : Word) (off : Nat) (tr : Trailer) (s : State) (f : Out × Word × List Nat × Trailer) (e : LinkErr) (x : LinkErr × Nat), some (Out.xferAck, ident, [BitVec.toNat ident, off], tr) = some f ∧ s.linkCheck f.fst f.snd.fst f.snd.snd.fst f.snd.snd.snd = some e ∧ s.alive = true ∧ x ∈ [(LinkErr.crc, Reg.link_CRC_ERR), (LinkErr.csum, Reg.link_CSUM_ERR), (LinkErr.len, Reg.link_LEN_ERR), (LinkErr.ver, Reg.link_VER_ERR)]) ∧
    (∃ (head : XferHead) (tr : Trailer) (s : State) (f : Out × Word × List Nat × Trailer), some (Out.xferClose, head.ident, [BitVec.toNat head.ident, head.kind.code, head.len], tr) = some f ∧ s.alive = false) ∧
    (∃ (head : XferHead) (tr : Trailer) (s : State) (f : Out × Word × List Nat × Trailer) (e : LinkErr) (x : LinkErr × Nat), some (Out.xferClose, head.ident, [BitVec.toNat head.ident, head.kind.code, head.len], tr) = some f ∧ s.linkCheck f.fst f.snd.fst f.snd.snd.fst f.snd.snd.snd = some e ∧ s.alive = true ∧ x ∈ [(LinkErr.crc, Reg.link_CRC_ERR), (LinkErr.csum, Reg.link_CSUM_ERR), (LinkErr.len, Reg.link_LEN_ERR), (LinkErr.ver, Reg.link_VER_ERR)]) ∧
    (∃ (head : XferHead) (digest : BitVec 256) (tr : Trailer) (s : State) (f : Out × Word × List Nat × Trailer), some (Out.xferStaged, head.ident, [BitVec.toNat head.ident, digest.toNat, head.kind.code, head.len], tr) = some f ∧ s.alive = false) ∧
    (∃ (head : XferHead) (digest : BitVec 256) (tr : Trailer) (s : State) (f : Out × Word × List Nat × Trailer) (e : LinkErr) (x : LinkErr × Nat), some (Out.xferStaged, head.ident, [BitVec.toNat head.ident, digest.toNat, head.kind.code, head.len], tr) = some f ∧ s.linkCheck f.fst f.snd.fst f.snd.snd.fst f.snd.snd.snd = some e ∧ s.alive = true ∧ x ∈ [(LinkErr.crc, Reg.link_CRC_ERR), (LinkErr.csum, Reg.link_CSUM_ERR), (LinkErr.len, Reg.link_LEN_ERR), (LinkErr.ver, Reg.link_VER_ERR)]) ∧
    (∃ (ks : XferValue) (tr : Trailer) (s : State) (f : Out × Word × List Nat × Trailer), some (Out.xferArm, ks.ident, [ks.value, ks.kind.code, ks.len], tr) = some f ∧ s.alive = false) ∧
    (∃ (ks : XferValue) (tr : Trailer) (s : State) (f : Out × Word × List Nat × Trailer) (e : LinkErr) (x : LinkErr × Nat), some (Out.xferArm, ks.ident, [ks.value, ks.kind.code, ks.len], tr) = some f ∧ s.linkCheck f.fst f.snd.fst f.snd.snd.fst f.snd.snd.snd = some e ∧ s.alive = true ∧ x ∈ [(LinkErr.crc, Reg.link_CRC_ERR), (LinkErr.csum, Reg.link_CSUM_ERR), (LinkErr.len, Reg.link_LEN_ERR), (LinkErr.ver, Reg.link_VER_ERR)]) ∧
    (∃ (ks : XferValue) (tr : Trailer) (s : State) (f : Out × Word × List Nat × Trailer), some (Out.xferConfirm, ks.ident, [ks.value, ks.kind.code, ks.len], tr) = some f ∧ s.alive = false) ∧
    (∃ (ks : XferValue) (tr : Trailer) (s : State) (f : Out × Word × List Nat × Trailer) (e : LinkErr) (x : LinkErr × Nat), some (Out.xferConfirm, ks.ident, [ks.value, ks.kind.code, ks.len], tr) = some f ∧ s.linkCheck f.fst f.snd.fst f.snd.snd.fst f.snd.snd.snd = some e ∧ s.alive = true ∧ x ∈ [(LinkErr.crc, Reg.link_CRC_ERR), (LinkErr.csum, Reg.link_CSUM_ERR), (LinkErr.len, Reg.link_LEN_ERR), (LinkErr.ver, Reg.link_VER_ERR)]) ∧
    (∃ (value : XferValue) (tr : Trailer) (s : State) (f : Out × Word × List Nat × Trailer), some (Out.xferCancel, value.ident, [value.value, value.kind.code, value.len], tr) = some f ∧ s.alive = false) ∧
    (∃ (value : XferValue) (tr : Trailer) (s : State) (f : Out × Word × List Nat × Trailer) (e : LinkErr) (x : LinkErr × Nat), some (Out.xferCancel, value.ident, [value.value, value.kind.code, value.len], tr) = some f ∧ s.linkCheck f.fst f.snd.fst f.snd.snd.fst f.snd.snd.snd = some e ∧ s.alive = true ∧ x ∈ [(LinkErr.crc, Reg.link_CRC_ERR), (LinkErr.csum, Reg.link_CSUM_ERR), (LinkErr.len, Reg.link_LEN_ERR), (LinkErr.ver, Reg.link_VER_ERR)]) ∧
    (∃ (req : XferBare) (s : State) (f : Out × Word × List Nat × Trailer), some (Out.resyncReq, req.ident, [req.kind.code, req.len], req.tr) = some f ∧ s.alive = false) ∧
    (∃ (req : XferBare) (s : State) (f : Out × Word × List Nat × Trailer) (e : LinkErr) (x : LinkErr × Nat), some (Out.resyncReq, req.ident, [req.kind.code, req.len], req.tr) = some f ∧ s.linkCheck f.fst f.snd.fst f.snd.snd.fst f.snd.snd.snd = some e ∧ s.alive = true ∧ x ∈ [(LinkErr.crc, Reg.link_CRC_ERR), (LinkErr.csum, Reg.link_CSUM_ERR), (LinkErr.len, Reg.link_LEN_ERR), (LinkErr.ver, Reg.link_VER_ERR)]) ∧
    (∃ (s : State) (w : Out) (args : List Nat) (ver : Nat), (linkBody w args).length ≤ 1088 ∧ s.verOk w ver = true) ∧
    (∃ (s : State) (w : Out) (args : List Nat) (ver : Nat), (linkBody w args).length ≤ 1088 ∧ s.verOk w ver = false) ∧
    (∃ (w : Out) (ident : Word) (args : List Nat) (ver : Nat) (c : Word), (linkBody w args).length ≤ 1088 ∧ c ≠ (sealed w ident args ver).crc) ∧
    (∃ (w : Out) (ident : Word) (args : List Nat) (ver : Nat) (c : BitVec 16), (linkBody w args).length ≤ 1088 ∧ c ≠ (sealed w ident args ver).csum) ∧
    (∃ (s : State) (c : Caps) (tr0 : Trailer), Passes s Out.caps 0#32 c.args (sealed Out.caps 0#32 c.args tr0.ver) ∧ s.link.gotPeer = false ∧ s.negotiate c = false ∧ s.pair.role = Role.standbyUnsync) ∧
    (∃ (s : State) (a : Attend) (tr0 : Trailer), Passes s Out.attend 0#32 a.args (sealed Out.attend 0#32 a.args tr0.ver) ∧ s.pair.role = Role.standbySync ∧ a.role = Role.active ∧ a.partnerLost = true) ∧
    (∃ (s : State) (a : Attend) (tr0 : Trailer), Passes s Out.attend 0#32 a.args (sealed Out.attend 0#32 a.args tr0.ver) ∧ s.pair.role = Role.active ∧ a.role = Role.standbyUnsync) ∧
    (∃ (s : State) (reason : Nat) (tr0 : Trailer), Passes s Out.resign 0#32 [reason] (sealed Out.resign 0#32 [reason] tr0.ver) ∧ s.pair.role ≠ Role.active) ∧
    (∃ (s : State) (reason : Nat) (tr0 : Trailer), Passes s Out.resign 0#32 [reason] (sealed Out.resign 0#32 [reason] tr0.ver) ∧ s.pair.role = Role.active ∧ s.pair.notice = false ∧ s.pair.syncPair = true) ∧
    (∃ (s : State) (reason : Nat) (tr0 : Trailer), Passes s Out.resign 0#32 [reason] (sealed Out.resign 0#32 [reason] tr0.ver) ∧ s.pair.role = Role.active ∧ s.pair.notice = false ∧ s.pair.syncPair = false) ∧
    (∃ (s : State) (reason : Nat) (tr0 : Trailer), Passes s Out.resign 0#32 [reason] (sealed Out.resign 0#32 [reason] tr0.ver) ∧ s.pair.role = Role.active ∧ s.pair.notice = true) :=
  ⟨⟨{ State.reset with link := { st := .training } }, 0, by decide⟩,
    ⟨{ State.reset with link := { st := .aligned } }, by decide⟩,
    ⟨{ State.reset with link := { st := .up } }, by decide⟩,
    ⟨State.reset, by decide⟩,
    ⟨{ State.reset with link := { st := .up } }, by decide⟩,
    ⟨State.reset, by decide⟩,
    ⟨{}, { toSeal := { ver := 0, csum := 0#16, resv := [], bad := none }, crc := 0#32 }, { State.reset with pair := { role := .failed } }, (.caps, (0#32, ([0, 0, 0, 0, 0, 0, 0, 0, 0, 0, 0, 0, 0, 0, 0, 0], { toSeal := { ver := 0, csum := 0#16, resv := [], bad := none }, crc := 0#32 }))), by decide⟩,
    ⟨{}, { toSeal := { ver := 0, csum := 0#16, resv := [], bad := none }, crc := 0#32 }, State.reset, (.caps, (0#32, ([0, 0, 0, 0, 0, 0, 0, 0, 0, 0, 0, 0, 0, 0, 0, 0], { toSeal := { ver := 0, csum := 0#16, resv := [], bad := none }, crc := 0#32 }))), .crc, (.crc, 92), by decide⟩,
    ⟨{ epoch := 0#32, role := .standbyUnsync, sync := false, partnerLost := false, suspended := false, resyncBusy := false, negFail := false, stop := false, cyc := 0, ackCyc := 0 }, { toSeal := { ver := 0, csum := 0#16, resv := [], bad := none }, crc := 0#32 }, { State.reset with pair := { role := .failed } }, (.attend, (0#32, ([0, 3, 0, 0, 0], { toSeal := { ver := 0, csum := 0#16, resv := [], bad := none }, crc := 0#32 }))), by decide⟩,
    ⟨{ epoch := 0#32, role := .starting, sync := false, partnerLost := false, suspended := false, resyncBusy := false, negFail := false, stop := false, cyc := 0, ackCyc := 0 }, { toSeal := { ver := 0, csum := 0#16, resv := [], bad := none }, crc := 0#32 }, State.reset, (.attend, (0#32, ([0, 0, 0, 0, 0], { toSeal := { ver := 0, csum := 0#16, resv := [], bad := none }, crc := 0#32 }))), .crc, (.crc, 92), by decide⟩,
    ⟨0, { toSeal := { ver := 0, csum := 0#16, resv := [], bad := none }, crc := 0#32 }, { State.reset with pair := { role := .failed } }, (.resign, (0#32, ([0], { toSeal := { ver := 0, csum := 0#16, resv := [], bad := none }, crc := 0#32 }))), by decide⟩,
    ⟨0, { toSeal := { ver := 0, csum := 0#16, resv := [], bad := none }, crc := 0#32 }, State.reset, (.resign, (0#32, ([0], { toSeal := { ver := 0, csum := 0#16, resv := [], bad := none }, crc := 0#32 }))), .crc, (.crc, 92), by decide⟩,
    ⟨{ cyc := 0, mode := 0, stopTask := false, start := false, wait := false, bellTime := {}, errCause := 0#32, flipTime := {}, firstSeq := 0#32 }, { toSeal := { ver := 0, csum := 0#16, resv := [], bad := none }, crc := 0#32 }, { State.reset with pair := { role := .failed } }, (.proofBegin, (0#32, ([0, 0, 0, 0, 0, 0, 0, 0], { toSeal := { ver := 0, csum := 0#16, resv := [], bad := none }, crc := 0#32 }))), by decide⟩,
    ⟨{ cyc := 0, mode := 0, stopTask := false, start := false, wait := false, bellTime := {}, errCause := 0#32, flipTime := {}, firstSeq := 0#32 }, { toSeal := { ver := 0, csum := 0#16, resv := [], bad := none }, crc := 0#32 }, State.reset, (.proofBegin, (0#32, ([0, 0, 0, 0, 0, 0, 0, 0], { toSeal := { ver := 0, csum := 0#16, resv := [], bad := none }, crc := 0#32 }))), .crc, (.crc, 92), by decide⟩,
    ⟨{ cyc := 0, lines := 0, frames := 0, posts := 0, ctrls := 0, digest := 0#32, overRun := false, sweep := false, recCyc := 0 }, { toSeal := { ver := 0, csum := 0#16, resv := [], bad := none }, crc := 0#32 }, { State.reset with pair := { role := .failed } }, (.proofEnd, (0#32, ([0, 0, 0, 0, 0, 0, 0, 0], { toSeal := { ver := 0, csum := 0#16, resv := [], bad := none }, crc := 0#32 }))), by decide⟩,
    ⟨{ cyc := 0, lines := 0, frames := 0, posts := 0, ctrls := 0, digest := 0#32, overRun := false, sweep := false, recCyc := 0 }, { toSeal := { ver := 0, csum := 0#16, resv := [], bad := none }, crc := 0#32 }, State.reset, (.proofEnd, (0#32, ([0, 0, 0, 0, 0, 0, 0, 0], { toSeal := { ver := 0, csum := 0#16, resv := [], bad := none }, crc := 0#32 }))), .crc, (.crc, 92), by decide⟩,
    ⟨0, { toSeal := { ver := 0, csum := 0#16, resv := [], bad := none }, crc := 0#32 }, { State.reset with pair := { role := .failed } }, (.stopMark, (0#32, ([0], { toSeal := { ver := 0, csum := 0#16, resv := [], bad := none }, crc := 0#32 }))), by decide⟩,
    ⟨0, { toSeal := { ver := 0, csum := 0#16, resv := [], bad := none }, crc := 0#32 }, State.reset, (.stopMark, (0#32, ([0], { toSeal := { ver := 0, csum := 0#16, resv := [], bad := none }, crc := 0#32 }))), .crc, (.crc, 92), by decide⟩,
    ⟨{ cyc := 0, lines := 0, frames := 0 }, { toSeal := { ver := 0, csum := 0#16, resv := [], bad := none }, crc := 0#32 }, { State.reset with pair := { role := .failed } }, (.proofAck, (0#32, ([0, 0, 0], { toSeal := { ver := 0, csum := 0#16, resv := [], bad := none }, crc := 0#32 }))), by decide⟩,
    ⟨{ cyc := 0, lines := 0, frames := 0 }, { toSeal := { ver := 0, csum := 0#16, resv := [], bad := none }, crc := 0#32 }, State.reset, (.proofAck, (0#32, ([0, 0, 0], { toSeal := { ver := 0, csum := 0#16, resv := [], bad := none }, crc := 0#32 }))), .crc, (.crc, 92), by decide⟩,
    ⟨0, [], { toSeal := { ver := 0, csum := 0#16, resv := [], bad := none }, crc := 0#32 }, { State.reset with pair := { role := .failed } }, (.proofNak, (0#32, ([0], { toSeal := { ver := 0, csum := 0#16, resv := [], bad := none }, crc := 0#32 }))), by decide⟩,
    ⟨0, [], { toSeal := { ver := 0, csum := 0#16, resv := [], bad := none }, crc := 0#32 }, State.reset, (.proofNak, (0#32, ([0], { toSeal := { ver := 0, csum := 0#16, resv := [], bad := none }, crc := 0#32 }))), .crc, (.crc, 92), by decide⟩,
    ⟨0#32, .project, 0, 0#256, { toSeal := { ver := 0, csum := 0#16, resv := [], bad := none }, crc := 0#32 }, { State.reset with pair := { role := .failed } }, (.xferOpen, (0#32, ([0, 3, 0, 0], { toSeal := { ver := 0, csum := 0#16, resv := [], bad := none }, crc := 0#32 }))), by decide⟩,
    ⟨0#32, .project, 0, 0#256, { toSeal := { ver := 0, csum := 0#16, resv := [], bad := none }, crc := 0#32 }, State.reset, (.xferOpen, (0#32, ([0, 3, 0, 0], { toSeal := { ver := 0, csum := 0#16, resv := [], bad := none }, crc := 0#32 }))), .crc, (.crc, 92), by decide⟩,
    ⟨0#32, 0, [], { toSeal := { ver := 0, csum := 0#16, resv := [], bad := none }, crc := 0#32 }, { State.reset with pair := { role := .failed } }, (.xferData, (0#32, ([0, 0], { toSeal := { ver := 0, csum := 0#16, resv := [], bad := none }, crc := 0#32 }))), by decide⟩,
    ⟨0#32, 0, [], { toSeal := { ver := 0, csum := 0#16, resv := [], bad := none }, crc := 0#32 }, State.reset, (.xferData, (0#32, ([0, 0], { toSeal := { ver := 0, csum := 0#16, resv := [], bad := none }, crc := 0#32 }))), .crc, (.crc, 92), by decide⟩,
    ⟨0#32, 0, { toSeal := { ver := 0, csum := 0#16, resv := [], bad := none }, crc := 0#32 }, { State.reset with pair := { role := .failed } }, (.xferAck, (0#32, ([0, 0], { toSeal := { ver := 0, csum := 0#16, resv := [], bad := none }, crc := 0#32 }))), by decide⟩,
    ⟨0#32, 0, { toSeal := { ver := 0, csum := 0#16, resv := [], bad := none }, crc := 0#32 }, State.reset, (.xferAck, (0#32, ([0, 0], { toSeal := { ver := 0, csum := 0#16, resv := [], bad := none }, crc := 0#32 }))), .crc, (.crc, 92), by decide⟩,
    ⟨{ ident := 0#32, kind := .project, len := 0 }, { toSeal := { ver := 0, csum := 0#16, resv := [], bad := none }, crc := 0#32 }, { State.reset with pair := { role := .failed } }, (.xferClose, (0#32, ([0, 3, 0], { toSeal := { ver := 0, csum := 0#16, resv := [], bad := none }, crc := 0#32 }))), by decide⟩,
    ⟨{ ident := 0#32, kind := .none, len := 0 }, { toSeal := { ver := 0, csum := 0#16, resv := [], bad := none }, crc := 0#32 }, State.reset, (.xferClose, (0#32, ([0, 0, 0], { toSeal := { ver := 0, csum := 0#16, resv := [], bad := none }, crc := 0#32 }))), .crc, (.crc, 92), by decide⟩,
    ⟨{ ident := 0#32, kind := .project, len := 0 }, 0#256, { toSeal := { ver := 0, csum := 0#16, resv := [], bad := none }, crc := 0#32 }, { State.reset with pair := { role := .failed } }, (.xferStaged, (0#32, ([0, 0, 3, 0], { toSeal := { ver := 0, csum := 0#16, resv := [], bad := none }, crc := 0#32 }))), by decide⟩,
    ⟨{ ident := 0#32, kind := .project, len := 0 }, 0#256, { toSeal := { ver := 0, csum := 0#16, resv := [], bad := none }, crc := 0#32 }, State.reset, (.xferStaged, (0#32, ([0, 0, 3, 0], { toSeal := { ver := 0, csum := 0#16, resv := [], bad := none }, crc := 0#32 }))), .crc, (.crc, 92), by decide⟩,
    ⟨{ toXferHead := { ident := 0#32, kind := .config, len := 0 }, value := 0 }, { toSeal := { ver := 0, csum := 0#16, resv := [], bad := none }, crc := 0#32 }, { State.reset with pair := { role := .failed } }, (.xferArm, (0#32, ([0, 1, 0], { toSeal := { ver := 0, csum := 0#16, resv := [], bad := none }, crc := 0#32 }))), by decide⟩,
    ⟨{ toXferHead := { ident := 0#32, kind := .package, len := 0 }, value := 0 }, { toSeal := { ver := 0, csum := 0#16, resv := [], bad := none }, crc := 0#32 }, State.reset, (.xferArm, (0#32, ([0, 2, 0], { toSeal := { ver := 0, csum := 0#16, resv := [], bad := none }, crc := 0#32 }))), .crc, (.crc, 92), by decide⟩,
    ⟨{ toXferHead := { ident := 0#32, kind := .config, len := 0 }, value := 0 }, { toSeal := { ver := 0, csum := 0#16, resv := [], bad := none }, crc := 0#32 }, { State.reset with pair := { role := .failed } }, (.xferConfirm, (0#32, ([0, 1, 0], { toSeal := { ver := 0, csum := 0#16, resv := [], bad := none }, crc := 0#32 }))), by decide⟩,
    ⟨{ toXferHead := { ident := 0#32, kind := .project, len := 0 }, value := 0 }, { toSeal := { ver := 0, csum := 0#16, resv := [], bad := none }, crc := 0#32 }, State.reset, (.xferConfirm, (0#32, ([0, 3, 0], { toSeal := { ver := 0, csum := 0#16, resv := [], bad := none }, crc := 0#32 }))), .crc, (.crc, 92), by decide⟩,
    ⟨{ toXferHead := { ident := 0#32, kind := .none, len := 0 }, value := 0 }, { toSeal := { ver := 0, csum := 0#16, resv := [], bad := none }, crc := 0#32 }, { State.reset with pair := { role := .failed } }, (.xferCancel, (0#32, ([0, 0, 0], { toSeal := { ver := 0, csum := 0#16, resv := [], bad := none }, crc := 0#32 }))), by decide⟩,
    ⟨{ toXferHead := { ident := 0#32, kind := .config, len := 0 }, value := 0 }, { toSeal := { ver := 0, csum := 0#16, resv := [], bad := none }, crc := 0#32 }, State.reset, (.xferCancel, (0#32, ([0, 1, 0], { toSeal := { ver := 0, csum := 0#16, resv := [], bad := none }, crc := 0#32 }))), .crc, (.crc, 92), by decide⟩,
    ⟨{ toXferHead := { ident := 0#32, kind := .none, len := 0 }, tr := { toSeal := { ver := 0, csum := 0#16, resv := [], bad := none }, crc := 0#32 } }, { State.reset with pair := { role := .failed } }, (.resyncReq, (0#32, ([0, 0], { toSeal := { ver := 0, csum := 0#16, resv := [], bad := none }, crc := 0#32 }))), by decide⟩,
    ⟨{ toXferHead := { ident := 0#32, kind := .package, len := 0 }, tr := { toSeal := { ver := 0, csum := 0#16, resv := [], bad := none }, crc := 0#32 } }, State.reset, (.resyncReq, (0#32, ([2, 0], { toSeal := { ver := 0, csum := 0#16, resv := [], bad := none }, crc := 0#32 }))), .crc, (.crc, 92), by decide⟩,
    ⟨State.reset, .resign, [], 1, by decide⟩,
    ⟨State.reset, .caps, [], 0, by decide⟩,
    ⟨.proofJournal, 0#32, [], 0, 0#32, by decide⟩,
    ⟨.ppsOut, 0#32, [], 0, 8#16, by decide⟩,
    ⟨{ State.reset with pair := { role := .standbyUnsync } }, {}, { toSeal := { ver := 1, csum := 0#16, resv := [], bad := none }, crc := 0#32 }, by decide⟩,
    ⟨{ State.reset with pair := { role := .standbySync } }, { epoch := 0#32, role := .active, sync := false, partnerLost := true, suspended := false, resyncBusy := false, negFail := false, stop := false, cyc := 0, ackCyc := 0 }, { toSeal := { ver := 1, csum := 0#16, resv := [], bad := none }, crc := 0#32 }, by decide⟩,
    ⟨{ State.reset with pair := { role := .active } }, { epoch := 0#32, role := .standbyUnsync, sync := false, partnerLost := false, suspended := false, resyncBusy := false, negFail := false, stop := false, cyc := 0, ackCyc := 0 }, { toSeal := { ver := 1, csum := 0#16, resv := [], bad := none }, crc := 0#32 }, by decide⟩,
    ⟨State.reset, 0, { toSeal := { ver := 1, csum := 0#16, resv := [], bad := none }, crc := 0#32 }, by decide⟩,
    ⟨{ State.reset with pair := { role := .active, syncPair := true } }, 0, { toSeal := { ver := 1, csum := 0#16, resv := [], bad := none }, crc := 0#32 }, by decide⟩,
    ⟨{ State.reset with pair := { role := .active } }, 0, { toSeal := { ver := 1, csum := 0#16, resv := [], bad := none }, crc := 0#32 }, by decide⟩,
    ⟨{ State.reset with pair := { role := .active, notice := true } }, 0, { toSeal := { ver := 1, csum := 0#16, resv := [], bad := none }, crc := 0#32 }, by decide⟩⟩

theorem witness_ProofStream :
    (∃ (s : State) (a b : Nat), s.isActive = true ∧ s.ptx.began = true ∧ tmem s.dirty.marked a = true ∧ (s.fixedMay 32 AccOp.read a 64).snd = true ∧ s.upsets = [] ∧ b ≠ a) ∧
    (∃ (s : State), s.isActive = true ∧ s.ptx.began = true ∧ s.ptx.done = true ∧ s.dirty.marked = []) ∧
    (∃ (s : State) (b : ProofBegin) (tr0 : Trailer), Passes s Out.proofBegin 0#32 b.args (sealed Out.proofBegin 0#32 b.args tr0.ver) ∧ s.pair.role = Role.standbySync ∧ s.pair.resyncBusy = false) ∧
    (∃ (s : State) (c : RxCycle) (seq : Word) (tr0 : Trailer) (body : ProofBody), s.pair.role = Role.standbySync ∧ s.prx.cycles = [c] ∧ c.frames = [] ∧ seq = c.head.firstSeq ∧ s.prx.nextSeq = some seq ∧ Passes s body.out 0#32 (ProofFrame.mk seq body (sealed body.out 0#32 ({ seq := seq, body := body, crc := 0#32 } : ProofFrame).args tr0.ver).crc).args (sealed body.out 0#32 ({ seq := seq, body := body, crc := 0#32 } : ProofFrame).args tr0.ver) ∧ s.frameBad (ProofFrame.mk seq body (sealed body.out 0#32 ({ seq := seq, body := body, crc := 0#32 } : ProofFrame).args tr0.ver).crc) = false) ∧
    (∃ (s : State) (c : RxCycle) (e : ProofEnd) (tr0 : Trailer), Passes s Out.proofEnd 0#32 e.args (sealed Out.proofEnd 0#32 e.args tr0.ver) ∧ s.pair.role = Role.standbySync ∧ s.prx.cycles = [c] ∧ c.tail = none ∧ c.head.cyc = e.cyc ∧ e.reserved = false ∧ ({ c with tail := some e } : RxCycle).missing (s.prx.nextSeq.getD c.head.firstSeq) = []) ∧
    (∃ (s : State) (c : RxCycle) (e : ProofEnd), s.pair.role = Role.standbySync ∧ s.pair.resyncBusy = false ∧ s.prx.cycles = [c] ∧ c.tail = some e ∧ c.matches e = true ∧ c.head.mode = 1 ∧ c.head.stopTask = false ∧ s.olc.stat.final = true ∧ s.upsets = []) ∧
    (∃ (s : State) (c : RxCycle) (rest : List RxCycle), s.prx.apply = c :: rest) ∧
    (∃ (s : State) (cyc : Nat) (tr0 : Trailer), Passes s Out.stopMark 0#32 [cyc] (sealed Out.stopMark 0#32 [cyc] tr0.ver) ∧ s.pair.role = Role.standbySync ∧ (s.prx.cycles = [] ∨ ∃ (c : RxCycle), c ∈ s.prx.cycles ∧ c.head.cyc = cyc) ∧ FormeFree s s.outputs) ∧
    (∃ (s : State) (c : TxCycle) (l f : Nat) (tr0 : Trailer), Passes s Out.proofAck 0#32 [c.cyc, l, f] (sealed Out.proofAck 0#32 [c.cyc, l, f] tr0.ver) ∧ s.isActive = true ∧ s.ptx.unacked = [c] ∧ s.ptx.resync = ResyncSt.none ∧ c.cyc = s.bell.cycle) ∧
    (∃ (s : State) (cyc : Nat) (x : ProofFrame) (tr0 : Trailer), Passes s Out.proofNak 0#32 [cyc, BitVec.toNat x.seq] (sealed Out.proofNak 0#32 [cyc, BitVec.toNat x.seq] tr0.ver) ∧ s.isActive = true ∧ s.linkMay x.body.out = true ∧ s.ptx.replay = [(cyc, x)]) :=
  ⟨⟨{ State.reset with dirty := { marked := [(5, true)] }, pair := { role := .active }, ptx := { began := true } }, 5, 0, by decide⟩,
    ⟨{ State.reset with pair := { role := .active }, ptx := { began := true, done := true } }, by decide⟩,
    ⟨{ State.reset with pair := { role := .standbySync, agreedOk := true, agreed := [3] }, link := { gotPeer := true } }, { cyc := 0, mode := 0, stopTask := false, start := false, wait := false, bellTime := {}, errCause := 0#32, flipTime := {}, firstSeq := 0#32 }, { toSeal := { ver := 3, csum := 0#16, resv := [], bad := none }, crc := 0#32 }, by decide⟩,
    ⟨{ State.reset with pair := { role := .standbySync, agreedOk := true }, link := { gotPeer := true }, prx := { cycles := [{ head := { cyc := 0, mode := 0, stopTask := false, start := false, wait := false, bellTime := {}, errCause := 0#32, flipTime := {}, firstSeq := 1#32 }, frames := [], tail := none, naks := [], cal := 0#64 }], nextSeq := (some 1#32) } }, { head := { cyc := 0, mode := 0, stopTask := false, start := false, wait := false, bellTime := {}, errCause := 0#32, flipTime := {}, firstSeq := 1#32 }, frames := [], tail := none, naks := [], cal := 0#64 }, 1#32, { toSeal := { ver := 0, csum := 0#16, resv := [], bad := none }, crc := 0#32 }, (.posts [{ code := 2#16, source := 0xfffe#16, p0 := 4#32, p1 := 0#32, p2 := 9#32 }, { code := 0xc0b4#16, source := 0x9985#16, p0 := 0x51#32, p1 := 0x40#32, p2 := 0#32 }]), by decide⟩,
    ⟨{ State.reset with pair := { role := .standbySync, agreedOk := true }, link := { gotPeer := true }, prx := { cycles := [{ head := { cyc := 0, mode := 0, stopTask := false, start := false, wait := false, bellTime := {}, errCause := 0#32, flipTime := {}, firstSeq := 0#32 }, frames := [], tail := none, naks := [], cal := 0#64 }] } }, { head := { cyc := 0, mode := 0, stopTask := false, start := false, wait := false, bellTime := {}, errCause := 0#32, flipTime := {}, firstSeq := 0#32 }, frames := [], tail := none, naks := [], cal := 0#64 }, { cyc := 0, lines := 0, frames := 0, posts := 0, ctrls := 0, digest := 0#32, overRun := false, sweep := false, recCyc := 0 }, { toSeal := { ver := 0, csum := 0#16, resv := [], bad := none }, crc := 0#32 }, by decide⟩,
    ⟨{ State.reset with pair := { role := .standbySync }, prx := { cycles := [{ head := { cyc := 0, mode := 1, stopTask := false, start := false, wait := false, bellTime := {}, errCause := 0#32, flipTime := {}, firstSeq := 0#32 }, frames := [], tail := (some { cyc := 0, lines := 0, frames := 0, posts := 0, ctrls := 0, digest := 0#32, overRun := false, sweep := false, recCyc := 0 }), naks := [], cal := 0#64 }] } }, { head := { cyc := 0, mode := 1, stopTask := false, start := false, wait := false, bellTime := {}, errCause := 0#32, flipTime := {}, firstSeq := 0#32 }, frames := [], tail := (some { cyc := 0, lines := 0, frames := 0, posts := 0, ctrls := 0, digest := 0#32, overRun := false, sweep := false, recCyc := 0 }), naks := [], cal := 0#64 }, { cyc := 0, lines := 0, frames := 0, posts := 0, ctrls := 0, digest := 0#32, overRun := false, sweep := false, recCyc := 0 }, by decide⟩,
    ⟨{ State.reset with prx := { apply := [{ head := { cyc := 0, mode := 0, stopTask := false, start := false, wait := false, bellTime := {}, errCause := 0#32, flipTime := {}, firstSeq := 0#32 }, frames := [], tail := none, naks := [], cal := 0#64 }] } }, { head := { cyc := 0, mode := 0, stopTask := false, start := false, wait := false, bellTime := {}, errCause := 0#32, flipTime := {}, firstSeq := 0#32 }, frames := [], tail := none, naks := [], cal := 0#64 }, [], by decide⟩,
    ⟨{ State.reset with pair := { role := .standbySync, agreedOk := true, agreed := [3] }, link := { gotPeer := true } }, 0, { toSeal := { ver := 3, csum := 0#16, resv := [], bad := none }, crc := 0#32 }, by decide⟩,
    ⟨{ State.reset with pair := { role := .active, agreedOk := true, agreed := [3] }, link := { gotPeer := true }, ptx := { unacked := [{ cyc := 0, lines := 0, bytes := 0, wait := false, endAt := 0 }] } }, { cyc := 0, lines := 0, bytes := 0, wait := false, endAt := 0 }, 0, 0, { toSeal := { ver := 3, csum := 0#16, resv := [], bad := none }, crc := 0#32 }, by decide⟩,
    ⟨{ State.reset with pair := { role := .active, agreedOk := true }, link := { st := .up, gotPeer := true }, ptx := { replay := [(0, { seq := 0#32, body := (.ctrls [(.raise [8, 12, 2]), (.olcSwitch 3), (.olcSwitch 1)]), crc := 0#32 })] } }, 0, { seq := 0#32, body := (.ctrls [(.raise [8, 12, 2]), (.olcSwitch 3), (.olcSwitch 1)]), crc := 0#32 }, { toSeal := { ver := 0, csum := 0#16, resv := [], bad := none }, crc := 0#32 }, by decide⟩⟩

theorem witness_Transfers :
    (∃ (s : State) (i : Word) (len : Nat) (d : BitVec 256) (tr0 : Trailer), Passes s Out.xferOpen i [BitVec.toNat i, 2, len, d.toNat] (sealed Out.xferOpen i [BitVec.toNat i, 2, len, d.toNat] tr0.ver) ∧ (s.link.xfer.busy = false ∨ s.link.xfer.sending = false) ∧ len ≤ 2 ^ 31) ∧
    (∃ (s : State) (i : Word) (len : Nat) (d : BitVec 256) (tr0 : Trailer), Passes s Out.xferOpen i [BitVec.toNat i, 1, len, d.toNat] (sealed Out.xferOpen i [BitVec.toNat i, 1, len, d.toNat] tr0.ver) ∧ (s.link.xfer.busy = false ∨ s.link.xfer.sending = false) ∧ len ≤ 8388608 ∧ s.linkMay Out.xferStaged = true) ∧
    (∃ (s : State) (i : Word) (b : List Byte) (tr0 : Trailer), Receiving s i ∧ Passes s Out.xferData i (BitVec.toNat i :: s.link.xfer.content.length :: List.map BitVec.toNat b) (sealed Out.xferData i (BitVec.toNat i :: s.link.xfer.content.length :: List.map BitVec.toNat b) tr0.ver) ∧ s.link.xfer.content.length + b.length ≤ s.link.xfer.length) ∧
    (∃ (s : State) (i : Word) (b : List Byte) (tr0 : Trailer), Receiving s i ∧ Passes s Out.xferData i (BitVec.toNat i :: s.link.xfer.content.length :: List.map BitVec.toNat b) (sealed Out.xferData i (BitVec.toNat i :: s.link.xfer.content.length :: List.map BitVec.toNat b) tr0.ver) ∧ s.link.xfer.length < s.link.xfer.content.length + b.length) ∧
    (∃ (s : State) (h : XferHead) (tr0 : Trailer) (x : Nat), Passes s Out.xferClose h.ident [BitVec.toNat h.ident, h.kind.code, h.len] (sealed Out.xferClose h.ident [BitVec.toNat h.ident, h.kind.code, h.len] tr0.ver) ∧ Receiving s h.ident ∧ s.link.xfer.kind = XferKind.package ∧ s.link.xfer.content.length = s.link.xfer.length ∧ Config.shake256 s.link.xfer.content = s.link.xfer.digest ∧ s.proj.uses x = true) ∧
    (∃ (s : State) (i : Word) (off : Nat) (tr0 : Trailer), Passes s Out.xferAck i [BitVec.toNat i, off] (sealed Out.xferAck i [BitVec.toNat i, off] tr0.ver) ∧ Sending s i ∧ off ≤ s.link.xfer.length) ∧
    (∃ (s : State) (h : XferHead) (p : OlcPkg) (tr0 : Trailer), Passes s Out.xferStaged h.ident [BitVec.toNat h.ident, s.link.xfer.digest.toNat, h.kind.code, h.len] (sealed Out.xferStaged h.ident [BitVec.toNat h.ident, s.link.xfer.digest.toNat, h.kind.code, h.len] tr0.ver) ∧ Sending s h.ident ∧ s.link.xfer.kind = XferKind.package ∧ s.olc.stat = OlcStat.staging ∧ s.olc.pkg = some p) ∧
    (∃ (s : State) (h : XferHead) (d : BitVec 256) (tr0 : Trailer), Passes s Out.xferStaged h.ident [BitVec.toNat h.ident, d.toNat, h.kind.code, h.len] (sealed Out.xferStaged h.ident [BitVec.toNat h.ident, d.toNat, h.kind.code, h.len] tr0.ver) ∧ Sending s h.ident ∧ d ≠ s.link.xfer.digest ∧ s.link.xfer.lastOp = 1) ∧
    (∃ (s : State) (h : XferHead) (d : BitVec 256) (tr0 : Trailer), Passes s Out.xferStaged h.ident [BitVec.toNat h.ident, d.toNat, h.kind.code, h.len] (sealed Out.xferStaged h.ident [BitVec.toNat h.ident, d.toNat, h.kind.code, h.len] tr0.ver) ∧ Sending s h.ident ∧ d ≠ s.link.xfer.digest ∧ s.link.xfer.lastOp ≠ 1 ∧ s.link.xfer.kind = XferKind.package ∧ s.olc.stat.final = false) ∧
    (∃ (s : State), s.link.xfer.busy = true ∧ s.link.xfer.sending = true ∧ s.linkMay Out.xferOpen = true) ∧
    (∃ (s : State) (x : XferValue) (tr0 : Trailer), Passes s Out.xferArm x.ident [x.value, x.kind.code, x.len] (sealed Out.xferArm x.ident [x.value, x.kind.code, x.len] tr0.ver) ∧ s.pair.role = Role.standbySync ∧ s.olc.stat = OlcStat.staged) ∧
    (∃ (s : State) (x : XferValue) (tr0 : Trailer), Passes s Out.xferConfirm x.ident [x.value, x.kind.code, x.len] (sealed Out.xferConfirm x.ident [x.value, x.kind.code, x.len] tr0.ver) ∧ s.olc.stat = OlcStat.staged ∧ x.value ≠ 0) ∧
    (∃ (s : State) (x : XferValue) (tr0 : Trailer), Passes s Out.xferCancel x.ident [x.value, x.kind.code, x.len] (sealed Out.xferCancel x.ident [x.value, x.kind.code, x.len] tr0.ver) ∧ (s.link.xfer.busy = false ∨ s.link.xfer.ident = x.ident) ∧ s.olc.stat.final = false) ∧
    (∃ (s : State) (x : XferValue) (tr0 : Trailer), Passes s Out.xferCancel x.ident [x.value, x.kind.code, x.len] (sealed Out.xferCancel x.ident [x.value, x.kind.code, x.len] tr0.ver) ∧ s.link.xfer.busy = true ∧ s.link.xfer.ident ≠ x.ident) ∧
    (∃ (s : State), s.link.retry = true ∧ s.canResync = true) :=
  ⟨⟨{ State.reset with pair := { agreedOk := true }, link := { gotPeer := true } }, 0#32, 0, 0#256, { toSeal := { ver := 0, csum := 0#16, resv := [], bad := none }, crc := 0#32 }, by decide⟩,
    ⟨{ State.reset with pair := { agreedOk := true }, link := { st := .up, gotPeer := true } }, 0#32, 0, 0#256, { toSeal := { ver := 0, csum := 0#16, resv := [], bad := none }, crc := 0#32 }, by decide⟩,
    ⟨{ State.reset with pair := { agreedOk := true }, link := { gotPeer := true, xfer := { ident := 4#32, busy := true } } }, 4#32, [], { toSeal := { ver := 0, csum := 0#16, resv := [], bad := none }, crc := 0#32 }, by decide⟩,
    ⟨{ State.reset with pair := { agreedOk := true }, link := { gotPeer := true, xfer := { ident := 4#32, busy := true } } }, 4#32, [0#8], { toSeal := { ver := 0, csum := 0#16, resv := [], bad := none }, crc := 0#32 }, by decide⟩,
    ⟨xferS { ident := 2#32, kind := .package, busy := true, digest := Config.shake256 [] }, { ident := 2#32, kind := .package, len := 0 }, { toSeal := { ver := 0, csum := 0#16, resv := [], bad := none }, crc := 0#32 }, 0, by decide, ⟨rfl, rfl, rfl⟩, rfl, rfl, rfl, by decide⟩,
    ⟨{ State.reset with pair := { agreedOk := true }, link := { gotPeer := true, xfer := { ident := 4#32, sending := true, busy := true } } }, 4#32, 0, { toSeal := { ver := 0, csum := 0#16, resv := [], bad := none }, crc := 0#32 }, by decide⟩,
    ⟨{ State.reset with olc := { stat := .staging, pkg := (some { idents := [], code := [], map := [], project := {}, rules := [], cfgBytes := [], bytes := [] }) }, pair := { agreedOk := true }, link := { gotPeer := true, xfer := { ident := 0x80#32, kind := .package, sending := true, busy := true } } }, { ident := 0x80#32, kind := .project, len := 0 }, { idents := [], code := [], map := [], project := {}, rules := [], cfgBytes := [], bytes := [] }, { toSeal := { ver := 0, csum := 0#16, resv := [], bad := none }, crc := 0#32 }, by decide⟩,
    ⟨{ State.reset with pair := { agreedOk := true }, link := { gotPeer := true, xfer := { ident := 0x80#32, sending := true, busy := true, lastOp := 1 } } }, { ident := 0x80#32, kind := .none, len := 0 }, 0x40#256, { toSeal := { ver := 0, csum := 0#16, resv := [], bad := none }, crc := 0#32 }, by decide⟩,
    ⟨{ State.reset with olc := { stat := .staging }, pair := { agreedOk := true }, link := { gotPeer := true, xfer := { ident := 0x80#32, kind := .package, sending := true, busy := true } } }, { ident := 0x80#32, kind := .package, len := 0 }, 0x100#256, { toSeal := { ver := 0, csum := 0#16, resv := [], bad := none }, crc := 0#32 }, by decide⟩,
    ⟨{ State.reset with pair := { agreedOk := true }, link := { st := .up, gotPeer := true, xfer := { sending := true, busy := true } } }, by decide⟩,
    ⟨{ State.reset with olc := { stat := .staged }, pair := { role := .standbySync, agreedOk := true }, link := { gotPeer := true } }, { toXferHead := { ident := 0#32, kind := .config, len := 0 }, value := 0 }, { toSeal := { ver := 0, csum := 0#16, resv := [], bad := none }, crc := 0#32 }, by decide⟩,
    ⟨{ State.reset with olc := { stat := .staged }, pair := { agreedOk := true }, link := { gotPeer := true } }, { toXferHead := { ident := 0#32, kind := .package, len := 0 }, value := 1 }, { toSeal := { ver := 0, csum := 0#16, resv := [], bad := none }, crc := 0#32 }, by decide⟩,
    ⟨{ State.reset with olc := { stat := .staged }, pair := { agreedOk := true }, link := { gotPeer := true } }, { toXferHead := { ident := 0#32, kind := .none, len := 0 }, value := 0 }, { toSeal := { ver := 0, csum := 0#16, resv := [], bad := none }, crc := 0#32 }, by decide⟩,
    ⟨{ State.reset with pair := { agreedOk := true }, link := { gotPeer := true, xfer := { busy := true } } }, { toXferHead := { ident := 2#32, kind := .none, len := 0 }, value := 0 }, { toSeal := { ver := 0, csum := 0#16, resv := [], bad := none }, crc := 0#32 }, by decide⟩,
    ⟨{ State.reset with pair := { role := .standbyUnsync, agreedOk := true }, link := { st := .up, gotPeer := true, capsDone := true, retry := true } }, by decide⟩⟩

theorem witness_PassCommands :
    (∃ (s : State) (e : Word), s.pair.role = Role.standbySync ∧ s.saving = false ∧ s.pair.nextEpoch = some e ∧ twf (fun (x : Nat) => false) s.outDirty = true) ∧
    (∃ (s : State) (e : Word), s.pair.role = Role.standbySync ∧ s.saving = false ∧ s.pair.nextEpoch = some e ∧ s.olc.stat.final = false ∧ s.switchDue = false) ∧
    (∃ (s : State), s.pair.role = Role.standbySync ∧ s.saving = false ∧ s.pair.nextEpoch = none) ∧
    (∃ (s : State) (e : Word) (h : Nat), s.pair.role = Role.standbyUnsync ∧ s.saving = false ∧ s.unsyncClaim = true ∧ s.pair.suspended = false ∧ s.pair.nextEpoch = some e ∧ FormeFree s s.outputs ∧ h ∈ s.outputs ∧ tget (fun (x : Nat) => none) s.proj.safe h = some SafeAct.hold) ∧
    (∃ (s : State) (e : Word) (h : Nat) (v : Word), s.pair.role = Role.standbyUnsync ∧ s.saving = false ∧ s.unsyncClaim = true ∧ s.pair.suspended = false ∧ s.pair.nextEpoch = some e ∧ FormeFree s s.outputs ∧ h ∈ s.outputs ∧ tget (fun (x : Nat) => none) s.proj.safe h = some (SafeAct.subst v)) ∧
    (∃ (s : State), s.pair.role = Role.standbyUnsync ∧ s.saving = false ∧ (s.unsyncClaim && !s.pair.suspended) = false) ∧
    (∃ (s : State) (peer : BitVec 2), s.pair.role = Role.starting ∧ 8 ≤ s.fld Page.clk Reg.clk_STARTUP_STEP 0 4 ∧ s.sec.recovery = false ∧ s.saving = false ∧ s.pair.cold = false ∧ FormeFree s s.outputs ∧ peer = 3#2) ∧
    (∃ (s : State) (peer : BitVec 2), s.pair.role = Role.starting ∧ 8 ≤ s.fld Page.clk Reg.clk_STARTUP_STEP 0 4 ∧ s.sec.recovery = false ∧ s.saving = false ∧ s.pair.cold = false ∧ FormeFree s s.outputs ∧ peer ≠ 3#2 ∧ s.pair.peerPresent = false ∧ s.startAlone = false) ∧
    (∃ (s : State) (peer : BitVec 2) (e : Word), s.pair.role = Role.starting ∧ 8 ≤ s.fld Page.clk Reg.clk_STARTUP_STEP 0 4 ∧ s.sec.recovery = false ∧ s.saving = false ∧ s.pair.cold = false ∧ FormeFree s s.outputs ∧ peer ≠ 3#2 ∧ s.pair.peerPresent = false ∧ s.startAlone = true ∧ s.pair.nextEpoch = some e) ∧
    (∃ (s : State) (peer : BitVec 2) (e : Word), s.pair.role = Role.starting ∧ 8 ≤ s.fld Page.clk Reg.clk_STARTUP_STEP 0 4 ∧ s.sec.recovery = false ∧ s.saving = false ∧ s.pair.cold = false ∧ FormeFree s s.outputs ∧ peer ≠ 3#2 ∧ s.pair.peerPresent = true ∧ s.pair.nextEpoch = some e) ∧
    (∃ (s : State) (tie later : Bool), s.alive = true ∧ s.pair.own1 = true ∧ s.pair.own2 = true ∧ (s.pair.cold = false ∨ FormeFree s s.outputs) ∧ (tie = true ∧ s.pair.sideB = true ∨ tie = false ∧ later = true) ∧ s.pair.cold = false) ∧
    (∃ (s : State) (tie later : Bool), s.alive = true ∧ s.pair.own1 = true ∧ s.pair.own2 = true ∧ (s.pair.cold = false ∨ FormeFree s s.outputs) ∧ (tie = true ∧ s.pair.sideB = true ∨ tie = false ∧ later = true) ∧ s.pair.conflict = false) ∧
    (∃ (s : State) (tie later : Bool), s.alive = true ∧ s.pair.own1 = true ∧ s.pair.own2 = true ∧ (s.pair.cold = false ∨ FormeFree s s.outputs) ∧ ¬(tie = true ∧ s.pair.sideB = true ∨ tie = false ∧ later = true)) ∧
    (∃ (s : State), s.pair.clash = true) ∧
    (∃ (s : State) (own peer : BitVec 2), own = 3#2 ∧ peer = 0#2 ∧ s.alive = true ∧ s.pair.cold = false) ∧
    (∃ (s : State) (own peer : BitVec 2), own = 3#2 ∧ peer = 0#2 ∧ s.alive = true ∧ s.pair.cold = true ∧ FormeFree s s.outputs) ∧
    (∃ (own peer : BitVec 2), own ≠ 3#2 ∨ peer ≠ 0#2) ∧
    (∃ (s : State) (own : BitVec 2), (own = 1#2 ∨ own = 2#2) ∧ s.pair.role = Role.active) ∧
    (∃ (s : State) (own : BitVec 2), (own = 1#2 ∨ own = 2#2) ∧ s.pair.role ≠ Role.active) ∧
    (∃ (own peer : BitVec 2), (own = 0#2 ∨ own = 3#2) ∧ (peer = 1#2 ∨ peer = 2#2)) :=
  ⟨⟨{ State.reset with pair := { role := .standbySync } }, 1#32, by decide⟩,
    ⟨{ State.reset with olc := { stat := .staging }, pair := { role := .standbySync } }, 1#32, by decide⟩,
    ⟨{ State.reset with pair := { role := .standbySync, known := 0xfffffffe#32 } }, by decide⟩,
    ⟨{ State.reset with regs := [(458828, 2#32)], proj := { owner := [(1, 1)], safe := [(1, (some .hold))] }, pair := { role := .standbyUnsync } }, 1#32, 1, by decide⟩,
    ⟨{ State.reset with regs := [(458828, 2#32)], proj := { owner := [(1, 1)], safe := [(1, (some (.subst 0x189#32)))] }, pair := { role := .standbyUnsync } }, 1#32, 1, 0x189#32, by decide⟩,
    ⟨{ State.reset with pair := { role := .standbyUnsync } }, by decide⟩,
    ⟨{ State.reset with regs := [(1187924, 8#32)] }, 3#2, by decide⟩,
    ⟨{ State.reset with regs := [(458828, 0#32), (1187924, 8#32)] }, 0#2, by decide⟩,
    ⟨{ State.reset with regs := [(1187924, 8#32)] }, 0#2, 1#32, by decide⟩,
    ⟨{ State.reset with regs := [(1187924, 8#32)], pair := { peerPresent := true } }, 0#2, 1#32, by decide⟩,
    ⟨{ State.reset with pair := { own1 := true, own2 := true } }, false, true, by decide⟩,
    ⟨{ State.reset with pair := { own1 := true, own2 := true } }, false, true, by decide⟩,
    ⟨{ State.reset with pair := { own1 := true, own2 := true } }, false, false, by decide⟩,
    ⟨{ State.reset with pair := { own1 := true, own2 := true, peer1 := true, peer2 := true } }, by decide⟩,
    ⟨State.reset, 3#2, 0#2, by decide⟩,
    ⟨{ State.reset with pair := { cold := true } }, 3#2, 0#2, by decide⟩,
    ⟨0#2, 0#2, by decide⟩,
    ⟨{ State.reset with pair := { role := .active } }, 2#2, by decide⟩,
    ⟨State.reset, 2#2, by decide⟩,
    ⟨0#2, 1#2, by decide⟩⟩

theorem witness_ControlLaw :
    (∃ (s : State) (e : Fin 2) (l : BitVec 9), Quiet s e l ∧ (s.loop e.val l.toNat).mode ≠ 7 ∧ (s.lfl e.val l.toNat).reload = false) ∧
    (∃ (s : State) (e : Fin 2) (l : BitVec 9), Quiet s e l ∧ (s.loop e.val l.toNat).mode ≠ 7 ∧ (s.lfl e.val l.toNat).reload = true) ∧
    (∃ (s : State) (e : Fin 2) (l k : BitVec 9), Quiet s e l ∧ (s.loop e.val l.toNat).mode ≠ 7 ∧ k ≠ l) ∧
    (∃ (s : State) (e : Fin 2) (l : BitVec 9), s.loopRuns e.val l.toNat = true ∧ (s.eng e.val).slip = true ∧ (s.loop e.val l.toNat).mode ≠ 7) ∧
    (∃ (s : State) (e l i : Nat), (s.loop e l).mode ≠ 7 ∧ (s.lfl e l).stopAct = 0 ∧ i < s.lp e l) ∧
    (∃ (s : State) (e l i : Nat), (s.loop e l).mode ≠ 7 ∧ (s.lfl e l).stopAct = 0 ∧ i < s.ln e l) ∧
    (∃ (s : State) (e l a : Nat), (s.loop e l).mode ≠ 7 ∧ (s.lfl e l).stopAct = 0 ∧ a < s.lm e l ∧ (s.loop e l).mode ≠ 6 ∧ (s.loop e l).mode ≠ 4 ∧ (s.loop e l).mode ≠ 3) ∧
    (∃ (s : State) (e l : Nat) (c : LoopCap) (a : Nat), (s.loop e l).mode ≠ 7 ∧ (s.lfl e l).stopAct = 0 ∧ a < s.lm e l ∧ ((s.loop e l).mode = 1 ∨ (s.loop e l).mode = 2) ∧ c.preset = false) ∧
    (∃ (s : State) (e l : Nat) (c : LoopCap) (a : Nat), (s.loop e l).mode ≠ 7 ∧ (s.lfl e l).stopAct = 0 ∧ a < s.lm e l ∧ ((s.loop e l).mode = 1 ∨ (s.loop e l).mode = 2) ∧ c.preset = true) ∧
    (∃ (s : State) (e l a : Nat), (s.loop e l).mode ≠ 7 ∧ (s.lfl e l).stopAct = 0 ∧ a < s.lm e l ∧ (s.loop e l).mode = 0) ∧
    (∃ (s : State) (e l a : Nat) (z : Word), (s.loop e l).mode ≠ 7 ∧ (s.lfl e l).stopAct = 0 ∧ a < s.lm e l ∧ (s.loop e l).mode = 4 ∧ (s.loop e l).tv.getD a none = some z) ∧
    (∃ (s : State) (e l : Nat), (s.loop e l).mode ≠ 7 ∧ (s.lfl e l).stopAct = 0 ∧ (s.loop e l).mode = 6) :=
  ⟨⟨{ State.reset with loops := [(515, { mode := 0 })], engines := [(1, { st := .running })] }, 1, 3#9, by decide⟩,
    ⟨{ State.reset with loops := [(515, { mode := 0 })], loopFl := [(515, { reload := true })], engines := [(1, { st := .running })] }, 1, 3#9, by decide⟩,
    ⟨{ State.reset with loops := [(515, { mode := 0 })], engines := [(1, { st := .running })] }, 1, 3#9, 0#9, by decide⟩,
    ⟨{ State.reset with loops := [(515, { mode := 0 })], engines := [(1, { st := .running, slip := true })] }, 1, 3#9, by decide⟩,
    ⟨{ State.reset with mem := [(1090525185, 1#8)], loops := [(515, { mode := 0 })] }, 1, 3, 0, by decide⟩,
    ⟨{ State.reset with mem := [(1090525184, 1#8)], loops := [(515, { mode := 0 })] }, 1, 3, 0, by decide⟩,
    ⟨{ State.reset with mem := [(1090525185, 0x10#8)], loops := [(515, { mode := 0 })] }, 1, 3, 0, by decide⟩,
    ⟨{ State.reset with mem := [(1090525185, 0x10#8)], loops := [(515, { mode := 1 })] }, 1, 3, { j := 0, y := [], good := [], stale := false, fault := false, preset := false, mv := [], pre := false, softDue := false, mode0 := 0, r0 := [], xp0 := [], ot := [], lost := false }, 0, by decide⟩,
    ⟨{ State.reset with mem := [(1090525185, 0x10#8)], loops := [(515, { mode := 1 })] }, 1, 3, { j := 0, y := [], good := [], stale := false, fault := false, preset := true, mv := [], pre := false, softDue := false, mode0 := 0, r0 := [], xp0 := [], ot := [], lost := false }, 0, by decide⟩,
    ⟨{ State.reset with mem := [(1090525185, 0x10#8)], loops := [(515, { mode := 0 })] }, 1, 3, 0, by decide⟩,
    ⟨{ State.reset with mem := [(1090525185, 0x10#8)], loops := [(515, { mode := 4, tv := [(some 0#32)] })] }, 1, 3, 0, 0#32, by decide⟩,
    ⟨{ State.reset with loops := [(515, { mode := 6 })] }, 1, 3, by decide⟩⟩

theorem witness_EngineCommands :
    (∃ (s : State) (e : Fin 2) (i : Fin 16), (s.eng e.val).st = LeSt.running ∧ (s.eng e.val).lasting = 0#16 ∧ (List.filter (fun (t : Nat) => decide (s.now - t ≤ secTclk (BitVec.toNat (s.reg (Page.le e.val) Reg.le_LANE_WINDOW)))) (tget (fun (x : Nat) => []) (s.eng e.val).events i.val)).length + 1 < s.fld (Page.le e.val) Reg.le_LE_CFG 4 4) ∧
    (∃ (s : State) (e : Fin 2), s.alive = true ∧ (s.eng e.val).switchPend = false) ∧
    (∃ (s : State), s.alive = false) ∧
    (∃ (s : State), s.prx.cycles = []) ∧
    (∃ (s : State) (l : List RxCycle) (c : RxCycle), s.prx.cycles = l ++ [c]) ∧
    (∃ (s : State) (e : Fin 2), s.alive = true ∧ (s.eng e.val).switchPend = true ∧ s.rungCycle < s.swCyc e.val) ∧
    (∃ (s : State) (e : Fin 2) (l : BitVec 9), s.alive = true ∧ (s.eng e.val).switchPend = true ∧ s.swCyc e.val ≤ s.rungCycle ∧ (namedLoops (s.entries e.val (!(s.eng e.val).bank) (BitVec.toNat (s.reg (Page.le e.val) Reg.le_SHADOW_LEN)))).contains l.toNat = true ∧ (s.loopsOf e.val).contains l.toNat = true) ∧
    (∃ (s : State) (e : Fin 2) (l : BitVec 9), s.alive = true ∧ (s.eng e.val).switchPend = true ∧ s.swCyc e.val ≤ s.rungCycle ∧ (namedLoops (s.entries e.val (!(s.eng e.val).bank) (BitVec.toNat (s.reg (Page.le e.val) Reg.le_SHADOW_LEN)))).contains l.toNat = false) ∧
    (∃ (s : State) (e : Fin 2) (p : Priv), p ≠ Priv.p2 ∧ s.switchOk e.val = true) ∧
    (∃ (s : State) (e : Fin 2) (p : Priv), p ≠ Priv.p2 ∧ s.switchOk e.val = false) ∧
    (∃ (s : State) (e : Fin 2), (s.eng e.val).busy = true ∧ s.upsets = []) ∧
    (∃ (s : State) (e : Fin 2), s.locked (Page.le e.val) = false ∧ s.rbit (Page.le e.val) Reg.le_LE_CFG 0 = false ∧ (s.eng e.val).st ≠ LeSt.failed) ∧
    (∃ (s : State) (e : Fin 2), s.locked (Page.le e.val) = false ∧ s.rbit (Page.le e.val) Reg.le_LE_CFG 0 = true ∧ (s.eng e.val).st ≠ LeSt.failed ∧ ∀ (l : Nat), l ∈ s.loopsOf e.val → s.rcpOf e.val l = none) ∧
    (∃ (s : State) (e : Fin 2) (l : Nat), s.locked (Page.le e.val) = false ∧ s.rbit (Page.le e.val) Reg.le_LE_CFG 0 = true ∧ (s.eng e.val).st ≠ LeSt.failed ∧ l ∈ s.loopsOf e.val) ∧
    (∃ (s : State) (e : Fin 2) (v : Bool), s.locked (Page.le e.val) = true ∧ s.rbit (Page.le e.val) Reg.le_LE_CFG 0 ≠ v) :=
  ⟨⟨{ State.reset with engines := [(0, { st := .running })] }, 0, 0, by decide⟩,
    ⟨State.reset, 0, by decide⟩,
    ⟨{ State.reset with pair := { role := .failed } }, by decide⟩,
    ⟨State.reset, by decide⟩,
    ⟨{ State.reset with prx := { cycles := [{ head := { cyc := 0, mode := 0, stopTask := false, start := false, wait := false, bellTime := {}, errCause := 0#32, flipTime := {}, firstSeq := 0#32 }, frames := [], tail := none, naks := [], cal := 0#64 }] } }, [], { head := { cyc := 0, mode := 0, stopTask := false, start := false, wait := false, bellTime := {}, errCause := 0#32, flipTime := {}, firstSeq := 0#32 }, frames := [], tail := none, naks := [], cal := 0#64 }, by decide⟩,
    ⟨{ State.reset with regs := [(524384, 1#32)], engines := [(0, { switchPend := true })] }, 0, by decide⟩,
    ⟨{ State.reset with regs := [(524368, 0x100#32)], loops := [(0, {})], engines := [(0, { switchPend := true })] }, 0, 0#9, by decide⟩,
    ⟨{ State.reset with engines := [(0, { switchPend := true })] }, 0, 0#9, by decide⟩,
    ⟨{ State.reset with regs := [(1187924, 6#32)], engines := [(1, { valid := true })] }, 1, .p1, by decide⟩,
    ⟨State.reset, 0, .p1, by decide⟩,
    ⟨{ State.reset with engines := [(1, { busy := true })] }, 1, by decide⟩,
    ⟨State.reset, 0, by decide⟩,
    ⟨{ State.reset with regs := [(524356, 1#32)] }, 0, by decide⟩,
    ⟨{ State.reset with regs := [(524356, 1#32)], loops := [(0, {})] }, 0, 0, by decide⟩,
    ⟨{ State.reset with regs := [(528452, 1#32), (528416, 1#32)] }, 1, false, by decide⟩⟩

theorem witness_Recipes :
    (∃ (s : State) (e : Fin 2) (l : BitVec 9) (k : BitVec 6), s.startOk e.val l.toNat k.toNat = true ∧ stepType s e k 0 = 0) ∧
    (∃ (s : State) (e : Fin 2) (l : BitVec 9) (k : BitVec 6), s.startOk e.val l.toNat k.toNat = true ∧ stepType s e k 0 = 3 ∧ s.rcpCount e.val k.toNat = 1) ∧
    (∃ (s : State) (e : Fin 2) (k : BitVec 6), (s.rcp e.val k.toNat).st = RcpSt.running ∨ (s.rcp e.val k.toNat).st = RcpSt.waiting) ∧
    (∃ (s : State) (e : Fin 2) (k : BitVec 6), ¬((s.rcp e.val k.toNat).st = RcpSt.running ∨ (s.rcp e.val k.toNat).st = RcpSt.waiting)) ∧
    (∃ (s : State) (e : Fin 2) (k : BitVec 6), (s.rcp e.val k.toNat).st = RcpSt.held ∧ s.rcpMode e.val (s.rcpLoop e.val k.toNat) = true) ∧
    (∃ (s : State) (e : Fin 2) (k : BitVec 6), ¬((s.rcp e.val k.toNat).st = RcpSt.held ∧ s.rcpMode e.val (s.rcpLoop e.val k.toNat) = true)) ∧
    (∃ (s : State) (e : Fin 2) (k : BitVec 6), (s.rcp e.val k.toNat).active = true) ∧
    (∃ (s : State) (e : Fin 2) (k : BitVec 6), (s.rcp e.val k.toNat).active = false) ∧
    (∃ (s : State) (e : Fin 2) (k q : BitVec 6), (s.rcp e.val k.toNat).st = RcpSt.waiting ∧ fieldNat (s.rcpStep e.val k.toNat (s.rcp e.val k.toNat).step 3) 16 3 = 2 ∧ Timed s e k ((s.rcp e.val k.toNat).step + 1) ∧ q ≠ k) ∧
    (∃ (s : State) (e : Fin 2) (k : BitVec 6), ¬((s.rcp e.val k.toNat).st = RcpSt.waiting ∧ fieldNat (s.rcpStep e.val k.toNat (s.rcp e.val k.toNat).step 3) 16 3 = 2)) ∧
    (∃ (s : State) (e : Fin 2) (l : BitVec 9) (k : BitVec 6) (i : Half) (q : BitVec 6), (s.startOk e.val l.toNat k.toNat = true ∨ (s.rcp e.val k.toNat).st = RcpSt.held ∧ s.rcpMode e.val (s.rcpLoop e.val k.toNat) = true) ∧ Timed s e k (BitVec.toNat i) ∧ q ≠ k) ∧
    (∃ (s : State) (e : Fin 2) (k : BitVec 6) (i : Half), (s.rcp e.val k.toNat).st = RcpSt.held ∧ s.rcpMode e.val (s.rcpLoop e.val k.toNat) = false ∧ s.rcpOf e.val (s.rcpLoop e.val k.toNat) = some k.toNat ∧ Timed s e k (BitVec.toNat i)) ∧
    (∃ (s : State) (e : Fin 2) (l : BitVec 9) (k : BitVec 6) (i : Half), s.startOk e.val l.toNat k.toNat = false ∧ (s.rcp e.val k.toNat).st ≠ RcpSt.held ∨ s.rcpCount e.val k.toNat ≤ BitVec.toNat i) ∧
    (∃ (s : State) (e : Fin 2) (k : BitVec 6), OnlyRecipe s e k ∧ (s.rcp e.val k.toNat).st = RcpSt.running ∧ (s.rcp e.val k.toNat).elapsed + 1 < stepDur s e k (s.rcp e.val k.toNat).step) ∧
    (∃ (s : State) (e : Fin 2) (k : BitVec 6), OnlyRecipe s e k ∧ (s.rcp e.val k.toNat).st = RcpSt.running ∧ stepType s e k (s.rcp e.val k.toNat).step = 1 ∧ stepDur s e k (s.rcp e.val k.toNat).step ≤ (s.rcp e.val k.toNat).elapsed + 1 ∧ s.rcpCount e.val k.toNat = (s.rcp e.val k.toNat).step + 1) ∧
    (∃ (s : State) (e : Fin 2) (k : BitVec 6) (tick : Nat), OnlyRecipe s e k ∧ (s.rcp e.val k.toNat).st = RcpSt.waiting ∧ s.waitMet e.val k.toNat (s.rcp e.val k.toNat).step tick = false ∧ (stepDur s e k (s.rcp e.val k.toNat).step = 0 ∨ (s.rcp e.val k.toNat).elapsed + 1 < stepDur s e k (s.rcp e.val k.toNat).step)) ∧
    (∃ (s : State) (e : Fin 2) (k : BitVec 6) (tick : Nat), OnlyRecipe s e k ∧ (s.rcp e.val k.toNat).st = RcpSt.waiting ∧ s.waitMet e.val k.toNat (s.rcp e.val k.toNat).step tick = false ∧ stepDur s e k (s.rcp e.val k.toNat).step ≠ 0 ∧ stepDur s e k (s.rcp e.val k.toNat).step ≤ (s.rcp e.val k.toNat).elapsed + 1 ∧ bit (s.rcpStep e.val k.toNat (s.rcp e.val k.toNat).step 3) 19 = false) ∧
    (∃ (s : State) (e : Fin 2) (k : BitVec 6) (tick : Nat) (q : BitVec 6), OnlyRecipe s e k ∧ (s.rcp e.val k.toNat).st = RcpSt.waiting ∧ s.waitMet e.val k.toNat (s.rcp e.val k.toNat).step tick = true ∧ Timed s e k ((s.rcp e.val k.toNat).step + 1) ∧ q ≠ k) ∧
    (∃ (s : State) (e : Fin 2), (s.eng e.val).slip = true) ∧
    (∃ (s : State) (e : Fin 2) (l : BitVec 9) (k q : BitVec 6), s.alive = true ∧ s.upsets = [] ∧ s.leRuns e.val = true ∧ (s.eng e.val).slip = false ∧ (∀ (q : BitVec 6), (s.rcp e.val q.toNat).st ≠ RcpSt.running ∧ (s.rcp e.val q.toNat).st ≠ RcpSt.waiting) ∧ s.rcpCmds = [(e.val, l.toNat, BitVec.ofNat 32 (k.toNat + 256))] ∧ s.startOk e.val l.toNat k.toNat = true ∧ Timed s e k 0 ∧ q ≠ k) ∧
    (∃ (s : State) (e : Fin 2), s.locked (Page.sq e.val) = false) ∧
    (∃ (s : State) (e : Fin 2) (v : Bool), s.locked (Page.sq e.val) = true ∧ s.rbit (Page.sq e.val) Reg.sq_SQ_CFG 0 ≠ v) :=
  ⟨⟨{ State.reset with mem := [(1075380370, 1#8), (1075380375, 0x80#8)], loops := [(0, { mode := 1 })] }, 0, 0#9, 9#6, by decide⟩,
    ⟨{ State.reset with mem := [(1075380274, 1#8), (1075380279, 0x80#8), (1075382272, 3#8)], loops := [(0, { mode := 1 })] }, 0, 0#9, 3#6, by decide⟩,
    ⟨{ State.reset with rcps := [(7, { st := .running })] }, 0, 7#6, by decide⟩,
    ⟨State.reset, 0, 0#6, by decide⟩,
    ⟨{ State.reset with loops := [(0, { mode := 1 })], rcps := [(12, { st := .held })] }, 0, 0xc#6, by decide⟩,
    ⟨State.reset, 0, 0#6, by decide⟩,
    ⟨{ State.reset with rcps := [(62, { st := .held })] }, 0, 0x3e#6, by decide⟩,
    ⟨State.reset, 0, 0#6, by decide⟩,
    ⟨{ State.reset with mem := [(1075380242, 2#8), (1075382286, 2#8), (1075382288, 1#8), (1075382292, 1#8)], rcps := [(1, { st := .waiting })] }, 0, 1#6, 0#6, by decide⟩,
    ⟨State.reset, 0, 0#6, by decide⟩,
    ⟨{ State.reset with mem := [(0x40190032, 1#8), (0x40190037, 0x80#8), (0x40190800, 2#8), (0x40190804, 1#8)], rcps := [(3, { st := .held })], loops := [(0, { mode := 1 })] }, 0, 0#9, 3#6, 0#16, 0#6, by decide⟩,
    ⟨{ State.reset with mem := [(1075381218, 4#8), (1075382320, 2#8), (1075382324, 1#8)], rcps := [(62, { st := .held })] }, 0, 0x3e#6, 3#16, by decide⟩,
    ⟨State.reset, 0, 0#9, 0#6, 0#16, by decide⟩,
    ⟨{ State.reset with mem := [(1075382276, 2#8)], engines := [(0, { st := .running })], rcps := [(3, { st := .running })] }, 0, 3#6, by decide⟩,
    ⟨{ State.reset with mem := [(1075380274, 1#8), (1075382272, 1#8)], engines := [(0, { st := .running })], rcps := [(3, { st := .running })] }, 0, 3#6, by decide⟩,
    ⟨{ State.reset with engines := [(0, { st := .running })], rcps := [(3, { st := .waiting })] }, 0, 3#6, 0, by decide⟩,
    ⟨{ State.reset with mem := [(1075382276, 1#8)], engines := [(0, { st := .running })], rcps := [(3, { st := .waiting })] }, 0, 3#6, 0, by decide⟩,
    ⟨{ State.reset with mem := [(1075380274, 2#8), (1075382288, 1#8), (1075382292, 1#8)], mp := [(0, { status := 0#16 })], engines := [(0, { st := .running })], rcps := [(3, { st := .waiting })] }, 0, 3#6, 0, 0#6, by decide⟩,
    ⟨{ State.reset with engines := [(0, { slip := true })] }, 0, by decide⟩,
    ⟨{ State.reset with mem := [(1075380226, 1#8), (1075380228, 0xfe#8), (1075380229, 1#8), (1075380231, 0x80#8), (1075382272, 2#8), (1075382276, 0x80#8)], loops := [(510, { mode := 1 })], engines := [(0, { st := .running })], rcpCmds := [(0, (510, 0x100#32))] }, 0, 0x1fe#9, 0#6, 0x20#6, by decide⟩,
    ⟨State.reset, 0, by decide⟩,
    ⟨{ State.reset with regs := [(532512, 1#32)] }, 0, false, by decide⟩⟩

theorem witness_ProbeCommands :
    (∃ (s : State) (e : Fin 2) (q r : BitVec 4), ((s.probe e.val q.toNat).st = ProbeSt.idle ∨ (s.probe e.val q.toNat).st = ProbeSt.done) ∧ r ≠ q) ∧
    (∃ (s : State) (e : Fin 2) (q : BitVec 4), (s.probe e.val q.toNat).st ≠ ProbeSt.idle ∧ (s.probe e.val q.toNat).st ≠ ProbeSt.done) ∧
    (∃ (s : State) (e : Fin 2) (q r : BitVec 4), (s.probe e.val q.toNat).st = ProbeSt.armed ∧ r ≠ q) ∧
    (∃ (s : State) (e : Fin 2) (q : BitVec 4), (s.probe e.val q.toNat).st ≠ ProbeSt.armed) :=
  ⟨⟨State.reset, 0, 0#4, 8#4, by decide⟩,
    ⟨{ State.reset with probes := [(3, { st := .capturing })] }, 0, 3#4, by decide⟩,
    ⟨{ State.reset with probes := [(10, { st := .armed })] }, 0, 0xa#4, 0#4, by decide⟩,
    ⟨State.reset, 0, 0#4, by decide⟩⟩

theorem witness_TimeBaseCommands :
    (∃ (s : State) (sub : BitVec 2), s.rbit Page.tb Reg.tb_TB_CFG 0 = true ∧ s.tb.everSet = true ∧ s.fld Page.ptp Reg.ptp_SLAVE_PORT 0 3 = 0 ∧ Follows s TbSrc.pps ∧ (if s.tb.time.ns + sub.toNat < 500000000 then (↑(s.tb.time.ns + sub.toNat) : Int) else (↑(s.tb.time.ns + sub.toNat) : Int) - 1000000000).natAbs ≤ BitVec.toNat (s.reg Page.tb Reg.tb_STEP_THRESH)) ∧
    (∃ (s : State) (sub : BitVec 2), s.rbit Page.tb Reg.tb_TB_CFG 0 = true ∧ s.tb.everSet = true ∧ s.fld Page.ptp Reg.ptp_SLAVE_PORT 0 3 = 0 ∧ Follows s TbSrc.pps ∧ BitVec.toNat (s.reg Page.tb Reg.tb_STEP_THRESH) < (if s.tb.time.ns + sub.toNat < 500000000 then (↑(s.tb.time.ns + sub.toNat) : Int) else (↑(s.tb.time.ns + sub.toNat) : Int) - 1000000000).natAbs ∧ s.tbMayStep = true) ∧
    (∃ (s : State) (sub : BitVec 2), s.rbit Page.tb Reg.tb_TB_CFG 0 = true ∧ s.tb.everSet = true ∧ s.fld Page.ptp Reg.ptp_SLAVE_PORT 0 3 = 0 ∧ Follows s TbSrc.pps ∧ BitVec.toNat (s.reg Page.tb Reg.tb_STEP_THRESH) < (if s.tb.time.ns + sub.toNat < 500000000 then (↑(s.tb.time.ns + sub.toNat) : Int) else (↑(s.tb.time.ns + sub.toNat) : Int) - 1000000000).natAbs ∧ s.tbMayStep = false) ∧
    (∃ (s : State) (sub : BitVec 2), s.rbit Page.tb Reg.tb_TB_CFG 0 = true ∧ s.tb.everSet = true ∧ s.fld Page.ptp Reg.ptp_SLAVE_PORT 0 3 = 0 ∧ Follows s TbSrc.pps ∧ s.tb.st = TbSt.acquiring ∧ (if s.tb.time.ns + sub.toNat < 500000000 then (↑(s.tb.time.ns + sub.toNat) : Int) else (↑(s.tb.time.ns + sub.toNat) : Int) - 1000000000).natAbs ≤ BitVec.toNat (s.reg Page.tb Reg.tb_LOCK_THRESH) ∧ s.tb.good = 15) ∧
    (∃ (s : State) (sub : BitVec 2), s.rbit Page.tb Reg.tb_TB_CFG 0 = true ∧ s.tb.everSet = true ∧ s.fld Page.ptp Reg.ptp_SLAVE_PORT 0 3 = 0 ∧ Follows s TbSrc.pps ∧ s.tb.st = TbSt.acquiring ∧ (if s.tb.time.ns + sub.toNat < 500000000 then (↑(s.tb.time.ns + sub.toNat) : Int) else (↑(s.tb.time.ns + sub.toNat) : Int) - 1000000000).natAbs ≤ BitVec.toNat (s.reg Page.tb Reg.tb_LOCK_THRESH) ∧ s.tb.good ≠ 15) ∧
    (∃ (s : State) (sub : BitVec 2), s.rbit Page.tb Reg.tb_TB_CFG 0 = true ∧ s.tb.everSet = true ∧ s.fld Page.ptp Reg.ptp_SLAVE_PORT 0 3 = 0 ∧ Follows s TbSrc.pps ∧ s.tb.st = TbSt.acquiring ∧ BitVec.toNat (s.reg Page.tb Reg.tb_LOCK_THRESH) < (if s.tb.time.ns + sub.toNat < 500000000 then (↑(s.tb.time.ns + sub.toNat) : Int) else (↑(s.tb.time.ns + sub.toNat) : Int) - 1000000000).natAbs) ∧
    (∃ (s : State) (sub : BitVec 2), s.rbit Page.tb Reg.tb_TB_CFG 0 = true ∧ s.tb.everSet = true ∧ s.fld Page.ptp Reg.ptp_SLAVE_PORT 0 3 = 0 ∧ Follows s TbSrc.pps ∧ s.tb.st = TbSt.locked ∧ 4 * BitVec.toNat (s.reg Page.tb Reg.tb_LOCK_THRESH) < (if s.tb.time.ns + sub.toNat < 500000000 then (↑(s.tb.time.ns + sub.toNat) : Int) else (↑(s.tb.time.ns + sub.toNat) : Int) - 1000000000).natAbs ∧ s.tb.bad = 3) ∧
    (∃ (s : State) (sub : BitVec 2), s.rbit Page.tb Reg.tb_TB_CFG 0 = true ∧ s.tb.everSet = true ∧ s.fld Page.ptp Reg.ptp_SLAVE_PORT 0 3 = 0 ∧ Follows s TbSrc.pps ∧ s.tb.st = TbSt.locked ∧ 4 * BitVec.toNat (s.reg Page.tb Reg.tb_LOCK_THRESH) < (if s.tb.time.ns + sub.toNat < 500000000 then (↑(s.tb.time.ns + sub.toNat) : Int) else (↑(s.tb.time.ns + sub.toNat) : Int) - 1000000000).natAbs ∧ s.tb.bad ≠ 3) ∧
    (∃ (s : State) (sub : BitVec 2), s.rbit Page.tb Reg.tb_TB_CFG 0 = true ∧ s.tb.everSet = true ∧ s.fld Page.ptp Reg.ptp_SLAVE_PORT 0 3 = 0 ∧ Follows s TbSrc.pps ∧ s.tb.st = TbSt.locked ∧ (if s.tb.time.ns + sub.toNat < 500000000 then (↑(s.tb.time.ns + sub.toNat) : Int) else (↑(s.tb.time.ns + sub.toNat) : Int) - 1000000000).natAbs ≤ 4 * BitVec.toNat (s.reg Page.tb Reg.tb_LOCK_THRESH)) ∧
    (∃ (s : State), s.rbit Page.tb Reg.tb_TB_CFG 0 = false) ∧
    (∃ (s : State), s.tb.src = TbSrc.pps ∧ s.tb.st = TbSt.acquiring) ∧
    (∃ (s : State), s.tb.src = TbSrc.pps ∧ s.tb.st = TbSt.locked) ∧
    (∃ (s : State), s.tb.src ≠ TbSrc.pps) ∧
    (∃ (s : State), s.tb.st = TbSt.holdover) ∧
    (∃ (s : State), s.tb.st ≠ TbSt.holdover) ∧
    (∃ (s : State), s.rbit Page.tb Reg.tb_TB_CFG 2 = true ∧ s.tb.st ≠ TbSt.unset) ∧
    (∃ (s : State), s.rbit Page.tb Reg.tb_TB_CFG 2 = false ∨ s.tb.st = TbSt.unset) ∧
    (∃ (s : State) (p : Priv), p ≠ Priv.p2 ∧ s.tb.src ≠ TbSrc.ptp ∧ s.tbMayStep = true) ∧
    (∃ (s : State) (p : Priv), p = Priv.p2 ∨ s.tb.src = TbSrc.ptp ∨ s.tbMayStep = false) ∧
    (∃ (s : State) (p : Priv), p ≠ Priv.p2 ∧ s.tb.src1 = false) ∧
    (∃ (s : State), s.tb.src1 = true) ∧
    (∃ (s : State), s.tb.leapPend = true) ∧
    (∃ (s : State), s.tb.leapPend = false) :=
  ⟨⟨{ State.reset with regs := [(589892, 1#32)], tb := { st := .locked, src := .pps, everSet := true } }, 0#2, by decide⟩,
    ⟨{ State.reset with regs := [(589940, 0#32), (589892, 1#32)], tb := { st := .locked, src := .pps, everSet := true } }, 1#2, by decide⟩,
    ⟨{ State.reset with regs := [(589892, 1#32), (589940, 0#32)], bell := { mode := .run }, pair := { role := .active }, tb := { st := .locked, src := .pps, everSet := true } }, 1#2, by decide⟩,
    ⟨{ State.reset with regs := [(589892, 1#32)], tb := { st := .acquiring, src := .pps, everSet := true, good := 15 } }, 0#2, by decide⟩,
    ⟨{ State.reset with regs := [(589892, 1#32)], tb := { st := .acquiring, src := .pps, everSet := true } }, 0#2, by decide⟩,
    ⟨{ State.reset with regs := [(589948, 0#32), (589892, 1#32)], tb := { st := .acquiring, src := .pps, everSet := true } }, 2#2, by decide⟩,
    ⟨{ State.reset with regs := [(589948, 0#32), (589892, 1#32)], tb := { st := .locked, src := .pps, everSet := true, bad := 3 } }, 1#2, by decide⟩,
    ⟨{ State.reset with regs := [(589948, 0#32), (589892, 1#32)], tb := { st := .locked, src := .pps, everSet := true } }, 2#2, by decide⟩,
    ⟨{ State.reset with regs := [(589892, 1#32)], tb := { st := .locked, src := .pps, everSet := true } }, 0#2, by decide⟩,
    ⟨State.reset, by decide⟩,
    ⟨{ State.reset with tb := { st := .acquiring, src := .pps } }, by decide⟩,
    ⟨{ State.reset with tb := { st := .locked, src := .pps } }, by decide⟩,
    ⟨State.reset, by decide⟩,
    ⟨{ State.reset with tb := { st := .holdover } }, by decide⟩,
    ⟨State.reset, by decide⟩,
    ⟨{ State.reset with tb := { st := .holdover } }, by decide⟩,
    ⟨State.reset, by decide⟩,
    ⟨State.reset, .p0, by decide⟩,
    ⟨State.reset, .p2, by decide⟩,
    ⟨State.reset, .p1, by decide⟩,
    ⟨{ State.reset with tb := { st := .holdover, src := .ptp, utcFromPtp := true } }, by decide⟩,
    ⟨{ State.reset with tb := { leapPend := true } }, by decide⟩,
    ⟨State.reset, by decide⟩⟩

theorem witness_PtpMessages :
    (∃ (s : State) (i : Fin 4) (h : PtpHdr) (t1 corr t2 : Int), PtpTaken s i h ∧ FromMaster s i h ∧ Follows s TbSrc.ptp ∧ (t2 - s.ingress i.val - t1 - s.pathDelay i.val - corr - s.asym i.val).natAbs ≤ BitVec.toNat (s.reg Page.tb Reg.tb_STEP_THRESH)) ∧
    (∃ (s : State) (i : Fin 4) (h : PtpHdr) (t1 corr t2 : Int), PtpTaken s i h ∧ FromMaster s i h ∧ Follows s TbSrc.ptp ∧ BitVec.toNat (s.reg Page.tb Reg.tb_STEP_THRESH) < (t2 - s.ingress i.val - t1 - s.pathDelay i.val - corr - s.asym i.val).natAbs ∧ s.tbMayStep = true) ∧
    (∃ (s : State) (i : Fin 4) (h : PtpHdr) (t1 corr t2 : Int), PtpTaken s i h ∧ FromMaster s i h ∧ Follows s TbSrc.ptp ∧ BitVec.toNat (s.reg Page.tb Reg.tb_STEP_THRESH) < (t2 - s.ingress i.val - t1 - s.pathDelay i.val - corr - s.asym i.val).natAbs ∧ s.tbMayStep = false) ∧
    (∃ (s : State) (i : Fin 4) (h : PtpHdr) (t1 corr t2 : Int), PtpTaken s i h ∧ FromMaster s i h ∧ Follows s TbSrc.ptp ∧ s.tb.st = TbSt.acquiring ∧ (t2 - s.ingress i.val - t1 - s.pathDelay i.val - corr - s.asym i.val).natAbs ≤ BitVec.toNat (s.reg Page.tb Reg.tb_LOCK_THRESH) ∧ s.tb.good = 15) ∧
    (∃ (s : State) (i : Fin 4) (h : PtpHdr) (t1 corr t2 : Int), PtpTaken s i h ∧ FromMaster s i h ∧ Follows s TbSrc.ptp ∧ s.tb.st = TbSt.acquiring ∧ (t2 - s.ingress i.val - t1 - s.pathDelay i.val - corr - s.asym i.val).natAbs ≤ BitVec.toNat (s.reg Page.tb Reg.tb_LOCK_THRESH) ∧ s.tb.good ≠ 15) ∧
    (∃ (s : State) (i : Fin 4) (h : PtpHdr) (t1 corr t2 : Int), PtpTaken s i h ∧ FromMaster s i h ∧ Follows s TbSrc.ptp ∧ s.tb.st = TbSt.acquiring ∧ BitVec.toNat (s.reg Page.tb Reg.tb_LOCK_THRESH) < (t2 - s.ingress i.val - t1 - s.pathDelay i.val - corr - s.asym i.val).natAbs) ∧
    (∃ (s : State) (i : Fin 4) (h : PtpHdr) (t1 corr t2 : Int), PtpTaken s i h ∧ FromMaster s i h ∧ Follows s TbSrc.ptp ∧ s.tb.st = TbSt.locked ∧ 4 * BitVec.toNat (s.reg Page.tb Reg.tb_LOCK_THRESH) < (t2 - s.ingress i.val - t1 - s.pathDelay i.val - corr - s.asym i.val).natAbs ∧ s.tb.bad = 3) ∧
    (∃ (s : State) (i : Fin 4) (h : PtpHdr) (t1 corr t2 : Int), PtpTaken s i h ∧ FromMaster s i h ∧ Follows s TbSrc.ptp ∧ s.tb.st = TbSt.locked ∧ 4 * BitVec.toNat (s.reg Page.tb Reg.tb_LOCK_THRESH) < (t2 - s.ingress i.val - t1 - s.pathDelay i.val - corr - s.asym i.val).natAbs ∧ s.tb.bad ≠ 3) ∧
    (∃ (s : State) (i : Fin 4) (h : PtpHdr) (t1 corr t2 : Int), PtpTaken s i h ∧ FromMaster s i h ∧ Follows s TbSrc.ptp ∧ s.tb.st = TbSt.locked ∧ (t2 - s.ingress i.val - t1 - s.pathDelay i.val - corr - s.asym i.val).natAbs ≤ 4 * BitVec.toNat (s.reg Page.tb Reg.tb_LOCK_THRESH)) ∧
    (∃ (s : State) (i : Fin 4) (h : PtpHdr), PtpTaken s i h ∧ FromMaster s i h ∧ Follows s TbSrc.ptp ∧ s.redMode (i.val / 2) ≠ 2) ∧
    (∃ (s : State) (i : Fin 4) (h : PtpHdr) (t1 corr r c : Int), PtpTaken s i h ∧ FromMaster s i h ∧ Follows s TbSrc.ptp ∧ (s.ptpPort i.val).sync = some (h.seq, r, c) ∧ (r - t1 - s.pathDelay i.val - (c + corr) - s.asym i.val).natAbs ≤ BitVec.toNat (s.reg Page.tb Reg.tb_STEP_THRESH)) ∧
    (∃ (s : State) (i : Fin 4) (h : PtpHdr) (t1 corr r c : Int), PtpTaken s i h ∧ FromMaster s i h ∧ Follows s TbSrc.ptp ∧ (s.ptpPort i.val).sync = some (h.seq, r, c) ∧ BitVec.toNat (s.reg Page.tb Reg.tb_STEP_THRESH) < (r - t1 - s.pathDelay i.val - (c + corr) - s.asym i.val).natAbs ∧ s.tbMayStep = true) ∧
    (∃ (s : State) (i : Fin 4) (h : PtpHdr) (t1 corr r c : Int), PtpTaken s i h ∧ FromMaster s i h ∧ Follows s TbSrc.ptp ∧ (s.ptpPort i.val).sync = some (h.seq, r, c) ∧ BitVec.toNat (s.reg Page.tb Reg.tb_STEP_THRESH) < (r - t1 - s.pathDelay i.val - (c + corr) - s.asym i.val).natAbs ∧ s.tbMayStep = false) ∧
    (∃ (s : State) (i : Fin 4) (h : PtpHdr) (t1 corr r c : Int), PtpTaken s i h ∧ FromMaster s i h ∧ Follows s TbSrc.ptp ∧ (s.ptpPort i.val).sync = some (h.seq, r, c) ∧ s.tb.st = TbSt.acquiring ∧ (r - t1 - s.pathDelay i.val - (c + corr) - s.asym i.val).natAbs ≤ BitVec.toNat (s.reg Page.tb Reg.tb_LOCK_THRESH) ∧ s.tb.good = 15) ∧
    (∃ (s : State) (i : Fin 4) (h : PtpHdr) (t1 corr r c : Int), PtpTaken s i h ∧ FromMaster s i h ∧ Follows s TbSrc.ptp ∧ (s.ptpPort i.val).sync = some (h.seq, r, c) ∧ s.tb.st = TbSt.acquiring ∧ (r - t1 - s.pathDelay i.val - (c + corr) - s.asym i.val).natAbs ≤ BitVec.toNat (s.reg Page.tb Reg.tb_LOCK_THRESH) ∧ s.tb.good ≠ 15) ∧
    (∃ (s : State) (i : Fin 4) (h : PtpHdr) (t1 corr r c : Int), PtpTaken s i h ∧ FromMaster s i h ∧ Follows s TbSrc.ptp ∧ (s.ptpPort i.val).sync = some (h.seq, r, c) ∧ s.tb.st = TbSt.acquiring ∧ BitVec.toNat (s.reg Page.tb Reg.tb_LOCK_THRESH) < (r - t1 - s.pathDelay i.val - (c + corr) - s.asym i.val).natAbs) ∧
    (∃ (s : State) (i : Fin 4) (h : PtpHdr) (t1 corr r c : Int), PtpTaken s i h ∧ FromMaster s i h ∧ Follows s TbSrc.ptp ∧ (s.ptpPort i.val).sync = some (h.seq, r, c) ∧ s.tb.st = TbSt.locked ∧ 4 * BitVec.toNat (s.reg Page.tb Reg.tb_LOCK_THRESH) < (r - t1 - s.pathDelay i.val - (c + corr) - s.asym i.val).natAbs ∧ s.tb.bad = 3) ∧
    (∃ (s : State) (i : Fin 4) (h : PtpHdr) (t1 corr r c : Int), PtpTaken s i h ∧ FromMaster s i h ∧ Follows s TbSrc.ptp ∧ (s.ptpPort i.val).sync = some (h.seq, r, c) ∧ s.tb.st = TbSt.locked ∧ 4 * BitVec.toNat (s.reg Page.tb Reg.tb_LOCK_THRESH) < (r - t1 - s.pathDelay i.val - (c + corr) - s.asym i.val).natAbs ∧ s.tb.bad ≠ 3) ∧
    (∃ (s : State) (i : Fin 4) (h : PtpHdr) (t1 corr r c : Int), PtpTaken s i h ∧ FromMaster s i h ∧ Follows s TbSrc.ptp ∧ (s.ptpPort i.val).sync = some (h.seq, r, c) ∧ s.tb.st = TbSt.locked ∧ (r - t1 - s.pathDelay i.val - (c + corr) - s.asym i.val).natAbs ≤ 4 * BitVec.toNat (s.reg Page.tb Reg.tb_LOCK_THRESH)) ∧
    (∃ (s : State) (i : Fin 4) (h : PtpHdr), s.ptpOn i.val = true ∧ h.listed = false) ∧
    (∃ (s : State) (i : Fin 4) (h : PtpHdr), s.alive = true ∧ s.redMode (i.val / 2) = 2 ∧ h.listed = true ∧ h.sender ≠ Config.uid ∧ s.slavePort ≠ i.val + 1) ∧
    (∃ (s : State) (i : Fin 4) (h : PtpHdr) (a : PtpAnnounce) (at_ : Nat), PtpTaken s i h ∧ a.data.gm ≠ Config.uid ∧ a.data.steps < 255 ∧ (s.ptpPort i.val).foreign = none ∧ (s.ptpPort i.val).seen = some (h.sender, at_) ∧ s.now ≤ at_ + 4 * (2 ^ s.fld Page.ptp Reg.ptp_PTP_INTV 4 4 * 250000000) ∧ s.ptpSlaveOnly = true ∧ (∀ (j : Fin 4), j ≠ i → s.ptpOn j.val = false) ∧ s.tb.st = TbSt.freerun ∧ (s.ptpPort i.val).silent = false) ∧
    (∃ (s : State) (i : Fin 4) (h : PtpHdr) (a : PtpAnnounce), PtpTaken s i h ∧ a.data.gm ≠ Config.uid ∧ a.data.steps < 255 ∧ Option.map Prod.fst (s.ptpPort i.val).seen ≠ some h.sender) ∧
    (∃ (s : State) (i : Fin 4), s.ptpOn i.val = true ∧ s.slavePort = i.val + 1 ∧ s.ptpSlaveOnly = true ∧ (∀ (j : Fin 4), j ≠ i → s.ptpOn j.val = false) ∧ s.tb.src = TbSrc.ptp ∧ s.tb.st = TbSt.locked) ∧
    (∃ (s : State) (i : Fin 4) (h : PtpHdr), PtpTaken s i h ∧ s.ptpP2p = false ∧ s.ptpState i.val = 6 ∧ PtpFree s i Out.ptpDelayResp) ∧
    (∃ (s : State) (i : Fin 4) (h : PtpHdr), PtpTaken s i h ∧ s.ptpP2p = false ∧ s.ptpState i.val = 6 ∧ ¬PtpFree s i Out.ptpDelayResp) ∧
    (∃ (s : State) (i : Fin 4) (h : PtpHdr) (t3 ms : Int), PtpTaken s i h ∧ s.ptpP2p = false ∧ s.slavePort = i.val + 1 ∧ (s.ptpPort i.val).req = some (h.seq, t3) ∧ (s.ptpPort i.val).ms = some ms) ∧
    (∃ (s : State) (i : Fin 4) (h : PtpHdr), PtpTaken s i h ∧ s.ptpP2p = true ∧ PtpFree s i Out.ptpPdelayResp ∧ s.rbit Page.ptp Reg.ptp_PTP_CFG 4 = false) ∧
    (∃ (s : State) (i : Fin 4) (h : PtpHdr), PtpTaken s i h ∧ s.ptpP2p = true ∧ PtpFree s i Out.ptpPdelayResp ∧ s.rbit Page.ptp Reg.ptp_PTP_CFG 4 = true) ∧
    (∃ (s : State) (i : Fin 4) (h : PtpHdr) (t1 : Int), PtpTaken s i h ∧ s.ptpP2p = true ∧ (s.ptpPort i.val).req = some (h.seq, t1)) ∧
    (∃ (s : State) (i : Fin 4), s.ptpOn i.val = true ∧ s.ptpState i.val = 6 ∧ s.rbit Page.ptp Reg.ptp_PTP_CFG 4 = false ∧ (s.ptpPort i.val).twoNext = false ∧ PtpFree s i Out.ptpSync) ∧
    (∃ (s : State) (i : Fin 4), s.ptpOn i.val = true ∧ s.ptpP2p = false ∧ s.slavePort = i.val + 1 ∧ PtpFree s i Out.ptpDelayReq) :=
  ⟨⟨{ State.reset with regs := [(594012, 1#32), (593984, 0x300#32)], tb := { st := .locked, src := .ptp }, ptpPorts := [(0, { foreign := (some { data := {}, utc := 0, utcValid := false, leap61 := false, leap59 := false }) })] }, 0, { domain := 3#8, sdo := 0#4, carrier := .ethernet, kind := .plain, seq := 0#16, sender := 0#64, resid := 0 }, 0, 0, 0, by decide⟩,
    ⟨{ State.reset with regs := [(589940, 0#32), (594012, 1#32), (593984, 0x3b00#32)], tb := { st := .locked, src := .ptp }, ptpPorts := [(0, { foreign := (some { data := {}, utc := 0, utcValid := false, leap61 := false, leap59 := false }) })] }, 0, { domain := 0x3b#8, sdo := 0#4, carrier := .ethernet, kind := .plain, seq := 0#16, sender := 0#64, resid := 0 }, 0, 0, (-1), by decide⟩,
    ⟨{ State.reset with regs := [(589940, 0#32), (594012, 1#32)], bell := { mode := .run }, pair := { role := .active }, tb := { st := .locked, src := .ptp }, ptpPorts := [(0, { foreign := (some { data := {}, utc := 0, utcValid := false, leap61 := false, leap59 := false }) })] }, 0, { domain := 0#8, sdo := 0#4, carrier := .ethernet, kind := .plain, seq := 0#16, sender := 0#64, resid := 0 }, 0, 0, 1, by decide⟩,
    ⟨{ State.reset with regs := [(594012, 1#32)], tb := { st := .acquiring, src := .ptp, good := 15 }, ptpPorts := [(0, { foreign := (some { data := {}, utc := 0, utcValid := false, leap61 := false, leap59 := false }) })] }, 0, { domain := 0#8, sdo := 0#4, carrier := .ethernet, kind := .plain, seq := 0#16, sender := 0#64, resid := 0 }, 0, 0, 0, by decide⟩,
    ⟨{ State.reset with regs := [(594012, 1#32)], tb := { st := .acquiring, src := .ptp }, ptpPorts := [(0, { foreign := (some { data := {}, utc := 0, utcValid := false, leap61 := false, leap59 := false }) })] }, 0, { domain := 0#8, sdo := 0#4, carrier := .ethernet, kind := .plain, seq := 0#16, sender := 0#64, resid := 0 }, 0, 0, 0, by decide⟩,
    ⟨{ State.reset with regs := [(589948, 0#32), (594012, 1#32), (593984, 0x300#32)], tb := { st := .acquiring, src := .ptp }, ptpPorts := [(0, { foreign := (some { data := {}, utc := 0, utcValid := false, leap61 := false, leap59 := false }) })] }, 0, { domain := 3#8, sdo := 0#4, carrier := .ethernet, kind := .plain, seq := 0#16, sender := 0#64, resid := 0 }, 0, 0, 1, by decide⟩,
    ⟨{ State.reset with regs := [(589948, 0#32), (594012, 1#32), (593984, 0x300#32)], tb := { st := .locked, src := .ptp, bad := 3 }, ptpPorts := [(0, { foreign := (some { data := {}, utc := 0, utcValid := false, leap61 := false, leap59 := false }) })] }, 0, { domain := 3#8, sdo := 0#4, carrier := .ethernet, kind := .plain, seq := 0#16, sender := 0#64, resid := 0 }, 0, 0, (-1), by decide⟩,
    ⟨{ State.reset with regs := [(589948, 0#32), (594012, 1#32)], tb := { st := .locked, src := .ptp }, ptpPorts := [(0, { foreign := (some { data := {}, utc := 0, utcValid := false, leap61 := false, leap59 := false }) })] }, 0, { domain := 0#8, sdo := 0#4, carrier := .ethernet, kind := .plain, seq := 0#16, sender := 0#64, resid := 0 }, 0, 0, (-1), by decide⟩,
    ⟨{ State.reset with regs := [(593984, 0x1000#32), (594012, 1#32)], tb := { st := .locked, src := .ptp }, ptpPorts := [(0, { foreign := (some { data := {}, utc := 0, utcValid := false, leap61 := false, leap59 := false }) })] }, 0, { domain := 0x10#8, sdo := 0#4, carrier := .ethernet, kind := .plain, seq := 0#16, sender := 0#64, resid := 0 }, 0, 0, 0, by decide⟩,
    ⟨{ State.reset with regs := [(594012, 1#32)], tb := { st := .locked, src := .ptp }, ptpPorts := [(0, { foreign := (some { data := {}, utc := 0, utcValid := false, leap61 := false, leap59 := false }) })] }, 0, { domain := 0#8, sdo := 0#4, carrier := .ethernet, kind := .plain, seq := 0#16, sender := 0#64, resid := 0 }, by decide⟩,
    ⟨{ State.reset with regs := [(594012, 1#32)], tb := { st := .locked, src := .ptp }, ptpPorts := [(0, { foreign := (some { data := {}, utc := 0, utcValid := false, leap61 := false, leap59 := false }), sync := (some (2#16, (0, 0))) })] }, 0, { domain := 0#8, sdo := 0#4, carrier := .ethernet, kind := .plain, seq := 2#16, sender := 0#64, resid := 0 }, 0, 0, 0, 0, by decide⟩,
    ⟨{ State.reset with regs := [(589940, 0#32), (594012, 1#32), (593984, 0x300#32)], tb := { st := .locked, src := .ptp }, ptpPorts := [(0, { foreign := (some { data := {}, utc := 0, utcValid := false, leap61 := false, leap59 := false }), sync := (some (0x40#16, (0, 0))) })] }, 0, { domain := 3#8, sdo := 0#4, carrier := .ethernet, kind := .plain, seq := 0x40#16, sender := 0#64, resid := 0 }, 0, (-1), 0, 0, by decide⟩,
    ⟨{ State.reset with regs := [(589940, 0#32), (593984, 0xfe00#32), (594012, 1#32)], bell := { mode := .run }, pair := { role := .active }, tb := { st := .locked, src := .ptp }, ptpPorts := [(0, { foreign := (some { data := {}, utc := 0, utcValid := false, leap61 := false, leap59 := false }), sync := (some (2#16, (0, 0))) })] }, 0, { domain := 0xfe#8, sdo := 0#4, carrier := .ethernet, kind := .plain, seq := 2#16, sender := 0#64, resid := 0 }, 0, (-1), 0, 0, by decide⟩,
    ⟨{ State.reset with regs := [(594012, 1#32)], tb := { st := .acquiring, src := .ptp, good := 15 }, ptpPorts := [(0, { foreign := (some { data := {}, utc := 0, utcValid := false, leap61 := false, leap59 := false }), sync := (some (3#16, (0, 0))) })] }, 0, { domain := 0#8, sdo := 0#4, carrier := .ethernet, kind := .plain, seq := 3#16, sender := 0#64, resid := 0 }, 0, 0, 0, 0, by decide⟩,
    ⟨{ State.reset with regs := [(594012, 1#32)], tb := { st := .acquiring, src := .ptp }, ptpPorts := [(0, { foreign := (some { data := {}, utc := 0, utcValid := false, leap61 := false, leap59 := false }), sync := (some (2#16, (0, 0))) })] }, 0, { domain := 0#8, sdo := 0#4, carrier := .ethernet, kind := .plain, seq := 2#16, sender := 0#64, resid := 0 }, 0, 0, 0, 0, by decide⟩,
    ⟨{ State.reset with regs := [(589948, 0#32), (594012, 1#32)], tb := { st := .acquiring, src := .ptp }, ptpPorts := [(0, { foreign := (some { data := {}, utc := 0, utcValid := false, leap61 := false, leap59 := false }), sync := (some (1#16, (0, 0))) })] }, 0, { domain := 0#8, sdo := 0#4, carrier := .ethernet, kind := .plain, seq := 1#16, sender := 0#64, resid := 0 }, 0, 1, 0, 0, by decide⟩,
    ⟨{ State.reset with regs := [(589948, 0#32), (594012, 1#32)], tb := { st := .locked, src := .ptp, bad := 3 }, ptpPorts := [(0, { foreign := (some { data := {}, utc := 0, utcValid := false, leap61 := false, leap59 := false }), sync := (some (9#16, (0, 0))) })] }, 0, { domain := 0#8, sdo := 0#4, carrier := .ethernet, kind := .plain, seq := 9#16, sender := 0#64, resid := 0 }, 0, (-1), 0, 0, by decide⟩,
    ⟨{ State.reset with regs := [(589948, 0#32), (594012, 1#32)], tb := { st := .locked, src := .ptp }, ptpPorts := [(0, { foreign := (some { data := {}, utc := 0, utcValid := false, leap61 := false, leap59 := false }), sync := (some (0x820#16, (0, 0))) })] }, 0, { domain := 0#8, sdo := 0#4, carrier := .ethernet, kind := .plain, seq := 0x820#16, sender := 0#64, resid := 0 }, 0, 1, 0, 0, by decide⟩,
    ⟨{ State.reset with regs := [(594012, 1#32)], tb := { st := .locked, src := .ptp }, ptpPorts := [(0, { foreign := (some { data := {}, utc := 0, utcValid := false, leap61 := false, leap59 := false }), sync := (some (0xffff#16, (0, 0))) })] }, 0, { domain := 0#8, sdo := 0#4, carrier := .ethernet, kind := .plain, seq := 0xffff#16, sender := 0#64, resid := 0 }, 0, 0, 0, 0, by decide⟩,
    ⟨State.reset, 0, { domain := 0#8, sdo := 0#4, carrier := .ipv6, kind := .plain, seq := 0#16, sender := 0#64, resid := 0 }, by decide⟩,
    ⟨{ State.reset with regs := [(675904, 2#32)] }, 0, { domain := 0#8, sdo := 0#4, carrier := .ipv4, kind := .plain, seq := 0#16, sender := 0#64, resid := 0 }, by decide, by decide, by decide, uid_ne_zero.symm, by decide⟩,
    ⟨{ State.reset with regs := [(593996, 8#32), (593984, 0x108#32)], tb := { st := .freerun }, ptpPorts := [(3, { seen := (some (2#64, 0)) })] }, 3, { domain := 1#8, sdo := 0#4, carrier := .ethernet, kind := .plain, seq := 0#16, sender := 2#64, resid := 0 }, { data := {}, utc := 0, utcValid := false, leap61 := false, leap59 := false }, 0, by decide, uid_ne_zero.symm, by decide⟩,
    ⟨{ State.reset with regs := [(593996, 1#32)] }, 0, { domain := 0#8, sdo := 0#4, carrier := .ethernet, kind := .plain, seq := 0#16, sender := 0#64, resid := 0 }, { data := {}, utc := 0, utcValid := false, leap61 := false, leap59 := false }, by decide, uid_ne_zero.symm, by decide⟩,
    ⟨{ State.reset with regs := [(593984, 8#32), (594012, 1#32)], tb := { st := .locked, src := .ptp } }, 0, by decide⟩,
    ⟨{ State.reset with regs := [(594016, 6#32)] }, 0, { domain := 0#8, sdo := 0#4, carrier := .ethernet, kind := .plain, seq := 0#16, sender := 0#64, resid := 0 }, by decide⟩,
    ⟨{ State.reset with regs := [(594016, 6#32)], launch := [(0, [{ launch := 0, what := .hello, args := [] }])] }, 0, { domain := 0#8, sdo := 0#4, carrier := .ethernet, kind := .plain, seq := 0#16, sender := 0#64, resid := 0 }, by decide⟩,
    ⟨{ State.reset with regs := [(594012, 1#32), (593984, 0x300#32)], ptpPorts := [(0, { ms := (some 0), req := (some (0#16, 0)) })] }, 0, { domain := 3#8, sdo := 0#4, carrier := .ethernet, kind := .plain, seq := 0#16, sender := 0#64, resid := 0 }, 0, 0, by decide⟩,
    ⟨{ State.reset with regs := [(593984, 1#32)] }, 0, { domain := 0#8, sdo := 0#4, carrier := .ethernet, kind := .plain, seq := 0#16, sender := 0#64, resid := 0 }, by decide⟩,
    ⟨{ State.reset with regs := [(593984, 0x11#32)] }, 0, { domain := 0#8, sdo := 0#4, carrier := .ethernet, kind := .plain, seq := 0#16, sender := 0#64, resid := 0 }, by decide⟩,
    ⟨{ State.reset with regs := [(593984, 0x301#32)], ptpPorts := [(0, { req := (some (1#16, 0)) })] }, 0, { domain := 3#8, sdo := 0#4, carrier := .ethernet, kind := .plain, seq := 1#16, sender := 0#64, resid := 0 }, 0, by decide⟩,
    ⟨{ State.reset with regs := [(594016, 6#32)] }, 0, by decide⟩,
    ⟨{ State.reset with regs := [(594012, 1#32)] }, 0, by decide⟩⟩

theorem witness_NetworkPorts :
    (∃ (s : State) (p : Fin 6) (f : FreeFrame), s.dueFrame p.val s.tb.time.toNs = none ∧ s.held p.val = [f] ∧ s.mayStart p.val f.len = true) ∧
    (∃ (s : State) (p : Fin 6) (f : FreeFrame), s.dueFrame p.val s.tb.time.toNs = none ∧ s.held p.val = [f] ∧ s.mayStart p.val f.len = false) ∧
    (∃ (s : State) (p : Fin 6), s.held p.val = [] ∧ s.dueFrame p.val s.tb.time.toNs = none) ∧
    (∃ (s : State) (p : Fin 6) (q : Nat) (f : QFrame), s.held p.val = [] ∧ s.dueFrame p.val s.tb.time.toNs = some (q, f) ∧ f.launch + s.lateMax p.val q < s.tb.time.toNs) ∧
    (∃ (s : State) (p : Fin 6) (q : Nat) (f : QFrame), s.held p.val = [] ∧ s.dueFrame p.val s.tb.time.toNs = some (q, f) ∧ s.tb.time.toNs ≤ f.launch + s.lateMax p.val q ∧ s.pair.gate = true ∧ s.pair.driveEn = true ∧ f.launch + 8 < s.tb.time.toNs) ∧
    (∃ (s : State) (i : Fin 2), Redundant s i ∧ ∀ (k : Nat), k = 2 * i.val ∨ k = 2 * i.val + 1 → s.held k = [] ∧ s.mayStart k 92 = true) ∧
    (∃ (s : State) (i : Fin 2) (k : Nat), Redundant s i ∧ s.held (2 * i.val) ≠ [] ∧ s.held (2 * i.val + 1) ≠ [] ∧ (k = 2 * i.val ∨ k = 2 * i.val + 1)) ∧
    (∃ (s : State) (i : Fin 2), Redundant s i ∧ List.length (s.red i.val).nodes < 512) ∧
    (∃ (s : State) (i : Fin 2) (tag : RedTag), Redundant s i ∧ 512 ≤ List.length (s.red i.val).nodes ∧ ¬tag.src.toNat ∈ List.map Prod.fst (s.red i.val).nodes) ∧
    (∃ (src : BitVec 48) (x : Nat), x ≠ src.toNat) ∧
    (∃ (s : State) (p : Fin 5) (up : Bool), s.rbit (Page.port p.val) Reg.port_PORT_STAT 0 ≠ up) :=
  ⟨⟨{ State.reset with freeTx := [(0, [{ len := 0, what := .ptpPdelayResp, args := [], fail := false }])] }, 0, { len := 0, what := .ptpPdelayResp, args := [], fail := false }, by decide⟩,
    ⟨{ State.reset with launch := [(0, [{ launch := 1, what := .stationOutput, args := [] }])], freeTx := [(0, [{ len := 1, what := .ptpPdelayResp, args := [], fail := false }])] }, 0, { len := 1, what := .ptpPdelayResp, args := [], fail := false }, by decide⟩,
    ⟨State.reset, 0, by decide⟩,
    ⟨{ State.reset with tb := { time := { sec := 1 } }, launch := [(0, [{ launch := 0, what := .fileData, args := [] }])] }, 0, 0, { launch := 0, what := .fileData, args := [] }, by decide⟩,
    ⟨{ State.reset with pair := { own1 := true, own2 := true, driveEn := true }, tb := { time := { ns := 9 } }, launch := [(0, [{ launch := 0, what := .fileData, args := [] }])] }, 0, 0, { launch := 0, what := .fileData, args := [] }, by decide⟩,
    ⟨{ State.reset with regs := [(675904, 1#32)] }, 0, by decide, fun k hk => by rcases hk with rfl | rfl <;> decide⟩,
    ⟨{ State.reset with regs := [(675904, 1#32)], freeTx := [(1, [{ len := 0, what := .ptpPdelayRespFollowUp, args := [], fail := false }]), (0, [{ len := 0, what := .ptpPdelayRespFollowUp, args := [], fail := false }])] }, 0, 0, by decide⟩,
    ⟨{ State.reset with regs := [(675904, 1#32)] }, 0, by decide⟩,
    ⟨{ State.reset with regs := [(675904, 1#32)], reds := [(0, { nodes := [(1, 0), (1, 0), (1, 0), (1, 0), (1, 0), (1, 0), (1, 0), (1, 0), (1, 0), (1, 0), (1, 0), (1, 0), (1, 0), (1, 0), (1, 0), (1, 0), (1, 0), (1, 0), (1, 0), (1, 0), (1, 0), (1, 0), (1, 0), (1, 0), (1, 0), (1, 0), (1, 0), (1, 0), (1, 0), (1, 0), (1, 0), (1, 0), (1, 0), (1, 0), (1, 0), (1, 0), (1, 0), (1, 0), (1, 0), (1, 0), (1, 0), (1, 0), (1, 0), (1, 0), (1, 0), (1, 0), (1, 0), (1, 0), (1, 0), (1, 0), (1, 0), (1, 0), (1, 0), (1, 0), (1, 0), (1, 0), (1, 0), (1, 0), (1, 0), (1, 0), (208, 2), (208, 2), (208, 2), (208, 2), (208, 2), (208, 2), (208, 2), (208, 2), (208, 2), (208, 2), (208, 2), (208, 2), (208, 2), (208, 2), (208, 2), (208, 2), (208, 2), (208, 2), (208, 2), (208, 2), (208, 2), (208, 2), (208, 2), (208, 2), (208, 2), (208, 2), (208, 2), (208, 2), (208, 2), (208, 2), (208, 2), (208, 2), (208, 2), (208, 2), (208, 2), (208, 2), (208, 2), (208, 2), (208, 2), (208, 2), (208, 2), (208, 2), (208, 2), (208, 2), (208, 2), (208, 2), (208, 2), (208, 2), (208, 2), (208, 2), (208, 2), (208, 2), (208, 2), (208, 2), (208, 2), (208, 2), (208, 2), (208, 2), (208, 2), (208, 2), (208, 2), (208, 2), (208, 2), (208, 2), (208, 2), (208, 2), (208, 2), (208, 2), (208, 2), (208, 2), (208, 2), (208, 2), (208, 2), (208, 2), (208, 2), (208, 2), (208, 2), (208, 2), (208, 2), (208, 2), (208, 2), (208, 2), (208, 2), (208, 2), (208, 2), (208, 2), (208, 2), (208, 2), (208, 2), (208, 2), (208, 2), (208, 2), (208, 2), (208, 2), (208, 2), (208, 2), (208, 2), (208, 2), (208, 2), (208, 2), (208, 2), (208, 2), (208, 2), (208, 2), (208, 2), (208, 2), (208, 2), (208, 2), (208, 2), (208, 2), (208, 2), (208, 2), (208, 2), (208, 2), (208, 2), (208, 2), (208, 2), (208, 2), (208, 2), (208, 2), (208, 2), (208, 2), (208, 2), (208, 2), (208, 2), (208, 2), (208, 2), (208, 2), (208, 2), (208, 2), (208, 2), (208, 2), (208, 2), (208, 2), (208, 2), (208, 2), (208, 2), (208, 2), (208, 2), (208, 2), (208, 2), (208, 2), (208, 2), (208, 2), (208, 2), (208, 2), (208, 2), (208, 2), (208, 2), (208, 2), (208, 2), (208, 2), (208, 2), (208, 2), (208, 2), (208, 2), (208, 2), (208, 2), (208, 2), (208, 2), (208, 2), (208, 2), (208, 2), (208, 2), (208, 2), (208, 2), (208, 2), (208, 2), (208, 2), (208, 2), (208, 2), (208, 2), (208, 2), (208, 2), (208, 2), (208, 2), (208, 2), (208, 2), (208, 2), (208, 2), (208, 2), (208, 2), (208, 2), (208, 2), (208, 2), (208, 2), (208, 2), (208, 2), (208, 2), (208, 2), (208, 2), (208, 2), (208, 2), (208, 2), (208, 2), (208, 2), (208, 2), (208, 2), (208, 2), (208, 2), (208, 2), (208, 2), (208, 2), (208, 2), (208, 2), (208, 2), (208, 2), (208, 2), (208, 2), (208, 2), (208, 2), (208, 2), (208, 2), (208, 2), (208, 2), (208, 2), (208, 2), (208, 2), (208, 2), (208, 2), (208, 2), (208, 2), (208, 2), (208, 2), (208, 2), (208, 2), (208, 2), (208, 2), (208, 2), (208, 2), (208, 2), (208, 2), (208, 2), (208, 2), (208, 2), (208, 2), (208, 2), (208, 2), (208, 2), (208, 2), (208, 2), (208, 2), (208, 2), (208, 2), (208, 2), (208, 2), (208, 2), (208, 2), (208, 2), (208, 2), (208, 2), (208, 2), (208, 2), (208, 2), (208, 2), (208, 2), (208, 2), (208, 2), (208, 2), (208, 2), (208, 2), (208, 2), (208, 2), (208, 2), (208, 2), (208, 2), (208, 2), (208, 2), (208, 2), (208, 2), (208, 2), (208, 2), (208, 2), (208, 2), (208, 2), (208, 2), (208, 2), (208, 2), (208, 2), (208, 2), (208, 2), (208, 2), (208, 2), (208, 2), (208, 2), (208, 2), (208, 2), (208, 2), (208, 2), (208, 2), (208, 2), (208, 2), (208, 2), (208, 2), (208, 2), (208, 2), (208, 2), (208, 2), (208, 2), (208, 2), (208, 2), (208, 2), (208, 2), (208, 2), (208, 2), (208, 2), (208, 2), (208, 2), (208, 2), (208, 2), (208, 2), (208, 2), (208, 2), (208, 2), (208, 2), (208, 2), (208, 2), (208, 2), (208, 2), (208, 2), (208, 2), (208, 2), (208, 2), (208, 2), (208, 2), (208, 2), (208, 2), (208, 2), (208, 2), (208, 2), (208, 2), (208, 2), (208, 2), (208, 2), (208, 2), (208, 2), (208, 2), (208, 2), (208, 2), (208, 2), (208, 2), (208, 2), (208, 2), (208, 2), (208, 2), (208, 2), (208, 2), (208, 2), (208, 2), (208, 2), (208, 2), (208, 2), (208, 2), (208, 2), (208, 2), (208, 2), (208, 2), (208, 2), (208, 2), (208, 2), (208, 2), (208, 2), (208, 2), (208, 2), (208, 2), (208, 2), (208, 2), (208, 2), (208, 2), (208, 2), (208, 2), (208, 2), (208, 2), (208, 2), (208, 2), (208, 2), (208, 2), (208, 2), (208, 2), (208, 2), (208, 2), (208, 2), (208, 2), (208, 2), (208, 2), (208, 2), (208, 2), (208, 2), (208, 2), (208, 2), (208, 2), (208, 2), (208, 2), (208, 2), (208, 2), (208, 2), (208, 2), (208, 2), (208, 2), (208, 2), (208, 2), (208, 2), (208, 2), (208, 2), (208, 2), (208, 2), (208, 2), (208, 2), (208, 2), (208, 2), (208, 2), (208, 2), (208, 2), (208, 2), (208, 2), (208, 2), (208, 2), (208, 2), (208, 2), (208, 2), (208, 2), (208, 2), (208, 2), (208, 2), (208, 2), (208, 2), (208, 2), (208, 2), (208, 2), (208, 2), (208, 2), (208, 2), (208, 2), (208, 2), (208, 2), (208, 2), (208, 2), (208, 2), (208, 2), (208, 2), (208, 2), (208, 2), (208, 2), (208, 2), (208, 2), (208, 2), (208, 2), (208, 2), (208, 2), (208, 2), (208, 2), (208, 2)] })] }, 0, { src := 0#48, seq := 0#16, wrongLan := false }, by decide⟩,
    ⟨0x100#48, 0, by decide⟩,
    ⟨State.reset, 0, true, by decide⟩⟩

theorem witness_ProcessBus :
    (∃ (s : State), s.alive = false) ∧
    (∃ (s : State) (f : SvFrame), s.alive = true ∧ s.svMatch f = []) ∧
    (∃ (s : State) (f : SvFrame) (i : BitVec 7) (c : SvCfg), s.alive = true ∧ s.svMatch f = [i.toNat] ∧ s.svCfg i.toNat = some c ∧ f.lenOk = false) ∧
    (∃ (s : State) (f : SvFrame) (i : BitVec 7) (c : SvCfg), s.alive = true ∧ s.svMatch f = [i.toNat] ∧ s.svCfg i.toNat = some c ∧ f.lenOk = true ∧ f.sim = true ∧ c.simAccept = false) ∧
    (∃ (s : State) (f : SvFrame) (i : BitVec 7) (c : SvCfg), s.alive = true ∧ s.svMatch f = [i.toNat] ∧ s.svCfg i.toNat = some c ∧ f.lenOk = true ∧ (f.sim = true → c.simAccept = true) ∧ f.noAsdu ≠ c.noAsdu) ∧
    (∃ (s : State) (f : SvFrame) (i : BitVec 7) (c : SvCfg) (a : SvAsdu) (at_ : Nat), SvFits s i c f a ∧ a.smpCnt < c.profile.rate ∧ c.reqSync ≤ a.smpSynch ∧ svAssign c.profile.rate s.tb.time.toNs a.smpCnt = some at_ ∧ ((s.sv i.toNat).samples.any fun (y : SvSample) => y.instant == at_) = true) ∧
    (∃ (s : State) (f : SvFrame) (i : BitVec 7) (c : SvCfg) (a : SvAsdu) (at_ : Nat), SvFits s i c f a ∧ a.smpCnt < c.profile.rate ∧ c.reqSync ≤ a.smpSynch ∧ svAssign c.profile.rate s.tb.time.toNs a.smpCnt = some at_ ∧ ((s.sv i.toNat).samples.any fun (y : SvSample) => y.instant == at_) = false ∧ at_ + s.alignDelay c.group < s.tb.time.toNs) ∧
    (∃ (s : State) (f : SvFrame) (i : BitVec 7) (c : SvCfg) (a : SvAsdu) (at_ : Nat), SvFits s i c f a ∧ a.smpCnt < c.profile.rate ∧ c.reqSync ≤ a.smpSynch ∧ svAssign c.profile.rate s.tb.time.toNs a.smpCnt = some at_ ∧ ((s.sv i.toNat).samples.any fun (y : SvSample) => y.instant == at_) = false ∧ s.tb.time.toNs ≤ at_ + s.alignDelay c.group) ∧
    (∃ (s : State) (g : Fin 16) (i : BitVec 7) (c : SvCfg) (sec n : Nat) (y : SvSample) (v : Nat) (w : Word) (q : Quality), OnlyStream s g i c ∧ n < c.profile.rate ∧ s.tb.stepAt < svInstant c.profile.rate sec n + s.alignDelay g.val ∧ (s.sv i.toNat).loss = false ∧ List.find? (fun (y : SvSample) => y.instant == svInstant c.profile.rate sec n) (s.sv i.toNat).samples = some y ∧ (s.tb.st = TbSt.locked ∨ s.tb.st = TbSt.holdover) ∧ v < c.nval ∧ y.vals[v]? = some (w, q)) ∧
    (∃ (s : State) (g : Fin 16) (i : BitVec 7) (c : SvCfg) (sec n v : Nat), OnlyStream s g i c ∧ n < c.profile.rate ∧ s.tb.stepAt < svInstant c.profile.rate sec n + s.alignDelay g.val ∧ (s.sv i.toNat).loss = false ∧ ((s.sv i.toNat).samples.any fun (y : SvSample) => y.instant == svInstant c.profile.rate sec n) = false ∧ bit (s.reg Page.sv Reg.sv_SV_CFG) (16 + g.val) = false ∧ (s.sv i.toNat).miss + 1 ≠ c.lossN ∧ v < c.nval) ∧
    (∃ (s : State) (g : Fin 16) (i : BitVec 7) (c : SvCfg) (sec n v : Nat), OnlyStream s g i c ∧ n < c.profile.rate ∧ s.tb.stepAt < svInstant c.profile.rate sec n + s.alignDelay g.val ∧ (s.sv i.toNat).loss = false ∧ ((s.sv i.toNat).samples.any fun (y : SvSample) => y.instant == svInstant c.profile.rate sec n) = false ∧ (s.sv i.toNat).miss + 1 = c.lossN ∧ v < c.nval) ∧
    (∃ (i k : BitVec 7), k ≠ i) ∧
    (∃ (s : State) (p : Fin 8) (c : SvPubCfg), tget (fun (x : Nat) => none) s.net.pubs p.val = some c ∧ c.noAsdu = 1 ∧ (tget (fun (x : Nat) => { }) s.svPubs p.val).asdus = [] ∧ (s.queue c.port c.queue).length < 64) ∧
    (∃ (s : State) (i : BitVec 9) (c : GoSub) (m : GoMsg) (h : GoMember) (w : Word) (x : Nat), GoFits s i c m ∧ (∀ (x : Word × Word), (s.go i.toNat).last = some x → x.fst ≠ m.stNum ∨ BitVec.toNat x.snd < BitVec.toNat m.sqNum) ∧ GoMay s c ∧ c.members = [h] ∧ m.vals = [GoVal.num w] ∧ x ≠ h.handle) ∧
    (∃ (s : State) (i : BitVec 9) (c : GoSub) (m : GoMsg), GoFits s i c m ∧ (s.go i.toNat).last = some (m.stNum, m.sqNum)) ∧
    (∃ (s : State) (i : BitVec 9) (c : GoSub) (m : GoMsg) (q : Word), GoFits s i c m ∧ (s.go i.toNat).last = some (m.stNum, q) ∧ BitVec.toNat m.sqNum < BitVec.toNat q) ∧
    (∃ (s : State) (i : BitVec 9) (c : GoSub) (h : GoMember), s.alive = true ∧ s.goSub i.toNat = some c ∧ (s.go i.toNat).armed = true ∧ GoMay s c ∧ c.members = [h] ∧ h.ty ≠ GoType.quality ∧ h.ty ≠ GoType.timestamp) ∧
    (∃ (s : State) (i : BitVec 9), (s.go i.toNat).armed = false) ∧
    (∃ (s : State) (i : BitVec 7) (c : GoPub), tget (fun (x : Nat) => none) s.net.goPubs i.toNat = some c ∧ (s.goPub i.toNat).started = true ∧ s.isActive = true ∧ (s.queue c.port c.queue).length < 64) ∧
    (∃ (s : State) (i : BitVec 7) (c : GoPub), tget (fun (x : Nat) => none) s.net.goPubs i.toNat = some c ∧ s.isActive = false) :=
  ⟨⟨{ State.reset with pair := { role := .failed } }, by decide⟩,
    ⟨State.reset, { etherType := 0#16, dstMac := 0#48, vlan := none, appid := 0#16, lenOk := false, sim := false, noAsdu := 0, asdus := [] }, by decide⟩,
    ⟨{ State.reset with net := { streams := [(0, (some { profile := .le4000, dstMac := 0x10c#48, appid := 0x4000#16, vlan := 0, svid := [], confRev := 0#32, noAsdu := 0, nval := 0, scale := [], group := 0, reqSync := 0, lossN := 0, recoverN := 0, simAccept := false }))] } }, { etherType := 0x88ba#16, dstMac := 0x10c#48, vlan := none, appid := 0x4000#16, lenOk := false, sim := false, noAsdu := 0, asdus := [] }, 0#7, { profile := .le4000, dstMac := 0x10c#48, appid := 0x4000#16, vlan := 0, svid := [], confRev := 0#32, noAsdu := 0, nval := 0, scale := [], group := 0, reqSync := 0, lossN := 0, recoverN := 0, simAccept := false }, by decide⟩,
    ⟨{ State.reset with net := { streams := [(0, (some { profile := .le4000, dstMac := 0x10c#48, appid := 0x4000#16, vlan := 0, svid := [], confRev := 0#32, noAsdu := 0, nval := 0, scale := [], group := 0, reqSync := 0, lossN := 0, recoverN := 0, simAccept := false }))] } }, { etherType := 0x88ba#16, dstMac := 0x10c#48, vlan := none, appid := 0x4000#16, lenOk := true, sim := true, noAsdu := 0, asdus := [] }, 0#7, { profile := .le4000, dstMac := 0x10c#48, appid := 0x4000#16, vlan := 0, svid := [], confRev := 0#32, noAsdu := 0, nval := 0, scale := [], group := 0, reqSync := 0, lossN := 0, recoverN := 0, simAccept := false }, by decide⟩,
    ⟨{ State.reset with net := { streams := [(0, (some { profile := .le4000, dstMac := 0x10c#48, appid := 0x4000#16, vlan := 0, svid := [], confRev := 0#32, noAsdu := 0, nval := 0, scale := [], group := 0, reqSync := 0, lossN := 0, recoverN := 0, simAccept := false }))] } }, { etherType := 0x88ba#16, dstMac := 0x10c#48, vlan := none, appid := 0x4000#16, lenOk := true, sim := false, noAsdu := 1, asdus := [] }, 0#7, { profile := .le4000, dstMac := 0x10c#48, appid := 0x4000#16, vlan := 0, svid := [], confRev := 0#32, noAsdu := 0, nval := 0, scale := [], group := 0, reqSync := 0, lossN := 0, recoverN := 0, simAccept := false }, by decide⟩,
    ⟨{ State.reset with tb := { time := { sec := 10, ns := 250000 } }, net := { streams := [(0, (some { profile := .le4000, dstMac := 0x10c#48, appid := 0x4000#16, vlan := 0, svid := [1#8], confRev := 1#32, noAsdu := 1, nval := 2, scale := [0x3f800000#32, 0x3f000000#32], group := 0, reqSync := 0, lossN := 3, recoverN := 4, simAccept := false }))] }, svs := [(0, { samples := [{ instant := 10000250000, vals := [] }] })] }, { etherType := 0x88ba#16, dstMac := 0x10c#48, vlan := none, appid := 0x4000#16, lenOk := true, sim := false, noAsdu := 1, asdus := [{ svid := [1#8], confRev := 1#32, smpCnt := 1, smpSynch := 2, bytes := 16, vals := [(7#32, {}), (8#32, { validity := .questionable })] }] }, 0#7, { profile := .le4000, dstMac := 0x10c#48, appid := 0x4000#16, vlan := 0, svid := [1#8], confRev := 1#32, noAsdu := 1, nval := 2, scale := [0x3f800000#32, 0x3f000000#32], group := 0, reqSync := 0, lossN := 3, recoverN := 4, simAccept := false }, { svid := [1#8], confRev := 1#32, smpCnt := 1, smpSynch := 2, bytes := 16, vals := [(7#32, {}), (8#32, { validity := .questionable })] }, 10000250000, by decide⟩,
    ⟨{ State.reset with tb := { time := { sec := 1 } }, net := { streams := [(0, (some { profile := .le4000, dstMac := 0x10c#48, appid := 0x4000#16, vlan := 0, svid := [1#8], confRev := 1#32, noAsdu := 1, nval := 2, scale := [0x3f800000#32, 0x3f000000#32], group := 0, reqSync := 0, lossN := 3, recoverN := 4, simAccept := false }))] } }, { etherType := 0x88ba#16, dstMac := 0x10c#48, vlan := none, appid := 0x4000#16, lenOk := true, sim := false, noAsdu := 1, asdus := [{ svid := [1#8], confRev := 1#32, smpCnt := 3998, smpSynch := 2, bytes := 16, vals := [(7#32, {}), (8#32, { validity := .questionable })] }] }, 0#7, { profile := .le4000, dstMac := 0x10c#48, appid := 0x4000#16, vlan := 0, svid := [1#8], confRev := 1#32, noAsdu := 1, nval := 2, scale := [0x3f800000#32, 0x3f000000#32], group := 0, reqSync := 0, lossN := 3, recoverN := 4, simAccept := false }, { svid := [1#8], confRev := 1#32, smpCnt := 3998, smpSynch := 2, bytes := 16, vals := [(7#32, {}), (8#32, { validity := .questionable })] }, 999500000, by decide⟩,
    ⟨{ State.reset with regs := [(684160, 0x400#32)], tb := { time := { sec := 1 } }, net := { streams := [(0, (some { profile := .le4000, dstMac := 0x10c#48, appid := 0x4000#16, vlan := 0, svid := [1#8], confRev := 1#32, noAsdu := 1, nval := 2, scale := [0x3f800000#32, 0x3f000000#32], group := 0, reqSync := 0, lossN := 3, recoverN := 4, simAccept := false }))] } }, { etherType := 0x88ba#16, dstMac := 0x10c#48, vlan := none, appid := 0x4000#16, lenOk := true, sim := false, noAsdu := 1, asdus := [{ svid := [1#8], confRev := 1#32, smpCnt := 3998, smpSynch := 2, bytes := 16, vals := [(7#32, {}), (8#32, { validity := .questionable })] }] }, 0#7, { profile := .le4000, dstMac := 0x10c#48, appid := 0x4000#16, vlan := 0, svid := [1#8], confRev := 1#32, noAsdu := 1, nval := 2, scale := [0x3f800000#32, 0x3f000000#32], group := 0, reqSync := 0, lossN := 3, recoverN := 4, simAccept := false }, { svid := [1#8], confRev := 1#32, smpCnt := 3998, smpSynch := 2, bytes := 16, vals := [(7#32, {}), (8#32, { validity := .questionable })] }, 999500000, by decide⟩,
    ⟨{ State.reset with tb := { st := .locked }, net := { streams := [(0, (some { profile := .le4000, dstMac := 0x10c#48, appid := 0x4000#16, vlan := 0, svid := [1#8], confRev := 1#32, noAsdu := 1, nval := 2, scale := [0x3f800000#32, 0x3f000000#32], group := 0, reqSync := 0, lossN := 3, recoverN := 4, simAccept := false }))] }, svs := [(0, { samples := [{ instant := 250000, vals := [(0#32, {})] }] })] }, 0, 0#7, { profile := .le4000, dstMac := 0x10c#48, appid := 0x4000#16, vlan := 0, svid := [1#8], confRev := 1#32, noAsdu := 1, nval := 2, scale := [0x3f800000#32, 0x3f000000#32], group := 0, reqSync := 0, lossN := 3, recoverN := 4, simAccept := false }, 0, 1, { instant := 250000, vals := [(0#32, {})] }, 0, 0#32, {}, by decide⟩,
    ⟨{ State.reset with net := { streams := [(0, (some { profile := .le4000, dstMac := 0x10c#48, appid := 0x4000#16, vlan := 0, svid := [1#8], confRev := 1#32, noAsdu := 1, nval := 2, scale := [0x3f800000#32, 0x3f000000#32], group := 0, reqSync := 0, lossN := 3, recoverN := 4, simAccept := false }))] } }, 0, 0#7, { profile := .le4000, dstMac := 0x10c#48, appid := 0x4000#16, vlan := 0, svid := [1#8], confRev := 1#32, noAsdu := 1, nval := 2, scale := [0x3f800000#32, 0x3f000000#32], group := 0, reqSync := 0, lossN := 3, recoverN := 4, simAccept := false }, 0, 0, 0, by decide⟩,
    ⟨{ State.reset with net := { streams := [(0, (some { profile := .le4000, dstMac := 0x10c#48, appid := 0x4000#16, vlan := 0, svid := [1#8], confRev := 1#32, noAsdu := 1, nval := 2, scale := [0x3f800000#32, 0x3f000000#32], group := 0, reqSync := 0, lossN := 3, recoverN := 4, simAccept := false }))] }, svs := [(0, { miss := 2 })] }, 0, 0#7, { profile := .le4000, dstMac := 0x10c#48, appid := 0x4000#16, vlan := 0, svid := [1#8], confRev := 1#32, noAsdu := 1, nval := 2, scale := [0x3f800000#32, 0x3f000000#32], group := 0, reqSync := 0, lossN := 3, recoverN := 4, simAccept := false }, 0, 0, 0, by decide⟩,
    ⟨0#7, 0x40#7, by decide⟩,
    ⟨{ State.reset with net := { pubs := [(0, (some { profile := .p14400, binds := [], scale := [], noAsdu := 1, pubDelay := 0, port := 0, queue := 0 }))] } }, 0, { profile := .p14400, binds := [], scale := [], noAsdu := 1, pubDelay := 0, port := 0, queue := 0 }, by decide⟩,
    ⟨{ State.reset with net := { goSubs := [(0, (some { dstMac := 0x10d#48, appid := 1#16, vlan := 0, gocbRef := [1#8], datSet := [2#8], confRev := 3#32, simAccept := false, members := [{ ty := .int32, handle := 120, ofMember := 0, subst := 9#32 }], talSubst := true }))] } }, 0#9, { dstMac := 0x10d#48, appid := 1#16, vlan := 0, gocbRef := [1#8], datSet := [2#8], confRev := 3#32, simAccept := false, members := [{ ty := .int32, handle := 120, ofMember := 0, subst := 9#32 }], talSubst := true }, { dstMac := 0x10d#48, vlan := none, appid := 1#16, lenOk := true, sim := false, gocbRef := [1#8], datSet := [2#8], confRev := 3#32, entries := 1, ndsCom := false, stNum := 0#32, sqNum := 0#32, tal := 0, vals := [(.num 0#32)] }, { ty := .int32, handle := 120, ofMember := 0, subst := 9#32 }, 0#32, 0, by decide, (fun x h => nomatch (show (none : Option (Word × Word)) = some x from h)), by decide⟩,
    ⟨{ State.reset with net := { goSubs := [(0, (some { dstMac := 0x10d#48, appid := 1#16, vlan := 0, gocbRef := [1#8], datSet := [2#8], confRev := 3#32, simAccept := false, members := [{ ty := .int32, handle := 120, ofMember := 0, subst := 9#32 }], talSubst := true }))] }, gos := [(0, { last := (some (4#32, 3#32)) })] }, 0#9, { dstMac := 0x10d#48, appid := 1#16, vlan := 0, gocbRef := [1#8], datSet := [2#8], confRev := 3#32, simAccept := false, members := [{ ty := .int32, handle := 120, ofMember := 0, subst := 9#32 }], talSubst := true }, { dstMac := 0x10d#48, vlan := none, appid := 1#16, lenOk := true, sim := false, gocbRef := [1#8], datSet := [2#8], confRev := 3#32, entries := 1, ndsCom := false, stNum := 4#32, sqNum := 3#32, tal := 0, vals := [] }, by decide⟩,
    ⟨{ State.reset with net := { goSubs := [(0, (some { dstMac := 0x10d#48, appid := 1#16, vlan := 0, gocbRef := [1#8], datSet := [2#8], confRev := 3#32, simAccept := false, members := [{ ty := .int32, handle := 120, ofMember := 0, subst := 9#32 }], talSubst := true }))] }, gos := [(0, { last := (some (4#32, 2#32)) })] }, 0#9, { dstMac := 0x10d#48, appid := 1#16, vlan := 0, gocbRef := [1#8], datSet := [2#8], confRev := 3#32, simAccept := false, members := [{ ty := .int32, handle := 120, ofMember := 0, subst := 9#32 }], talSubst := true }, { dstMac := 0x10d#48, vlan := none, appid := 1#16, lenOk := true, sim := false, gocbRef := [1#8], datSet := [2#8], confRev := 3#32, entries := 1, ndsCom := false, stNum := 4#32, sqNum := 0#32, tal := 0, vals := [] }, 2#32, by decide⟩,
    ⟨{ State.reset with net := { goSubs := [(0, (some { dstMac := 0#48, appid := 0#16, vlan := 0, gocbRef := [], datSet := [], confRev := 0#32, simAccept := false, members := [{ ty := .int16u, handle := 0, ofMember := 0, subst := 0#32 }], talSubst := false }))] }, gos := [(0, { armed := true })] }, 0#9, { dstMac := 0#48, appid := 0#16, vlan := 0, gocbRef := [], datSet := [], confRev := 0#32, simAccept := false, members := [{ ty := .int16u, handle := 0, ofMember := 0, subst := 0#32 }], talSubst := false }, { ty := .int16u, handle := 0, ofMember := 0, subst := 0#32 }, by decide⟩,
    ⟨State.reset, 0#9, by decide⟩,
    ⟨{ State.reset with pair := { role := .active }, net := { goPubs := [(1, (some { members := [], tMin := 0, tMax := 0, port := 0, queue := 0 }))] }, goPubs := [(1, { started := true })] }, 1#7, { members := [], tMin := 0, tMax := 0, port := 0, queue := 0 }, by decide⟩,
    ⟨{ State.reset with net := { goPubs := [(1, (some { members := [], tMin := 0, tMax := 0, port := 0, queue := 0 }))] } }, 1#7, { members := [], tMin := 0, tMax := 0, port := 0, queue := 0 }, by decide⟩⟩

theorem witness_StationLink :
    (∃ (s : State) (lane : Fin 2), s.alive = false ∨ s.rbit (Page.lane lane.val) Reg.lane_LANE_CFG 0 = false) ∧
    (∃ (s : State) (lane : Fin 2) (f : StnFrame), s.alive = true ∧ s.rbit (Page.lane lane.val) Reg.lane_LANE_CFG 0 = true ∧ f.fcsOk = false) ∧
    (∃ (s : State) (lane : Fin 2) (f : StnFrame), s.alive = true ∧ s.rbit (Page.lane lane.val) Reg.lane_LANE_CFG 0 = true ∧ f.fcsOk = true ∧ BitVec.toNat f.etherType ≠ s.fld (Page.lane lane.val) Reg.lane_ETHERTYPE 0 16) ∧
    (∃ (s : State) (lane : Fin 2) (f : StnFrame), s.alive = true ∧ s.rbit (Page.lane lane.val) Reg.lane_LANE_CFG 0 = true ∧ f.fcsOk = true ∧ BitVec.toNat f.etherType = s.fld (Page.lane lane.val) Reg.lane_ETHERTYPE 0 16 ∧ f.da = BitVec.extractLsb' 0 16 (s.reg (Page.lane lane.val) Reg.lane_GROUP_MAC_HI) ++ s.reg (Page.lane lane.val) Reg.lane_GROUP_MAC_LO ∧ 128 < BitVec.toNat f.addr) ∧
    (∃ (s : State) (lane : Fin 2) (f : StnFrame) (y : Nat), LaneFrame s lane f 1#8 ∧ f.len = 28#16 ∧ s.isActive = false ∧ y ≠ stnIx lane f) ∧
    (∃ (s : State) (lane : Fin 2) (f : StnFrame) (c : StnCfg) (ver : Nat), LaneFrame s lane f 1#8 ∧ f.len = 28#16 ∧ s.isActive = true ∧ s.pair.gate = true ∧ s.stnCfgOf (stnIx lane f) = some c ∧ s.joinReason (stnIx lane f) f.payload = (0, ver) ∧ StnMay s (stnIx lane f) ∧ LaneFree s (stnIx lane f) c.ackPayload.length) ∧
    (∃ (s : State) (lane : Fin 2) (f : StnFrame) (c : StnCfg) (ver : Nat), LaneFrame s lane f 1#8 ∧ f.len = 28#16 ∧ s.isActive = true ∧ s.pair.gate = true ∧ s.stnCfgOf (stnIx lane f) = some c ∧ s.joinReason (stnIx lane f) f.payload = (0, ver) ∧ StnMay s (stnIx lane f) ∧ ¬LaneFree s (stnIx lane f) c.ackPayload.length ∧ (s.stn (stnIx lane f)).st ≠ StnSt.running) ∧
    (∃ (s : State) (lane : Fin 2) (f : StnFrame) (c : StnCfg) (ver : Nat), LaneFrame s lane f 1#8 ∧ f.len = 28#16 ∧ s.isActive = true ∧ s.pair.gate = true ∧ s.stnCfgOf (stnIx lane f) = some c ∧ s.joinReason (stnIx lane f) f.payload = (0, ver) ∧ StnMay s (stnIx lane f) ∧ (s.stn (stnIx lane f)).st = StnSt.running) ∧
    (∃ (s : State) (lane : Fin 2) (f : StnFrame) (c : StnCfg) (reason ver : Nat), LaneFrame s lane f 1#8 ∧ f.len = 28#16 ∧ s.isActive = true ∧ s.pair.gate = true ∧ s.stnCfgOf (stnIx lane f) = some c ∧ s.joinReason (stnIx lane f) f.payload = (reason, ver) ∧ reason ≠ 0 ∧ (s.stn (stnIx lane f)).st ≠ StnSt.running ∧ LaneFree s (stnIx lane f) 4) ∧
    (∃ (s : State) (lane : Fin 2) (f : StnFrame) (c : StnCfg) (reason ver : Nat), LaneFrame s lane f 1#8 ∧ f.len = 28#16 ∧ s.isActive = true ∧ s.pair.gate = true ∧ s.stnCfgOf (stnIx lane f) = some c ∧ s.joinReason (stnIx lane f) f.payload = (reason, ver) ∧ reason ≠ 0 ∧ (s.stn (stnIx lane f)).st ≠ StnSt.running ∧ ¬LaneFree s (stnIx lane f) 4) ∧
    (∃ (s : State) (lane : Fin 2) (f : StnFrame) (c : StnCfg) (j : Nat), LaneFrame s lane f 17#8 ∧ s.stnCfgOf (stnIx lane f) = some c ∧ BitVec.toNat f.len = c.inLen ∧ (s.stn (stnIx lane f)).st.joined = true ∧ BitVec.toNat f.ver = (s.stn (stnIx lane f)).ver ∧ c.seqPeriod s.tb.time.toNs f.seq = some j ∧ (s.stn (stnIx lane f)).seen.contains j = false ∧ StnMay s (stnIx lane f) ∧ (s.stn (stnIx lane f)).st = StnSt.joining) ∧
    (∃ (s : State) (lane : Fin 2) (f : StnFrame) (c : StnCfg) (j : Nat) (m : StnMap), LaneFrame s lane f 17#8 ∧ s.stnCfgOf (stnIx lane f) = some c ∧ BitVec.toNat f.len = c.inLen ∧ (s.stn (stnIx lane f)).st.joined = true ∧ BitVec.toNat f.ver = (s.stn (stnIx lane f)).ver ∧ c.seqPeriod s.tb.time.toNs f.seq = some j ∧ (s.stn (stnIx lane f)).seen.contains j = false ∧ StnMay s (stnIx lane f) ∧ s.stnEntries (stnIx lane f) false = [m] ∧ m.qEn = false ∧ m.hEn = true) ∧
    (∃ (s : State) (lane : Fin 2) (f : StnFrame) (c : StnCfg) (j : Nat) (m : StnMap), LaneFrame s lane f 17#8 ∧ s.stnCfgOf (stnIx lane f) = some c ∧ BitVec.toNat f.len = c.inLen ∧ (s.stn (stnIx lane f)).st.joined = true ∧ BitVec.toNat f.ver = (s.stn (stnIx lane f)).ver ∧ c.seqPeriod s.tb.time.toNs f.seq = some j ∧ (s.stn (stnIx lane f)).seen.contains j = false ∧ StnMay s (stnIx lane f) ∧ s.stnEntries (stnIx lane f) false = [m] ∧ m.qEn = false ∧ m.cEn = true) ∧
    (∃ (s : State) (lane : Fin 2) (f : StnFrame) (c : StnCfg) (j : Nat), LaneFrame s lane f 17#8 ∧ s.stnCfgOf (stnIx lane f) = some c ∧ BitVec.toNat f.len = c.inLen ∧ s.standbyTakes (stnIx lane f) (BitVec.toNat f.ver) = true ∧ c.seqPeriod s.tb.time.toNs f.seq = some j ∧ (s.stn (stnIx lane f)).seen.contains j = false ∧ StnMay s (stnIx lane f)) ∧
    (∃ (s : State) (lane : Fin 2) (f : StnFrame) (c : StnCfg), LaneFrame s lane f 17#8 ∧ s.stnCfgOf (stnIx lane f) = some c ∧ BitVec.toNat f.len = c.inLen ∧ (s.stn (stnIx lane f)).st.joined = true ∧ BitVec.toNat f.ver ≠ (s.stn (stnIx lane f)).ver) ∧
    (∃ (s : State) (lane : Fin 2) (f : StnFrame) (c : StnCfg), LaneFrame s lane f 17#8 ∧ s.stnCfgOf (stnIx lane f) = some c ∧ BitVec.toNat f.len = c.inLen ∧ s.isActive = true ∧ (s.stn (stnIx lane f)).st.joined = false ∧ BitVec.toNat f.ver = (s.stn (stnIx lane f)).ver) ∧
    (∃ (s : State) (lane : Fin 2) (f : StnFrame) (c : StnCfg), LaneFrame s lane f 17#8 ∧ s.stnCfgOf (stnIx lane f) = some c ∧ BitVec.toNat f.len = c.inLen ∧ (s.stn (stnIx lane f)).st.joined = true ∧ BitVec.toNat f.ver = (s.stn (stnIx lane f)).ver ∧ c.seqPeriod s.tb.time.toNs f.seq = none) ∧
    (∃ (s : State) (lane : Fin 2) (f : StnFrame) (c : StnCfg) (j : Nat), LaneFrame s lane f 17#8 ∧ s.stnCfgOf (stnIx lane f) = some c ∧ BitVec.toNat f.len = c.inLen ∧ (s.stn (stnIx lane f)).st.joined = true ∧ BitVec.toNat f.ver = (s.stn (stnIx lane f)).ver ∧ c.seqPeriod s.tb.time.toNs f.seq = some j ∧ (s.stn (stnIx lane f)).seen.contains j = true) ∧
    (∃ (s : State) (x : BitVec 8) (c : StnCfg), s.stnCfgOf x.toNat = some c ∧ s.isActive = true ∧ (s.stn x.toNat).st.joined = true ∧ (s.queue (4 + x.toNat / 128) 0).length < 64) ∧
    (∃ (s : State) (x : BitVec 8) (c : StnCfg), s.stnCfgOf x.toNat = some c ∧ s.isActive = false) ∧
    (∃ (s : State) (x : BitVec 8) (j : Nat), s.alive = true ∧ StnMay s x.toNat ∧ (s.stn x.toNat).st.joined = true ∧ (s.stn x.toNat).from_ ≤ j ∧ (s.stn x.toNat).seen.contains j = true) ∧
    (∃ (s : State) (x : BitVec 8) (j : Nat), s.alive = true ∧ StnMay s x.toNat ∧ (s.stn x.toNat).st.joined = true ∧ (s.stn x.toNat).from_ ≤ j ∧ (s.stn x.toNat).seen.contains j = false ∧ (s.stn x.toNat).missed + 1 < s.fld (Page.lane (x.toNat / 128)) Reg.lane_LANE_CFG 8 8) ∧
    (∃ (s : State) (x : BitVec 8) (j : Nat), s.alive = true ∧ StnMay s x.toNat ∧ (s.stn x.toNat).st.joined = true ∧ (s.stn x.toNat).from_ ≤ j ∧ (s.stn x.toNat).seen.contains j = false ∧ s.fld (Page.lane (x.toNat / 128)) Reg.lane_LANE_CFG 8 8 ≤ (s.stn x.toNat).missed + 1 ∧ (s.stn x.toNat).st = StnSt.running ∧ s.isActive = true) ∧
    (∃ (s : State) (x : BitVec 8) (j : Nat) (m : StnMap), s.alive = true ∧ StnMay s x.toNat ∧ (s.stn x.toNat).st.joined = true ∧ (s.stn x.toNat).from_ ≤ j ∧ (s.stn x.toNat).seen.contains j = false ∧ s.fld (Page.lane (x.toNat / 128)) Reg.lane_LANE_CFG 8 8 ≤ (s.stn x.toNat).missed + 1 ∧ (s.stn x.toNat).st = StnSt.running ∧ s.stnEntries x.toNat false = [m] ∧ m.hEn = true ∧ m.holds = false) ∧
    (∃ (s : State) (x : BitVec 8) (j : Nat) (m : StnMap), s.alive = true ∧ StnMay s x.toNat ∧ (s.stn x.toNat).st.joined = true ∧ (s.stn x.toNat).from_ ≤ j ∧ (s.stn x.toNat).seen.contains j = false ∧ s.fld (Page.lane (x.toNat / 128)) Reg.lane_LANE_CFG 8 8 ≤ (s.stn x.toNat).missed + 1 ∧ (s.stn x.toNat).st = StnSt.running ∧ s.stnEntries x.toNat false = [m] ∧ m.hEn = true ∧ m.holds = true) ∧
    (∃ (s : State) (x : BitVec 8) (j : Nat), s.alive = true ∧ StnMay s x.toNat ∧ (s.stn x.toNat).st.joined = true ∧ (s.stn x.toNat).from_ ≤ j ∧ (s.stn x.toNat).seen.contains j = false ∧ s.fld (Page.lane (x.toNat / 128)) Reg.lane_LANE_CFG 8 8 ≤ (s.stn x.toNat).missed + 1 ∧ (s.stn x.toNat).st = StnSt.joining) ∧
    (∃ (s : State) (x : BitVec 8) (p : Priv) (m : StnMap), p ≠ Priv.p2 ∧ s.isActive = true ∧ s.pair.gate = true ∧ (s.stn x.toNat).st.joined = true ∧ StnMay s x.toNat ∧ s.stnEntries x.toNat false = [m] ∧ m.hEn = true ∧ m.holds = false) ∧
    (∃ (s : State) (x : BitVec 8) (p : Priv) (m : StnMap), p ≠ Priv.p2 ∧ s.isActive = true ∧ s.pair.gate = true ∧ (s.stn x.toNat).st.joined = true ∧ StnMay s x.toNat ∧ s.stnEntries x.toNat false = [m] ∧ m.hEn = true ∧ m.holds = true) ∧
    (∃ (s : State) (x : BitVec 8) (p : Priv), p ≠ Priv.p2 ∧ s.isActive = true ∧ s.pair.gate = true ∧ (s.stn x.toNat).st.joined = true ∧ StnMay s x.toNat ∧ LaneFree s x.toNat 0) ∧
    (∃ (s : State) (x : BitVec 8) (p : Priv), p ≠ Priv.p2 ∧ s.isActive = true ∧ s.pair.gate = true ∧ (s.stn x.toNat).st.joined = true ∧ StnMay s x.toNat ∧ ¬LaneFree s x.toNat 0) ∧
    (∃ (s : State) (x : BitVec 8) (p : Priv), p ≠ Priv.p2 ∧ (s.isActive = false ∨ (s.stn x.toNat).st.joined = false)) ∧
    (∃ (s : State) (x : BitVec 8) (p : Priv), p ≠ Priv.p2 ∧ ((s.stn x.toNat).st = StnSt.absent ∨ (s.stn x.toNat).st = StnSt.failed)) ∧
    (∃ (s : State) (x : BitVec 8) (p : Priv), p ≠ Priv.p2 ∧ (s.stn x.toNat).st = StnSt.inhibited) ∧
    (∃ (s : State) (x : BitVec 8) (p : Priv), p ≠ Priv.p2 ∧ (s.stn x.toNat).st ≠ StnSt.inhibited) ∧
    (∃ (s : State) (lane : Fin 2) (e : LaneEvt), s.rbit (Page.lane lane.val) Reg.lane_LANE_CFG 0 = true ∧ e.st = LaneSt.up ∧ tget (fun (x : Nat) => LaneSt.down) s.lanes lane.val ≠ LaneSt.up) ∧
    (∃ (s : State) (lane : Fin 2) (e : LaneEvt), tget (fun (x : Nat) => LaneSt.down) s.lanes lane.val = LaneSt.up ∧ e.st ≠ LaneSt.up) :=
  ⟨⟨{ State.reset with regs := [(720964, 0#32)] }, 0, by decide⟩,
    ⟨State.reset, 0, { fcsOk := false, da := 0#48, sa := 0#48, etherType := 0#16, ver := 0#8, type := 0#8, addr := 0#8, flags := 0#8, epoch := 0#32, cyc := 0#48, seq := 0#16, len := 0#16, payload := [] }, by decide⟩,
    ⟨State.reset, 0, { fcsOk := true, da := 0#48, sa := 0#48, etherType := 0#16, ver := 0#8, type := 0#8, addr := 0#8, flags := 0#8, epoch := 0#32, cyc := 0#48, seq := 0#16, len := 0#16, payload := [] }, by decide⟩,
    ⟨State.reset, 0, { fcsOk := true, da := 0x3000000b480#48, sa := 0#48, etherType := 0x88b6#16, ver := 0#8, type := 0#8, addr := 0x81#8, flags := 0#8, epoch := 0#32, cyc := 0#48, seq := 0#16, len := 0#16, payload := [] }, by decide⟩,
    ⟨State.reset, 1, { fcsOk := true, da := 0x3000000b480#48, sa := 0#48, etherType := 0x88b6#16, ver := 0#8, type := 1#8, addr := 1#8, flags := 0#8, epoch := 0#32, cyc := 0#48, seq := 0#16, len := 0x1c#16, payload := [0#8, 0#8, 0#8, 0#8, 0#8, 0#8, 0#8, 0#8, 0#8, 0#8, 0#8, 0#8, 0#8, 0#8, 0#8, 0#8, 0#8, 0#8, 0#8, 0#8, 0#8, 0#8, 0#8, 0#8, 0#8, 0#8, 0#8, 0#8] }, 0, by decide⟩,
    ⟨{ State.reset with pair := { role := .active, own1 := true, own2 := true, inUse := [0, 0, 254, 0, 0] }, stnCfg := [(0, (some { uid := 0#64, k := 0, outPhase := 0, inPhase := 0, wdg := 0, inLen := 8, outLen := 8, caps := 0#16, cfg := [] }))] }, 0, { fcsOk := true, da := 0x3000000b480#48, sa := 0#48, etherType := 0x88b6#16, ver := 0#8, type := 1#8, addr := 1#8, flags := 0#8, epoch := 0#32, cyc := 0#48, seq := 0#16, len := 0x1c#16, payload := [0#8, 0#8, 0#8, 0#8, 0#8, 0#8, 0#8, 0#8, 0#8, 254#8, 0#8, 1#8, 0#8, 8#8, 0#8, 8#8, 0#8, 0#8, 0#8, 0#8, 0#8, 0#8, 0#8, 0#8, 0#8, 0#8, 0#8, 0#8] }, { uid := 0#64, k := 0, outPhase := 0, inPhase := 0, wdg := 0, inLen := 8, outLen := 8, caps := 0#16, cfg := [] }, 254, by decide, rfl, by decide, by decide, rfl, by
      have h : ¬ 254 < ifMin 2 := by have := ifMin_bounds 2; omega
      show (if 254 < 0 ∨ 254 < ifMin 2 then 3 else 0, 254) = (0, 254)
      simp [h], by decide, by decide⟩,
    ⟨{ State.reset with pair := { role := .active, own1 := true, own2 := true, inUse := [0, 0, 254, 0, 0] }, launch := [(32, [{ launch := 0, what := .supervision, args := [] }])], stnCfg := [(0, (some { uid := 0#64, k := 0, outPhase := 0, inPhase := 0, wdg := 0, inLen := 8, outLen := 8, caps := 0#16, cfg := [] }))] }, 0, { fcsOk := true, da := 0x3000000b480#48, sa := 0#48, etherType := 0x88b6#16, ver := 0#8, type := 1#8, addr := 1#8, flags := 0#8, epoch := 0#32, cyc := 0#48, seq := 0#16, len := 0x1c#16, payload := [0#8, 0#8, 0#8, 0#8, 0#8, 0#8, 0#8, 0#8, 0#8, 254#8, 0#8, 1#8, 0#8, 8#8, 0#8, 8#8, 0#8, 0#8, 0#8, 0#8, 0#8, 0#8, 0#8, 0#8, 0#8, 0#8, 0#8, 0#8] }, { uid := 0#64, k := 0, outPhase := 0, inPhase := 0, wdg := 0, inLen := 8, outLen := 8, caps := 0#16, cfg := [] }, 254, by decide, rfl, by decide, by decide, rfl, by
      have h : ¬ 254 < ifMin 2 := by have := ifMin_bounds 2; omega
      show (if 254 < 0 ∨ 254 < ifMin 2 then 3 else 0, 254) = (0, 254)
      simp [h], by decide, by decide, by decide⟩,
    ⟨{ State.reset with pair := { role := .active, own1 := true, own2 := true, inUse := [0, 0, 254, 0, 0] }, stnCfg := [(0, (some { uid := 0#64, k := 0, outPhase := 0, inPhase := 0, wdg := 0, inLen := 8, outLen := 8, caps := 0#16, cfg := [] }))], stns := [(0, { st := .running })] }, 0, { fcsOk := true, da := 0x3000000b480#48, sa := 0#48, etherType := 0x88b6#16, ver := 0#8, type := 1#8, addr := 1#8, flags := 0#8, epoch := 0#32, cyc := 0#48, seq := 0#16, len := 0x1c#16, payload := [0#8, 0#8, 0#8, 0#8, 0#8, 0#8, 0#8, 0#8, 0#8, 254#8, 0#8, 1#8, 0#8, 8#8, 0#8, 8#8, 0#8, 0#8, 0#8, 0#8, 0#8, 0#8, 0#8, 0#8, 0#8, 0#8, 0#8, 0#8] }, { uid := 0#64, k := 0, outPhase := 0, inPhase := 0, wdg := 0, inLen := 8, outLen := 8, caps := 0#16, cfg := [] }, 254, by decide, rfl, by decide, by decide, rfl, by
      have h : ¬ 254 < ifMin 2 := by have := ifMin_bounds 2; omega
      show (if 254 < 0 ∨ 254 < ifMin 2 then 3 else 0, 254) = (0, 254)
      simp [h], by decide, by decide⟩,
    ⟨{ State.reset with pair := { role := .active, own1 := true, own2 := true }, stnCfg := [(0, (some { uid := 0#64, k := 0, outPhase := 0, inPhase := 0, wdg := 0, inLen := 0, outLen := 0, caps := 0#16, cfg := [] }))] }, 0, { fcsOk := true, da := 0x3000000b480#48, sa := 0#48, etherType := 0x88b6#16, ver := 0#8, type := 1#8, addr := 1#8, flags := 0#8, epoch := 0#32, cyc := 0#48, seq := 0#16, len := 0x1c#16, payload := [0#8, 0#8, 0#8, 0#8, 0#8, 0#8, 0#8, 0#8, 0#8, 0#8, 0#8, 0#8, 0#8, 0#8, 0#8, 0#8, 0#8, 0#8, 0#8, 0#8, 0#8, 0#8, 0#8, 0#8, 0#8, 0#8, 0#8, 0#8] }, { uid := 0#64, k := 0, outPhase := 0, inPhase := 0, wdg := 0, inLen := 0, outLen := 0, caps := 0#16, cfg := [] }, 3, 0, by decide⟩,
    ⟨{ State.reset with pair := { role := .active, own1 := true, own2 := true }, launch := [(32, [{ launch := 0, what := .supervision, args := [] }])], stnCfg := [(0, (some { uid := 0#64, k := 0, outPhase := 0, inPhase := 0, wdg := 0, inLen := 0, outLen := 0, caps := 0#16, cfg := [] }))] }, 0, { fcsOk := true, da := 0x3000000b480#48, sa := 0#48, etherType := 0x88b6#16, ver := 0#8, type := 1#8, addr := 1#8, flags := 0#8, epoch := 0#32, cyc := 0#48, seq := 0#16, len := 0x1c#16, payload := [0#8, 0#8, 0#8, 0#8, 0#8, 0#8, 0#8, 0#8, 0#8, 0#8, 0#8, 0#8, 0#8, 0#8, 0#8, 0#8, 0#8, 0#8, 0#8, 0#8, 0#8, 0#8, 0#8, 0#8, 0#8, 0#8, 0#8, 0#8] }, { uid := 0#64, k := 0, outPhase := 0, inPhase := 0, wdg := 0, inLen := 0, outLen := 0, caps := 0#16, cfg := [] }, 3, 0, by decide⟩,
    ⟨{ State.reset with tb := { time := { sec := 10 } }, stnCfg := [(0, (some { uid := 0#64, k := 4, outPhase := 0, inPhase := 0, wdg := 0, inLen := 8, outLen := 0, caps := 0#16, cfg := [] }))], stns := [(0, { st := .joining, ver := 2 })] }, 0, { fcsOk := true, da := 0x3000000b480#48, sa := 0#48, etherType := 0x88b6#16, ver := 2#8, type := 0x11#8, addr := 1#8, flags := 0#8, epoch := 0#32, cyc := 0#48, seq := 0x2710#16, len := 8#16, payload := [0#8, 0#8, 0#8, 0#8, 0#8, 0#8, 0#8, 0#8] }, { uid := 0#64, k := 4, outPhase := 0, inPhase := 0, wdg := 0, inLen := 8, outLen := 0, caps := 0#16, cfg := [] }, 10000, by decide⟩,
    ⟨{ State.reset with tb := { time := { sec := 10 } }, stnCfg := [(0, (some { uid := 0#64, k := 4, outPhase := 0, inPhase := 0, wdg := 0, inLen := 8, outLen := 0, caps := 0#16, cfg := [] }))], stnMap := [{ w0 := 0x10000000#32, w1 := 0#32, w2 := 0#32, w3 := 0#32 }], stns := [(0, { st := .running, ver := 2 })] }, 0, { fcsOk := true, da := 0x3000000b480#48, sa := 0#48, etherType := 0x88b6#16, ver := 2#8, type := 0x11#8, addr := 1#8, flags := 0#8, epoch := 0#32, cyc := 0#48, seq := 0x2710#16, len := 8#16, payload := [0#8, 0#8, 0#8, 0#8, 0#8, 0#8, 0#8, 0#8] }, { uid := 0#64, k := 4, outPhase := 0, inPhase := 0, wdg := 0, inLen := 8, outLen := 0, caps := 0#16, cfg := [] }, 10000, { w0 := 0x10000000#32, w1 := 0#32, w2 := 0#32, w3 := 0#32 }, by decide⟩,
    ⟨{ State.reset with tb := { time := { sec := 10 } }, stnCfg := [(0, (some { uid := 0#64, k := 4, outPhase := 0, inPhase := 0, wdg := 0, inLen := 8, outLen := 0, caps := 0#16, cfg := [] }))], stnMap := [{ w0 := 0x20000000#32, w1 := 0#32, w2 := 0#32, w3 := 0#32 }], stns := [(0, { st := .joining, ver := 2 })] }, 0, { fcsOk := true, da := 0x3000000b480#48, sa := 0#48, etherType := 0x88b6#16, ver := 2#8, type := 0x11#8, addr := 1#8, flags := 0#8, epoch := 0#32, cyc := 0#48, seq := 0x2710#16, len := 8#16, payload := [0#8, 0#8, 0#8, 0#8, 0#8, 0#8, 0#8, 0#8] }, { uid := 0#64, k := 4, outPhase := 0, inPhase := 0, wdg := 0, inLen := 8, outLen := 0, caps := 0#16, cfg := [] }, 10000, { w0 := 0x20000000#32, w1 := 0#32, w2 := 0#32, w3 := 0#32 }, by decide⟩,
    ⟨{ State.reset with pair := { inUse := [0, 0, 254, 0, 0] }, tb := { time := { sec := 10 } }, stnCfg := [(0, (some { uid := 0#64, k := 4, outPhase := 0, inPhase := 0, wdg := 0, inLen := 8, outLen := 0, caps := 0#16, cfg := [] }))], stns := [(0, { st := .absent })] }, 0, { fcsOk := true, da := 0x3000000b480#48, sa := 0#48, etherType := 0x88b6#16, ver := BitVec.ofNat 8 (ifMin 2), type := 0x11#8, addr := 1#8, flags := 0#8, epoch := 0#32, cyc := 0#48, seq := 0x2710#16, len := 8#16, payload := [0#8, 0#8, 0#8, 0#8, 0#8, 0#8, 0#8, 0#8] }, { uid := 0#64, k := 4, outPhase := 0, inPhase := 0, wdg := 0, inLen := 8, outLen := 0, caps := 0#16, cfg := [] }, 10000, by decide, rfl, by decide, by
      have := ifMin_bounds 2
      have h : (BitVec.ofNat 8 (ifMin 2)).toNat = ifMin 2 := by rw [BitVec.toNat_ofNat]; omega
      show decide (ifMin 2 ≤ (BitVec.ofNat 8 (ifMin 2)).toNat ∧ (BitVec.ofNat 8 (ifMin 2)).toNat ≤ ifMax 2 ∧ (BitVec.ofNat 8 (ifMin 2)).toNat ≤ 254) = true
      rw [h]; exact decide_eq_true (by omega), by decide⟩,
    ⟨{ State.reset with stnCfg := [(0, (some { uid := 0#64, k := 0, outPhase := 0, inPhase := 0, wdg := 0, inLen := 8, outLen := 0, caps := 0#16, cfg := [] }))], stns := [(0, { st := .joining })] }, 0, { fcsOk := true, da := 0x3000000b480#48, sa := 0#48, etherType := 0x88b6#16, ver := 1#8, type := 0x11#8, addr := 1#8, flags := 0#8, epoch := 0#32, cyc := 0#48, seq := 0#16, len := 8#16, payload := [0#8, 0#8, 0#8, 0#8, 0#8, 0#8, 0#8, 0#8] }, { uid := 0#64, k := 0, outPhase := 0, inPhase := 0, wdg := 0, inLen := 8, outLen := 0, caps := 0#16, cfg := [] }, by decide⟩,
    ⟨{ State.reset with pair := { role := .active }, stnCfg := [(0, (some { uid := 0#64, k := 0, outPhase := 0, inPhase := 0, wdg := 0, inLen := 8, outLen := 0, caps := 0#16, cfg := [] }))], stns := [(0, { ver := 2 })] }, 0, { fcsOk := true, da := 0x3000000b480#48, sa := 0#48, etherType := 0x88b6#16, ver := 2#8, type := 0x11#8, addr := 1#8, flags := 0#8, epoch := 0#32, cyc := 0#48, seq := 0#16, len := 8#16, payload := [0#8, 0#8, 0#8, 0#8, 0#8, 0#8, 0#8, 0#8] }, { uid := 0#64, k := 0, outPhase := 0, inPhase := 0, wdg := 0, inLen := 8, outLen := 0, caps := 0#16, cfg := [] }, by decide⟩,
    ⟨{ State.reset with stnCfg := [(0, (some { uid := 0#64, k := 0, outPhase := 0, inPhase := 0, wdg := 0, inLen := 8, outLen := 0, caps := 0#16, cfg := [] }))], stns := [(0, { st := .running, ver := 2 })] }, 0, { fcsOk := true, da := 0x3000000b480#48, sa := 0#48, etherType := 0x88b6#16, ver := 2#8, type := 0x11#8, addr := 1#8, flags := 0#8, epoch := 0#32, cyc := 0#48, seq := 4#16, len := 8#16, payload := [0#8, 0#8, 0#8, 0#8, 0#8, 0#8, 0#8, 0#8] }, { uid := 0#64, k := 0, outPhase := 0, inPhase := 0, wdg := 0, inLen := 8, outLen := 0, caps := 0#16, cfg := [] }, by decide⟩,
    ⟨{ State.reset with tb := { time := { sec := 10 } }, stnCfg := [(0, (some { uid := 0#64, k := 4, outPhase := 0, inPhase := 0, wdg := 0, inLen := 8, outLen := 0, caps := 0#16, cfg := [] }))], stns := [(0, { st := .running, ver := 2, seen := [9999] })] }, 0, { fcsOk := true, da := 0x3000000b480#48, sa := 0#48, etherType := 0x88b6#16, ver := 2#8, type := 0x11#8, addr := 1#8, flags := 0#8, epoch := 0#32, cyc := 0#48, seq := 0x270f#16, len := 8#16, payload := [0#8, 0#8, 0#8, 0#8, 0#8, 0#8, 0#8, 0#8] }, { uid := 0#64, k := 4, outPhase := 0, inPhase := 0, wdg := 0, inLen := 8, outLen := 0, caps := 0#16, cfg := [] }, 9999, by decide⟩,
    ⟨{ State.reset with pair := { role := .active }, stnCfg := [(0, (some { uid := 0#64, k := 0, outPhase := 0, inPhase := 0, wdg := 0, inLen := 0, outLen := 0, caps := 0#16, cfg := [] }))], stns := [(0, { st := .joining })] }, 0#8, { uid := 0#64, k := 0, outPhase := 0, inPhase := 0, wdg := 0, inLen := 0, outLen := 0, caps := 0#16, cfg := [] }, by decide⟩,
    ⟨{ State.reset with stnCfg := [(0, (some { uid := 0#64, k := 0, outPhase := 0, inPhase := 0, wdg := 0, inLen := 0, outLen := 0, caps := 0#16, cfg := [] }))] }, 0#8, { uid := 0#64, k := 0, outPhase := 0, inPhase := 0, wdg := 0, inLen := 0, outLen := 0, caps := 0#16, cfg := [] }, by decide⟩,
    ⟨{ State.reset with stns := [(1, { st := .joining, seen := [31] })] }, 1#8, 31, by decide⟩,
    ⟨{ State.reset with stns := [(0, { st := .running })] }, 0#8, 0, by decide⟩,
    ⟨{ State.reset with pair := { role := .active }, stns := [(0, { st := .running, missed := 2 })] }, 0#8, 0, by decide⟩,
    ⟨{ State.reset with stnMap := [{ w0 := 0x10000000#32, w1 := 0#32, w2 := 0#32, w3 := 0#32 }], stns := [(0, { st := .running, missed := 2 })] }, 0#8, 0, { w0 := 0x10000000#32, w1 := 0#32, w2 := 0#32, w3 := 0#32 }, by decide⟩,
    ⟨{ State.reset with stnMap := [{ w0 := 0x10000000#32, w1 := 0x80000#32, w2 := 0#32, w3 := 0#32 }], stns := [(0, { st := .running, missed := 2 })] }, 0#8, 0, { w0 := 0x10000000#32, w1 := 0x80000#32, w2 := 0#32, w3 := 0#32 }, by decide⟩,
    ⟨{ State.reset with stns := [(0, { st := .joining, missed := 2 })] }, 0#8, 0, by decide⟩,
    ⟨{ State.reset with pair := { role := .active, own1 := true, own2 := true }, stnMap := [{ w0 := 0x10000000#32, w1 := 0#32, w2 := 0#32, w3 := 0#32 }], stns := [(0, { st := .running })] }, 0#8, .p1, { w0 := 0x10000000#32, w1 := 0#32, w2 := 0#32, w3 := 0#32 }, by decide⟩,
    ⟨{ State.reset with pair := { role := .active, own1 := true, own2 := true }, stnMap := [{ w0 := 0x10000000#32, w1 := 0x80000#32, w2 := 0#32, w3 := 0#32 }], stns := [(0, { st := .running })] }, 0#8, .p1, { w0 := 0x10000000#32, w1 := 0x80000#32, w2 := 0#32, w3 := 0#32 }, by decide⟩,
    ⟨{ State.reset with pair := { role := .active, own1 := true, own2 := true }, stns := [(0, { st := .running })] }, 0#8, .p1, by decide⟩,
    ⟨{ State.reset with pair := { role := .active, own1 := true, own2 := true }, launch := [(32, [{ launch := 0, what := .addrReq, args := [] }])], stns := [(0, { st := .running })] }, 0#8, .p1, by decide⟩,
    ⟨State.reset, 0#8, .p1, by decide⟩,
    ⟨{ State.reset with stns := [(0, { st := .absent })] }, 0#8, .p1, by decide⟩,
    ⟨{ State.reset with stns := [(11, { st := .inhibited })] }, 0xb#8, .p0, by decide⟩,
    ⟨State.reset, 0#8, .p0, by decide⟩,
    ⟨State.reset, 0, { st := .up, train := 0#16 }, by decide⟩,
    ⟨{ State.reset with lanes := [(1, .up)] }, 1, { st := .training, train := 0#16 }, by decide⟩⟩

theorem witness_Fabric :
    (∃ (port : Fin 4) (h : FabHdr) (m : FabHello) (s : State) (p : Fin 4) (h_1 : FabHdr) (w : Out) (args : List Nat), some (port, h, Out.hello, [BitVec.toNat m.uid, BitVec.toNat m.addr, m.cost, BitVec.toNat m.keeper, BitVec.toNat m.roll, m.ownMin, m.ownMax]) = some (p, h_1, w, args) ∧ s.fportUp p.val = false) ∧
    (∃ (port : Fin 4) (h : FabHdr) (m : FabHello) (s : State) (p : Fin 4) (h_1 : FabHdr) (w : Out) (args : List Nat), some (port, h, Out.hello, [BitVec.toNat m.uid, BitVec.toNat m.addr, m.cost, BitVec.toNat m.keeper, BitVec.toNat m.roll, m.ownMin, m.ownMax]) = some (p, h_1, w, args) ∧ s.fportUp p.val = true ∧ h_1.intact w args = false) ∧
    (∃ (port : Fin 4) (h : FabHdr) (keeper : DWord) (roll : Word) (fver : Nat) (entries : List (DWord × BitVec 16)) (s : State) (p : Fin 4) (h_1 : FabHdr) (w : Out) (args : List Nat), some (port, h, Out.roll, [BitVec.toNat keeper, BitVec.toNat roll, fver, entries.length] ++ List.flatMap (fun (e : DWord × BitVec 16) => [BitVec.toNat e.fst, e.snd.toNat]) entries) = some (p, h_1, w, args) ∧ s.fportUp p.val = false) ∧
    (∃ (port : Fin 4) (h : FabHdr) (keeper : DWord) (roll : Word) (fver : Nat) (entries : List (DWord × BitVec 16)) (s : State) (p : Fin 4) (h_1 : FabHdr) (w : Out) (args : List Nat), some (port, h, Out.roll, [BitVec.toNat keeper, BitVec.toNat roll, fver, entries.length] ++ List.flatMap (fun (e : DWord × BitVec 16) => [BitVec.toNat e.fst, e.snd.toNat]) entries) = some (p, h_1, w, args) ∧ s.fportUp p.val = true ∧ h_1.intact w args = false) ∧
    (∃ (port : Fin 4) (h : FabHdr) (uid : DWord) (ask : FabAsk) (vmin vmax : Nat) (s : State) (p : Fin 4) (h_1 : FabHdr) (w : Out) (args : List Nat), some (port, h, Out.addrReq, [BitVec.toNat uid, BitVec.toNat ask.pref, vmin, vmax, ask.proxy]) = some (p, h_1, w, args) ∧ s.fportUp p.val = false) ∧
    (∃ (port : Fin 4) (h : FabHdr) (uid : DWord) (ask : FabAsk) (vmin vmax : Nat) (s : State) (p : Fin 4) (h_1 : FabHdr) (w : Out) (args : List Nat), some (port, h, Out.addrReq, [BitVec.toNat uid, BitVec.toNat ask.pref, vmin, vmax, ask.proxy]) = some (p, h_1, w, args) ∧ s.fportUp p.val = true ∧ h_1.intact w args = false) ∧
    (∃ (port : Fin 4) (h : FabHdr) (uid : DWord) (addr : BitVec 16) (result : Nat) (s : State) (p : Fin 4) (h_1 : FabHdr) (w : Out) (args : List Nat), some (port, h, Out.addrGrant, [BitVec.toNat uid, addr.toNat, result]) = some (p, h_1, w, args) ∧ s.fportUp p.val = false) ∧
    (∃ (port : Fin 4) (h : FabHdr) (uid : DWord) (addr : BitVec 16) (result : Nat) (s : State) (p : Fin 4) (h_1 : FabHdr) (w : Out) (args : List Nat), some (port, h, Out.addrGrant, [BitVec.toNat uid, addr.toNat, result]) = some (p, h_1, w, args) ∧ s.fportUp p.val = true ∧ h_1.intact w args = false) ∧
    (∃ (port : Fin 4) (h : FabHdr) (m : FabLsa) (s : State) (p : Fin 4) (h_1 : FabHdr) (w : Out) (args : List Nat), some (port, h, Out.lsa, [BitVec.toNat m.uid, BitVec.toNat m.addr, BitVec.toNat m.seq, m.nbrs.length] ++ List.flatMap (fun (e : Half × Nat) => [BitVec.toNat e.fst, e.snd]) m.nbrs) = some (p, h_1, w, args) ∧ s.fportUp p.val = false) ∧
    (∃ (port : Fin 4) (h : FabHdr) (m : FabLsa) (s : State) (p : Fin 4) (h_1 : FabHdr) (w : Out) (args : List Nat), some (port, h, Out.lsa, [BitVec.toNat m.uid, BitVec.toNat m.addr, BitVec.toNat m.seq, m.nbrs.length] ++ List.flatMap (fun (e : Half × Nat) => [BitVec.toNat e.fst, e.snd]) m.nbrs) = some (p, h_1, w, args) ∧ s.fportUp p.val = true ∧ h_1.intact w args = false) ∧
    (∃ (port : Fin 4) (h : FabHdr) (m : GvMsg) (s : State) (p : Fin 4) (h_1 : FabHdr) (w : Out) (args : List Nat), some (port, h, Out.gv, [BitVec.toNat m.gvId, BitVec.toNat m.count, BitVec.toNat m.epoch, BitVec.toNat m.cyc] ++ List.flatMap (fun (e : Word × Half) => [BitVec.toNat e.fst, BitVec.toNat e.snd]) m.entries) = some (p, h_1, w, args) ∧ s.fportUp p.val = false) ∧
    (∃ (port : Fin 4) (h : FabHdr) (m : GvMsg) (s : State) (p : Fin 4) (h_1 : FabHdr) (w : Out) (args : List Nat), some (port, h, Out.gv, [BitVec.toNat m.gvId, BitVec.toNat m.count, BitVec.toNat m.epoch, BitVec.toNat m.cyc] ++ List.flatMap (fun (e : Word × Half) => [BitVec.toNat e.fst, BitVec.toNat e.snd]) m.entries) = some (p, h_1, w, args) ∧ s.fportUp p.val = true ∧ h_1.intact w args = false) ∧
    (∃ (port : Fin 4) (h : FabHdr) (bytes : List Byte) (s : State) (p : Fin 4) (h_1 : FabHdr) (w : Out) (args : List Nat), some (port, h, Out.bulk, List.map BitVec.toNat bytes) = some (p, h_1, w, args) ∧ s.fportUp p.val = false) ∧
    (∃ (port : Fin 4) (h : FabHdr) (bytes : List Byte) (s : State) (p : Fin 4) (h_1 : FabHdr) (w : Out) (args : List Nat), some (port, h, Out.bulk, List.map BitVec.toNat bytes) = some (p, h_1, w, args) ∧ s.fportUp p.val = true ∧ h_1.intact w args = false) ∧
    (∃ (h : FabHdr) (w : Out) (args : List Nat) (c : Word), c ≠ crc32c (h.bytes w args)) ∧
    (∃ (s : State) (p : Fin 4), tget (fun (x : Nat) => LaneSt.down) s.fab.ports p.val = LaneSt.up) ∧
    (∃ (s : State) (p : Fin 4) (h0 : FabHdr) (m : FabHello) (q : Fin 4), FabTaken s p (sealH h0 Out.hello [BitVec.toNat m.uid, BitVec.toNat m.addr, m.cost, BitVec.toNat m.keeper, BitVec.toNat m.roll, m.ownMin, m.ownMax]) Out.hello [BitVec.toNat m.uid, BitVec.toNat m.addr, m.cost, BitVec.toNat m.keeper, BitVec.toNat m.roll, m.ownMin, m.ownMax] ∧ (sealH h0 Out.hello [BitVec.toNat m.uid, BitVec.toNat m.addr, m.cost, BitVec.toNat m.keeper, BitVec.toNat m.roll, m.ownMin, m.ownMax]).dst = 65534#16 ∧ q ≠ p) ∧
    (∃ (s : State) (p : Fin 4), s.nbr p.val ≠ none) ∧
    (∃ (s : State) (p : Fin 4), s.fportUp p.val = true ∧ s.now < tget (fun (x : Nat) => 0) s.fab.busy p.val ∧ (s.fabQueue p.val 0).length < 64) ∧
    (∃ (s : State) (p : Fin 4), s.fportUp p.val = true ∧ 64 ≤ (s.fabQueue p.val 0).length) ∧
    (∃ (s : State), s.fab.isKeeper = true ∧ s.fabMay Out.roll = true) ∧
    (∃ (s : State) (p : Fin 4) (h0 : FabHdr) (u : DWord) (pref : BitVec 16) (lo hi proxy : Nat) (a : Half), FabTaken s p (sealH h0 Out.addrReq [BitVec.toNat u, pref.toNat, lo, hi, proxy]) Out.addrReq [BitVec.toNat u, pref.toNat, lo, hi, proxy] ∧ (sealH h0 Out.addrReq [BitVec.toNat u, pref.toNat, lo, hi, proxy]).dst = 65534#16 ∧ s.fab.isKeeper = true ∧ s.fab.negFail = false ∧ lo ≤ s.fab.ver ∧ s.fab.ver ≤ hi ∧ PortFree s p.val ∧ bookAddr s.fab.book u = some a) ∧
    (∃ (s : State) (p : Fin 4) (h0 : FabHdr) (u : DWord) (pref : BitVec 16) (lo hi proxy : Nat), FabTaken s p (sealH h0 Out.addrReq [BitVec.toNat u, pref.toNat, lo, hi, proxy]) Out.addrReq [BitVec.toNat u, pref.toNat, lo, hi, proxy] ∧ (sealH h0 Out.addrReq [BitVec.toNat u, pref.toNat, lo, hi, proxy]).dst = 65534#16 ∧ s.fab.isKeeper = true ∧ s.fab.negFail = false ∧ lo ≤ s.fab.ver ∧ s.fab.ver ≤ hi ∧ PortFree s p.val ∧ bookAddr s.fab.book u = none ∧ 1 ≤ pref.toNat ∧ pref.toNat ≤ 1024 ∧ bookHolds s.fab.book pref = false ∧ s.fab.book.length ≤ 1024) ∧
    (∃ (s : State) (p : Fin 4) (h0 : FabHdr) (u : DWord) (pref : BitVec 16) (lo hi proxy : Nat) (k : Half) (q : Nat), FabTaken s p (sealH h0 Out.addrReq [BitVec.toNat u, pref.toNat, lo, hi, proxy]) Out.addrReq [BitVec.toNat u, pref.toNat, lo, hi, proxy] ∧ (sealH h0 Out.addrReq [BitVec.toNat u, pref.toNat, lo, hi, proxy]).dst = 65534#16 ∧ s.fab.isKeeper = false ∧ s.keeperAddr = some k ∧ s.fab.addr ≠ 0#16 ∧ s.fabMay Out.addrReq = true ∧ BitVec.toNat k ≠ 65535 ∧ s.fabPort (BitVec.toNat k) = some q ∧ PortFree s q) ∧
    (∃ (s : State) (p : Fin 4), s.fab.addr = 0#16 ∧ s.fab.isKeeper = false ∧ List.find? (fun (i : Nat) => (s.nbr i).isSome) (List.range 4) = some p.val ∧ s.fportUp p.val = true ∧ PortFree s p.val) ∧
    (∃ (s : State), s.fab.addr ≠ 0#16 ∧ s.fabMay Out.lsa = true ∧ ∀ (i : Nat), i < 4 → s.fportUp i = true → PortFree s i) ∧
    (∃ (s : State), s.fabEn = true ∧ s.fab.isKeeper = false) ∧
    (∃ (s : State) (p : Priv), p = Priv.p2 ∨ s.fab.isKeeper = false) ∧
    (∃ (s : State) (p : Priv), p ≠ Priv.p2 ∧ s.fab.isKeeper = false ∧ s.fab.addr ≠ 0#16) ∧
    (∃ (s : State) (i : BitVec 9) (c : GvSub) (x : Nat × Word), s.alive = true ∧ s.gvSub i.toNat = some c ∧ (s.gvRt i.toNat).armed = true ∧ (∀ (x : Nat × Word), x ∈ c.handles → s.inMay x.fst = true) ∧ c.handles = [x]) ∧
    (∃ (s : State) (p : Fin 4) (h0 : FabHdr) (b : List Byte) (q : Nat), FabTaken s p (sealH h0 Out.bulk (List.map BitVec.toNat b)) Out.bulk (List.map BitVec.toNat b) ∧ 1 ≤ BitVec.toNat (sealH h0 Out.bulk (List.map BitVec.toNat b)).dst ∧ BitVec.toNat (sealH h0 Out.bulk (List.map BitVec.toNat b)).dst ≤ 1024 ∧ (sealH h0 Out.bulk (List.map BitVec.toNat b)).dst ≠ s.fab.addr ∧ s.fabMay Out.bulk = true ∧ s.fabPort (BitVec.toNat (sealH h0 Out.bulk (List.map BitVec.toNat b)).dst) = some q ∧ PortFree s q) ∧
    (∃ (s : State) (p : Fin 4) (h0 : FabHdr) (b : List Byte), FabTaken s p (sealH h0 Out.bulk (List.map BitVec.toNat b)) Out.bulk (List.map BitVec.toNat b) ∧ 1 ≤ BitVec.toNat (sealH h0 Out.bulk (List.map BitVec.toNat b)).dst ∧ BitVec.toNat (sealH h0 Out.bulk (List.map BitVec.toNat b)).dst ≤ 1024 ∧ (sealH h0 Out.bulk (List.map BitVec.toNat b)).dst ≠ s.fab.addr ∧ s.fabMay Out.bulk = true ∧ s.fabPort (BitVec.toNat (sealH h0 Out.bulk (List.map BitVec.toNat b)).dst) = none) ∧
    (∃ (s : State) (p : Fin 4) (h0 : FabHdr) (b : List Byte), FabTaken s p (sealH h0 Out.bulk (List.map BitVec.toNat b)) Out.bulk (List.map BitVec.toNat b) ∧ (sealH h0 Out.bulk (List.map BitVec.toNat b)).dst = s.fab.addr ∧ s.fab.addr ≠ 0#16) :=
  ⟨⟨0, { dst := 0#16, src := 0#16, type := 0#8, ver := 0#8, tc := 0#2, hops := 0#6, seq := 0#32, len := 0#16, ends := 0, csum := 0#16, crc := 0#32, resv := [] }, { uid := 0#64, addr := 0#16, cost := 0, keeper := 0#64, roll := 0#32, ownMin := 0, ownMax := 0 }, State.reset, 0, { dst := 0#16, src := 0#16, type := 0#8, ver := 0#8, tc := 0#2, hops := 0#6, seq := 0#32, len := 0#16, ends := 0, csum := 0#16, crc := 0#32, resv := [] }, .hello, [0, 0, 0, 0, 0, 0, 0], by decide⟩,
    ⟨0, { dst := 0#16, src := 0#16, type := 0#8, ver := 0#8, tc := 0#2, hops := 0#6, seq := 0#32, len := 0#16, ends := 0, csum := 0#16, crc := 0#32, resv := [] }, { uid := 0#64, addr := 0#16, cost := 0, keeper := 0#64, roll := 0#32, ownMin := 0, ownMax := 0 }, { State.reset with fab := { ports := [(0, .up)] } }, 0, { dst := 0#16, src := 0#16, type := 0#8, ver := 0#8, tc := 0#2, hops := 0#6, seq := 0#32, len := 0#16, ends := 0, csum := 0#16, crc := 0#32, resv := [] }, .hello, [0, 0, 0, 0, 0, 0, 0], by decide⟩,
    ⟨0, { dst := 0#16, src := 0#16, type := 0#8, ver := 0#8, tc := 0#2, hops := 0#6, seq := 0#32, len := 0#16, ends := 0, csum := 0#16, crc := 0#32, resv := [] }, 0#64, 0#32, 0, [], State.reset, 0, { dst := 0#16, src := 0#16, type := 0#8, ver := 0#8, tc := 0#2, hops := 0#6, seq := 0#32, len := 0#16, ends := 0, csum := 0#16, crc := 0#32, resv := [] }, .roll, [0, 0, 0, 0], by decide⟩,
    ⟨0, { dst := 0#16, src := 0#16, type := 0#8, ver := 0#8, tc := 0#2, hops := 0#6, seq := 0#32, len := 0#16, ends := 0, csum := 0#16, crc := 0#32, resv := [] }, 0#64, 0#32, 0, [], { State.reset with fab := { ports := [(0, .up)] } }, 0, { dst := 0#16, src := 0#16, type := 0#8, ver := 0#8, tc := 0#2, hops := 0#6, seq := 0#32, len := 0#16, ends := 0, csum := 0#16, crc := 0#32, resv := [] }, .roll, [0, 0, 0, 0], by decide⟩,
    ⟨0, { dst := 0#16, src := 0#16, type := 0#8, ver := 0#8, tc := 0#2, hops := 0#6, seq := 0#32, len := 0#16, ends := 0, csum := 0#16, crc := 0#32, resv := [] }, 0#64, { pref := 0#16, proxy := 0 }, 0, 0, State.reset, 0, { dst := 0#16, src := 0#16, type := 0#8, ver := 0#8, tc := 0#2, hops := 0#6, seq := 0#32, len := 0#16, ends := 0, csum := 0#16, crc := 0#32, resv := [] }, .addrReq, [0, 0, 0, 0, 0], by decide⟩,
    ⟨0, { dst := 0#16, src := 0#16, type := 0#8, ver := 0#8, tc := 0#2, hops := 0#6, seq := 0#32, len := 0#16, ends := 0, csum := 0#16, crc := 0#32, resv := [] }, 0#64, { pref := 0#16, proxy := 0 }, 0, 0, { State.reset with fab := { ports := [(0, .up)] } }, 0, { dst := 0#16, src := 0#16, type := 0#8, ver := 0#8, tc := 0#2, hops := 0#6, seq := 0#32, len := 0#16, ends := 0, csum := 0#16, crc := 0#32, resv := [] }, .addrReq, [0, 0, 0, 0, 0], by decide⟩,
    ⟨0, { dst := 0#16, src := 0#16, type := 0#8, ver := 0#8, tc := 0#2, hops := 0#6, seq := 0#32, len := 0#16, ends := 0, csum := 0#16, crc := 0#32, resv := [] }, 0#64, 0#16, 0, State.reset, 0, { dst := 0#16, src := 0#16, type := 0#8, ver := 0#8, tc := 0#2, hops := 0#6, seq := 0#32, len := 0#16, ends := 0, csum := 0#16, crc := 0#32, resv := [] }, .addrGrant, [0, 0, 0], by decide⟩,
    ⟨0, { dst := 0#16, src := 0#16, type := 0#8, ver := 0#8, tc := 0#2, hops := 0#6, seq := 0#32, len := 0#16, ends := 0, csum := 0#16, crc := 0#32, resv := [] }, 0#64, 0#16, 0, { State.reset with fab := { ports := [(0, .up)] } }, 0, { dst := 0#16, src := 0#16, type := 0#8, ver := 0#8, tc := 0#2, hops := 0#6, seq := 0#32, len := 0#16, ends := 0, csum := 0#16, crc := 0#32, resv := [] }, .addrGrant, [0, 0, 0], by decide⟩,
    ⟨0, { dst := 0#16, src := 0#16, type := 0#8, ver := 0#8, tc := 0#2, hops := 0#6, seq := 0#32, len := 0#16, ends := 0, csum := 0#16, crc := 0#32, resv := [] }, { uid := 0#64, addr := 0#16, seq := 0#32, nbrs := [] }, State.reset, 0, { dst := 0#16, src := 0#16, type := 0#8, ver := 0#8, tc := 0#2, hops := 0#6, seq := 0#32, len := 0#16, ends := 0, csum := 0#16, crc := 0#32, resv := [] }, .lsa, [0, 0, 0, 0], by decide⟩,
    ⟨0, { dst := 0#16, src := 0#16, type := 0#8, ver := 0#8, tc := 0#2, hops := 0#6, seq := 0#32, len := 0#16, ends := 0, csum := 0#16, crc := 0#32, resv := [] }, { uid := 0#64, addr := 0#16, seq := 0#32, nbrs := [] }, { State.reset with fab := { ports := [(0, .up)] } }, 0, { dst := 0#16, src := 0#16, type := 0#8, ver := 0#8, tc := 0#2, hops := 0#6, seq := 0#32, len := 0#16, ends := 0, csum := 0#16, crc := 0#32, resv := [] }, .lsa, [0, 0, 0, 0], by decide⟩,
    ⟨0, { dst := 0#16, src := 0#16, type := 0#8, ver := 0#8, tc := 0#2, hops := 0#6, seq := 0#32, len := 0#16, ends := 0, csum := 0#16, crc := 0#32, resv := [] }, { gvId := 0#16, count := 0#16, epoch := 0#32, cyc := 0#48, entries := [] }, State.reset, 0, { dst := 0#16, src := 0#16, type := 0#8, ver := 0#8, tc := 0#2, hops := 0#6, seq := 0#32, len := 0#16, ends := 0, csum := 0#16, crc := 0#32, resv := [] }, .gv, [0, 0, 0, 0], by decide⟩,
    ⟨0, { dst := 0#16, src := 0#16, type := 0#8, ver := 0#8, tc := 0#2, hops := 0#6, seq := 0#32, len := 0#16, ends := 0, csum := 0#16, crc := 0#32, resv := [] }, { gvId := 0#16, count := 0#16, epoch := 0#32, cyc := 0#48, entries := [] }, { State.reset with fab := { ports := [(0, .up)] } }, 0, { dst := 0#16, src := 0#16, type := 0#8, ver := 0#8, tc := 0#2, hops := 0#6, seq := 0#32, len := 0#16, ends := 0, csum := 0#16, crc := 0#32, resv := [] }, .gv, [0, 0, 0, 0], by decide⟩,
    ⟨0, { dst := 0#16, src := 0#16, type := 0#8, ver := 0#8, tc := 0#2, hops := 0#6, seq := 0#32, len := 0#16, ends := 0, csum := 0#16, crc := 0#32, resv := [] }, [], State.reset, 0, { dst := 0#16, src := 0#16, type := 0#8, ver := 0#8, tc := 0#2, hops := 0#6, seq := 0#32, len := 0#16, ends := 0, csum := 0#16, crc := 0#32, resv := [] }, .bulk, [], by decide⟩,
    ⟨0, { dst := 0#16, src := 0#16, type := 0#8, ver := 0#8, tc := 0#2, hops := 0#6, seq := 0#32, len := 0#16, ends := 0, csum := 0#16, crc := 0#32, resv := [] }, [], { State.reset with fab := { ports := [(0, .up)] } }, 0, { dst := 0#16, src := 0#16, type := 0#8, ver := 0#8, tc := 0#2, hops := 0#6, seq := 0#32, len := 0#16, ends := 0, csum := 0#16, crc := 0#32, resv := [] }, .bulk, [], by decide⟩,
    ⟨{ dst := 0#16, src := 0#16, type := 0#8, ver := 0#8, tc := 0#2, hops := 0#6, seq := 0#32, len := 0#16, ends := 0, csum := 0#16, crc := 0#32, resv := [] }, .supervision, [], 0#32, by decide⟩,
    ⟨{ State.reset with fab := { ports := [(0, .up)] } }, 0, by decide⟩,
    ⟨{ State.reset with fab := { ports := [(1, .up)] } }, 1, { dst := 0xfffe#16, src := 0#16, type := 0#8, ver := 1#8, tc := 0#2, hops := 0x10#6, seq := 0#32, len := 0#16, ends := 0, csum := 0#16, crc := 0#32, resv := [] }, { uid := 0#64, addr := 0#16, cost := 0, keeper := 0#64, roll := 0#32, ownMin := 0, ownMax := 0 }, 0, by decide⟩,
    ⟨{ State.reset with fab := { nbrs := [(0, (some { uid := 0#64, addr := 0#16, cost := 0 }))] } }, 0, by decide⟩,
    ⟨{ State.reset with fab := { ports := [(1, .up)], busy := [(1, 1)] } }, 1, by decide⟩,
    ⟨{ State.reset with fab := { ports := [(1, .up)], queues := [(4, [{ what := .stationLeave, bytes := [], own := false }, { what := .stationLeave, bytes := [], own := false }, { what := .stationLeave, bytes := [], own := false }, { what := .stationLeave, bytes := [], own := false }, { what := .stationLeave, bytes := [], own := false }, { what := .stationLeave, bytes := [], own := false }, { what := .stationLeave, bytes := [], own := false }, { what := .stationLeave, bytes := [], own := false }, { what := .stationLeave, bytes := [], own := false }, { what := .stationLeave, bytes := [], own := false }, { what := .stationLeave, bytes := [], own := false }, { what := .stationLeave, bytes := [], own := false }, { what := .stationLeave, bytes := [], own := false }, { what := .stationLeave, bytes := [], own := false }, { what := .stationLeave, bytes := [], own := false }, { what := .stationLeave, bytes := [], own := false }, { what := .stationLeave, bytes := [], own := false }, { what := .stationLeave, bytes := [], own := false }, { what := .stationLeave, bytes := [], own := false }, { what := .stationLeave, bytes := [], own := false }, { what := .stationLeave, bytes := [], own := false }, { what := .stationLeave, bytes := [], own := false }, { what := .stationLeave, bytes := [], own := false }, { what := .stationLeave, bytes := [], own := false }, { what := .stationLeave, bytes := [], own := false }, { what := .stationLeave, bytes := [], own := false }, { what := .stationLeave, bytes := [], own := false }, { what := .stationLeave, bytes := [], own := false }, { what := .stationLeave, bytes := [], own := false }, { what := .stationLeave, bytes := [], own := false }, { what := .stationLeave, bytes := [], own := false }, { what := .stationLeave, bytes := [], own := false }, { what := .stationLeave, bytes := [], own := false }, { what := .stationLeave, bytes := [], own := false }, { what := .stationLeave, bytes := [], own := false }, { what := .stationLeave, bytes := [], own := false }, { what := .stationLeave, bytes := [], own := false }, { what := .stationLeave, bytes := [], own := false }, { what := .stationLeave, bytes := [], own := false }, { what := .stationLeave, bytes := [], own := false }, { what := .stationLeave, bytes := [], own := false }, { what := .stationLeave, bytes := [], own := false }, { what := .stationLeave, bytes := [], own := false }, { what := .stationLeave, bytes := [], own := false }, { what := .stationLeave, bytes := [], own := false }, { what := .stationLeave, bytes := [], own := false }, { what := .stationLeave, bytes := [], own := false }, { what := .stationLeave, bytes := [], own := false }, { what := .stationLeave, bytes := [], own := false }, { what := .stationLeave, bytes := [], own := false }, { what := .stationLeave, bytes := [], own := false }, { what := .stationLeave, bytes := [], own := false }, { what := .stationLeave, bytes := [], own := false }, { what := .stationLeave, bytes := [], own := false }, { what := .stationLeave, bytes := [], own := false }, { what := .stationLeave, bytes := [], own := false }, { what := .stationLeave, bytes := [], own := false }, { what := .stationLeave, bytes := [], own := false }, { what := .stationLeave, bytes := [], own := false }, { what := .stationLeave, bytes := [], own := false }, { what := .stationLeave, bytes := [], own := false }, { what := .stationLeave, bytes := [], own := false }, { what := .stationLeave, bytes := [], own := false }, { what := .stationLeave, bytes := [], own := false }])] } }, 1, by decide⟩,
    ⟨{ State.reset with fab := { isKeeper := true } }, by decide⟩,
    ⟨{ State.reset with fab := { isKeeper := true, book := [(0#64, 0#16)], ports := [(0, .up)] } }, 0, { dst := 0xfffe#16, src := 0#16, type := 0#8, ver := 1#8, tc := 0#2, hops := 2#6, seq := 0#32, len := 0#16, ends := 0, csum := 0#16, crc := 0#32, resv := [] }, 0#64, 0#16, 0, 0, 0, 0#16, by decide⟩,
    ⟨{ State.reset with fab := { isKeeper := true, ports := [(1, .up)] } }, 1, { dst := 0xfffe#16, src := 0#16, type := 0#8, ver := 1#8, tc := 0#2, hops := 0x20#6, seq := 0#32, len := 0#16, ends := 0, csum := 0#16, crc := 0#32, resv := [] }, 0#64, 0x80#16, 0, 0, 0, by decide⟩,
    ⟨{ State.reset with fab := { addr := 4#16, keeper := 0x4d#64, book := [(0x4d#64, 6#16)], ports := [(0, .up)], routes := [(6, (some { port := 0, next := 0, hops := 0, cost := 0 }))] } }, 0, { dst := 0xfffe#16, src := 0#16, type := 0#8, ver := 1#8, tc := 0#2, hops := 2#6, seq := 0#32, len := 0#16, ends := 0, csum := 0#16, crc := 0#32, resv := [] }, 0#64, 0#16, 0, 0, 0, 6#16, 0, by decide⟩,
    ⟨{ State.reset with fab := { nbrs := [(0, (some { uid := 0#64, addr := 0#16, cost := 0 }))], ports := [(0, .up)] } }, 0, by decide⟩,
    ⟨{ State.reset with fab := { addr := 4#16 } }, by decide⟩,
    ⟨State.reset, by decide⟩,
    ⟨State.reset, .p2, by decide⟩,
    ⟨{ State.reset with fab := { addr := 4#16 } }, .p1, by decide⟩,
    ⟨{ State.reset with fab := { subs := [(0, (some { gvId := 0#16, srcs := [], handles := [(0, 0#32)], tmo := 0, subst := false }))], gvs := [(0, { armed := true })] } }, 0#9, { gvId := 0#16, srcs := [], handles := [(0, 0#32)], tmo := 0, subst := false }, (0, 0#32), by decide⟩,
    ⟨{ State.reset with fab := { addr := 4#16, ver := 2, ports := [(0, .up)], routes := [(9, (some { port := 0, next := 0, hops := 0, cost := 0 }))] } }, 0, { dst := 9#16, src := 0#16, type := 0#8, ver := 2#8, tc := 0#2, hops := 2#6, seq := 0#32, len := 0#16, ends := 0, csum := 0#16, crc := 0#32, resv := [] }, [], 0, by decide⟩,
    ⟨{ State.reset with fab := { addr := 4#16, ver := 2, ports := [(0, .up)] } }, 0, { dst := 2#16, src := 0#16, type := 0#8, ver := 2#8, tc := 0#2, hops := 2#6, seq := 0#32, len := 0#16, ends := 0, csum := 0#16, crc := 0#32, resv := [] }, [], by decide⟩,
    ⟨{ State.reset with fab := { addr := 5#16, ver := 2, ports := [(1, .up)] } }, 1, { dst := 5#16, src := 0#16, type := 0#8, ver := 2#8, tc := 0#2, hops := 2#6, seq := 0#32, len := 0#16, ends := 0, csum := 0#16, crc := 0#32, resv := [] }, [], by decide⟩⟩
end Sys2Proof.Tests
end

section
/-! PROOFS. What the frames sent to the partner change (R251, R271): the tail of what is sent stays, and of the state nothing but the link's own part. -/

namespace Sys2Proof.Proofs

open Sys2Proof Sys2Proof.Machine Sys2Proof.Laws

/-- `t` is `s` after frames that were sent. -/
def SendsOnly (s t : State) : Prop := ∃ q w, t = { s with sent := q ++ s.sent, wire := w }

/-- `t` is `s` after frames that were sent and a change of the link. -/
def LinkOnly (s t : State) : Prop := ∃ l q w, t = { s with link := l, sent := q ++ s.sent, wire := w }

theorem SendsOnly.refl (s : State) : SendsOnly s s := ⟨[], s.wire, rfl⟩

theorem SendsOnly.trans {s t u : State} : SendsOnly s t → SendsOnly t u → SendsOnly s u := by
  rintro ⟨q, w, rfl⟩ ⟨q', w', rfl⟩
  exact ⟨q' ++ q, w', by simp⟩

theorem SendsOnly.linkOnly {s t : State} : SendsOnly s t → LinkOnly s t := by
  rintro ⟨q, w, rfl⟩
  exact ⟨s.link, q, w, rfl⟩

theorem SendsOnly.link_eq {s t : State} : SendsOnly s t → t.link = s.link := by
  rintro ⟨q, w, rfl⟩; rfl

theorem LinkOnly.trans {s t u : State} : LinkOnly s t → LinkOnly t u → LinkOnly s u := by
  rintro ⟨l, q, w, rfl⟩ ⟨l', q', w', rfl⟩
  exact ⟨l', q' ++ q, w', by simp⟩

theorem linkOnly_setXfer (s : State) (x : Xfer) : LinkOnly s (s.setXfer x) := ⟨{ s.link with xfer := x }, [], s.wire, rfl⟩

/-- The fields that `LinkOnly` names are the only ones to differ. -/
theorem LinkOnly.frame {s t : State} : LinkOnly s t → t = { s with link := t.link, sent := t.sent, wire := t.wire } := by
  rintro ⟨l, q, w, rfl⟩; rfl

theorem LinkOnly.olc_eq {s t : State} : LinkOnly s t → t.olc = s.olc := by
  rintro ⟨l, q, w, rfl⟩; rfl

theorem LinkOnly.sent_length_le {s t : State} : LinkOnly s t → s.sent.length ≤ t.sent.length := by
  rintro ⟨l, q, w, rfl⟩; simp

@[simp] theorem setXfer_xfer (s : State) (x : Xfer) : (s.setXfer x).link.xfer = x := rfl
@[simp] theorem setXfer_pair (s : State) (x : Xfer) : (s.setXfer x).pair = s.pair := rfl
@[simp] theorem setXfer_olc (s : State) (x : Xfer) : (s.setXfer x).olc = s.olc := rfl
@[simp] theorem setXfer_isActive (s : State) (x : Xfer) : (s.setXfer x).isActive = s.isActive := rfl

/-- Frames sent leave what can be sent as it was. -/
theorem SendsOnly.linkMay_eq {s t : State} (h : SendsOnly s t) (w : Out) : t.linkMay w = s.linkMay w := by
  obtain ⟨q, v, rfl⟩ := h; rfl

theorem linkSend_of_may {s : State} {w : Out} (h : s.linkMay w = true) (args : List Nat) :
    ∃ v, s.linkSend w args = { s with sent := { what := w, args := args } :: s.sent, wire := v } := by
  unfold State.linkSend
  rw [if_pos h]
  exact ⟨_, rfl⟩

theorem linkSend_of_not {s : State} {w : Out} (h : s.linkMay w = false) (args : List Nat) : s.linkSend w args = s := by
  unfold State.linkSend
  rw [h]; rfl

theorem linkSend_sendsOnly (s : State) (w : Out) (args : List Nat) : SendsOnly s (s.linkSend w args) := by
  cases h : s.linkMay w
  · rw [linkSend_of_not h]; exact .refl s
  · obtain ⟨v, e⟩ := linkSend_of_may h args
    exact ⟨[_], v, e⟩

theorem ctrlSend_of_may {s : State} {w : Out} (h : s.linkMay w = true) (args : List Nat) :
    ∃ v, s.ctrlSend w args = { s with
      sent := { what := w, args := args ++ [s.link.xfer.kind.code, s.link.xfer.length] } :: s.sent, wire := v
      link := { s.link with xfer := { s.link.xfer with lastOp := xferOp w } } } := by
  obtain ⟨v, e⟩ := linkSend_of_may h (args ++ [s.link.xfer.kind.code, s.link.xfer.length])
  have hm := (linkSend_sendsOnly s w (args ++ [s.link.xfer.kind.code, s.link.xfer.length])).linkMay_eq w
  unfold State.ctrlSend
  dsimp only
  rw [hm, if_pos h, e]
  exact ⟨v, rfl⟩

theorem ctrlSend_of_not {s : State} {w : Out} (h : s.linkMay w = false) (args : List Nat) : s.ctrlSend w args = s := by
  unfold State.ctrlSend
  dsimp only
  rw [linkSend_of_not h, h]; rfl

/-- A control frame of the operation that the transfer already notes as its last is only sent. -/
theorem ctrlSend_sendsOnly {s : State} {w : Out} (ho : s.link.xfer.lastOp = xferOp w) (args : List Nat) : SendsOnly s (s.ctrlSend w args) := by
  cases h : s.linkMay w
  · rw [ctrlSend_of_not h]; exact .refl s
  · obtain ⟨v, e⟩ := ctrlSend_of_may h args
    rw [← ho] at e
    exact ⟨[_], v, e⟩

/-! ### The frames of a transfer -/

theorem sendOpen_sendsOnly (s : State) : SendsOnly (s.setXfer { s.link.xfer with lastOp := 1 }) s.sendOpen :=
  linkSend_sendsOnly _ _ _

theorem sendXferAck_sendsOnly (s : State) :
    SendsOnly (s.setXfer { s.link.xfer with acked := s.link.xfer.content.length }) s.sendXferAck :=
  linkSend_sendsOnly _ _ _

theorem sendStaged_sendsOnly (s : State) (d : BitVec 256) : SendsOnly (s.setXfer { s.link.xfer with lastOp := 3 }) (s.sendStaged d) :=
  ctrlSend_sendsOnly rfl _

theorem xferClose_sendsOnly (s : State) : SendsOnly (s.setXfer { s.link.xfer with lastOp := 2 }) s.xferClose :=
  ctrlSend_sendsOnly rfl _

/-- One step of `State.xferData`: a DATA frame of transfer `x` with the next piece, and the offset behind it. -/
def sendPiece (x : Xfer) (r : State × Nat) (b : List Byte) : State × Nat :=
  (r.1.linkSend .xferData (x.ident.toNat :: r.2 :: b.map BitVec.toNat), r.2 + b.length)

theorem foldl_sendPiece_sendsOnly (x : Xfer) (l : List (List Byte)) (r : State × Nat) : SendsOnly r.1 (l.foldl (sendPiece x) r).1 := by
  induction l generalizing r with
  | nil => exact .refl r.1
  | cons b l ih => exact (linkSend_sendsOnly _ _ _).trans (ih (sendPiece x r b))

theorem xferData_sendsOnly (s : State) (off : Nat) : SendsOnly s (s.xferData off) :=
  foldl_sendPiece_sendsOnly s.link.xfer _ (s, off)

end Sys2Proof.Proofs
end

section
/-! PROOFS. What a staged package, the end of a transfer and a discarded frame change (R76, R77, R196, R273, R275, R276). -/

namespace Sys2Proof.Proofs

open Sys2Proof Sys2Proof.Machine Sys2Proof.Laws

/-! ### Checks and writes of the region DMA engines (R194, R196) -/

/-- `t` is `s` after counters, interrupts and records of the journal. -/
def RecordsOnly (s t : State) : Prop := ∃ j g, t = { s with jrn := j, regs := g }

theorem RecordsOnly.refl (s : State) : RecordsOnly s s := ⟨s.jrn, s.regs, rfl⟩

theorem RecordsOnly.setReg {s t : State} (h : RecordsOnly s t) (p o : Nat) (v : Word) : RecordsOnly s (t.setReg p o v) := by
  obtain ⟨j, g, rfl⟩ := h; exact ⟨j, _, rfl⟩

theorem RecordsOnly.count {s t : State} (h : RecordsOnly s t) (p o : Nat) : RecordsOnly s (t.count p o) := h.setReg ..

theorem RecordsOnly.raise {s t : State} (h : RecordsOnly s t) (p b : Nat) : RecordsOnly s (t.raise p b) := h.setReg ..

theorem RecordsOnly.journal {s t : State} (h : RecordsOnly s t) (p code off : Nat) (v : Word) : RecordsOnly s (t.journal p code off v) := by
  obtain ⟨j, g, rfl⟩ := h; exact ⟨_, _, journal_frame ..⟩

theorem RecordsOnly.journalReg {s t : State} (h : RecordsOnly s t) (p code off : Nat) : RecordsOnly s (t.journalReg p code off) := h.journal ..

theorem RecordsOnly.ite {s t u : State} {c : Prop} [Decidable c] (ht : RecordsOnly s t) (hu : RecordsOnly s u) :
    RecordsOnly s (if c then t else u) := by
  split
  · exact ht
  · exact hu

theorem targetRefusal_recordsOnly (s : State) (t mid : Nat) (bank : Bool) (reason rule a : Nat) (pr : Priv) (o : AccOp) :
    RecordsOnly s (s.targetRefusal t mid bank reason rule a pr o) := by
  unfold State.targetRefusal
  extract_lets p dis counted lo hi located raised recorded compared
  have hcounted : RecordsOnly s counted := (RecordsOnly.refl s).count ..
  have hlocated : RecordsOnly s located := .ite hcounted (((hcounted.setReg ..).setReg ..).setReg ..)
  have hrecorded : RecordsOnly s recorded := ((hlocated.raise ..).raise ..).journalReg ..
  have hcompared : RecordsOnly s compared := .ite ((((hrecorded.count ..).raise ..).raise ..).count ..) hrecorded
  exact .ite ((((hcompared.count ..).raise ..).raise ..).count ..) hcompared

theorem targetRules_recordsOnly (s : State) (t mid : Nat) (pr : Priv) (o : AccOp) (a len : Nat) :
    RecordsOnly s (s.targetRules t mid pr o a len).1 := by
  unfold State.targetRules
  dsimp only
  split
  · exact targetRefusal_recordsOnly s t mid _ 1 0 a pr o
  · split
    · exact targetRefusal_recordsOnly s t mid _ 6 0 a pr o
    · split
      · exact .refl s
      · exact targetRefusal_recordsOnly s t mid _ _ _ a pr o

theorem targetCheck_recordsOnly (s : State) (mid : Nat) (pr : Priv) (o : AccOp) (a len : Nat) :
    RecordsOnly s (s.targetCheck mid pr o a len).1 := by
  unfold State.targetCheck
  split
  · exact .refl s
  · next t _ =>
    dsimp only
    split
    · exact targetRefusal_recordsOnly s t mid _ 7 0 a pr o
    · split
      · exact targetRefusal_recordsOnly s t mid _ 5 0 a pr o
      · exact targetRules_recordsOnly s ..

theorem masterDenial_recordsOnly (s : State) (p : Nat) (bank : Bool) (reason rule line a len : Nat) (pr : Priv) (o : AccOp) :
    RecordsOnly s (s.masterDenial p bank reason rule line a len pr o) := by
  unfold State.masterDenial
  extract_lets counted alo ahi info len dlo located raised
  have hcounted : RecordsOnly s counted := (RecordsOnly.refl s).count ..
  have hlocated : RecordsOnly s located :=
    .ite hcounted ((((((hcounted.setReg ..).setReg ..).setReg ..).setReg ..).setReg ..).setReg ..)
  exact (hlocated.raise ..).journalReg ..

theorem dmaAccess_recordsOnly (s : State) (g : Nat) (o : AccOp) (a len : Nat) : RecordsOnly s (s.dmaAccess g o a len).1 := by
  unfold State.dmaAccess
  dsimp only
  split
  · exact masterDenial_recordsOnly ..
  · exact targetCheck_recordsOnly ..

/-- Scattered bytes change the bytes that they name alone. -/
theorem byte_setCells_of_notMem {l : List (Nat × Byte)} {x : Nat} (h : ∀ c ∈ l, c.1 ≠ x) (s : State) : (s.setCells l).byte x = s.byte x := by
  induction l generalizing s with
  | nil => rfl
  | cons c l ih =>
    obtain ⟨hc, hl⟩ := List.forall_mem_cons.mp h
    rw [State.setCells, ih hl, byte_setByte, if_neg (Ne.symm hc)]

/-- What `t` is after bytes that DMA engines wrote into `s`. -/
def DmaOnly (s t : State) : Prop := ∃ m u j g, t = { s with mem := m, upsets := u, jrn := j, regs := g }

theorem DmaOnly.trans {s t u : State} : DmaOnly s t → DmaOnly t u → DmaOnly s u := by
  rintro ⟨m, v, j, g, rfl⟩ ⟨m', v', j', g', rfl⟩
  exact ⟨m', v', j', g', rfl⟩

/-- One step of `State.dmaPut`: the cells of line `n`, where the checks permit the line. -/
def dmaLine (l : List (Nat × Byte)) (s : State) (n : Nat) : State :=
  match s.dmaAccess (dmaOf (n * 64)) .write (n * 64) 64 with
  | (s, true) => s.putCells (l.filter (fun c => c.1 / 64 == n))
  | (s, false) => s

theorem dmaPut_eq_foldl (s : State) (l : List (Nat × Byte)) : s.dmaPut l = (l.map (fun c => c.1 / 64)).eraseDups.foldl (dmaLine l) s := rfl

/-- After the checks the line is written, or it is not. -/
theorem dmaLine_cases (l : List (Nat × Byte)) (s : State) (n : Nat) :
    ∃ t, RecordsOnly s t ∧ (dmaLine l s n = t ∨ dmaLine l s n = t.putCells (l.filter (fun c => c.1 / 64 == n))) := by
  have h := dmaAccess_recordsOnly s (dmaOf (n * 64)) .write (n * 64) 64
  unfold dmaLine
  split
  · next t e => rw [e] at h; exact ⟨t, h, .inr rfl⟩
  · next t e => rw [e] at h; exact ⟨t, h, .inl rfl⟩

theorem dmaLine_dmaOnly (l : List (Nat × Byte)) (s : State) (n : Nat) : DmaOnly s (dmaLine l s n) := by
  obtain ⟨t, ⟨j, g, rfl⟩, e | e⟩ := dmaLine_cases l s n
  · exact ⟨s.mem, s.upsets, j, g, e⟩
  · exact ⟨_, _, j, g, e.trans (setCells_frame _ _)⟩

theorem byte_dmaLine {l : List (Nat × Byte)} {x : Nat} (hx : ∀ c ∈ l, c.1 ≠ x) (s : State) (n : Nat) : (dmaLine l s n).byte x = s.byte x := by
  obtain ⟨t, ⟨j, g, rfl⟩, e | e⟩ := dmaLine_cases l s n
  · rw [e]; rfl
  · rw [e]; exact byte_setCells_of_notMem (fun c hc => hx c (List.mem_filter.mp hc).1) _

theorem dmaPut_dmaOnly (s : State) (l : List (Nat × Byte)) : DmaOnly s (s.dmaPut l) := by
  rw [dmaPut_eq_foldl]
  generalize (l.map (fun c => c.1 / 64)).eraseDups = ns
  induction ns generalizing s with
  | nil => exact ⟨s.mem, s.upsets, s.jrn, s.regs, rfl⟩
  | cons n ns ih => exact (dmaLine_dmaOnly l s n).trans (ih _)

theorem byte_dmaPut {l : List (Nat × Byte)} {x : Nat} (hx : ∀ c ∈ l, c.1 ≠ x) (s : State) : (s.dmaPut l).byte x = s.byte x := by
  rw [dmaPut_eq_foldl]
  generalize (l.map (fun c => c.1 / 64)).eraseDups = ns
  induction ns generalizing s with
  | nil => rfl
  | cons n ns ih => rw [List.foldl_cons, ih, byte_dmaLine hx]

/-! ### Staging a package (R76, R77, R205) -/

/-- Rule words that are staged change the shadow banks and registers alone. -/
theorem stageRules_changes (s : State) (l : List (Nat × Word)) : ∃ p g, s.stageRules l = { s with prot := p, regs := g } := by
  unfold State.stageRules
  induction l generalizing s with
  | nil => exact ⟨s.prot, s.regs, rfl⟩
  | cons r l ih =>
    have hone : ∃ p g, s.shadowWrite (r.1 / 256) (r.1 % 256) r.2 = { s with prot := p, regs := g } := by
      unfold State.shadowWrite
      split <;> exact ⟨_, _, rfl⟩
    obtain ⟨p, g, h1⟩ := hone
    obtain ⟨p', g', h2⟩ := ih (s.shadowWrite (r.1 / 256) (r.1 % 256) r.2)
    exact ⟨p', g', by rw [List.foldl_cons, h2, h1]⟩

/-- A staged package: memory, the shadow banks, registers and the journal change, and the change is STAGED. -/
theorem olcStage_changes (s : State) (p : OlcPkg) : ∃ m u j g r, s.olcStage p =
    { s with mem := m, upsets := u, jrn := j, regs := g, prot := r, olc := { stat := .staged, pkg := some p } } := by
  obtain ⟨m, u, j, g, h1⟩ := dmaPut_dmaOnly s (p.code.filter (fun c => !s.proj.uses c.1))
  obtain ⟨r, g', h2⟩ := stageRules_changes (s.dmaPut (p.code.filter (fun c => !s.proj.uses c.1))) p.rules
  exact ⟨m, u, j, g', r, by unfold State.olcStage; rw [h2, h1]⟩

/-- A package is staged outside the areas that the running program uses (R76). -/
theorem byte_olcStage {s : State} {x : Nat} (hx : s.proj.uses x = true) (p : OlcPkg) : (s.olcStage p).byte x = s.byte x := by
  have hc : ∀ c ∈ p.code.filter (fun c => !s.proj.uses c.1), c.1 ≠ x := by
    rintro c hc rfl
    simp [hx] at hc
  obtain ⟨r, g, h⟩ := stageRules_changes (s.dmaPut (p.code.filter (fun c => !s.proj.uses c.1))) p.rules
  calc (s.olcStage p).byte x = ((s.dmaPut (p.code.filter (fun c => !s.proj.uses c.1))).stageRules p.rules).byte x := rfl
    _ = (s.dmaPut (p.code.filter (fun c => !s.proj.uses c.1))).byte x := by rw [h]; rfl
    _ = s.byte x := byte_dmaPut hc s

/-! ### Ends of a transfer (R273, R275, R276) -/

/-- A transfer that is dropped takes the change of a package with it. -/
theorem xferDrop_changes (s : State) (o : OlcStat) : ∃ g, s.xferDrop o =
    { s with link := { s.link with xfer := { s.link.xfer with busy := false, failed := true, content := [] } }, regs := g
             olc := if s.link.xfer.kind = .package ∧ s.olc.stat.final = false then { stat := o } else s.olc } := by
  refine ⟨(s.raise Page.link 4).regs, ?_⟩
  unfold State.xferDrop
  dsimp only
  by_cases h : s.link.xfer.kind = .package ∧ s.olc.stat.final = false
  · rw [if_pos (c := s.link.xfer.kind = .package ∧ s.olc.stat.final = false) h]
    exact if_pos h
  · rw [if_neg h]
    exact if_neg h

/-- Entries that fall back to what they held change the output image alone. -/
theorem foldl_setOutEnt_changes (l : List Nat) (s : State) :
    ∃ i, l.foldl (fun s h => s.setOutEnt h (s.outEnt h).back) s = { s with outImg := i } := by
  induction l generalizing s with
  | nil => exact ⟨s.outImg, rfl⟩
  | cons h l ih =>
    obtain ⟨i, e⟩ := ih (s.setOutEnt h (s.outEnt h).back)
    exact ⟨i, e⟩

theorem imageAbandon_changes (s : State) : ∃ i d l, s.imageAbandon = { s with outImg := i, outDirty := d, imgLog := l } := by
  obtain ⟨i, e⟩ := foldl_setOutEnt_changes (s.outDirty.map Prod.fst) s
  exact ⟨i, _, _, by unfold State.imageAbandon; dsimp only; rw [e]⟩

/-- A proof that is given up, and with it the image written: neither pair nor link, neither change nor project differs. -/
theorem proofDiscard_keeps (s : State) :
    s.proofDiscard.pair = s.pair ∧ s.proofDiscard.link = s.link ∧ s.proofDiscard.olc = s.olc ∧ s.proofDiscard.proj = s.proj := by
  obtain ⟨i, d, l, e⟩ := imageAbandon_changes s
  unfold State.proofDiscard
  cases s.prx.cycles.isEmpty
  · simp only [Bool.not_false, if_true, e]
    exact ⟨rfl, rfl, rfl, rfl⟩
  · exact ⟨rfl, rfl, rfl, rfl⟩

/-- A resynchronisation that fails leaves transfer, change and project as they were, and is over. -/
theorem resyncFail_keeps (s : State) :
    s.resyncFail.link.xfer = s.link.xfer ∧ s.resyncFail.olc = s.olc ∧ s.resyncFail.proj = s.proj ∧ s.resyncFail.pair.resyncBusy = false := by
  obtain ⟨hpair, hlink, holc, hproj⟩ := proofDiscard_keeps s
  unfold State.resyncFail
  split
  · obtain ⟨j, g, e⟩ := ((RecordsOnly.refl { s.proofDiscard with
      pair := { s.proofDiscard.pair with resyncBusy := false }
      link := { s.proofDiscard.link with retry := s.proofDiscard.rbit Page.pair Reg.pair_PAIR_CFG 3 } }).raise Page.proof 5).journal
      Page.proof 0x0105 Reg.proof_PROOF_STAT (State.proofStat _)
    dsimp only
    rw [e, ← hlink]
    exact ⟨rfl, holc, hproj, rfl⟩
  · next h => exact ⟨rfl, rfl, rfl, by simpa using h⟩

/-- A transfer that is abandoned is over, and the project stays. -/
theorem xferAbandon_keeps (s : State) (o : OlcStat) : (s.xferAbandon o).link.xfer.busy = false ∧ (s.xferAbandon o).proj = s.proj := by
  unfold State.xferAbandon
  extract_lets x s1 s2
  have h2 : s2.link.xfer.busy = false ∧ s2.proj = s.proj := by
    obtain ⟨g, e⟩ := xferDrop_changes s1 o
    simp only [s2, e, s1]
    exact ⟨trivial, by split <;> rfl⟩
  split
  · next h => exact ⟨by simpa [x] using h, rfl⟩
  · split
    · exact h2
    · obtain ⟨hx, -, hp, -⟩ := resyncFail_keeps s2
      exact ⟨by rw [hx]; exact h2.1, by rw [hp]; exact h2.2⟩

/-- The sender of a package that abandons it ends the change that was staged with it (R77, R273). -/
theorem xferAbandon_of_sendingPackage {s : State} (hb : s.link.xfer.busy = true) (hs : s.link.xfer.sending = true)
    (hk : s.link.xfer.kind = .package) (hf : s.olc.stat.final = false) (o : OlcStat) :
    (s.xferAbandon o).link.xfer.busy = false ∧ (s.xferAbandon o).link.xfer.failed = true ∧ (s.xferAbandon o).olc = { stat := o } := by
  unfold State.xferAbandon
  simp only [hb, hs, Bool.not_true, Bool.false_eq_true, if_false, if_true]
  generalize hs1 : (if s.ptx.resync = .config ∨ s.ptx.resync = .project then s.resyncDrop else s) = s1
  have hlink : s1.link = s.link := by subst hs1; split <;> rfl
  have holc : s1.olc = s.olc := by subst hs1; split <;> rfl
  obtain ⟨g, e⟩ := xferDrop_changes s1 o
  rw [e, if_pos ⟨by rw [hlink, hk], by rw [holc, hf]⟩]
  exact ⟨rfl, rfl, rfl⟩

/-! ### A frame that is discarded (R252, R276) -/

/-- A record offered to the journal changes registers of the journal page alone. -/
theorem reg_offer {p : Nat} {o : Nat} (hp : ∀ r < 0x1000, p * 0x1000 + o ≠ Page.jrn * 0x1000 + r) (s : State) (r : JRec) :
    (s.offer r).reg p o = s.reg p o := by
  have hcount : ∀ (s : State) (r : Nat), r < 0x1000 → (s.count Page.jrn r).reg p o = s.reg p o := fun s r hr => by
    rw [reg_count, if_neg (hp r hr)]
  unfold State.offer
  extract_lets
  by_cases hclosed : s.jrn.closed = true
  · rw [if_pos hclosed]; rfl
  · rw [if_neg hclosed]
    by_cases hfull : s.jrn.full = true
    · rw [if_pos hfull]; exact hcount _ _ (by decide)
    · rw [if_neg hfull]
      split
      · exact hcount _ _ (by decide)
      · split
        · exact hcount _ _ (by decide)
        · rfl

/-- A frame beyond its destination changes registers and the journal alone. -/
theorem tooLong_frame (s : State) : s.tooLong = { s with regs := s.tooLong.regs, jrn := s.tooLong.jrn } :=
  journalReg_frame ((s.count Page.link Reg.link_LEN_ERR).raise Page.link 2) _ _ _

/-- A frame beyond its destination is counted in LEN_ERR. -/
theorem lenErr_tooLong (s : State) : s.tooLong.reg Page.link Reg.link_LEN_ERR = satInc (s.reg Page.link Reg.link_LEN_ERR) := by
  have hp : ∀ r < 0x1000, Page.link * 0x1000 + Reg.link_LEN_ERR ≠ Page.jrn * 0x1000 + r := by
    intro r hr
    simp only [Page.link, Page.jrn, Reg.link_LEN_ERR]
    omega
  have hraise : ∀ s : State, (s.raise Page.link 2).reg Page.link Reg.link_LEN_ERR = s.reg Page.link Reg.link_LEN_ERR := fun s => by
    rw [State.raise, reg_setReg, if_neg (by decide)]
  calc s.tooLong.reg Page.link Reg.link_LEN_ERR
      = ((s.count Page.link Reg.link_LEN_ERR).raise Page.link 2).reg Page.link Reg.link_LEN_ERR := reg_offer hp _ _
    _ = satInc (s.reg Page.link Reg.link_LEN_ERR) := by rw [hraise, reg_count, if_pos rfl]

end Sys2Proof.Proofs
end

section
/-! PROOFS. The receiver of a transfer (R10, R271, R274, R276). -/

namespace Sys2Proof.Proofs

open Sys2Proof Sys2Proof.Machine Sys2Proof.Laws

/-- A frame that passes the checks of R252 acts. -/
theorem rxChecked_of_passes {s : State} {w : Out} {i : Word} {a : List Nat} {tr : Trailer} (h : Passes s w i a tr) (f : State → State) :
    s.rxChecked w i a tr f = f s := by
  unfold State.rxChecked
  simp only [h.1, h.2, Bool.not_true, Bool.false_eq_true, if_false]

theorem exec_of_passes {c : Instr} {s : State} {w : Out} {i : Word} {a : List Nat} {tr : Trailer} {f : State → State}
    (hc : exec c s = .next (s.rxChecked w i a tr f)) (h : Passes s w i a tr) : exec c s = .next (f s) := by
  rw [hc, rxChecked_of_passes h]

/-- A command that is a frame gives what the frame's action gives, where the frame passes. -/
theorem gives_of_passes {c : Instr} {s : State} {w : Out} {i : Word} {a : List Nat} {tr : Trailer} {f : State → State} {P : State → Prop}
    (hc : exec c s = .next (s.rxChecked w i a tr f)) (h : Passes s w i a tr) (hp : P (f s)) : Gives c s P :=
  ⟨f s, exec_of_passes hc h, hp⟩

theorem receives_of_receiving {s : State} {i : Word} (h : Receiving s i) : s.link.xfer.receives i = true := by
  obtain ⟨hb, hs, hi⟩ := h
  simp [Xfer.receives, hb, hs, hi]

/-! ### OPEN (R10, R271, R274) -/

/-- The transfer that an OPEN begins on its receiver. -/
def openedXfer (ver : Nat) (i : Word) (k : XferKind) (len : Nat) (d : BitVec 256) : Xfer :=
  { ident := i, kind := k, ver := ver, busy := true, lastOp := 1, length := len, digest := d }

/-- An OPEN is not passed over while this module sends nothing. -/
theorem open_taken {x : Xfer} {k : XferKind} (hk : k ≠ .none) (hfree : x.busy = false ∨ x.sending = false) :
    ¬ (k = .none ∨ (x.busy = true ∧ x.sending = true)) := by
  rcases hfree with h | h <;> simp [hk, h]

theorem rxOpen_package {s : State} {len : Nat} (hfree : s.link.xfer.busy = false ∨ s.link.xfer.sending = false) (hlen : len ≤ 2 ^ 31)
    (ver : Nat) (i : Word) (d : BitVec 256) :
    s.rxOpen ver i .package len d = { s.setXfer (openedXfer ver i .package len d) with olc := { stat := .staging } } := by
  unfold State.rxOpen
  rw [if_neg (open_taken (by decide) hfree), if_neg (show ¬ s.xferRoom .package < len from Nat.not_lt.mpr hlen)]
  rfl

theorem rxOpen_config {s : State} {len : Nat} (hfree : s.link.xfer.busy = false ∨ s.link.xfer.sending = false) (hlen : len ≤ 0x800000)
    (ver : Nat) (i : Word) (d : BitVec 256) :
    s.rxOpen ver i .config len d =
      if Config.shake256 s.cfg.bytes = d then
        ((s.setXfer (openedXfer ver i .config len d)).sendStaged (Config.shake256 s.cfg.bytes)).xferDone
      else (s.setXfer (openedXfer ver i .config len d)).sendStaged (Config.shake256 s.cfg.bytes) := by
  unfold State.rxOpen
  rw [if_neg (open_taken (by decide) hfree), if_neg (show ¬ s.xferRoom .config < len from Nat.not_lt.mpr hlen)]
  rfl

/-- The reply STAGED, where it can be sent. -/
theorem sendStaged_of_may {s : State} (h : s.linkMay .xferStaged = true) (d : BitVec 256) : ∃ v, s.sendStaged d =
    { s.setXfer { s.link.xfer with lastOp := 3 } with
      sent := { what := .xferStaged, args := [s.link.xfer.ident.toNat, d.toNat, s.link.xfer.kind.code, s.link.xfer.length] } :: s.sent
      wire := v } :=
  ctrlSend_of_may (s := s.setXfer { s.link.xfer with lastOp := 3 }) h _

/-! ### DATA (R10, R271) -/

theorem rxData_of_joins {s : State} {i : Word} {b : List Byte} (h : Receiving s i)
    (hlen : s.link.xfer.content.length + b.length ≤ s.link.xfer.length) :
    LinkOnly s (s.rxData i s.link.xfer.content.length b) ∧
    (s.rxData i s.link.xfer.content.length b).link.xfer.content = s.link.xfer.content ++ b := by
  unfold State.rxData
  simp only [receives_of_receiving h, Bool.not_true, Bool.false_eq_true, if_false, Nat.not_lt.mpr hlen, Nat.lt_irrefl, Nat.sub_self,
    List.drop_zero]
  have hset := linkOnly_setXfer s { s.link.xfer with content := s.link.xfer.content ++ b }
  split
  · have hack := sendXferAck_sendsOnly (s.setXfer { s.link.xfer with content := s.link.xfer.content ++ b })
    exact ⟨(hset.trans (linkOnly_setXfer _ _)).trans hack.linkOnly, by rw [hack.link_eq]; rfl⟩
  · exact ⟨hset, rfl⟩

theorem rxData_of_beyond {s : State} {i : Word} {off : Nat} {b : List Byte} (h : Receiving s i) (hlen : s.link.xfer.length < off + b.length) :
    s.rxData i off b = s.tooLong := by
  unfold State.rxData
  simp only [receives_of_receiving h, Bool.not_true, Bool.false_eq_true, if_false, hlen, if_true]

/-! ### CLOSE (R271, R276) -/

/-- CLOSE of a package whose content is whole and has its digest stages it, after the reply. -/
theorem rxClose_of_package {s : State} {i : Word} (h : Receiving s i) (hk : s.link.xfer.kind = .package)
    (hlen : s.link.xfer.content.length = s.link.xfer.length) (hd : Config.shake256 s.link.xfer.content = s.link.xfer.digest) :
    ∃ t, SendsOnly (s.setXfer { s.link.xfer with acked := s.link.xfer.length, lastOp := 3 }) t ∧
      s.rxClose i = (t.olcStage (Config.pkgOf s.link.xfer.content)).xferDone := by
  have hsent := sendStaged_sendsOnly (s.setXfer { s.link.xfer with acked := s.link.xfer.length }) (Config.shake256 s.link.xfer.content)
  refine ⟨_, hsent, ?_⟩
  unfold State.rxClose
  dsimp only
  rw [if_pos (receives_of_receiving h), if_neg (by simp [hlen]), if_pos hd]
  unfold State.rxStore
  rw [hsent.link_eq]
  simp only [setXfer_xfer, hk]

theorem transferReceiver : TransferReceiver := by
  refine ⟨?package, ?config, ?data, ?close⟩
  case package =>
    intro s i len d tr hp hfree hlen
    refine gives_of_passes rfl hp ?_
    rw [rxOpen_package hfree hlen]
    exact ⟨rfl, ⟨rfl, rfl, rfl⟩, rfl, rfl, rfl⟩
  case config =>
    intro s i len d tr hp hfree hlen hmay
    refine gives_of_passes rfl hp ?_
    obtain ⟨v, e⟩ := sendStaged_of_may (s := s.setXfer (openedXfer tr.ver i .config len d)) hmay (Config.shake256 s.cfg.bytes)
    rw [rxOpen_config hfree hlen]
    by_cases hd : Config.shake256 s.cfg.bytes = d
    · rw [if_pos hd, e, decide_eq_true hd]
      exact ⟨rfl, rfl, rfl, rfl, rfl⟩
    · rw [if_neg hd, e, decide_eq_false hd]
      exact ⟨rfl, rfl, rfl, rfl, rfl⟩
  case data =>
    intro s i b tr hrx hp
    refine ⟨fun hlen => gives_of_passes rfl hp ?_, fun hlen => gives_of_passes rfl hp ?_⟩
    · obtain ⟨hframe, hcontent⟩ := rxData_of_joins hrx hlen
      exact ⟨hframe.frame, hcontent⟩
    · rw [rxData_of_beyond hrx hlen]
      exact ⟨tooLong_frame s, lenErr_tooLong s⟩
  case close =>
    intro s h tr hp hrx hk hlen hd
    refine gives_of_passes rfl hp ?_
    obtain ⟨t, ⟨q, v, ht⟩, e⟩ := rxClose_of_package hrx hk hlen hd
    have hbyte : ∀ x, s.proj.uses x = true → (s.rxClose h.ident).byte x = s.byte x := fun x hx =>
      calc (s.rxClose h.ident).byte x = (t.olcStage (Config.pkgOf s.link.xfer.content)).byte x := by rw [e]; rfl
        _ = t.byte x := byte_olcStage (by rw [ht]; exact hx) _
        _ = s.byte x := by rw [ht]; rfl
    obtain ⟨m, u, j, g, r, hstage⟩ := olcStage_changes t (Config.pkgOf s.link.xfer.content)
    rw [hstage, ht] at e
    rw [e] at hbyte ⊢
    exact ⟨rfl, rfl, rfl, rfl, rfl, hbyte⟩

end Sys2Proof.Proofs
end

section
/-! PROOFS. The sender of a transfer (R77, R79, R271, R273, R276). -/

namespace Sys2Proof.Proofs

open Sys2Proof Sys2Proof.Machine Sys2Proof.Laws

theorem sends_of_sending {s : State} {i : Word} (h : Sending s i) : s.link.xfer.sends i = true := by
  obtain ⟨hb, hs, hi⟩ := h
  simp [Xfer.sends, hb, hs, hi]

theorem rxXferAck_of_sending {s : State} {i : Word} {off : Nat} (h : Sending s i) (hoff : off ≤ s.link.xfer.length) :
    s.rxXferAck i off = s.setXfer { s.link.xfer with acked := max s.link.xfer.acked off } := by
  unfold State.rxXferAck
  dsimp only
  rw [if_pos (sends_of_sending h), Nat.min_eq_left hoff]

/-! ### STAGED received (R77, R272, R273) -/

/-- STAGED on the sender, by the digest that it holds and the last operation of the transfer. -/
theorem rxStaged_of_sending {s : State} {i : Word} (h : Sending s i) (d : BitVec 256) :
    s.rxStaged i d =
      let t := (s.setXfer { s.link.xfer with lastOp := 3 }).keepStaged s.link.xfer.kind d
      if d = s.link.xfer.digest then t.xferDone.xferNext
      else if s.link.xfer.lastOp = 1 then (t.xferData 0).xferClose
      else t.xferCancel (if s.link.xfer.kind = .package then .digestFail else .cancelled) := by
  unfold State.rxStaged
  simp only [sends_of_sending h, Bool.not_true, Bool.false_eq_true, if_false]

/-- A digest that is kept changes neither transfer nor change nor pair. -/
theorem keepStaged_keeps (s : State) (k : XferKind) (d : BitVec 256) :
    (s.keepStaged k d).link.xfer = s.link.xfer ∧ (s.keepStaged k d).olc = s.olc ∧ (s.keepStaged k d).pair = s.pair := by
  cases k <;> exact ⟨rfl, rfl, rfl⟩

/-- After the transfer of a package that is STAGING here too, the package is staged (R79). -/
theorem xferNext_of_package {s : State} {p : OlcPkg} (hk : s.link.xfer.kind = .package) (hst : s.olc.stat = .staging)
    (hp : s.olc.pkg = some p) : s.xferNext = s.olcStage p := by
  unfold State.xferNext
  simp only [hk, hp, hst, if_true]

/-- STAGED with the digest of a package that is STAGING here too stages it (R79). -/
theorem rxStaged_of_package {s : State} {i : Word} {p : OlcPkg} (h : Sending s i) (hk : s.link.xfer.kind = .package)
    (hst : s.olc.stat = .staging) (hp : s.olc.pkg = some p) :
    s.rxStaged i s.link.xfer.digest = (s.setXfer { s.link.xfer with lastOp := 3 }).xferDone.olcStage p := by
  rw [rxStaged_of_sending h, hk]
  dsimp only
  rw [if_pos rfl]
  exact xferNext_of_package (s := (s.setXfer { s.link.xfer with lastOp := 3 }).xferDone) hk hst hp

/-- A CANCEL that the sender of a package sends ends the change (R77, R273). -/
theorem xferCancel_of_sendingPackage {s : State} (hb : s.link.xfer.busy = true) (hs : s.link.xfer.sending = true)
    (hk : s.link.xfer.kind = .package) (hf : s.olc.stat.final = false) (o : OlcStat) :
    (s.xferCancel o).link.xfer.busy = false ∧ (s.xferCancel o).link.xfer.failed = true ∧ (s.xferCancel o).olc = { stat := o } := by
  have hsent : SendsOnly (s.setXfer { s.link.xfer with lastOp := 6 }) _ := ctrlSend_sendsOnly (w := .xferCancel) rfl [o.code]
  unfold State.xferCancel
  apply xferAbandon_of_sendingPackage
  · rw [hsent.link_eq]; exact hb
  · rw [hsent.link_eq]; exact hs
  · rw [hsent.link_eq]; exact hk
  · rw [hsent.linkOnly.olc_eq]; exact hf

/-! ### Frames that are repeated (R271) -/

/-- `t` is `s` after frames of its transfer, of which only the last operation is noted. -/
def Talks (s t : State) : Prop := ∃ n, SendsOnly (s.setXfer { s.link.xfer with lastOp := n }) t

theorem SendsOnly.setLastOp {s t : State} (h : SendsOnly s t) (n : Nat) :
    SendsOnly (s.setXfer { s.link.xfer with lastOp := n }) (t.setXfer { t.link.xfer with lastOp := n }) := by
  obtain ⟨q, w, rfl⟩ := h
  exact ⟨q, w, rfl⟩

theorem SendsOnly.talks {s t : State} (h : SendsOnly s t) : Talks s t := ⟨s.link.xfer.lastOp, h⟩

theorem Talks.trans {s t u : State} : Talks s t → Talks t u → Talks s u := by
  rintro ⟨n, h⟩ ⟨n', h'⟩
  exact ⟨n', (h.setLastOp n').trans h'⟩

theorem sendOpen_talks (s : State) : Talks s s.sendOpen := ⟨1, sendOpen_sendsOnly s⟩

theorem xferClose_talks (s : State) : Talks s s.xferClose := ⟨2, xferClose_sendsOnly s⟩

theorem Talks.linkOnly {s t : State} : Talks s t → LinkOnly s t := fun ⟨_, h⟩ => (linkOnly_setXfer s _).trans h.linkOnly

/-- The transfer goes on with its content and its acknowledged offset. -/
theorem Talks.xfer_keeps {s t : State} (h : Talks s t) : t.link.xfer.busy = s.link.xfer.busy ∧
    t.link.xfer.content = s.link.xfer.content ∧ t.link.xfer.acked = s.link.xfer.acked := by
  obtain ⟨n, h⟩ := h
  rw [h.link_eq]
  exact ⟨rfl, rfl, rfl⟩

theorem Talks.linkMay_eq {s t : State} (h : Talks s t) (w : Out) : t.linkMay w = s.linkMay w := by
  obtain ⟨n, h⟩ := h
  exact h.linkMay_eq w

theorem sent_lt_sendOpen {s : State} (h : s.linkMay .xferOpen = true) : s.sent.length < s.sendOpen.sent.length := by
  obtain ⟨v, e⟩ := linkSend_of_may (s := s.setXfer { s.link.xfer with lastOp := 1 }) h
    [s.link.xfer.ident.toNat, s.link.xfer.kind.code, s.link.xfer.length, s.link.xfer.digest.toNat]
  rw [State.sendOpen, e]
  exact Nat.lt_succ_self _

theorem sent_lt_xferClose {s : State} (h : s.linkMay .xferClose = true) : s.sent.length < s.xferClose.sent.length := by
  obtain ⟨v, e⟩ := ctrlSend_of_may (s := s.setXfer { s.link.xfer with lastOp := 2 }) h [s.link.xfer.ident.toNat]
  rw [State.xferClose, e]
  exact Nat.lt_succ_self _

/-- What a sender repeats: the OPEN, or the data and the CLOSE, after another OPEN where nothing of a package is acknowledged. -/
theorem xferAgain_cases (s : State) : s.xferAgain = s.sendOpen ∨ ∃ t, Talks s t ∧ s.xferAgain = t.xferClose := by
  unfold State.xferAgain
  dsimp only
  split
  · exact .inl rfl
  · refine .inr ⟨_, ?_, rfl⟩
    split
    · exact (sendOpen_talks s).trans (xferData_sendsOnly _ _).talks
    · exact (xferData_sendsOnly _ _).talks

theorem xferAgain_talks (s : State) : Talks s s.xferAgain := by
  obtain e | ⟨t, ht, e⟩ := xferAgain_cases s
  · rw [e]; exact sendOpen_talks s
  · rw [e]; exact ht.trans (xferClose_talks t)

theorem sent_lt_xferAgain {s : State} (h : s.linkMay .xferOpen = true) : s.sent.length < s.xferAgain.sent.length := by
  obtain e | ⟨t, ht, e⟩ := xferAgain_cases s
  · rw [e]; exact sent_lt_sendOpen h
  · have hmay : t.linkMay .xferClose = true := (ht.linkMay_eq .xferClose).trans h
    rw [e]
    exact Nat.lt_of_le_of_lt ht.linkOnly.sent_length_le (sent_lt_xferClose hmay)

theorem transferSender : TransferSender := by
  refine ⟨?ack, ?staged, ?differs, ?again⟩
  case ack =>
    intro s i off tr hp htx hoff
    refine gives_of_passes rfl hp ?_
    rw [rxXferAck_of_sending htx hoff]
    rfl
  case staged =>
    intro s h p tr hp htx hk hst hpkg
    refine gives_of_passes rfl hp ?_
    obtain ⟨m, u, j, g, r, e⟩ := olcStage_changes (s.setXfer { s.link.xfer with lastOp := 3 }).xferDone p
    rw [rxStaged_of_package htx hk hst hpkg, e]
    exact ⟨rfl, rfl, rfl, rfl⟩
  case differs =>
    intro s h d tr hp htx hd
    obtain ⟨hbusy, hsending, hident⟩ := htx
    obtain ⟨hxfer, holc, hpair⟩ := keepStaged_keeps (s.setXfer { s.link.xfer with lastOp := 3 }) s.link.xfer.kind d
    refine ⟨fun hop => gives_of_passes rfl hp ?_, fun hop hk hf => gives_of_passes rfl hp ?_⟩
    · rw [rxStaged_of_sending ⟨hbusy, hsending, hident⟩]
      dsimp only
      rw [if_neg hd, if_pos hop]
      generalize State.keepStaged _ _ _ = t at hxfer holc hpair
      have hsent := ((xferData_sendsOnly t 0).setLastOp 2).trans (xferClose_sendsOnly _)
      obtain ⟨q, v, e⟩ := hsent
      rw [e]
      simp only [setXfer_xfer, Sending, hxfer]
      exact ⟨⟨hbusy, hsending, hident⟩, trivial, holc, hpair⟩
    · rw [rxStaged_of_sending ⟨hbusy, hsending, hident⟩]
      dsimp only
      rw [if_neg hd, if_neg hop, if_pos hk]
      obtain ⟨hdone, hfailed, hend⟩ := xferCancel_of_sendingPackage (by rw [hxfer]; exact hbusy) (by rw [hxfer]; exact hsending)
        (by rw [hxfer]; exact hk) (by rw [holc]; exact hf) .digestFail
      rw [hend]
      exact ⟨hdone, hfailed, rfl, rfl⟩
  case again =>
    intro s hbusy hsending
    obtain ⟨hb, hc, ha⟩ := (xferAgain_talks s).xfer_keeps
    have hexec : exec .xferResend s = .next s.xferAgain := by
      show execXferResend s = _
      simp [execXferResend, hbusy, hsending]
    exact ⟨_, hexec, (xferAgain_talks s).linkOnly.frame, hb.trans hbusy, hc, ha, sent_lt_xferAgain⟩

end Sys2Proof.Proofs
end

section
/-! PROOFS. O47: control of an online change and of a resynchronisation (R79, R272 to R275), and the transfers as a whole. -/

namespace Sys2Proof.Proofs

open Sys2Proof Sys2Proof.Machine Sys2Proof.Laws

/-- ARM of a staged change on the standby: armed and confirmed, and CONFIRM is sent (R79, R272). -/
theorem rxArm_of_staged {s : State} (hrole : s.pair.role = .standbySync) (hst : s.olc.stat = .staged) (ks : Nat) :
    LinkOnly { s with olc := { s.olc with stat := .armed, ks := ks, confirmed := true } } (s.rxArm ks) := by
  unfold State.rxArm
  dsimp only
  rw [if_pos (by simp [hrole, hst])]
  exact (linkOnly_setXfer _ _).trans (ctrlSend_sendsOnly rfl _).linkOnly

/-- CONFIRM of the k_s of a staged change arms it; another one leaves it staged (R79, R272). -/
theorem rxConfirm_of_staged {s : State} {ks : Nat} (hst : s.olc.stat = .staged) (hks : ks ≠ 0) :
    s.rxConfirm ks = { s.setXfer { s.link.xfer with lastOp := 5 } with
      olc := if s.olc.ks = ks then { s.olc with stat := .armed, confirmed := true } else s.olc } := by
  unfold State.rxConfirm
  dsimp only
  by_cases h : s.olc.ks = ks
  · rw [if_pos (by simp [hst, hks, h]), if_pos h]
    rfl
  · rw [if_neg (by simp [h]), if_neg h]
    rfl

/-- Every state that a CANCEL names ends a change. -/
theorem final_olcOfCode (n : Nat) : (olcOfCode n).final = true := by
  unfold olcOfCode
  repeat' split
  all_goals rfl

theorem rxCancel_of_late {s : State} {i : Word} (hb : s.link.xfer.busy = true) (hi : s.link.xfer.ident ≠ i) (o : OlcStat) :
    s.rxCancel i o = s := by
  unfold State.rxCancel
  simp [hb, hi]

/-- CANCEL ends transfer, resynchronisation and change, and leaves the project (R273, R275). -/
theorem rxCancel_ends {s : State} {i : Word} (h : s.link.xfer.busy = false ∨ s.link.xfer.ident = i) {o : OlcStat} (ho : o.final = true) :
    (s.rxCancel i o).link.xfer.busy = false ∧ (s.rxCancel i o).pair.resyncBusy = false ∧ (s.rxCancel i o).proj = s.proj ∧
    (s.rxCancel i o).olc.stat.final = true := by
  have hif : ¬ (s.link.xfer.busy && s.link.xfer.ident != i) = true := by rcases h with h | h <;> simp [h]
  unfold State.rxCancel
  dsimp only
  rw [if_neg hif]
  obtain ⟨hbusy, hproj⟩ := xferAbandon_keeps (s.setXfer { s.link.xfer with lastOp := 6 }) o
  obtain ⟨hxfer, -, hproj', hresync⟩ := resyncFail_keeps ((s.setXfer { s.link.xfer with lastOp := 6 }).xferAbandon o)
  have hbusy' := (congrArg Xfer.busy hxfer).trans hbusy
  split
  · next hfin => exact ⟨hbusy', hresync, hproj'.trans hproj, hfin⟩
  · exact ⟨hbusy', hresync, hproj'.trans hproj, ho⟩

/-- RESYNC_REQ on an active module that is free: its configuration is offered (R274). -/
theorem rxResyncReq_of_free {s : State} (hact : s.isActive = true) (hsusp : s.pair.suspended = false) (hagr : s.pair.agreedOk = true)
    (hfree : s.link.xfer.busy = false) : ∃ t : State, t.ptx.resync = .config ∧ t.pair.syncPair = false ∧
      s.rxResyncReq = t.xferOpen .config s.cfg.bytes := by
  unfold State.rxResyncReq
  dsimp only
  rw [if_pos (by simp [hact, hsusp, hagr, hfree])]
  exact ⟨_, rfl, rfl, rfl⟩

/-- The transfer that a sender begins (R264, R271). -/
def offeredXfer (s : State) (k : XferKind) (content : List Byte) : Xfer :=
  { ident := nextXferId s.link.xfer.ident, kind := k, ver := s.linkVer, sending := true, busy := true, lastOp := 1
    length := content.length, digest := Config.shake256 content, content := content }

/-- A transfer that is opened changes the link alone, and it holds the content. -/
theorem xferOpen_opens (s : State) (k : XferKind) (content : List Byte) : LinkOnly s (s.xferOpen k content) ∧
    (s.xferOpen k content).link.xfer.busy = true ∧ (s.xferOpen k content).link.xfer.kind = k ∧
    (s.xferOpen k content).link.xfer.content = content := by
  have hsent : SendsOnly _ (s.xferOpen k content) := sendOpen_sendsOnly (s.setXfer (offeredXfer s k content))
  refine ⟨((linkOnly_setXfer s _).trans (linkOnly_setXfer _ _)).trans hsent.linkOnly, ?_⟩
  rw [hsent.link_eq]
  exact ⟨rfl, rfl, rfl⟩

/-- A resynchronisation that can be asked for is asked for (R274, R275). -/
theorem startResync_of_can {s : State} (h : s.canResync = true) : ∃ v, s.startResync = { s with
    pair := { s.pair with resyncBusy := true }, prx := { s.prx with expect := none }
    link := { s.link with retry := false, xfer := { s.link.xfer with lastOp := 7 } }
    sent := { what := .resyncReq, args := [s.link.xfer.kind.code, s.link.xfer.length] } :: s.sent, wire := v } := by
  have hmay : s.linkMay .resyncReq = true := by
    simp only [State.canResync, Bool.and_eq_true] at h
    simp only [State.linkMay, h, Bool.or_true, Bool.and_true]
  unfold State.startResync
  rw [if_pos h]
  exact ctrlSend_of_may (s := { s with
    pair := { s.pair with resyncBusy := true }, link := { s.link with retry := false }, prx := { s.prx with expect := none } }) hmay []

theorem transferControl : TransferControl := by
  refine ⟨?arm, ?confirm, ?cancel, ?request, ?retry⟩
  case arm =>
    intro s x tr hp hrole hst
    refine gives_of_passes rfl hp ?_
    obtain ⟨l, q, w, e⟩ := rxArm_of_staged hrole hst x.value
    rw [e]
    exact ⟨rfl, rfl, rfl, rfl⟩
  case confirm =>
    intro s x tr hp hst hks
    refine gives_of_passes rfl hp ?_
    rw [rxConfirm_of_staged hst hks]
    refine ⟨rfl, ?_⟩
    by_cases h : s.olc.ks = x.value
    · simp only [h, if_true]
    · simp only [h, if_false, hst]
  case cancel =>
    intro s x tr hp
    refine ⟨fun h => gives_of_passes rfl hp ?_, fun hb hi => ?_⟩
    · obtain ⟨hbusy, hresync, hproj, hfin⟩ := rxCancel_ends h (final_olcOfCode x.value)
      exact ⟨hbusy, hresync, hproj, fun _ => hfin⟩
    · exact (exec_of_passes rfl hp).trans (congrArg _ (rxCancel_of_late hb hi _))
  case request =>
    intro s x hp hact hsusp hagr hfree
    refine gives_of_passes rfl hp ?_
    obtain ⟨t, hresync, hsync, e⟩ := rxResyncReq_of_free hact hsusp hagr hfree
    obtain ⟨⟨l, q, w, hopen⟩, hxfer⟩ := xferOpen_opens t .config s.cfg.bytes
    rw [e]
    exact ⟨by rw [hopen]; exact hresync, by rw [hopen]; exact hsync, hxfer⟩
  case retry =>
    intro s hretry hcan
    obtain ⟨v, e⟩ := startResync_of_can hcan
    have hexec : exec .resyncRetry s = .next s.startResync := congrArg Host.Outcome.next (if_pos hretry)
    rw [e] at hexec
    exact ⟨_, hexec, rfl, rfl, rfl⟩

/-- Settles O47: the receiver, the sender and the control of a transfer, each from what one command does. -/
theorem transfers : Obligations.Transfers :=
  ⟨transferReceiver, transferSender, transferControl⟩

end Sys2Proof.Proofs
end
